-- ==== Sys2Proof/Word.lean ====
section
/-! DEFINITION. The widths the manual names, and the plain containers the state is written in. -/

namespace Sys2Proof

/-- A byte of any memory or message (R5). -/
abbrev Byte := BitVec 8
/-- A Strider general or helper register (R226, Table 8.1). -/
abbrev W40 := BitVec 40
/-- A 32-bit Strider address (R193, R226). -/
abbrev Addr := BitVec 32
/-- A blob or a message: bytes in wire order (R5). -/
abbrev Blob := List Byte
/-- A sparse table: keys strictly rising, one entry a key. -/
abbrev Tab (α : Type) := List (Nat × α)
/-- A byte memory: keys strictly rising, no entry holding what an unlisted address reads as. -/
abbrev Mem := List (Nat × Byte)

end Sys2Proof
end

