-- ==== Sys2Proof/Syntax.lean ====
section
/-! DEFINITION. The commands of the block: one constructor of Instr per row of the opcode table, and the operand types. -/

namespace Sys2Proof

/-- The four principals (R372, Table 13.1); an access by firmware names the core that executes it (R305). -/
inductive Principal where
  | host
  | tenant (t : Nat)
  | field
  | fw (core : Nat)
deriving DecidableEq, Repr

/-- Who executes an instruction: a Strider thread, numbered 128·squad + 8·Strider + thread (R192), or a Starter core (R351). -/
inductive CoreRef where
  | strider (tid : Nat)
  | starter (k : Nat)
deriving DecidableEq, Repr

/-- What the decoder of R229 to R232 made of the instruction's parcels: `ok` a defined encoding with every reserved
field zero; `illegal` an undefined encoding or a nonzero reserved field (R232); `privileged` opcodes 39h to 3Bh (R232);
`helper` an hcmd whose helper is 7 or whose code is undefined (R250). -/
inductive Enc where
  | ok | illegal | privileged | helper
deriving DecidableEq, Repr

/-- What a read finds in a word or sector (R219, R334, R416): no error, a corrected one, or one that the code only detects. -/
inductive Ecc where
  | clean | corrected | uncorrectable
deriving DecidableEq, Repr

/-- What every instruction carries: who issues it, whether it is the 16-bit form (R229), what its encoding is, what its fetch met
(R219), and what a Starter core meets in the exception frame that the instruction writes or reads (R359, R361). -/
structure Hdr where
  core : CoreRef
  short : Bool
  enc : Enc
  fetch : Ecc
  frame : Ecc
deriving DecidableEq, Repr

/-- The addressing modes of Table 8.9; a displacement stands sign-extended. -/
inductive AMode where
  | disp (an : BitVec 2) (d : Addr)
  | post (an : BitVec 2) (d : Addr)
  | index (an : BitVec 2) (wi : BitVec 5)
  | postIndex (an : BitVec 2) (wi : BitVec 5)
deriving DecidableEq, Repr

/-- The loop registers that mtl and mfl name (Table 8.15). -/
inductive LReg where
  | ls (lv : BitVec 2) | le (lv : BitVec 2) | lc (lv : BitVec 2)
deriving DecidableEq, Repr

/-- The register fields of an hcmd (R249): Hb, NOP, Hd and NR. -/
structure HArgs where
  hb : BitVec 4
  nop : BitVec 3
  hd : BitVec 4
  nr : BitVec 3
deriving DecidableEq, Repr

/-- What caused a device reset (Table 15.4); a write of 1010h names its principal. -/
inductive ResetCause where
  | powerOn | resetN | request (p : Principal) | jtag
deriving DecidableEq, Repr

/-- How an arriving frame ended at the port logic (R109, R115, R128): `fec` some flit lay in an uncorrectable codeword;
`abort r` an ABORT with reason r, or on Ethernet a PCS error, ended it; `cut` a START flit came before its declared end;
`over` it grew past the size limit (R127). -/
inductive EndKind where
  | whole | fec | abort (reason : Nat) | cut | over
deriving DecidableEq, Repr

/-- The capability of a neighbour, from EXCHANGE (Table 4.9): profile (0 fabric, 1 target), bib, device ID, width in
lanes, FEC request, and the initial credits of C2 to C7. -/
structure Capability where
  profile : Nat
  bib : Nat
  device : Nat
  width : Nat
  fec : Nat
  credits : List Nat
deriving DecidableEq, Repr

/-- The body of an ANNOUNCE (Table 4.7), times in units of 2⁻¹⁶ ns. -/
structure AnnounceBody where
  rank : Nat
  hops : Nat
  bib : Nat
  offset : Int
  lap : Nat
  lapStart : Nat
  lapLen : Nat
deriving DecidableEq, Repr

/-- The path a management message came by (Table 13.1): the mailbox of the PF (0) or of VF k, an in-band frame on a port and sub-port
with its parse tenant, or the field network. -/
inductive Path where
  | mailbox (function : Nat)
  | inband (port sub tenant : Nat)
  | fieldNet
deriving DecidableEq, Repr

/-- A table with a shadow (R188), in the audit's order: trie descriptors and entries, relay sets, mask sets and rules,
the parse graph and edits, the member store. -/
inductive ShadowTable where
  | trieDesc | trieEntry | slabTable | signalMap | moveList | maskSet | ruleEntry | parseGraph | edit | member
deriving DecidableEq, Repr

/-- The DRAM requestors of Table 11.2. -/
inductive DramLevel where
  | starter | snapshot (t : Nat) | trace (t : Nat) | host | upload | scrub
deriving DecidableEq, Repr

/-- What a PMBus transaction returned (R450). -/
inductive Pmb where
  | acked | failed
deriving DecidableEq, Repr

/-- A word of an on-die store that carries ECC (R416, Table 15.7): unit and word address. -/
structure SramWord where
  unit : Nat
  addr : Nat
deriving DecidableEq, Repr

/-- The commands: one constructor per row of spec/opcode_table.json, the instructions of the Striders and the Starter first, else in the table's
order. -/
inductive Instr where
  /-- MOV (R246): Copies one general register to another. -/
  | opMov (h : Hdr) (rd ra : BitVec 5)
  /-- ADD (R246): Adds two registers and sets the flags. -/
  | opAdd (h : Hdr) (rd ra rb : BitVec 5)
  /-- SUB (R246): Subtracts two registers and sets the flags. -/
  | opSub (h : Hdr) (rd ra rb : BitVec 5)
  /-- ADDC (R246): Adds two registers with carry. -/
  | opAddc (h : Hdr) (rd ra rb : BitVec 5)
  /-- SUBB (R246): Subtracts two registers with borrow. -/
  | opSubb (h : Hdr) (rd ra rb : BitVec 5)
  /-- AND (R246): Bitwise AND of two registers. -/
  | opAnd (h : Hdr) (rd ra rb : BitVec 5)
  /-- OR (R246): Bitwise OR of two registers. -/
  | opOr (h : Hdr) (rd ra rb : BitVec 5)
  /-- XOR (R246): Bitwise XOR of two registers. -/
  | opXor (h : Hdr) (rd ra rb : BitVec 5)
  /-- ANDN (R246): ANDs a register with the complement of another. -/
  | opAndn (h : Hdr) (rd ra rb : BitVec 5)
  /-- SHL (R246): Shifts left by a register amount. -/
  | opShl (h : Hdr) (rd ra rb : BitVec 5)
  /-- SHR (R246): Shifts right logically by a register amount. -/
  | opShr (h : Hdr) (rd ra rb : BitVec 5)
  /-- SAR (R246): Shifts right arithmetically by a register amount. -/
  | opSar (h : Hdr) (rd ra rb : BitVec 5)
  /-- ROL (R246): Rotates left by a register amount modulo 40. -/
  | opRol (h : Hdr) (rd ra rb : BitVec 5)
  /-- MUL (R246): Gives the low 40 bits of the unsigned 80-bit product. -/
  | opMul (h : Hdr) (rd ra rb : BitVec 5)
  /-- MULHU (R246): Gives the high 40 bits of the unsigned 80-bit product. -/
  | opMulhu (h : Hdr) (rd ra rb : BitVec 5)
  /-- MIN (R246): Signed minimum of two registers. -/
  | opMin (h : Hdr) (rd ra rb : BitVec 5)
  /-- MAX (R246): Signed maximum of two registers. -/
  | opMax (h : Hdr) (rd ra rb : BitVec 5)
  /-- MINU (R246): Unsigned minimum of two registers. -/
  | opMinu (h : Hdr) (rd ra rb : BitVec 5)
  /-- MAXU (R246): Unsigned maximum of two registers. -/
  | opMaxu (h : Hdr) (rd ra rb : BitVec 5)
  /-- POPC (R246): Counts the ones of a register. -/
  | opPopc (h : Hdr) (rd ra : BitVec 5)
  /-- CLZ (R246): Counts the leading zeros of a register. -/
  | opClz (h : Hdr) (rd ra : BitVec 5)
  /-- CMP (R246): Sets the flags from the difference of two registers. -/
  | opCmp (h : Hdr) (ra rb : BitVec 5)
  /-- FSH (R246): Funnel-shifts two registers by n. -/
  | opFsh (h : Hdr) (rd ra rb : BitVec 5) (n : BitVec 6)
  /-- MOVI (R246): Loads a sign-extended immediate. -/
  | opMovi (h : Hdr) (rd : BitVec 5) (imm : W40)
  /-- MOVU (R246): Sets bits [39:21] of a register from an immediate. -/
  | opMovu (h : Hdr) (rd : BitVec 5) (imm : BitVec 19)
  /-- ADDI (R246): Adds a sign-extended immediate. -/
  | opAddi (h : Hdr) (rd ra : BitVec 5) (imm : W40)
  /-- ANDI (R246): ANDs a zero-extended immediate. -/
  | opAndi (h : Hdr) (rd ra : BitVec 5) (imm : BitVec 14)
  /-- ORI (R246): ORs a zero-extended immediate. -/
  | opOri (h : Hdr) (rd ra : BitVec 5) (imm : BitVec 14)
  /-- XORI (R246): XORs a zero-extended immediate. -/
  | opXori (h : Hdr) (rd ra : BitVec 5) (imm : BitVec 14)
  /-- SHLI (R246): Shifts left by an immediate. -/
  | opShli (h : Hdr) (rd ra : BitVec 5) (n : BitVec 6)
  /-- SHRI (R246): Shifts right logically by an immediate. -/
  | opShri (h : Hdr) (rd ra : BitVec 5) (n : BitVec 6)
  /-- SARI (R246): Shifts right arithmetically by an immediate. -/
  | opSari (h : Hdr) (rd ra : BitVec 5) (n : BitVec 6)
  /-- ROLI (R246): Rotates left by an immediate. -/
  | opRoli (h : Hdr) (rd ra : BitVec 5) (n : BitVec 6)
  /-- CMPI (R246): Sets the flags from a register minus an immediate. -/
  | opCmpi (h : Hdr) (ra : BitVec 5) (imm : W40)
  /-- EXT (R246): Extracts a bit field, zero-extended. -/
  | opExt (h : Hdr) (rd ra : BitVec 5) (pos lenM1 : BitVec 6)
  /-- EXTS (R246): Extracts a bit field, sign-extended. -/
  | opExts (h : Hdr) (rd ra : BitVec 5) (pos lenM1 : BitVec 6)
  /-- DEP (R246): Deposits a bit field into a register. -/
  | opDep (h : Hdr) (rd ra : BitVec 5) (pos lenM1 : BitVec 6)
  /-- BEQ (R235): Branches, with a delay slot, if two registers are equal. -/
  | opBeq (h : Hdr) (ra rb : BitVec 5) (d : Addr)
  /-- BNE (R235): Branches if two registers differ. -/
  | opBne (h : Hdr) (ra rb : BitVec 5) (d : Addr)
  /-- BLT (R235): Branches if signed less than. -/
  | opBlt (h : Hdr) (ra rb : BitVec 5) (d : Addr)
  /-- BGE (R235): Branches if signed greater or equal. -/
  | opBge (h : Hdr) (ra rb : BitVec 5) (d : Addr)
  /-- BLTU (R235): Branches if unsigned less than. -/
  | opBltu (h : Hdr) (ra rb : BitVec 5) (d : Addr)
  /-- BGEU (R235): Branches if unsigned greater or equal. -/
  | opBgeu (h : Hdr) (ra rb : BitVec 5) (d : Addr)
  /-- BEQZ (R235): Branches if a register is zero. -/
  | opBeqz (h : Hdr) (ra : BitVec 5) (d : Addr)
  /-- BNEZ (R235): Branches if a register is nonzero. -/
  | opBnez (h : Hdr) (ra : BitVec 5) (d : Addr)
  /-- BBS (R235): Branches if a named bit is set. -/
  | opBbs (h : Hdr) (ra : BitVec 5) (bit : BitVec 6) (d : Addr)
  /-- BBC (R235): Branches if a named bit is clear. -/
  | opBbc (h : Hdr) (ra : BitVec 5) (bit : BitVec 6) (d : Addr)
  /-- BCC (R235): Branches if a condition of Table 8.13 holds. -/
  | opBcc (h : Hdr) (cond : BitVec 5) (d : Addr)
  /-- BR (R235): Branches unconditionally. -/
  | opBr (h : Hdr) (d : Addr)
  /-- CALL (R241): Pushes a return address and branches. -/
  | opCall (h : Hdr) (d : Addr)
  /-- JR (R235): Branches to a register address. -/
  | opJr (h : Hdr) (ra : BitVec 5)
  /-- CALLR (R241): Pushes a return address and branches to a register address. -/
  | opCallr (h : Hdr) (ra : BitVec 5)
  /-- RET (R241): Pops a return address and branches to it. -/
  | opRet (h : Hdr)
  /-- LD8 (R236): Loads 8 bits, zero-extended. -/
  | opLd8 (h : Hdr) (rd : BitVec 5) (m : AMode) (e : Ecc)
  /-- LD8S (R236): Loads 8 bits, sign-extended. -/
  | opLd8s (h : Hdr) (rd : BitVec 5) (m : AMode) (e : Ecc)
  /-- LD16 (R236): Loads 16 bits, zero-extended. -/
  | opLd16 (h : Hdr) (rd : BitVec 5) (m : AMode) (e : Ecc)
  /-- LD16S (R236): Loads 16 bits, sign-extended. -/
  | opLd16s (h : Hdr) (rd : BitVec 5) (m : AMode) (e : Ecc)
  /-- LD32 (R236): Loads 32 bits, zero-extended. -/
  | opLd32 (h : Hdr) (rd : BitVec 5) (m : AMode) (e : Ecc)
  /-- LD32S (R236): Loads 32 bits, sign-extended. -/
  | opLd32s (h : Hdr) (rd : BitVec 5) (m : AMode) (e : Ecc)
  /-- LD40 (R236): Loads 40 bits. -/
  | opLd40 (h : Hdr) (rd : BitVec 5) (m : AMode) (e : Ecc)
  /-- ST8 (R236): Stores 8 bits. -/
  | opSt8 (h : Hdr) (rs : BitVec 5) (m : AMode)
  /-- ST16 (R236): Stores 16 bits. -/
  | opSt16 (h : Hdr) (rs : BitVec 5) (m : AMode)
  /-- ST32 (R236): Stores 32 bits. -/
  | opSt32 (h : Hdr) (rs : BitVec 5) (m : AMode)
  /-- ST40 (R236): Stores 40 bits. -/
  | opSt40 (h : Hdr) (rs : BitVec 5) (m : AMode)
  /-- MOVA (R246): Writes an address register. -/
  | opMova (h : Hdr) (an : BitVec 2) (ra : BitVec 5)
  /-- MOVM (R246): Writes an M register. -/
  | opMovm (h : Hdr) (mn : BitVec 2) (ra : BitVec 5)
  /-- RDA (R246): Reads an address register. -/
  | opRda (h : Hdr) (rd : BitVec 5) (an : BitVec 2)
  /-- RDM (R246): Reads an M register. -/
  | opRdm (h : Hdr) (rd : BitVec 5) (mn : BitVec 2)
  /-- ADDA (R246): Adds to an address register without the ring rule. -/
  | opAdda (h : Hdr) (an : BitVec 2) (rb : BitVec 5)
  /-- MTL (R246): Writes a loop register. -/
  | opMtl (h : Hdr) (r : LReg) (ra : BitVec 5)
  /-- MFL (R246): Reads a loop register. -/
  | opMfl (h : Hdr) (rd : BitVec 5) (r : LReg)
  /-- LOOP (R239): Sets up a zero-overhead loop with a count from a register. -/
  | opLoop (h : Hdr) (lv : BitVec 2) (rs : BitVec 5) (last : BitVec 17)
  /-- LOOPI (R239): Sets up a zero-overhead loop with an immediate count. -/
  | opLoopi (h : Hdr) (lv : BitVec 2) (count : BitVec 10) (last : BitVec 12)
  /-- DAND (R248): Four-state AND per digit. -/
  | opDand (h : Hdr) (rd ra rb : BitVec 5)
  /-- DOR (R248): Four-state OR per digit. -/
  | opDor (h : Hdr) (rd ra rb : BitVec 5)
  /-- DXOR (R248): Four-state XOR per digit. -/
  | opDxor (h : Hdr) (rd ra rb : BitVec 5)
  /-- DNOT (R248): Four-state NOT per digit. -/
  | opDnot (h : Hdr) (rd ra : BitVec 5)
  /-- DRES (R248): Driver resolve per digit. -/
  | opDres (h : Hdr) (rd ra rb : BitVec 5)
  /-- XCNT (R248): Counts the X or Z digits of a register. -/
  | opXcnt (h : Hdr) (rd ra : BitVec 5)
  /-- DADJ (R248): Adjusts a bitwise result to its four-state value. -/
  | opDadj (h : Hdr) (rd ra rb : BitVec 5)
  /-- TEXT (R246): Extracts ten k into ten 0. -/
  | opText (h : Hdr) (rd ra : BitVec 5) (k : BitVec 2)
  /-- TINS (R246): Inserts ten 0 into ten k. -/
  | opTins (h : Hdr) (rd ra : BitVec 5) (k : BitVec 2)
  /-- TEXP (R246): Expands a two-state ten into digits. -/
  | opTexp (h : Hdr) (rd ra : BitVec 5) (k : BitVec 2)
  /-- TCMP (R248): Compresses ten digits into a two-state ten and sets X. -/
  | opTcmp (h : Hdr) (rd ra : BitVec 5) (k : BitVec 2)
  /-- MTH (R246): Moves a general register into a helper register. -/
  | opMth (h : Hdr) (hn : BitVec 4) (ra : BitVec 5)
  /-- MFH (R246): Moves a helper register into a general register, stalling long while it is pending. -/
  | opMfh (h : Hdr) (rd : BitVec 5) (hn : BitVec 4)
  /-- HWAIT (R246): Stalls long until the named helper registers are not pending. -/
  | opHwait (h : Hdr) (hb : BitVec 4) (n : BitVec 3)
  /-- YIELD (R200): Makes the thread READY behind the other READY threads of its priority. -/
  | opYield (h : Hdr)
  /-- SWAIT (R201): Waits until squad time reaches C, or faults STOPWATCH if C is too far ahead. -/
  | opSwait (h : Hdr) (ra : BitVec 5)
  /-- WFE (R202): Consumes the event latch or waits for it, and faults in a RUNNING squad. -/
  | opWfe (h : Hdr)
  /-- PRIO (R203): Sets the thread's priority, clamped to its dispatch priority. -/
  | opPrio (h : Hdr) (n : BitVec 2)
  /-- END (R205): Ends the run; the thread stays ENDING until its results return. -/
  | opEnd (h : Hdr)
  /-- RDTIME (R247): Reads NS[39:0] of squad time. -/
  | opRdtime (h : Hdr) (rd : BitVec 5)
  /-- NOP (R246): Does nothing. -/
  | opNop (h : Hdr)
  /-- RDCR (R228): Reads a control register. -/
  | opRdcr (h : Hdr) (rd n : BitVec 5)
  /-- WRCR (R228): Writes a control register. -/
  | opWrcr (h : Hdr) (n ra : BitVec 5)
  /-- RETT (R244): Returns from a link-stack trap to the reserved entry. -/
  | opRett (h : Hdr)
  /-- LSBOT (R244): Removes the oldest link-stack entry into a register. -/
  | opLsbot (h : Hdr) (rd : BitVec 5)
  /-- LSINS (R244): Inserts an entry as the oldest of the link stack. -/
  | opLsins (h : Hdr) (ra : BitVec 5)
  /-- LKP_TRIE (R169): Route trie lookup returning HIT, VALUE and PLEN. -/
  | opLkpTrie (h : Hdr) (x : HArgs) (e : Ecc)
  /-- LKP_LEARN_LOOKUP (R176): Learn-table lookup of a key. -/
  | opLkpLearnLookup (h : Hdr) (x : HArgs) (e : Ecc)
  /-- LKP_LEARN (R177): Submits a learn of a key, port and value to the learn unit. -/
  | opLkpLearn (h : Hdr) (x : HArgs) (e : Ecc)
  /-- LKP_GROUP (R184): Selects a load-balanced group member through the flowlet table. -/
  | opLkpGroup (h : Hdr) (x : HArgs)
  /-- LKP_FRAG_READ (R252): Reads the fragment entry's state and verdict. -/
  | opLkpFragRead (h : Hdr) (x : HArgs)
  /-- LKP_FRAG_WRITE (R252): Writes the fragment verdict from the first fragment's thread. -/
  | opLkpFragWrite (h : Hdr) (x : HArgs)
  /-- XCH_QUERY (R253): Returns the Exchanger's verdict on the thread's own card. -/
  | opXchQuery (h : Hdr) (x : HArgs)
  /-- XCH_STATE (R253): Returns the state of a tenant's input slab in a lap. -/
  | opXchState (h : Hdr) (x : HArgs)
  /-- BUF_ALLOC (R254): Allocates cells from a partition without waiting. -/
  | opBufAlloc (h : Hdr) (x : HArgs)
  /-- BUF_FREE (R254): Releases one reference to a baton. -/
  | opBufFree (h : Hdr) (x : HArgs)
  /-- BUF_REF (R254): Adds n references to a baton, or saturates. -/
  | opBufRef (h : Hdr) (x : HArgs)
  /-- BUF_READ (R254): Reads bytes of a chain into helper registers. -/
  | opBufRead (h : Hdr) (x : HArgs)
  /-- BUF_WRITE (R254): Writes bytes into a chain. -/
  | opBufWrite (h : Hdr) (x : HArgs)
  /-- ORD_RELEASE (R212): Posts the frame's release to one to six queues. -/
  | opOrdRelease (h : Hdr) (x : HArgs)
  /-- ORD_DROP (R212): Posts the frame's drop. -/
  | opOrdDrop (h : Hdr) (x : HArgs)
  /-- ORD_TOKEN (R214): Requests a token that returns when every earlier frame of the domain has been handed over. -/
  | opOrdToken (h : Hdr) (x : HArgs)
  /-- CRC_WIN (R256): Computes a CRC or checksum over window bytes. -/
  | opCrcWin (h : Hdr) (x : HArgs) (e : Ecc)
  /-- CRC_REG (R256): Computes a CRC or checksum over register bytes. -/
  | opCrcReg (h : Hdr) (x : HArgs)
  /-- ATM_LOCK (R257): Attempts a hardware lock without waiting. -/
  | opAtmLock (h : Hdr) (x : HArgs)
  /-- ATM_UNLOCK (R302): Releases a held hardware lock. -/
  | opAtmUnlock (h : Hdr) (x : HArgs)
  /-- ATM_ADD (R259): Atomically adds to an atomic word. -/
  | opAtmAdd (h : Hdr) (x : HArgs)
  /-- ATM_SWAP (R306): Atomically swaps an atomic word. -/
  | opAtmSwap (h : Hdr) (x : HArgs)
  /-- ATM_CAS (R306): Atomically compares and swaps an atomic word. -/
  | opAtmCas (h : Hdr) (x : HArgs)
  /-- SQD_LD (R258): Loads from the squad store. -/
  | opSqdLd (h : Hdr) (x : HArgs) (e : Ecc)
  /-- SQD_ST (R258): Stores to the squad store. -/
  | opSqdSt (h : Hdr) (x : HArgs) (e : Ecc)
  /-- SQD_ADD (R259): Atomically adds to a squad-store word. -/
  | opSqdAdd (h : Hdr) (x : HArgs) (e : Ecc)
  /-- SQD_CAS (R258): Atomically compares and swaps a squad-store word. -/
  | opSqdCas (h : Hdr) (x : HArgs) (e : Ecc)
  /-- RDPR (R356): Reads a privileged register. -/
  | opRdpr (h : Hdr) (rd n : BitVec 5)
  /-- WRPR (R356): Writes a privileged register. -/
  | opWrpr (h : Hdr) (n ra : BitVec 5)
  /-- WDKICK (R362): A write of PR8 restarts the core's watchdog. -/
  | opWdkick (h : Hdr) (ra : BitVec 5)
  /-- PEERRST (R363): A write of PR15 resets a named core that is in DNF. -/
  | opPeerrst (h : Hdr) (ra : BitVec 5)
  /-- RFE (R361): Returns from an exception by restoring the frame. -/
  | opRfe (h : Hdr)
  /-- WQTAKE (R365): Takes the oldest item of the highest-priority queue that holds an item and a token. -/
  | opWqtake (h : Hdr) (rd : BitVec 5)
  /-- WQDONE (R365): Completes a taken work item. -/
  | opWqdone (h : Hdr) (ra : BitVec 5)
  /-- TSTART (R367): Starts a test run on a thread of a squad in TEST. -/
  | opTstart (h : Hdr) (rd ra rb : BitVec 5)
  /-- CINV (R353): Invalidates L1 data lines of a range. -/
  | opCinv (h : Hdr) (ra rb : BitVec 5)
  /-- CWB (R353): Writes back dirty L1 data lines of a range. -/
  | opCwb (h : Hdr) (ra rb : BitVec 5)
  /-- ILOCK (R356): Locks or unlocks instruction cache lines. -/
  | opIlock (h : Hdr) (ra rb : BitVec 5)
  /-- SVC (R370): Supervisor call through vector 9, which also gives the extension module its reply, object and log services. -/
  | opSvc (h : Hdr) (n : BitVec 14)
  /-- REGISTER_WRITE (R388): Write of an object that has no row of its own: the checks of R388 are applied and the value is stored. -/
  | registerWrite (p : Principal) (o i ty : Nat) (b : Blob)
  /-- POWER_ON (R432): The supplies rise and the power-on reset clears everything and re-reads the fuses. -/
  | powerOn (bib grade : Nat) (dieIds : Blob)
  /-- RESET_N_EDGE (R453): A low pulse of at least 1.0 us on RESET_N causes a device reset, and the straps are sampled on the rising edge. -/
  | resetNEdge (lowNs : Nat) (straps : BitVec 8)
  /-- PLL_LOCK_TIMEOUT (R453): A time, Starter or table PLL has not locked within 1.0 ms, so the device stays in reset with SAFE_N low. -/
  | pllLockTimeout
  /-- DEVICE_RESET (R432): A device reset clears all on-die state, redraws the seed and returns gun time and the lists to R60. -/
  | deviceReset (c : ResetCause)
  /-- FIRMWARE_VERIFIED (R425): The ROM finishes reading a slot, checks its CRC and signature, and boots it or tries the other slot. -/
  | firmwareVerified (slot : Nat) (good : Bool) (dram : List Bool)
  /-- PERSIST_STORE (R409): Within 1.0 s of the first pending value, the persisted set is written to the older flash copy. -/
  | persistStore
  /-- TIME_TICK (R31): The gun time counter advances by 1.25 ns, corrected by the servo rate. -/
  | timeTick
  /-- LAP_BOUNDARY (R37): Gun time reaches the next lap boundary: the lap counter advances, swaps happen, first splits take effect and scheduled operations execute. -/
  | lapBoundary
  /-- SPLIT_BOUNDARY (R56): A split of the gate list takes effect and opens or closes classes. -/
  | splitBoundary (port : Nat)
  /-- MISSED_LAUNCH (R59): A C0 slab not started by the end of its tenant's last open interval is discarded and counted. -/
  | missedLaunch (q : Nat)
  /-- ANNOUNCE_TICK (R40): Every 1.0 us the device re-evaluates its Anchor choice and sends an announce on every awake fabric port. -/
  | announceTick
  /-- ANCHOR_TAKEOVER (R41): A device that has seen no better announce for 64 us becomes Anchor. -/
  | anchorTakeover
  /-- ANNOUNCE_AGEOUT (R41): The parent's announces have been absent for 8.0 us, so the follower enters holdover and chooses again. -/
  | announceAgeout
  /-- SYNC_TICK (R42): Every 1.0 us the initiating side of a link sends a SYNC of the two-way exchange. -/
  | syncTick (port : Nat)
  /-- OFF_THE_MARK_ENTRY (R53): The offset estimate exceeds 20 ns: C0 and C1 gates close, arriving slabs drop and attention 4 is raised. -/
  | offTheMarkEntry
  /-- PPS_EDGE (R47): A rising edge at 1PPS_IN is judged against whole seconds and is accepted for steering or rejected. -/
  | ppsEdge (fine : Nat)
  /-- PPS_TIMEOUT (R47): No 1PPS_IN edge has been accepted for 2.5 s, so the Anchor enters external holdover. -/
  | ppsTimeout
  /-- PTP_MESSAGE_RECEIVE (R46): The Anchor's PTP ordinary clock takes a PTP message on H0 or H1 in slave-only mode. -/
  | ptpMessageReceive
  /-- PPS_OUT_RISE (R49): At each whole second of gun time, 1PPS_OUT is driven high. -/
  | ppsOutRise
  /-- PPS_OUT_FALL (R49): 10 us after the whole second, 1PPS_OUT returns low. -/
  | ppsOutFall
  /-- GUN_TIME_STEP (R48): A write of 120Bh steps the Anchor's gun time, only while every tenant is IDLE. -/
  | gunTimeStep (p : Principal) (v : Nat)
  /-- ANCHOR_RANK (R41): A write of 1201h sets the rank, and 0 removes the device as Anchor candidate at once. -/
  | anchorRank (p : Principal) (v : Nat)
  /-- LAP_LENGTH_PENDING (R62): A write of 1302h stages a lap length, and is refused while a swap is scheduled. -/
  | lapLengthPending (p : Principal) (v : Nat)
  /-- SWAP_LAP (R61): A write of 1304h schedules, replaces or cancels a swap after checking the lead and the list sums. -/
  | swapLap (p : Principal) (v : Nat)
  /-- GATE_LIST_PENDING (R55): A write of 1305h validates and stages a gate list. -/
  | gateListPending (p : Principal) (i : Nat) (b : Blob)
  /-- RX_WINDOWS_PENDING (R63): A write of 130Fh validates and stages a receive-window list. -/
  | rxWindowsPending (p : Principal) (i : Nat) (b : Blob)
  /-- SLEEP_ENTRY (R67): A sleep run of at least 3.0 us begins: the SLEEP marker is sent and the transmit lanes enter sleep. -/
  | sleepEntry (port : Nat)
  /-- PRE_WAKE (R67): 2.0 us before a sleep run ends, the port requests wake from the starting-blocks limiter. -/
  | preWake (port : Nat)
  /-- WAKE_GRANT (R437): The limiter grants a pending wake once the summed slope leaves room, in need-time order. -/
  | wakeGrant
  /-- RAMP_END (R437): The ramp of a granted wake ends and its slope is removed from the active sum. -/
  | rampEnd
  /-- LANE_WAKE_COMPLETE (R67): 1.5 us after the grant, the lanes are awake and queued control flits may leave. -/
  | laneWakeComplete (port : Nat)
  /-- FRAME_ARRIVAL (R105): The first flit or byte of a frame crosses the pin and is timestamped, and the port logic begins to deliver the frame. -/
  | frameArrival (port sub : Nat) (b : Blob) (flits fine : Nat)
  /-- FRAME_END (R109): The last flit or byte of a frame reaches the port logic, which checks the CRC, FCS, header and size. -/
  | frameEnd (port sub : Nat) (k : EndKind)
  /-- CODEWORD_RECEIVE (R116): A Reed-Solomon codeword is received and corrected, or found uncorrectable or out of sequence with its flits discarded. -/
  | codewordReceive (port header errs : Nat)
  /-- LOSS_OF_SIGNAL (R116): A lane in use has lost signal for 1.0 us, so the link goes down. -/
  | lossOfSignal (port lane : Nat)
  /-- NO_VALID_UNIT_TIMEOUT (R116): 10.0 us pass without a valid unit outside an announced sleep, so the link goes down. -/
  | noValidUnitTimeout (port : Nat)
  /-- HOLD_TIME_EXPIRY (R121): After the hold time of 2006h, waiting C2 to C7 frames are dropped and the port is held down. -/
  | holdTimeExpiry (port cls : Nat)
  /-- SIGNAL_DETECT (R117): Signal appears on all lanes of at least one half, so the port moves from DOWN to TRAIN. -/
  | signalDetect (port : Nat) (lanes : BitVec 16)
  /-- TRAIN_TIMEOUT (R117): TRAIN has lasted 250 ms, so the port returns to DOWN. -/
  | trainTimeout (port : Nat)
  /-- TRAIN_COMPLETE (R117): Equalization finishes and the port moves to ALIGN. -/
  | trainComplete (port : Nat) (polarity : BitVec 16) (reversed : Bool)
  /-- ALIGN_COMPLETE (R117): Lanes are deskewed and FEC locks, so the port moves to EXCHANGE. -/
  | alignComplete (port : Nat) (failRx failTx : BitVec 16)
  /-- CAPABILITY_EXCHANGE (R119): The neighbour's capability is taken, and the port enters UP or ISOLATED. -/
  | capabilityExchange (port : Nat) (c : Capability)
  /-- PORT_ENABLE (R117): A write of 2000h holds the port DISABLED or releases it to DOWN. -/
  | portEnable (p : Principal) (i v : Nat)
  /-- EXPECTED_BIB (R119): A write of 2005h rejudges an ISOLATED port against the last capability and may move it to UP. -/
  | expectedBib (p : Principal) (i v : Nat)
  /-- CREDIT_INIT (R114): A write of 2105h sets an initial credit for the next training, checked against the reservation. -/
  | creditInit (p : Principal) (i v : Nat)
  /-- CONTROL_FLIT_SEND (R112): At a unit boundary, due control flits leave in the order of R112, at most two before a ready frame. -/
  | controlFlitSend (port : Nat)
  /-- CREDIT_TICK (R113): Within 64 ns of a change in freed, and at least every 1.0 us, the receiver sends a CREDIT. -/
  | creditTick (port : Nat)
  /-- IDLE (R106): An IDLE control flit is received and ignored. -/
  | idle (port : Nat) (flit : Blob)
  /-- CREDIT (R113): A CREDIT control flit updates the sender's LIMIT for C2 to C7. -/
  | credit (port : Nat) (flit : Blob)
  /-- ANNOUNCE (R40): An ANNOUNCE is received and the Anchor choice is evaluated again. -/
  | announce (port : Nat) (flit : Blob)
  /-- SYNC (R42): A SYNC is received, its pin time taken and a REPLY prepared; the child also steers from it. -/
  | sync (port : Nat) (flit : Blob) (fine : Nat)
  /-- REPLY (R42): A REPLY is received and the link delay is computed. -/
  | reply (port : Nat) (flit : Blob) (fine : Nat)
  /-- LAP_MARKER (R112): A LAP_MARKER for a lap is received on a virtual channel and separates laps for the snapshot cut. -/
  | lapMarker (port : Nat) (flit : Blob)
  /-- MISSED_SLAB (R99): A missed-slab notice is received, and a repair is queued from the retention copy or the notice is held or counted unrepairable. -/
  | missedSlab (port : Nat) (flit : Blob)
  /-- SLEEP (R68): A SLEEP control flit announces that no flits come until the given wake time. -/
  | sleep (port : Nat) (flit : Blob)
  /-- ABORT (R112): An ABORT ends the frame being received as stomped, or is discarded outside a frame. -/
  | abort (port : Nat) (flit : Blob)
  /-- LINK_RETRAIN_REQUEST (R117): A LINK flit with operation 1 takes the port from UP to DOWN to retrain. -/
  | linkRetrainRequest (port : Nat) (flit : Blob)
  /-- LINK_FALLBACK_REQUEST (R118): A LINK flit with operation 2 requests half-width fallback for the named failed lane. -/
  | linkFallbackRequest (port : Nat) (flit : Blob)
  /-- PFC_RECEIVE (R125): A PFC frame for priority q pauses every class mapped to q. -/
  | pfcReceive (port : Nat) (mask : BitVec 8) (durations : List Nat)
  /-- PAUSE_RECEIVE (R125): An 802.3x PAUSE pauses all priorities together. -/
  | pauseReceive (port duration : Nat)
  /-- PAUSE_EXPIRY (R125): A received pause expires and the paused classes may start again. -/
  | pauseExpiry (port prio : Nat)
  /-- PARSE_WALK (R140): The parse engine walks the frame's headers through the graph and judges lengths, depth and fragments. -/
  | parseWalk (fid : Nat) (e : Ecc)
  /-- CARD_WRITE (R135): Once the window is filled or the frame ended and the walk and rule lookup are done, the parse card is written. -/
  | cardWrite (fid : Nat)
  /-- FRAG_HOLD_EXPIRY (R153): A held fragment reaches HOLD_TIME and takes the tenant's FRAG_ACTION. -/
  | fragHoldExpiry (fid : Nat)
  /-- FRAG_ENTRY_EXPIRY (R151): A fragment entry is removed FRAG_LIFETIME after it was created. -/
  | fragEntryExpiry (n : Nat)
  /-- RUN_START (R198): The card's ready flag reaches the squad and the thread becomes READY in its start state. -/
  | runStart (tid : Nat) (e : Ecc)
  /-- DROP_CARD_RUN (R211): After 4 squad cycles, a thread holding a DROP card releases the frame as a drop. -/
  | dropCardRun (tid : Nat)
  /-- GRAPH_COMMIT (R139): A write of 1 to 3002h makes the pending parse graph operational in every engine. -/
  | graphCommit (p : Principal) (v : Nat)
  /-- PARSE_GRAPH_PENDING (R138): A write of 3001h validates and stages a parse graph. -/
  | parseGraphPending (p : Principal) (b : Blob)
  /-- START_TYPE (R139): A write of 3003h sets a start type, which takes effect like a graph commit. -/
  | startType (p : Principal) (i v : Nat)
  /-- OD_BLOCK (R148): A write of 3009h sets a tenant's order-domain block, only while the tenant is IDLE. -/
  | odBlock (p : Principal) (i v : Nat)
  /-- MASK_SET (R155): A write of 3100h configures a mask set. -/
  | maskSet (p : Principal) (i : Nat) (b : Blob)
  /-- RULE_BATCH (R157): A batch of rule inserts and deletes is validated whole and committed between two lookup passes. -/
  | ruleBatch (p : Principal) (b : Blob)
  /-- EDIT (R159): A write of 3104h validates and stores an edit entry. -/
  | edit (p : Principal) (i : Nat) (b : Blob)
  /-- HASH_TEST_SEED (R165): A write of 3250h replaces the device seed and zeroes the balance salt, under conditions. -/
  | hashTestSeed (p : Principal) (b : Blob)
  /-- BANK_MAP (R166): A write of 3201h assigns trie banks to stages while no trie is valid. -/
  | bankMap (p : Principal) (b : Blob)
  /-- TRIE_LOAD (R172): A load validates and builds a whole trie beside the old one. -/
  | trieLoad (p : Principal) (i : Nat) (b : Blob)
  /-- TRIE_BATCH (R172): A batch of prefix changes to one trie is validated and applied by copy-on-write. -/
  | trieBatch (p : Principal) (b : Blob)
  /-- TRIE_FLIP (R173): An accepted load or batch completes with one atomic flip of the root or of a parent entry, and the reply is sent. -/
  | trieFlip
  /-- NODE_FREE (R173): 64 table cycles after a flip, the replaced trie nodes are freed. -/
  | nodeFree
  /-- LEARN_STATIC (R181): A batch of static learn entries is validated and applied in record order, possibly PARTIAL. -/
  | learnStatic (p : Principal) (b : Blob)
  /-- LEARN_FLUSH (R181): A write of 3309h removes a tenant's dynamic entries, or all of its entries. -/
  | learnFlush (p : Principal) (i v : Nat)
  /-- AGEING_VISIT (R180): Once per ageing interval, the learn unit visits each bucket and the stash and ages or removes dynamic entries. -/
  | ageingVisit
  /-- GROUP (R183): A write of 3220h builds a new member list and flips the group atomically. -/
  | group (p : Principal) (i : Nat) (b : Blob)
  /-- RESEED_LAP (R186): A write of 3222h schedules a reseed for a future lap. -/
  | reseedLap (p : Principal) (v : Nat)
  /-- POLAR_WINDOW_END (R187): At the end of each monitor window, monitored groups are evaluated for polarization. -/
  | polarWindowEnd
  /-- AUDIT_COMPARE (R189): The audit engine compares a live entry with its shadow and rewrites it on a mismatch. -/
  | auditCompare (tbl : ShadowTable) (n : Nat) (e : Ecc) (differs poisoned : Bool)
  /-- TABLE_ENTRY_RESTORE (R189): An entry invalidated for an uncorrectable error is restored from its shadow within 10 us. -/
  | tableEntryRestore (tbl : ShadowTable) (n : Nat) (poisoned : Bool)
  /-- RELAY_SET_PENDING (R82): A write of 3801h validates and stages a tenant's relay set, or its release. -/
  | relaySetPending (p : Principal) (i : Nat) (b : Blob)
  /-- SHELL_ISSUE (R88): At shell time the Exchanger allocates a shell's cells, writes its header and submits it to the distributor. -/
  | shellIssue (t lap lane k : Nat)
  /-- BUILD_START (R90): An Exchanger unit takes the HEAD that became ready first and begins to build it. -/
  | buildStart (u : Nat)
  /-- BUILD_COMPLETE (R91): A build finishes with AGE and MISS set and every cell filled. -/
  | buildComplete (u : Nat)
  /-- STREAM_UNDERRUN (R93): A streaming slab reaches an unfilled cell and is stomped. -/
  | streamUnderrun (port : Nat)
  /-- EXCHANGE_DEADLINE (R97): At a window's exchange deadline, inputs still absent or arriving become lost. -/
  | exchangeDeadline (port win lap : Nat)
  /-- THREAD_FREE (R205): An ENDING thread becomes FREE once every result due to it has returned and has been discarded. -/
  | threadFree (tid : Nat)
  /-- HELPER_RESULT (R204): A helper result returns by tag, fills its registers and clears their scoreboard bits. -/
  | helperResult (core : CoreRef) (tag : Nat)
  /-- STOPWATCH_EXPIRY (R201): Squad time reaches C and the stopwatch-waiting thread becomes READY. -/
  | stopwatchExpiry (tid : Nat)
  /-- TOKEN_TIMEOUT (R214): A TOKEN result has not come after 4022h, so it returns with TIMEOUT set. -/
  | tokenTimeout (tid : Nat)
  /-- LOCAL_STORE_REWRITE (R219): A local-store word with an uncorrectable error is rewritten within 10 us. -/
  | localStoreRewrite (sq idx addr : Nat)
  /-- IMAGE_PENDING (R220): A write of 4101h validates and stages a Strider image. -/
  | imagePending (p : Principal) (i : Nat) (b : Blob)
  /-- IMAGE_COMMIT (R221): A write of 4102h starts the swap of the named squads' images, one squad at a time. -/
  | imageCommit (p : Principal) (v : Nat)
  /-- DRAIN_COMPLETE (R221): Every thread of a draining squad is FREE, so the swap writes the text and installs the entry table. -/
  | drainComplete (sq : Nat)
  /-- DRAIN_LIMIT_EXPIRY (R221): 4016h has passed while draining, so threads still running stop with cause DRAIN. -/
  | drainLimitExpiry (sq : Nat)
  /-- INIT_TIMEOUT (R221): An init entry has not ended within 10 ms, so the squad becomes LOAD_FAILED. -/
  | initTimeout (sq : Nat)
  /-- SQUAD_FREQ (R223): A write of 4002h starts a change of the squad's clock and voltage. -/
  | squadFreq (p : Principal) (i v : Nat)
  /-- SQUAD_FREQ_CHANGE_COMPLETE (R223): A squad clock change completes and 4003h reports the new clock. -/
  | squadFreqChangeComplete (sq : Nat)
  /-- SQUAD_MODE (R224): A write of 4000h gates, wakes or puts a squad in test. -/
  | squadMode (p : Principal) (i v : Nat)
  /-- SQUAD_WAKE_COMPLETE (R224): 5.0 us after its wake grant, a WAKING squad becomes RUNNING. -/
  | squadWakeComplete (sq : Nat)
  /-- SQUAD_EVENT (R202): A write of 1 to 4014h sets every event latch of the squad and wakes its wfe waiters. -/
  | squadEvent (p : Principal) (i v : Nat)
  /-- HANDOVER (R276): The ordering unit hands a released frame over in sequence, and its copies pass admission into queues. -/
  | handover (od : Nat)
  /-- EGRESS_SELECTION (R285): A sub-port that can start a frame selects among eligible queues by rank and finish tag. -/
  | egressSelection (port sub : Nat)
  /-- FRAME_LAUNCH (R105): A selected frame's first flit leaves at its gun time under R58 and, for a shell, R93. -/
  | frameLaunch (port sub : Nat)
  /-- FRAME_TRANSMIT_END (R278): The last flit or byte of a copy leaves the pin and the copy's reference is released. -/
  | frameTransmitEnd (port sub : Nat) (e : Ecc)
  /-- OPEN_HALF_EXPIRY (R263): An open half cell untaken for 1.0 us releases its reference. -/
  | openHalfExpiry (part grp : Nat)
  /-- PACER_REFILL (R289): Every interval T, each pacer takes pending writes and refills its tokens. -/
  | pacerRefill
  /-- PARTITION_SIZES (R264): A write of 5000h resizes the partitions and moves free cells. -/
  | partitionSizes (p : Principal) (b : Blob)
  /-- QUEUE_DESC (R273): A write of 5100h sets a queue descriptor after its checks. -/
  | queueDesc (p : Principal) (i : Nat) (b : Blob)
  /-- QUEUE_BLOCK (R274): A write of 5101h moves a tenant's queue block and rewrites the owners. -/
  | queueBlock (p : Principal) (i v : Nat)
  /-- QUEUE_RING (R279): A write of 5103h configures a DMA ring. -/
  | queueRing (p : Principal) (i : Nat) (b : Blob)
  /-- QUEUE_PACER (R289): A write of 5200h sets a queue pacer, taken at its next refill. -/
  | queuePacer (p : Principal) (i : Nat) (b : Blob)
  /-- TENANT_PACER (R288): A write of 5201h sets a tenant pacer, checking guarantees. -/
  | tenantPacer (p : Principal) (i : Nat) (b : Blob)
  /-- MARSHAL (R282): A write of 5210h configures a marshal and fills its buckets. -/
  | marshal (p : Principal) (i : Nat) (b : Blob)
  /-- HOST_RESERVE (R272): A write of 500Ah sets a host port's reservation under admission control. -/
  | hostReserve (p : Principal) (i v : Nat)
  /-- DOORBELL_WRITE (R281): A doorbell write posts a ring's TAIL and ARM. -/
  | doorbellWrite (function off : Nat) (v : BitVec 64) (descs : List Blob)
  /-- TX_DESCRIPTOR_FETCH (R281): The device reads transmit descriptors, joins their buffers and submits the frame, or completes it with ERROR. -/
  | txDescriptorFetch (q : Nat) (reads : List (Blob × Bool))
  /-- RX_DMA_DELIVERY (R281): A frame released to a receive ring is written into posted buffers and its descriptors completed. -/
  | rxDmaDelivery (q : Nat)
  /-- MSIX_MODERATION_EXPIRY (R281): MODERATION ns after the first completion following ARM, the ring's vector is raised once. -/
  | msixModerationExpiry (q : Nat)
  /-- BAR2_ACCESS (R330): A PF BAR2 access reads or writes device DRAM, or is refused outside the host range. -/
  | bar2Access (off len : Nat) (wr : Option Blob)
  /-- PCIE_FLR (R298): An FLR of a function resets its host-side ring state and acts as a master reset. -/
  | pcieFlr (function : Nat)
  /-- PCIE_RESET (R300): A hot or fundamental reset of port P resets every function and the PF as a master. -/
  | pcieReset (fundamental : Bool)
  /-- LOCK_REGISTER_READ (R305): A host read of a lock register attempts the lock and returns the lock word. -/
  | lockRegisterRead (function l : Nat)
  /-- LOCK_REGISTER_WRITE (R305): A host write of a lock register unlocks the lock. -/
  | lockRegisterWrite (function l : Nat)
  /-- LOCK_ATTEMPT (R305): A write of 1 to 6200h attempts the lock for the principal's master. -/
  | lockAttempt (p : Principal) (l : Nat)
  /-- LOCK_UNLOCK (R305): A write of 0 to 6200h unlocks the lock for the principal's master. -/
  | lockUnlock (p : Principal) (l : Nat)
  /-- LOCK_CONFIG (R301): A write of 6201h sets a lock's owner and wait mode while it is free. -/
  | lockConfig (p : Principal) (i v : Nat)
  /-- ATOMIC_BLOCK (R306): A write of 6210h sets a tenant's atomic-word block. -/
  | atomicBlock (p : Principal) (i v : Nat)
  /-- GLOBAL_OP_START (R308): The Anchor accepts a START request and schedules it for a lap. -/
  | globalOpStart (p : Principal) (t flags lap : Nat)
  /-- GLOBAL_OP_HOLD (R308): The Anchor accepts a HOLD request. -/
  | globalOpHold (p : Principal) (t flags lap : Nat)
  /-- GLOBAL_OP_FREEZE (R308): The Anchor accepts a FREEZE request. -/
  | globalOpFreeze (p : Principal) (t flags lap : Nat)
  /-- GLOBAL_OP_SNAPSHOT (R308): The Anchor accepts a SNAPSHOT request. -/
  | globalOpSnapshot (p : Principal) (t flags lap : Nat)
  /-- GLOBAL_OP_RESET (R308): The Anchor accepts a RESET request. -/
  | globalOpReset (p : Principal) (t flags lap : Nat)
  /-- GLOBAL_OP_FAULT (R308): The Anchor accepts a FAULT request. -/
  | globalOpFault (p : Principal) (t flags lap : Nat)
  /-- WAVE_SCHEDULE (R309): A SCHEDULE wave enters the operation in the schedule and is forwarded, or is late and raises a halt. -/
  | waveSchedule (port : Nat) (flit : Blob)
  /-- TENANT_RESET_COMPLETE (R297): The reset's flushes and removals finish and the tenant becomes IDLE. -/
  | tenantResetComplete (t : Nat)
  /-- PHOTO_CAPTURE_COMPLETE (R322): Once inputs, markers, endpoint uploads and DRAM writes are done, the device joins the PHOTO_DONE wave. -/
  | photoCaptureComplete (t : Nat)
  /-- PHOTO_RESTORE (R323): A write of 6007h stages the restore of a Photo finish into cells. -/
  | photoRestore (p : Principal) (i v : Nat)
  /-- WAVE_JOIN (R313): A JOIN makes the port a child of the wave tree. -/
  | waveJoin (port : Nat) (flit : Blob)
  /-- WAVE_LEAVE (R313): A LEAVE removes the port as a child. -/
  | waveLeave (port : Nat) (flit : Blob)
  /-- WAVE_BARRIER (R316): A BARRIER wave reports readiness up or a release lap down. -/
  | waveBarrier (port : Nat) (flit : Blob)
  /-- WAVE_HALT (R317): A HALT is forwarded up once per number, or the Anchor chooses the halt lap and sends it down. -/
  | waveHalt (port : Nat) (flit : Blob)
  /-- WAVE_BROADCAST (R318): A BROADCAST travels to the Anchor and down, where its value is stored and passed to endpoints. -/
  | waveBroadcast (port : Nat) (flit : Blob)
  /-- WAVE_PHOTO_DONE (R322): A PHOTO_DONE wave combines up and, coming down, sets the snapshot status. -/
  | wavePhotoDone (port : Nat) (flit : Blob)
  /-- BARRIER_ARRIVE (R316): A write of 6110h records the host's arrival at barrier k. -/
  | barrierArrive (p : Principal) (i v : Nat)
  /-- BROADCAST_SEND (R318): A write of 6112h starts a broadcast, or returns BUSY. -/
  | broadcastSend (p : Principal) (i v : Nat)
  /-- HALT_REQUEST (R317): A write of 6114h raises a halt with cause 05h. -/
  | haltRequest (p : Principal) (i v : Nat)
  /-- FAULT_LOG_CLEAR (R325): A write of 1 to 6002h empties the tenant's fault log. -/
  | faultLogClear (p : Principal) (i v : Nat)
  /-- TRACE_EXTRACT (R342): For a completed or missing traced input, the trace engine writes SIGNALS records into the ring. -/
  | traceExtract (t lap slab : Nat)
  /-- MIRROR_WRITE (R345): At most once per 1.0 us, and after each TRIGGER, the ring's mirror is written. -/
  | mirrorWrite (t : Nat)
  /-- TRACE_RING (R347): A write of 7000h configures a trace ring and resets it. -/
  | traceRing (p : Principal) (i : Nat) (b : Blob)
  /-- TRACE_ARM (R346): A write of 1 to 7004h arms a trigger-mode ring. -/
  | traceArm (p : Principal) (i v : Nat)
  /-- TRACE_TRIGGER (R346): A write of 7005h fires the host trigger source for the current lap. -/
  | traceTrigger (p : Principal) (i v : Nat)
  /-- SNAP_AREA (R348): A write of 7020h sets the snapshot area and reservation. -/
  | snapArea (p : Principal) (i : Nat) (b : Blob)
  /-- SNAP_UPLOAD (R349): A write of 7011h uploads the slot that holds the named lap. -/
  | snapUpload (p : Principal) (i v : Nat)
  /-- UPLOAD_SUBMIT (R349): The upload engine reads records and submits them as a Starter frame. -/
  | uploadSubmit (t : Nat)
  /-- DRAM_READ (R334): A channel serves a read, correcting and writing back sectors or poisoning the block. -/
  | dramRead (r : DramLevel) (a len : Nat) (e : Ecc)
  /-- DRAM_WRITE (R331): A write enters the channel's write queue and is drained by the thresholds. -/
  | dramWrite (r : DramLevel) (a : Nat) (b : Blob)
  /-- REFRESH (R332): An all-bank refresh falls due at tREFI. -/
  | refresh (ch : Nat)
  /-- DIMM_TEMP_READ (R332): Every 10 ms the DIMM temperature is read and the refresh mode may change. -/
  | dimmTempRead (ch : Nat) (mC : Int)
  /-- SCRUB_READ (R335): The patrol scrubber reads a sector in otherwise unused cycles. -/
  | scrubRead (a : Nat) (e : Ecc)
  /-- SCRUB_PASS_END (R335): A scrub pass completes, and one that overran its period is counted. -/
  | scrubPassEnd (ch secs : Nat)
  /-- DRAM_SWEEP (R333): A write of 1 to 7106h starts a delay sweep of an offline channel. -/
  | dramSweep (p : Principal) (i v : Nat)
  /-- SWEEP_COMPLETE (R333): A sweep ends within 2 s and leaves its delays in 7107h. -/
  | sweepComplete (ch : Nat) (delays : Blob)
  /-- INTERRUPT_ENTRY (R358): A pending, enabled interrupt above IL is taken at an instruction boundary. -/
  | interruptEntry (k : Nat) (e : Ecc)
  /-- WATCHDOG_EXPIRY (R362): A core's watchdog expires without WDKICK. -/
  | watchdogExpiry (k : Nat)
  /-- HARDWARE_CORE_RESET (R363): 1.0 ms after DNF with no peer reset, the hardware resets the core, or the Starter domain if none runs. -/
  | hardwareCoreReset (k : Nat)
  /-- TIMER_COMPARE (R355): TCMP is reached and vector 25 becomes pending. -/
  | timerCompare (k : Nat)
  /-- WORK_QUEUE_REFILL (R364): A work queue's token bucket refills. -/
  | workQueueRefill (q : Nat)
  /-- EXT_MODULE (R369): A write of 8030h loads or unloads the extension module. -/
  | extModule (p : Principal) (b : Blob)
  /-- EXT_CALL (R370): A write of 8033h invokes the module's call entry. -/
  | extCall (p : Principal) (b : Blob)
  /-- EXT_TICK (R370): Once per PERIOD, the module's tick entry runs. -/
  | extTick
  /-- REQUEST (R386): A request message is taken whole: its sequence is judged, its operations execute and the reply is sent. -/
  | request (path : Path) (msg : Blob)
  /-- ASSEMBLY_TIMEOUT (R379): A blob assembly that receives no segment for 10 s is discarded. -/
  | assemblyTimeout (pi : Nat)
  /-- SESSION_IDLE_TIMEOUT (R393): A session idle for 9002h returns to basic level. -/
  | sessionIdleTimeout (pi : Nat)
  /-- SESSION_LEVEL (R393): A write of 9001h moves the session to expert or basic level. -/
  | sessionLevel (p : Principal) (v : Nat)
  /-- EXPERT_RIGHTS (R393): A write of 9021h sets expert rights, and sessions that lose them return to basic level. -/
  | expertRights (p : Principal) (v : Nat)
  /-- ATTENTION_LOG (R385): A read of 9011h returns the unread attention entries and marks them read. -/
  | attentionLog (p : Principal)
  /-- MAILBOX_DOORBELL (R395): A mailbox DOORBELL write snapshots REQUEST and sets STATE busy, or is discarded. -/
  | mailboxDoorbell (function len : Nat) (req : Blob)
  /-- FIELD_FRAME_RECEIVE (R398): A frame on the field network is received and checked for FCS, address and EtherType. -/
  | fieldFrameReceive (fcsOk : Bool) (b : Blob)
  /-- FIELD_COLLISION (R400): A collision reported by the PHY is counted and the frame is sent again. -/
  | fieldCollision
  /-- EPOCH_START (R402): An EPOCH_START makes the device take part in a new epoch. -/
  | epochStart (e window : Nat)
  /-- CALL_ROOM_QUERY (R402): A QUERY whose prefix matches schedules an ANSWER in a random slot. -/
  | callRoomQuery (e plen window pfx src : Nat)
  /-- ANSWER_SEND (R402): The chosen slot arrives and the ANSWER is sent. -/
  | answerSend
  /-- ANSWER_ABANDON (R402): An ANSWER not sent by the window's end plus 1 ms is abandoned and counted. -/
  | answerAbandon
  /-- ASSIGN (R402): An ASSIGN gives this bib a node ID, or withdraws an ID given to another bib. -/
  | assign (e node bib src : Nat)
  /-- EPOCH_END (R402): An EPOCH_END lists the found bibs, and a device missed twice withdraws its node ID. -/
  | epochEnd (e : Nat) (found : List (Nat × Nat))
  /-- ANSWER (R403): The master receives an ANSWER during a query's listen window. -/
  | answer (bib e node : Nat)
  /-- ASSIGNED (R403): The master receives ASSIGNED and adds the bib and node to the found set. -/
  | assigned (bib e node : Nat)
  /-- QUERY_LISTEN_END (R403): A query's listen window ends and the master assigns, splits or closes the branch. -/
  | queryListenEnd (noise : Bool)
  /-- CALL_ROOM_ROUND (R403): 9034h after the last round, the master starts a new epoch. -/
  | callRoomRound
  /-- DEVICE_ID (R413): A write of 1003h sets the fabric device ID while every tenant is IDLE. -/
  | deviceId (p : Principal) (v : Nat)
  /-- DEVICE_RESET_REQUEST (R434): A write of 1 to 1010h requests a device reset after any flash operation, with no reply. -/
  | deviceResetRequest (p : Principal)
  /-- STARTER_DOMAIN_RESET_REQUEST (R434): A write of 2 to 1010h resets the Starter domain. -/
  | starterDomainResetRequest (p : Principal)
  /-- STARTER_DOMAIN_RESET (R432): The Starter domain resets, rebuilds from its shadows and raises attention 2; a third within 1 s enters the safe state. -/
  | starterDomainReset
  /-- MANAGEMENT_DOMAIN_RESET_REQUEST (R434): A write of 3 to 1010h resets the management MAC and node ID. -/
  | managementDomainResetRequest (p : Principal)
  /-- SQUAD_RESET_REQUEST (R434): A write of 16 + s to 1010h resets a squad. -/
  | squadResetRequest (p : Principal) (sq : Nat)
  /-- PORT_RESET_REQUEST (R434): A write of 32 + p to 1010h resets a port, which retrains. -/
  | portResetRequest (p : Principal) (port : Nat)
  /-- JTAG_RZ_RESET (R470): The JTAG private instruction RZ_RESET causes a device reset. -/
  | jtagRzReset
  /-- ERROR_LOG_CLEAR (R417): A write of 1 to A001h empties the error log. -/
  | errorLogClear (p : Principal) (v : Nat)
  /-- CAL_BLOCK (R420): A write of B000h replaces the staged calibration block after its checks. -/
  | calBlock (p : Principal) (b : Blob)
  /-- CAL_SECTION_WRITE (R420): A write of B002h to B005h replaces a staged section and sets its VALID bit. -/
  | calSectionWrite (p : Principal) (o i : Nat) (b : Blob)
  /-- CAL_COMMIT (R420): A write of 1 to B006h commits the staged block to flash. -/
  | calCommit (p : Principal) (v : Nat)
  /-- CAL_DISCARD (R420): A write of 1 to B007h makes the staged block equal to the operational one. -/
  | calDiscard (p : Principal) (v : Nat)
  /-- PERSIST_ERASE (R411): A write of 1 to B012h erases both persisted copies at the next device reset. -/
  | persistErase (p : Principal) (v : Nat)
  /-- FW_IMAGE (R423): A firmware image written to a slot is checked, erased into the slot, written and read back. -/
  | fwImage (p : Principal) (i : Nat) (b : Blob) (signed : Bool)
  /-- DIE_TEMP_SAMPLE (R415): Every 1.0 ms the die sensors are read; warning raises attention 2 and trip enters the safe state. -/
  | dieTempSample (temps : List Int)
  /-- RAIL_TELEMETRY (R414): Every 10 ms each regulator named in 1107h is read over PMBus. -/
  | railTelemetry (readings : List (Nat × Nat × Nat))
  /-- AVS_RECOMPUTE (R448): Every 100 ms the VDD_CORE target is recomputed and written over PMBus. -/
  | avsRecompute (r : Pmb)
  /-- PMB_ALERT (R450): PMB_ALERT_N low makes the firmware read STATUS_WORD and raise attention for faults. -/
  | pmbAlert (faults : List Bool)
  /-- TCLK_IN_LOSS (R456): TCLK_IN is absent for 50 ns, so time runs on the backup PLL and the device goes off the mark. -/
  | tclkInLoss
  /-- TCLK_IN_RETURN (R456): TCLK_IN has been present for 1.0 ms, so the time domain returns to it. -/
  | tclkInReturn
  /-- SDS_REFCLK_LOSS (R456): Loss of a SerDes reference clock takes every port of its die out of UP. -/
  | sdsRefclkLoss (die : Nat)
  /-- SDS_REFCLK_RETURN (R456): The SerDes reference clock returns and the ports train again. -/
  | sdsRefclkReturn (die : Nat)
  /-- WAKE_RATE (R437): A write of 110Ch changes the limiter's rate from the next tick. -/
  | wakeRate (p : Principal) (v : Nat)
  /-- PATROL_READ (R439): The on-die patrol reads a word of a patrolled unit and acts on errors as a read would. -/
  | patrolRead (w : SramWord) (e : Ecc)
  /-- POWER_LOSS (R435): The supplies fall, abandoning any flash operation in progress and losing all on-die state. -/
  | powerLoss
  /-- FLASH_OPERATION_COMPLETE (R435): A flash erase or write finishes, raising vector 28 and letting a waiting device reset proceed or a commit or slot write reply. -/
  | flashOperationComplete (ok : Bool)
  /-- EPOCH_SEARCH_START (R403): 1 ms after sending EPOCH_START, the call-room master sends the first QUERY of the search. -/
  | epochSearchStart
  /-- ASSIGN_RESEND (R403): No ASSIGNED has come in reply to an ASSIGN, so the master sends it again, up to three times, or gives up the branch. -/
  | assignResend
  /-- TRACE_WRITE_TIMEOUT (R347): A trace record's DRAM write has not been served within 10 us, so the record is lost as cause 2. -/
  | traceWriteTimeout (t : Nat)
  /-- RESERVATION_REFILL (R340): Every 1.0 us each DRAM requestor's reservation token bucket is refilled. -/
  | reservationRefill
  /-- DL_ACTIVE_CHANGE (R132): The PCIe data link layer of port P becomes active or inactive, moving 2001h[16] between UP and DOWN. -/
  | dlActiveChange (active : Bool) (rate width : Nat)
  /-- AUTO_NEGOTIATION_COMPLETE (R123): Clause 73 auto-negotiation and PMD training complete on a host port, bringing its link up. -/
  | autoNegotiationComplete (port : Nat)
deriving DecidableEq, Repr

end Sys2Proof
end

