-- ==== Sys2Proof/Decode.lean ====
section
/-! DEFINITION. What a word of the opcode table spells: its rows give no bits, so no word spells a command. The decoder of the
Striders' and the Starter's instructions is Machine/Insn.lean. -/

namespace Sys2Proof

/-- The command that a word of `nbits` bits spells by spec/opcode_table.json. -/
def decodeTableWord (_nbits _w : Nat) : Option Instr := none

end Sys2Proof
end

