-- ==== Sys2Proof/Config.lean ====
section
/-! DEFINITION. What the manual leaves open: the free values. Nothing in Lean can evaluate one, so no statement can rest
on what one is. -/

namespace Sys2Proof

/-- The n-th free value: any natural number. A command that needs a value the manual leaves open (a random draw, a
measured quantity, a value it does not state) takes the next one; the counter stands in State. DESIGN CHOICE, log 2;
safe. -/
opaque Config.freeNat : Nat → Nat

/-- The n-th free signed value. DESIGN CHOICE, log 2; safe. -/
opaque Config.freeInt : Nat → Int

/-- The FIRMWARE_ID of a firmware image: the place of it in the image is not stated. DESIGN CHOICE, log 154; safe. -/
opaque Config.firmwareId : Blob → Nat

/-- The busy cycles per 1,000 of a Starter core (8001h) in a millisecond: the cycles of firmware are not stated. DESIGN CHOICE, log 154;
safe. -/
opaque Config.coreLoad : Nat → Nat → Nat

/-- The flash part of the board (B013h): its JEDEC ID and its size in bytes. DESIGN CHOICE, log 154; safe. -/
opaque Config.flashId : Nat

/-- The size of the flash part in bytes. DESIGN CHOICE, log 154; safe. -/
opaque Config.flashSize : Nat

/-- The highest erase count of any sector after so many stores, commits and slot writes. DESIGN CHOICE, log 154; safe. -/
opaque Config.flashErases : Nat → Nat

/-- What the AVS target lies above 700 mV, from the fused part data (by the part's bib), the highest die temperature and the highest clock
in use (R448): the function is not stated. DESIGN CHOICE, log 158; safe. -/
opaque Config.avsAbove : Nat → Int → Nat → Nat

/-- The bank of a DRAM channel in which a channel offset lies: the manual gives no bank layout. DESIGN CHOICE, log 147; safe. -/
opaque Config.dramBank : Nat → Nat

/-- The row of its bank in which a channel offset lies. DESIGN CHOICE, log 147; safe. -/
opaque Config.dramRow : Nat → Nat

/-- The n-th free blob. DESIGN CHOICE, log 2; safe. -/
opaque Config.freeBytes : Nat → Blob

end Sys2Proof
end

