-- ==== Sys2Proof/Machine/Table.lean ====
section
/-! DEFINITION. The two containers of the state: sparse tables and byte memories, both kept sorted by key. Every write
keeps the canonical form, so that equal contents are equal data. -/

namespace Sys2Proof.Machine

/-- The entry of a key. -/
def tabGet? {α : Type} : Tab α → Nat → Option α
  | [], _ => none
  | (k, v) :: t, n => if n = k then some v else tabGet? t n

/-- The entry of a key, or what an unlisted key stands for. -/
def tabGet {α : Type} (t : Tab α) (n : Nat) (d : α) : α := (tabGet? t n).getD d

/-- Sets the entry of a key. -/
def tabSet {α : Type} : Tab α → Nat → α → Tab α
  | [], n, v => [(n, v)]
  | (k, w) :: t, n, v =>
    if n = k then (n, v) :: t else if n < k then (n, v) :: (k, w) :: t else (k, w) :: tabSet t n v

/-- Removes a key. -/
def tabDel {α : Type} (t : Tab α) (n : Nat) : Tab α := t.filter (fun e => e.1 != n)

/-- Sets an entry, and lists none that equals what an unlisted key stands for. -/
def tabPut {α : Type} [DecidableEq α] (t : Tab α) (n : Nat) (d v : α) : Tab α :=
  if v = d then tabDel t n else tabSet t n v

/-- Applies a change to the entry of a key, if it is listed. -/
def tabMod {α : Type} (t : Tab α) (n : Nat) (f : α → α) : Tab α :=
  match tabGet? t n with
  | some v => tabSet t n (f v)
  | none => t

/-- Applies a change to the entry of a key, or to the default. -/
def tabUpd {α : Type} (t : Tab α) (n : Nat) (d : α) (f : α → α) : Tab α := tabSet t n (f (tabGet t n d))

/-- Whether every key of a table lies above `n`. -/
def keysAbove {α : Type} (n : Nat) : Tab α → Bool
  | [] => true
  | (k, _) :: t => n < k && keysAbove n t

/-- The canonical form of a table: keys strictly rising. -/
def tabWf {α : Type} : Tab α → Bool
  | [] => true
  | (k, _) :: t => keysAbove k t && tabWf t

/-- One byte of a memory; an unlisted byte reads 0 (DESIGN CHOICE, log 3). -/
def memRead (m : Mem) (a : Nat) : Byte := tabGet m a 0

/-- Writes one byte of a memory. -/
def memWrite (m : Mem) (a : Nat) (b : Byte) : Mem := tabPut m a 0 b

/-- `n` bytes of a memory from an address on. -/
def memReadN (m : Mem) (a : Nat) : Nat → Blob
  | 0 => []
  | n + 1 => memRead m a :: memReadN m (a + 1) n

/-- Writes bytes of a memory from an address on. -/
def memWriteN (m : Mem) (a : Nat) : Blob → Mem
  | [] => m
  | b :: bs => memWriteN (memWrite m a b) (a + 1) bs

/-- The canonical form of a memory: a sorted table that lists no byte equal to what an unlisted one reads. -/
def memWf (m : Mem) : Bool := tabWf m && m.all (fun e => e.2 != 0)

/-- A big-endian number of bytes (R5). -/
def beNat (b : Blob) : Nat := b.foldl (fun n x => n * 256 + x.toNat) 0

/-- A number as `n` big-endian bytes (R5). -/
def beBytes : Nat → Nat → Blob
  | 0, _ => []
  | n + 1, v => BitVec.ofNat 8 (v / 256 ^ n) :: beBytes n v

/-- `n` bytes of a blob from byte `i` on, as a big-endian number. -/
def beAt (b : Blob) (i n : Nat) : Nat := beNat ((b.drop i).take n)

/-- Bits [hi:lo] of a number. -/
def bits (v hi lo : Nat) : Nat := v / 2 ^ lo % 2 ^ (hi + 1 - lo)

/-- Bit b of a number. -/
def bit (v b : Nat) : Bool := v.testBit b

/-- 1 or 0. -/
def nat01 (b : Bool) : Nat := if b then 1 else 0

/-- A two's-complement value of `w` bits. -/
def signed (w v : Nat) : Int := if v < 2 ^ (w - 1) then v else (v : Int) - 2 ^ w

/-- The two's-complement code of `w` bits of a value. -/
def unsigned (w : Nat) (v : Int) : Nat := (v % 2 ^ w).toNat

/-- A value saturated to `w` bits, signed. -/
def saturate (w : Nat) (v : Int) : Int := max (-(2 ^ (w - 1) : Int)) (min v (2 ^ (w - 1) - 1))

/-- A list with `v` in place `n`. -/
def listSet {α : Type} (l : List α) (n : Nat) (v : α) : List α := l.set n v

/-- A list of fields, each a width and a value, as one number, first field first. -/
def packFields (l : List (Nat × Nat)) : Nat := l.foldl (fun v (e : Nat × Nat) => v * 2 ^ e.1 + e.2 % 2 ^ e.1) 0

/-- Overwrites bytes of a blob from a position on. -/
def overwrite (w : Blob) (o : Nat) (x : Blob) : Blob := w.take o ++ x ++ w.drop (o + x.length)

/-- Puts a value into a list sorted by a measure, after its equals. -/
def insertBy {α : Type} (f : α → Nat) (x : α) : List α → List α
  | [] => [x]
  | y :: ys => if f x < f y then x :: y :: ys else y :: insertBy f x ys

/-- Sorts a list by a measure, keeping the order of equals. -/
def sortBy {α : Type} (f : α → Nat) (l : List α) : List α := l.foldl (fun a x => insertBy f x a) []

/-- The entry of a list with the least measure, the first of several. -/
def leastBy {α : Type} (f : α → Nat) : List α → Option α
  | [] => none
  | x :: xs => match leastBy f xs with
    | some y => if f x ≤ f y then some x else some y
    | none => some x

end Sys2Proof.Machine
end

