-- ==== Sys2Proof/Machine/Objects.lean ====
section
/-! DEFINITION. The object dictionary of R405: every object of the tables that Table 14.1 names, in ascending order, with its type,
access, level, instances, default and, for a number, the values its row allows and the bits its layout defines. -/

namespace Sys2Proof.Machine

/-- The types of Table 13.4 that objects have. -/
inductive OTy where
  | u8 | u16 | u32 | u40 | u64 | s32 | bool | enum | bits32 | time80 | str | blob
deriving DecidableEq, Repr

/-- The access kinds of R13. -/
inductive OAcc where
  | r | rw | w | rws | rc
deriving DecidableEq, Repr

/-- A row of an object table: number, type, access, expert level, first and last instance, default, least and greatest value, and
the bits that are not reserved. -/
structure ObjRow where
  code : Nat
  ty : OTy
  acc : OAcc
  expert : Bool
  lo : Nat
  hi : Nat
  dflt : Nat
  vlo : Nat
  vhi : Nat
  mask : Nat
deriving DecidableEq, Repr

/-- Bytes of a value of a type on the wire (Table 13.4); none for STR and BLOB. -/
def OTy.width : OTy → Option Nat
  | .u8 | .bool | .enum => some 1
  | .u16 => some 2
  | .u32 | .s32 | .bits32 => some 4
  | .u40 => some 5
  | .u64 => some 8
  | .time80 => some 10
  | .str | .blob => none

/-- The type codes of Table 13.4. -/
def OTy.code : OTy → Nat
  | .u8 => 1 | .u16 => 2 | .u32 => 3 | .u40 => 4 | .u64 => 5 | .s32 => 6 | .bool => 7 | .enum => 8
  | .bits32 => 9 | .time80 => 12 | .str => 13 | .blob => 14

/-! The numbers of the objects, under the manual's names. -/

abbrev Obj.BIB : Nat := 0x1000
abbrev Obj.GRADE : Nat := 0x1001
abbrev Obj.SILICON_REV : Nat := 0x1002
abbrev Obj.DEVICE_ID : Nat := 0x1003
abbrev Obj.VENDOR : Nat := 0x1004
abbrev Obj.PRODUCT : Nat := 0x1005
abbrev Obj.BOARD_LABEL : Nat := 0x1006
abbrev Obj.STRAPS : Nat := 0x1007
abbrev Obj.UPTIME : Nat := 0x1008
abbrev Obj.RESET_CAUSE : Nat := 0x1009
abbrev Obj.DIE_IDS : Nat := 0x100A
abbrev Obj.SQUAD_FREQ_MAX : Nat := 0x100B
abbrev Obj.RESET_REQUEST : Nat := 0x1010
abbrev Obj.DIE_TEMP : Nat := 0x1100
abbrev Obj.DIE_TEMP_MAX : Nat := 0x1101
abbrev Obj.TEMP_WARN : Nat := 0x1102
abbrev Obj.TEMP_TRIP : Nat := 0x1103
abbrev Obj.AVS_ENABLE : Nat := 0x1104
abbrev Obj.VDD_CORE_TARGET : Nat := 0x1105
abbrev Obj.AVS_PMBUS_ADDR : Nat := 0x1106
abbrev Obj.RAIL_PMBUS_ADDR : Nat := 0x1107
abbrev Obj.RAIL_VOLTAGE : Nat := 0x1108
abbrev Obj.RAIL_CURRENT : Nat := 0x1109
abbrev Obj.RAIL_POWER : Nat := 0x110A
abbrev Obj.POWER_TOTAL : Nat := 0x110B
abbrev Obj.WAKE_RATE : Nat := 0x110C
abbrev Obj.WAKE_DELAYS : Nat := 0x110D
abbrev Obj.LANES_AWAKE : Nat := 0x110E
abbrev Obj.GUN_TIME : Nat := 0x1200
abbrev Obj.ANCHOR_RANK : Nat := 0x1201
abbrev Obj.TIME_ROLE : Nat := 0x1202
abbrev Obj.OFFSET_ESTIMATE : Nat := 0x1203
abbrev Obj.HOLDOVER_DRIFT : Nat := 0x1204
abbrev Obj.PARENT_PORT : Nat := 0x1205
abbrev Obj.HOPS : Nat := 0x1206
abbrev Obj.LINK_DELAY : Nat := 0x1207
abbrev Obj.LINK_ASYMMETRY : Nat := 0x1208
abbrev Obj.EXT_ALIGN : Nat := 0x1209
abbrev Obj.SLEW_LIMIT : Nat := 0x120A
abbrev Obj.GUN_TIME_STEP : Nat := 0x120B
abbrev Obj.PPS_OUT_ENABLE : Nat := 0x120C
abbrev Obj.PTP_DOMAIN : Nat := 0x120D
abbrev Obj.OFF_THE_MARK : Nat := 0x120E
abbrev Obj.PPS_STATE : Nat := 0x120F
abbrev Obj.PPS_REJECTS : Nat := 0x1210
abbrev Obj.LAP_COUNTER : Nat := 0x1300
abbrev Obj.LAP_LENGTH : Nat := 0x1301
abbrev Obj.LAP_LENGTH_PENDING : Nat := 0x1302
abbrev Obj.GATE_LIST : Nat := 0x1303
abbrev Obj.SWAP_LAP : Nat := 0x1304
abbrev Obj.GATE_LIST_PENDING : Nat := 0x1305
abbrev Obj.RX_WINDOWS : Nat := 0x1306
abbrev Obj.GRACE : Nat := 0x1307
abbrev Obj.FALSE_STARTS : Nat := 0x1308
abbrev Obj.OVERRUNS : Nat := 0x1309
abbrev Obj.WIDE_ACCEPTS : Nat := 0x130A
abbrev Obj.LATE_DROPS : Nat := 0x130B
abbrev Obj.MISSED_LAUNCHES : Nat := 0x130C
abbrev Obj.DELAYED_PREWAKES : Nat := 0x130D
abbrev Obj.LATE_WAKES : Nat := 0x130E
abbrev Obj.RX_WINDOWS_PENDING : Nat := 0x130F
abbrev Obj.SLEEP_TIME : Nat := 0x1310
abbrev Obj.PORT_ENABLE : Nat := 0x2000
abbrev Obj.PORT_STATE : Nat := 0x2001
abbrev Obj.PORT_WIDTH : Nat := 0x2002
abbrev Obj.NEIGHBOUR_BIB : Nat := 0x2003
abbrev Obj.NEIGHBOUR_DEVICE : Nat := 0x2004
abbrev Obj.EXPECTED_BIB : Nat := 0x2005
abbrev Obj.DOWN_HOLD : Nat := 0x2006
abbrev Obj.FRAMES_RX : Nat := 0x2007
abbrev Obj.FRAMES_TX : Nat := 0x2008
abbrev Obj.RUNTS : Nat := 0x2009
abbrev Obj.GIANTS : Nat := 0x200A
abbrev Obj.BAD_CRC : Nat := 0x200B
abbrev Obj.STOMPS_RX : Nat := 0x200C
abbrev Obj.STOMPS_TX : Nat := 0x200D
abbrev Obj.HEADER_ERRORS : Nat := 0x200E
abbrev Obj.CONTROL_ERRORS : Nat := 0x200F
abbrev Obj.MAX_FRAME : Nat := 0x2010
abbrev Obj.BREAKOUT : Nat := 0x2011
abbrev Obj.FLOW_CONTROL : Nat := 0x2012
abbrev Obj.PFC_CONFIG : Nat := 0x2013
abbrev Obj.CLASS_PRIORITY : Nat := 0x2014
abbrev Obj.HOST_SLEEP : Nat := 0x2015
abbrev Obj.FEC_REQUEST : Nat := 0x2100
abbrev Obj.FEC_CORRECTED : Nat := 0x2101
abbrev Obj.FEC_UNCORRECTABLE : Nat := 0x2102
abbrev Obj.FEC_BURSTS : Nat := 0x2103
abbrev Obj.CREDIT_INIT : Nat := 0x2105
abbrev Obj.CREDIT_VIOLATIONS : Nat := 0x2106
abbrev Obj.LINK_UPS : Nat := 0x2107
abbrev Obj.LINK_DOWNS : Nat := 0x2108
abbrev Obj.FALLBACK : Nat := 0x2109
abbrev Obj.LANES_IN_USE : Nat := 0x210A
abbrev Obj.FALLBACKS : Nat := 0x210B
abbrev Obj.TRAIN_TIME : Nat := 0x210C
abbrev Obj.ISOLATED_DROPS : Nat := 0x210D
abbrev Obj.PCIE_LINK : Nat := 0x2110
abbrev Obj.PCIE_BAR2_SIZE : Nat := 0x2111
abbrev Obj.PARSE_GRAPH : Nat := 0x3000
abbrev Obj.PARSE_GRAPH_PENDING : Nat := 0x3001
abbrev Obj.GRAPH_COMMIT : Nat := 0x3002
abbrev Obj.START_TYPE : Nat := 0x3003
abbrev Obj.TENANT_MAP : Nat := 0x3004
abbrev Obj.PCP_CLASS : Nat := 0x3005
abbrev Obj.DEPTH_ACTION : Nat := 0x3006
abbrev Obj.LEN_ACTION : Nat := 0x3007
abbrev Obj.FRAG_ACTION : Nat := 0x3008
abbrev Obj.OD_BLOCK : Nat := 0x3009
abbrev Obj.FRAG_LIFETIME : Nat := 0x300A
abbrev Obj.HOLD_TIME : Nat := 0x300B
abbrev Obj.FRAG_FREE : Nat := 0x300C
abbrev Obj.HOLD_FREE : Nat := 0x300D
abbrev Obj.PARSED : Nat := 0x3010
abbrev Obj.DEPTH_EXCEEDED : Nat := 0x3011
abbrev Obj.LEN_CONFLICTS : Nat := 0x3012
abbrev Obj.L3_CSUM_ERRORS : Nat := 0x3013
abbrev Obj.PARSER_DROPS : Nat := 0x3014
abbrev Obj.FRAG_TABLE_FULL : Nat := 0x3015
abbrev Obj.HOLD_TIMEOUTS : Nat := 0x3016
abbrev Obj.HOLD_OVERFLOWS : Nat := 0x3017
abbrev Obj.EDIT_FAULTS : Nat := 0x3018
abbrev Obj.FRAGS_DROPPED : Nat := 0x3019
abbrev Obj.MASK_SET : Nat := 0x3100
abbrev Obj.RULE_BATCH : Nat := 0x3101
abbrev Obj.RULE_FREE : Nat := 0x3102
abbrev Obj.SET_USED : Nat := 0x3103
abbrev Obj.EDIT : Nat := 0x3104
abbrev Obj.SET_HITS : Nat := 0x3105
abbrev Obj.GROUP_MISSES : Nat := 0x3106
abbrev Obj.RULE_ENTRY : Nat := 0x3107
abbrev Obj.TRIE_DESC : Nat := 0x3200
abbrev Obj.BANK_MAP : Nat := 0x3201
abbrev Obj.STAGE_FREE : Nat := 0x3202
abbrev Obj.TRIE_FREE : Nat := 0x3203
abbrev Obj.TRIE_BATCH : Nat := 0x3210
abbrev Obj.TRIE_LOAD : Nat := 0x3211
abbrev Obj.TRIE_COST : Nat := 0x3212
abbrev Obj.TRIE_PREFIXES : Nat := 0x3213
abbrev Obj.TRIE_LOOKUPS : Nat := 0x3214
abbrev Obj.TRIE_VIOLATIONS : Nat := 0x3215
abbrev Obj.TRIE_FLIPS : Nat := 0x3216
abbrev Obj.GROUP : Nat := 0x3220
abbrev Obj.FLOWLET_GAP : Nat := 0x3221
abbrev Obj.RESEED_LAP : Nat := 0x3222
abbrev Obj.BALANCE_EPOCH : Nat := 0x3223
abbrev Obj.POLAR_WINDOW : Nat := 0x3224
abbrev Obj.POLAR_THRESHOLD : Nat := 0x3225
abbrev Obj.POLAR_HOLD : Nat := 0x3226
abbrev Obj.POLAR_MIN_BYTES : Nat := 0x3227
abbrev Obj.IMBALANCE : Nat := 0x3228
abbrev Obj.POLARIZED : Nat := 0x3229
abbrev Obj.POLAR_EVENTS : Nat := 0x322A
abbrev Obj.NEW_FLOWLETS : Nat := 0x322C
abbrev Obj.AUDIT_RATE : Nat := 0x3240
abbrev Obj.AUDIT_PASS_TIME : Nat := 0x3241
abbrev Obj.AUDIT_MISMATCHES : Nat := 0x3242
abbrev Obj.AUDIT_POISON_SKIPS : Nat := 0x3243
abbrev Obj.TABLE_ECC_REPAIRS : Nat := 0x3244
abbrev Obj.TABLE_ENTRIES_LOST : Nat := 0x3245
abbrev Obj.HASH_TEST_SEED : Nat := 0x3250
abbrev Obj.LEARN_ENABLE : Nat := 0x3300
abbrev Obj.LEARN_QUOTA : Nat := 0x3301
abbrev Obj.MOVE_HOLDOFF : Nat := 0x3302
abbrev Obj.AGE_INTERVAL : Nat := 0x3303
abbrev Obj.FLAP_THRESHOLD : Nat := 0x3304
abbrev Obj.LEARN_ENTRIES : Nat := 0x3305
abbrev Obj.STASH_USED : Nat := 0x3306
abbrev Obj.TENANT_ENTRIES : Nat := 0x3307
abbrev Obj.LEARN_STATIC : Nat := 0x3308
abbrev Obj.LEARN_FLUSH : Nat := 0x3309
abbrev Obj.LEARNS : Nat := 0x3310
abbrev Obj.LEARN_REFUSALS : Nat := 0x3311
abbrev Obj.STASH_INSERTS : Nat := 0x3312
abbrev Obj.FLAPS : Nat := 0x3313
abbrev Obj.MOVES : Nat := 0x3314
abbrev Obj.AGED : Nat := 0x3315
abbrev Obj.QUOTA_REFUSALS : Nat := 0x3316
abbrev Obj.LEARN_LOOKUPS : Nat := 0x3317
abbrev Obj.LEARN_ENTRY : Nat := 0x3318
abbrev Obj.RELAY_SET : Nat := 0x3800
abbrev Obj.RELAY_SET_PENDING : Nat := 0x3801
abbrev Obj.LAP_DIVISOR : Nat := 0x3802
abbrev Obj.LAP_PHASE : Nat := 0x3803
abbrev Obj.RELAY_MODE : Nat := 0x3804
abbrev Obj.SHELL_LEAD : Nat := 0x3805
abbrev Obj.STORE_FREE : Nat := 0x3806
abbrev Obj.SLAB_TABLE_FREE : Nat := 0x3807
abbrev Obj.UNIT_LOAD : Nat := 0x3808
abbrev Obj.SLABS_IN : Nat := 0x3810
abbrev Obj.SLABS_OUT : Nat := 0x3811
abbrev Obj.MISSING : Nat := 0x3812
abbrev Obj.NOTICES_SENT : Nat := 0x3813
abbrev Obj.REPAIRS_SENT : Nat := 0x3814
abbrev Obj.REPAIRS_USED : Nat := 0x3815
abbrev Obj.DUPLICATES : Nat := 0x3816
abbrev Obj.MISMATCHES : Nat := 0x3817
abbrev Obj.UNDERRUNS : Nat := 0x3818
abbrev Obj.AGE_MISMATCHES : Nat := 0x3819
abbrev Obj.UNREPAIRABLE : Nat := 0x381A
abbrev Obj.LAP_FAULTS : Nat := 0x381B
abbrev Obj.TAINTED : Nat := 0x381C
abbrev Obj.SHELL_FAILS : Nat := 0x381D
abbrev Obj.SHELLS_WITHDRAWN : Nat := 0x381E
abbrev Obj.SQUAD_MODE : Nat := 0x4000
abbrev Obj.SQUAD_STATE : Nat := 0x4001
abbrev Obj.SQUAD_FREQ : Nat := 0x4002
abbrev Obj.SQUAD_FREQ_ACTUAL : Nat := 0x4003
abbrev Obj.DISPATCH_SQUADS : Nat := 0x4004
abbrev Obj.DISPATCH_PRIORITY : Nat := 0x4005
abbrev Obj.RESERVED_THREADS : Nat := 0x4006
abbrev Obj.INSTR_BUDGET : Nat := 0x4007
abbrev Obj.CARD_STORE_USED : Nat := 0x4008
abbrev Obj.CARD_WAITS : Nat := 0x4009
abbrev Obj.SQUAD_LOAD : Nat := 0x400A
abbrev Obj.RUNS : Nat := 0x400B
abbrev Obj.THREAD_FAULTS : Nat := 0x400C
abbrev Obj.BUDGET_FAULTS : Nat := 0x400D
abbrev Obj.LOST_SLOTS : Nat := 0x400E
abbrev Obj.PROGRAM_DROPS : Nat := 0x400F
abbrev Obj.FAULT_CARDS : Nat := 0x4010
abbrev Obj.FAULT_CARDS_LOST : Nat := 0x4011
abbrev Obj.FAULT_ALARM : Nat := 0x4012
abbrev Obj.ENGINE_HOLDS : Nat := 0x4013
abbrev Obj.SQUAD_EVENT : Nat := 0x4014
abbrev Obj.STOPWATCH_LIMIT : Nat := 0x4015
abbrev Obj.DRAIN_LIMIT : Nat := 0x4016
abbrev Obj.THREADS_BUSY : Nat := 0x4017
abbrev Obj.THREADS_STOPPED : Nat := 0x4019
abbrev Obj.TOKEN_TIMEOUTS : Nat := 0x401A
abbrev Obj.RELAY_CARD_RESERVE : Nat := 0x4020
abbrev Obj.SLOW_ENTRY : Nat := 0x4021
abbrev Obj.TOKEN_LIMIT : Nat := 0x4022
abbrev Obj.IMAGE : Nat := 0x4100
abbrev Obj.IMAGE_PENDING : Nat := 0x4101
abbrev Obj.IMAGE_COMMIT : Nat := 0x4102
abbrev Obj.IMAGE_SWAP : Nat := 0x4103
abbrev Obj.IMAGE_ID : Nat := 0x4104
abbrev Obj.RELAY_PROGRAM_ID : Nat := 0x4105
abbrev Obj.PARTITION_SIZES : Nat := 0x5000
abbrev Obj.PARTITION_FREE : Nat := 0x5001
abbrev Obj.PARTITION_RESERVED : Nat := 0x5002
abbrev Obj.ALLOC_FAILS : Nat := 0x5003
abbrev Obj.DOUBLE_FREES : Nat := 0x5004
abbrev Obj.STALE_BATONS : Nat := 0x5005
abbrev Obj.PARTITION_MIN_FREE : Nat := 0x5006
abbrev Obj.INGRESS_RESERVE : Nat := 0x5007
abbrev Obj.RETAIN_FAILS : Nat := 0x5008
abbrev Obj.REF_SATURATIONS : Nat := 0x5009
abbrev Obj.HOST_RESERVE : Nat := 0x500A
abbrev Obj.QUEUE_DESC : Nat := 0x5100
abbrev Obj.QUEUE_BLOCK : Nat := 0x5101
abbrev Obj.QUEUE_STATUS : Nat := 0x5102
abbrev Obj.QUEUE_RING : Nat := 0x5103
abbrev Obj.ENQUEUED : Nat := 0x5110
abbrev Obj.DEQUEUED : Nat := 0x5111
abbrev Obj.LIMIT_DROPS : Nat := 0x5112
abbrev Obj.MARSHAL_DROPS : Nat := 0x5113
abbrev Obj.ADMISSION_DROPS : Nat := 0x5114
abbrev Obj.DOWN_DROPS : Nat := 0x5115
abbrev Obj.CE_MARKS : Nat := 0x5116
abbrev Obj.BYTES_OUT : Nat := 0x5117
abbrev Obj.NO_CLASS_QUEUE : Nat := 0x5118
abbrev Obj.DOORBELL_ERRORS : Nat := 0x5119
abbrev Obj.QUEUE_PACER : Nat := 0x5200
abbrev Obj.TENANT_PACER : Nat := 0x5201
abbrev Obj.PACER_INTERVAL : Nat := 0x5202
abbrev Obj.TENANT_PACER_TOKENS : Nat := 0x5203
abbrev Obj.QUEUE_PACER_TOKENS : Nat := 0x5204
abbrev Obj.MARSHAL : Nat := 0x5210
abbrev Obj.MARSHAL_GREEN : Nat := 0x5211
abbrev Obj.MARSHAL_YELLOW : Nat := 0x5212
abbrev Obj.MARSHAL_RED : Nat := 0x5213
abbrev Obj.GUARANTEE_CAPACITY : Nat := 0x5220
abbrev Obj.GUARANTEE_SHORTFALLS : Nat := 0x5221
abbrev Obj.TENANT_STATE : Nat := 0x6000
abbrev Obj.FAULT_LOG : Nat := 0x6001
abbrev Obj.FAULT_LOG_CLEAR : Nat := 0x6002
abbrev Obj.TENANT_MEMBERS : Nat := 0x6003
abbrev Obj.LAST_PHOTO : Nat := 0x6004
abbrev Obj.PHOTO_STATUS : Nat := 0x6005
abbrev Obj.PHOTO_RESTORE : Nat := 0x6007
abbrev Obj.RESETS : Nat := 0x6008
abbrev Obj.GLOBAL_OP : Nat := 0x6100
abbrev Obj.OP_SCHEDULE : Nat := 0x6101
abbrev Obj.OP_LEAD : Nat := 0x6102
abbrev Obj.WAVE_LEAD : Nat := 0x6104
abbrev Obj.LATE_OPS : Nat := 0x6105
abbrev Obj.SKIPPED_OPS : Nat := 0x6106
abbrev Obj.WAVE_CHILDREN : Nat := 0x6107
abbrev Obj.BARRIER_ARRIVE : Nat := 0x6110
abbrev Obj.BARRIER_STATUS : Nat := 0x6111
abbrev Obj.BROADCAST_SEND : Nat := 0x6112
abbrev Obj.BROADCAST_VALUE : Nat := 0x6113
abbrev Obj.HALT_REQUEST : Nat := 0x6114
abbrev Obj.WAVE_ERRORS : Nat := 0x6115
abbrev Obj.HALTS_MERGED : Nat := 0x6116
abbrev Obj.LOCK : Nat := 0x6200
abbrev Obj.LOCK_CONFIG : Nat := 0x6201
abbrev Obj.LOCK_ABANDONS : Nat := 0x6203
abbrev Obj.LOCK_VIOLATIONS : Nat := 0x6204
abbrev Obj.ATOMIC_BLOCK : Nat := 0x6210
abbrev Obj.ATOMIC_RANGE_ERRORS : Nat := 0x6211
abbrev Obj.ATOMIC_WORD : Nat := 0x6212
abbrev Obj.TRACE_RING : Nat := 0x7000
abbrev Obj.TRACE_TRIGGERS : Nat := 0x7001
abbrev Obj.TRACE_STATUS : Nat := 0x7002
abbrev Obj.TRACE_READ : Nat := 0x7003
abbrev Obj.TRACE_ARM : Nat := 0x7004
abbrev Obj.TRACE_TRIGGER : Nat := 0x7005
abbrev Obj.TRACE_RECORDS : Nat := 0x7006
abbrev Obj.TRACE_GAPS : Nat := 0x7007
abbrev Obj.TRACE_LOST : Nat := 0x7008
abbrev Obj.UPLOAD : Nat := 0x7010
abbrev Obj.SNAP_UPLOAD : Nat := 0x7011
abbrev Obj.UPLOAD_FRAMES : Nat := 0x7012
abbrev Obj.BAD_RECORDS : Nat := 0x7013
abbrev Obj.SNAP_AREA : Nat := 0x7020
abbrev Obj.SNAP_SLOTS : Nat := 0x7021
abbrev Obj.RESTORE_FAILS : Nat := 0x7024
abbrev Obj.DRAM_CONFIG : Nat := 0x7100
abbrev Obj.CHANNEL_INFO : Nat := 0x7101
abbrev Obj.WAYS : Nat := 0x7102
abbrev Obj.DRAM_SIZE : Nat := 0x7103
abbrev Obj.DRAM_DELAYS : Nat := 0x7105
abbrev Obj.DRAM_SWEEP : Nat := 0x7106
abbrev Obj.SWEEP_RESULT : Nat := 0x7107
abbrev Obj.BAR2_ERRORS : Nat := 0x7108
abbrev Obj.USABLE_BW : Nat := 0x7110
abbrev Obj.DERATED_BW : Nat := 0x7111
abbrev Obj.RESERVED_BW : Nat := 0x7112
abbrev Obj.HOST_BW_RESERVE : Nat := 0x7113
abbrev Obj.STARTER_BW : Nat := 0x7114
abbrev Obj.BW_SHORTFALLS : Nat := 0x7115
abbrev Obj.REFRESH_MODE : Nat := 0x7116
abbrev Obj.DIMM_TEMP : Nat := 0x7117
abbrev Obj.ECC_CORRECTED : Nat := 0x7120
abbrev Obj.ECC_UNCORRECTABLE : Nat := 0x7121
abbrev Obj.POISON_MAP : Nat := 0x7122
abbrev Obj.POISON_ENTRIES : Nat := 0x7123
abbrev Obj.POISON_OVERFLOWS : Nat := 0x7124
abbrev Obj.SCRUB_PERIOD : Nat := 0x7125
abbrev Obj.SCRUB_PASS_TIME : Nat := 0x7126
abbrev Obj.SCRUB_LATE : Nat := 0x7127
abbrev Obj.CORE_STATE : Nat := 0x8000
abbrev Obj.CORE_LOAD : Nat := 0x8001
abbrev Obj.DNF_RECORD : Nat := 0x8002
abbrev Obj.DNF_COUNT : Nat := 0x8003
abbrev Obj.HW_RECOVERIES : Nat := 0x8004
abbrev Obj.WATCHDOG_PERIOD : Nat := 0x8005
abbrev Obj.FIRMWARE_ID : Nat := 0x8006
abbrev Obj.WORKQ_CONFIG : Nat := 0x8010
abbrev Obj.WORKQ_DEPTH : Nat := 0x8011
abbrev Obj.WORKQ_HIGH : Nat := 0x8012
abbrev Obj.WORKQ_OVERFLOWS : Nat := 0x8013
abbrev Obj.BUSY_REPLIES : Nat := 0x8014
abbrev Obj.WORKQ_SERVED : Nat := 0x8015
abbrev Obj.WORKQ_WAIT : Nat := 0x8016
abbrev Obj.EXT_MODULE : Nat := 0x8030
abbrev Obj.EXT_STATE : Nat := 0x8031
abbrev Obj.EXT_BUDGET : Nat := 0x8032
abbrev Obj.EXT_CALL : Nat := 0x8033
abbrev Obj.EXT_FAULTS : Nat := 0x8034
abbrev Obj.EXT_LOG : Nat := 0x8035
abbrev Obj.PRINCIPAL : Nat := 0x9000
abbrev Obj.SESSION_LEVEL : Nat := 0x9001
abbrev Obj.SESSION_IDLE : Nat := 0x9002
abbrev Obj.VIOLATIONS : Nat := 0x9003
abbrev Obj.ATTENTION : Nat := 0x9010
abbrev Obj.ATTENTION_LOG : Nat := 0x9011
abbrev Obj.ATTENTION_LOST : Nat := 0x9012
abbrev Obj.FIELD_WRITE_AREAS : Nat := 0x9020
abbrev Obj.EXPERT_RIGHTS : Nat := 0x9021
abbrev Obj.HOST_MGMT_MAC : Nat := 0x9024
abbrev Obj.FIELD_NODE_ID : Nat := 0x9030
abbrev Obj.FIELD_EPOCH : Nat := 0x9031
abbrev Obj.FIELD_MASTER : Nat := 0x9033
abbrev Obj.CALL_ROOM_PERIOD : Nat := 0x9034
abbrev Obj.FIELD_NODES : Nat := 0x9035
abbrev Obj.CALL_ROOM_WINDOW : Nat := 0x9036
abbrev Obj.PLCA_NODE_COUNT : Nat := 0x9037
abbrev Obj.FIELD_FCS_ERRORS : Nat := 0x9040
abbrev Obj.FIELD_COLLISIONS : Nat := 0x9041
abbrev Obj.MESSAGE_DISCARDS : Nat := 0x9042
abbrev Obj.CACHED_REPLIES : Nat := 0x9043
abbrev Obj.SEQ_REFUSALS : Nat := 0x9044
abbrev Obj.MAILBOX_ERRORS : Nat := 0x9045
abbrev Obj.ANSWERS_ABANDONED : Nat := 0x9046
abbrev Obj.CALL_ROOM_ERRORS : Nat := 0x9047
abbrev Obj.ERROR_LOG : Nat := 0xA000
abbrev Obj.ERROR_LOG_CLEAR : Nat := 0xA001
abbrev Obj.ERROR_LOG_OVERWRITTEN : Nat := 0xA002
abbrev Obj.SRAM_CORRECTED : Nat := 0xA003
abbrev Obj.SRAM_UNCORRECTABLE : Nat := 0xA004
abbrev Obj.HALT_STATE : Nat := 0xA005
abbrev Obj.CAL_BLOCK : Nat := 0xB000
abbrev Obj.CAL_STATUS : Nat := 0xB001
abbrev Obj.CAL_SERDES : Nat := 0xB002
abbrev Obj.CAL_THERMAL : Nat := 0xB003
abbrev Obj.CAL_DRAM : Nat := 0xB004
abbrev Obj.CAL_TIME_PATH : Nat := 0xB005
abbrev Obj.CAL_COMMIT : Nat := 0xB006
abbrev Obj.CAL_DISCARD : Nat := 0xB007
abbrev Obj.PERSIST_STATUS : Nat := 0xB010
abbrev Obj.PERSIST_REJECTS : Nat := 0xB011
abbrev Obj.PERSIST_ERASE : Nat := 0xB012
abbrev Obj.FLASH_INFO : Nat := 0xB013
abbrev Obj.FLASH_ERRORS : Nat := 0xB014
abbrev Obj.FW_IMAGE : Nat := 0xB020
abbrev Obj.FW_SLOT : Nat := 0xB021
abbrev Obj.FW_BOOT_SLOT : Nat := 0xB022
abbrev Obj.FW_RUNNING : Nat := 0xB023

/-- Area 10h. -/
def objArea10 : List ObjRow := [
  ⟨Obj.BIB, .u64, .r, false, 0, 0, 0, 0, 0xFFFFFFFFFFFFFFFF, 0xFFFFFFFFFFFFFFFF⟩,
  ⟨Obj.GRADE, .enum, .r, false, 0, 0, 0, 0, 255, 255⟩,
  ⟨Obj.SILICON_REV, .str, .r, false, 0, 0, 0, 0, 0, 0⟩,
  ⟨Obj.DEVICE_ID, .u16, .rws, false, 0, 0, 0, 0, 16383, 65535⟩,
  ⟨Obj.VENDOR, .str, .r, false, 0, 0, 0, 0, 0, 0⟩,
  ⟨Obj.PRODUCT, .str, .r, false, 0, 0, 0, 0, 0, 0⟩,
  ⟨Obj.BOARD_LABEL, .str, .rws, false, 0, 0, 0, 0, 0, 0⟩,
  ⟨Obj.STRAPS, .bits32, .r, true, 0, 0, 0, 0, 0xFFFFFFFF, 0xFFFFFFFF⟩,
  ⟨Obj.UPTIME, .u64, .r, false, 0, 0, 0, 0, 0xFFFFFFFFFFFFFFFF, 0xFFFFFFFFFFFFFFFF⟩,
  ⟨Obj.RESET_CAUSE, .bits32, .r, false, 0, 0, 0, 0, 0xFFFFFFFF, 0xFFFFFFFF⟩,
  ⟨Obj.DIE_IDS, .blob, .r, true, 0, 0, 0, 0, 0, 0⟩,
  ⟨Obj.SQUAD_FREQ_MAX, .u16, .r, false, 0, 0, 0, 0, 65535, 65535⟩,
  ⟨Obj.RESET_REQUEST, .enum, .w, true, 0, 0, 0, 0, 255, 255⟩]

/-- Area 11h. -/
def objArea11 : List ObjRow := [
  ⟨Obj.DIE_TEMP, .s32, .r, false, 0, 4, 0, 0, 0xFFFFFFFF, 0xFFFFFFFF⟩,
  ⟨Obj.DIE_TEMP_MAX, .s32, .rc, false, 0, 4, 0, 0, 0xFFFFFFFF, 0xFFFFFFFF⟩,
  ⟨Obj.TEMP_WARN, .s32, .rws, true, 0, 0, 100000, 85000, 105000, 0xFFFFFFFF⟩,
  ⟨Obj.TEMP_TRIP, .s32, .rws, true, 0, 0, 110000, 100000, 115000, 0xFFFFFFFF⟩,
  ⟨Obj.AVS_ENABLE, .bool, .rws, true, 0, 0, 1, 0, 1, 1⟩,
  ⟨Obj.VDD_CORE_TARGET, .u16, .r, false, 0, 0, 0, 0, 65535, 65535⟩,
  ⟨Obj.AVS_PMBUS_ADDR, .u8, .rws, true, 0, 0, 0, 0, 255, 255⟩,
  ⟨Obj.RAIL_PMBUS_ADDR, .u8, .rws, true, 0, 6, 0, 0, 255, 255⟩,
  ⟨Obj.RAIL_VOLTAGE, .u32, .r, false, 0, 6, 0, 0, 0xFFFFFFFF, 0xFFFFFFFF⟩,
  ⟨Obj.RAIL_CURRENT, .u32, .r, false, 0, 6, 0, 0, 0xFFFFFFFF, 0xFFFFFFFF⟩,
  ⟨Obj.RAIL_POWER, .u32, .r, false, 0, 6, 0, 0, 0xFFFFFFFF, 0xFFFFFFFF⟩,
  ⟨Obj.POWER_TOTAL, .u32, .r, false, 0, 0, 0, 0, 0xFFFFFFFF, 0xFFFFFFFF⟩,
  ⟨Obj.WAKE_RATE, .u16, .rws, true, 0, 0, 8000, 1000, 32000, 65535⟩,
  ⟨Obj.WAKE_DELAYS, .u64, .rc, false, 0, 0, 0, 0, 0xFFFFFFFFFFFFFFFF, 0xFFFFFFFFFFFFFFFF⟩,
  ⟨Obj.LANES_AWAKE, .u16, .r, false, 0, 0, 0, 0, 65535, 65535⟩]

/-- Area 12h. -/
def objArea12 : List ObjRow := [
  ⟨Obj.GUN_TIME, .time80, .r, false, 0, 0, 0, 0, 0xFFFFFFFFFFFFFFFFFFFF, 0xFFFFFFFFFFFFFFFFFFFF⟩,
  ⟨Obj.ANCHOR_RANK, .u8, .rws, true, 0, 0, 0, 0, 255, 255⟩,
  ⟨Obj.TIME_ROLE, .enum, .r, false, 0, 0, 0, 0, 255, 255⟩,
  ⟨Obj.OFFSET_ESTIMATE, .s32, .r, false, 0, 0, 0, 0, 0xFFFFFFFF, 0xFFFFFFFF⟩,
  ⟨Obj.HOLDOVER_DRIFT, .u32, .rws, true, 0, 0, 50, 0, 0xFFFFFFFF, 0xFFFFFFFF⟩,
  ⟨Obj.PARENT_PORT, .enum, .r, false, 0, 0, 0, 0, 255, 255⟩,
  ⟨Obj.HOPS, .u8, .r, false, 0, 0, 0, 0, 255, 255⟩,
  ⟨Obj.LINK_DELAY, .s32, .r, false, 0, 15, 0, 0, 0xFFFFFFFF, 0xFFFFFFFF⟩,
  ⟨Obj.LINK_ASYMMETRY, .s32, .rws, true, 0, 15, 0, 0, 0xFFFFFFFF, 0xFFFFFFFF⟩,
  ⟨Obj.EXT_ALIGN, .enum, .rws, true, 0, 0, 0, 0, 5, 255⟩,
  ⟨Obj.SLEW_LIMIT, .u32, .rws, true, 0, 0, 1000, 1, 10000, 0xFFFFFFFF⟩,
  ⟨Obj.GUN_TIME_STEP, .time80, .w, true, 0, 0, 0, 0, 0xFFFFFFFFFFFFFFFFFFFF, 0xFFFFFFFFFFFFFFFFFFFF⟩,
  ⟨Obj.PPS_OUT_ENABLE, .bool, .rws, false, 0, 0, 0, 0, 1, 1⟩,
  ⟨Obj.PTP_DOMAIN, .u8, .rws, true, 0, 0, 0, 0, 255, 255⟩,
  ⟨Obj.OFF_THE_MARK, .u64, .rc, false, 0, 0, 0, 0, 0xFFFFFFFFFFFFFFFF, 0xFFFFFFFFFFFFFFFF⟩,
  ⟨Obj.PPS_STATE, .enum, .r, false, 0, 0, 0, 0, 255, 255⟩,
  ⟨Obj.PPS_REJECTS, .u64, .rc, false, 0, 0, 0, 0, 0xFFFFFFFFFFFFFFFF, 0xFFFFFFFFFFFFFFFF⟩]

/-- Area 13h. -/
def objArea13 : List ObjRow := [
  ⟨Obj.LAP_COUNTER, .u64, .r, false, 0, 0, 0, 0, 0xFFFFFFFFFFFFFFFF, 0xFFFFFFFFFFFFFFFF⟩,
  ⟨Obj.LAP_LENGTH, .u32, .r, false, 0, 0, 100000, 0, 0xFFFFFFFF, 0xFFFFFFFF⟩,
  ⟨Obj.LAP_LENGTH_PENDING, .u32, .rw, false, 0, 0, 100000, 0, 0xFFFFFFFF, 0xFFFFFFFF⟩,
  ⟨Obj.GATE_LIST, .blob, .r, false, 0, 15, 0, 0, 0, 0⟩,
  ⟨Obj.SWAP_LAP, .u64, .rw, false, 0, 0, 281474976710655, 0, 0xFFFFFFFFFFFFFFFF, 0xFFFFFFFFFFFFFFFF⟩,
  ⟨Obj.GATE_LIST_PENDING, .blob, .rw, false, 0, 15, 0, 0, 0, 0⟩,
  ⟨Obj.RX_WINDOWS, .blob, .r, false, 0, 13, 0, 0, 0, 0⟩,
  ⟨Obj.GRACE, .u8, .rw, false, 0, 13, 8, 0, 255, 255⟩,
  ⟨Obj.FALSE_STARTS, .u64, .rc, false, 0, 13, 0, 0, 0xFFFFFFFFFFFFFFFF, 0xFFFFFFFFFFFFFFFF⟩,
  ⟨Obj.OVERRUNS, .u64, .rc, false, 0, 13, 0, 0, 0xFFFFFFFFFFFFFFFF, 0xFFFFFFFFFFFFFFFF⟩,
  ⟨Obj.WIDE_ACCEPTS, .u64, .rc, false, 0, 13, 0, 0, 0xFFFFFFFFFFFFFFFF, 0xFFFFFFFFFFFFFFFF⟩,
  ⟨Obj.LATE_DROPS, .u64, .rc, false, 0, 13, 0, 0, 0xFFFFFFFFFFFFFFFF, 0xFFFFFFFFFFFFFFFF⟩,
  ⟨Obj.MISSED_LAUNCHES, .u64, .rc, false, 0, 13, 0, 0, 0xFFFFFFFFFFFFFFFF, 0xFFFFFFFFFFFFFFFF⟩,
  ⟨Obj.DELAYED_PREWAKES, .u64, .rc, false, 0, 15, 0, 0, 0xFFFFFFFFFFFFFFFF, 0xFFFFFFFFFFFFFFFF⟩,
  ⟨Obj.LATE_WAKES, .u64, .rc, false, 0, 15, 0, 0, 0xFFFFFFFFFFFFFFFF, 0xFFFFFFFFFFFFFFFF⟩,
  ⟨Obj.RX_WINDOWS_PENDING, .blob, .rw, false, 0, 13, 0, 0, 0, 0⟩,
  ⟨Obj.SLEEP_TIME, .u64, .r, false, 0, 15, 0, 0, 0xFFFFFFFFFFFFFFFF, 0xFFFFFFFFFFFFFFFF⟩]

/-- Area 20h. -/
def objArea20 : List ObjRow := [
  ⟨Obj.PORT_ENABLE, .bool, .rws, false, 0, 16, 1, 0, 1, 1⟩,
  ⟨Obj.PORT_STATE, .enum, .r, false, 0, 16, 0, 0, 255, 255⟩,
  ⟨Obj.PORT_WIDTH, .u8, .r, false, 0, 15, 0, 0, 255, 255⟩,
  ⟨Obj.NEIGHBOUR_BIB, .u64, .r, false, 0, 13, 0, 0, 0xFFFFFFFFFFFFFFFF, 0xFFFFFFFFFFFFFFFF⟩,
  ⟨Obj.NEIGHBOUR_DEVICE, .u16, .r, false, 0, 13, 0, 0, 65535, 65535⟩,
  ⟨Obj.EXPECTED_BIB, .u64, .rws, true, 0, 13, 0, 0, 0xFFFFFFFFFFFFFFFF, 0xFFFFFFFFFFFFFFFF⟩,
  ⟨Obj.DOWN_HOLD, .u32, .rw, false, 0, 15, 100000, 0, 0x989680, 0xFFFFFFFF⟩,
  ⟨Obj.FRAMES_RX, .u64, .rc, false, 0, 15, 0, 0, 0xFFFFFFFFFFFFFFFF, 0xFFFFFFFFFFFFFFFF⟩,
  ⟨Obj.FRAMES_TX, .u64, .rc, false, 0, 15, 0, 0, 0xFFFFFFFFFFFFFFFF, 0xFFFFFFFFFFFFFFFF⟩,
  ⟨Obj.RUNTS, .u64, .rc, false, 14, 15, 0, 0, 0xFFFFFFFFFFFFFFFF, 0xFFFFFFFFFFFFFFFF⟩,
  ⟨Obj.GIANTS, .u64, .rc, false, 0, 15, 0, 0, 0xFFFFFFFFFFFFFFFF, 0xFFFFFFFFFFFFFFFF⟩,
  ⟨Obj.BAD_CRC, .u64, .rc, false, 0, 15, 0, 0, 0xFFFFFFFFFFFFFFFF, 0xFFFFFFFFFFFFFFFF⟩,
  ⟨Obj.STOMPS_RX, .u64, .rc, false, 0, 15, 0, 0, 0xFFFFFFFFFFFFFFFF, 0xFFFFFFFFFFFFFFFF⟩,
  ⟨Obj.STOMPS_TX, .u64, .rc, false, 0, 15, 0, 0, 0xFFFFFFFFFFFFFFFF, 0xFFFFFFFFFFFFFFFF⟩,
  ⟨Obj.HEADER_ERRORS, .u64, .rc, false, 0, 13, 0, 0, 0xFFFFFFFFFFFFFFFF, 0xFFFFFFFFFFFFFFFF⟩,
  ⟨Obj.CONTROL_ERRORS, .u64, .rc, false, 0, 13, 0, 0, 0xFFFFFFFFFFFFFFFF, 0xFFFFFFFFFFFFFFFF⟩,
  ⟨Obj.MAX_FRAME, .u16, .rws, false, 14, 15, 9216, 1518, 16000, 65535⟩,
  ⟨Obj.BREAKOUT, .enum, .rws, false, 14, 15, 0, 0, 3, 255⟩,
  ⟨Obj.FLOW_CONTROL, .enum, .rws, false, 14, 15, 0, 0, 2, 255⟩,
  ⟨Obj.PFC_CONFIG, .bits32, .rws, true, 14, 15, 528384, 0, 0xFFFFFFFF, 0xFFFFFF⟩,
  ⟨Obj.CLASS_PRIORITY, .bits32, .rws, false, 14, 15, 679360, 0, 0xFFFFFFFF, 0xFFFFC0⟩,
  ⟨Obj.HOST_SLEEP, .bool, .rws, true, 14, 15, 0, 0, 1, 1⟩]

/-- Area 21h. -/
def objArea21 : List ObjRow := [
  ⟨Obj.FEC_REQUEST, .enum, .rws, true, 0, 13, 0, 0, 1, 255⟩,
  ⟨Obj.FEC_CORRECTED, .u64, .rc, false, 0, 15, 0, 0, 0xFFFFFFFFFFFFFFFF, 0xFFFFFFFFFFFFFFFF⟩,
  ⟨Obj.FEC_UNCORRECTABLE, .u64, .rc, false, 0, 15, 0, 0, 0xFFFFFFFFFFFFFFFF, 0xFFFFFFFFFFFFFFFF⟩,
  ⟨Obj.FEC_BURSTS, .u64, .rc, false, 0, 15, 0, 0, 0xFFFFFFFFFFFFFFFF, 0xFFFFFFFFFFFFFFFF⟩,
  ⟨Obj.CREDIT_INIT, .u16, .rws, true, 2, 111, 0, 0, 65535, 65535⟩,
  ⟨Obj.CREDIT_VIOLATIONS, .u64, .rc, false, 0, 13, 0, 0, 0xFFFFFFFFFFFFFFFF, 0xFFFFFFFFFFFFFFFF⟩,
  ⟨Obj.LINK_UPS, .u64, .rc, false, 0, 15, 0, 0, 0xFFFFFFFFFFFFFFFF, 0xFFFFFFFFFFFFFFFF⟩,
  ⟨Obj.LINK_DOWNS, .u64, .rc, false, 0, 15, 0, 0, 0xFFFFFFFFFFFFFFFF, 0xFFFFFFFFFFFFFFFF⟩,
  ⟨Obj.FALLBACK, .bool, .rws, true, 0, 13, 1, 0, 1, 1⟩,
  ⟨Obj.LANES_IN_USE, .bits32, .r, false, 0, 15, 0, 0, 0xFFFFFFFF, 0xFFFFFFFF⟩,
  ⟨Obj.FALLBACKS, .u64, .rc, false, 0, 13, 0, 0, 0xFFFFFFFFFFFFFFFF, 0xFFFFFFFFFFFFFFFF⟩,
  ⟨Obj.TRAIN_TIME, .u32, .r, false, 0, 15, 0, 0, 0xFFFFFFFF, 0xFFFFFFFF⟩,
  ⟨Obj.ISOLATED_DROPS, .u64, .rc, false, 0, 13, 0, 0, 0xFFFFFFFFFFFFFFFF, 0xFFFFFFFFFFFFFFFF⟩,
  ⟨Obj.PCIE_LINK, .bits32, .r, false, 0, 0, 0, 0, 0xFFFFFFFF, 0xFFFFFFFF⟩,
  ⟨Obj.PCIE_BAR2_SIZE, .u8, .rws, true, 0, 0, 32, 28, 39, 255⟩]

/-- Area 30h. -/
def objArea30 : List ObjRow := [
  ⟨Obj.PARSE_GRAPH, .blob, .r, false, 0, 0, 0, 0, 0, 0⟩,
  ⟨Obj.PARSE_GRAPH_PENDING, .blob, .rw, true, 0, 0, 0, 0, 0, 0⟩,
  ⟨Obj.GRAPH_COMMIT, .bool, .w, true, 0, 0, 0, 0, 1, 1⟩,
  ⟨Obj.START_TYPE, .u8, .rw, true, 0, 16, 0, 0, 63, 255⟩,
  ⟨Obj.TENANT_MAP, .blob, .rw, false, 14, 15, 0, 0, 0, 0⟩,
  ⟨Obj.PCP_CLASS, .bits32, .rw, false, 14, 15, 15622079, 0, 0xFFFFFFFF, 0xFFFFFF⟩,
  ⟨Obj.DEPTH_ACTION, .enum, .rw, false, 0, 255, 2, 0, 2, 255⟩,
  ⟨Obj.LEN_ACTION, .enum, .rw, false, 0, 255, 0, 0, 2, 255⟩,
  ⟨Obj.FRAG_ACTION, .enum, .rw, false, 0, 255, 0, 0, 2, 255⟩,
  ⟨Obj.OD_BLOCK, .bits32, .rw, true, 0, 255, 0, 0, 0xFFFFFFFF, 0xFFFF001F⟩,
  ⟨Obj.FRAG_LIFETIME, .u32, .rw, true, 0, 0, 30000, 100, 1000000, 0xFFFFFFFF⟩,
  ⟨Obj.HOLD_TIME, .u32, .rw, true, 0, 0, 2000, 10, 10000, 0xFFFFFFFF⟩,
  ⟨Obj.FRAG_FREE, .u16, .r, false, 0, 0, 4096, 0, 65535, 65535⟩,
  ⟨Obj.HOLD_FREE, .u16, .r, false, 0, 0, 256, 0, 65535, 65535⟩,
  ⟨Obj.PARSED, .u64, .rc, false, 0, 16, 0, 0, 0xFFFFFFFFFFFFFFFF, 0xFFFFFFFFFFFFFFFF⟩,
  ⟨Obj.DEPTH_EXCEEDED, .u64, .rc, false, 0, 16, 0, 0, 0xFFFFFFFFFFFFFFFF, 0xFFFFFFFFFFFFFFFF⟩,
  ⟨Obj.LEN_CONFLICTS, .u64, .rc, false, 0, 16, 0, 0, 0xFFFFFFFFFFFFFFFF, 0xFFFFFFFFFFFFFFFF⟩,
  ⟨Obj.L3_CSUM_ERRORS, .u64, .rc, false, 0, 16, 0, 0, 0xFFFFFFFFFFFFFFFF, 0xFFFFFFFFFFFFFFFF⟩,
  ⟨Obj.PARSER_DROPS, .u64, .rc, false, 0, 16, 0, 0, 0xFFFFFFFFFFFFFFFF, 0xFFFFFFFFFFFFFFFF⟩,
  ⟨Obj.FRAG_TABLE_FULL, .u64, .rc, false, 0, 0, 0, 0, 0xFFFFFFFFFFFFFFFF, 0xFFFFFFFFFFFFFFFF⟩,
  ⟨Obj.HOLD_TIMEOUTS, .u64, .rc, false, 0, 0, 0, 0, 0xFFFFFFFFFFFFFFFF, 0xFFFFFFFFFFFFFFFF⟩,
  ⟨Obj.HOLD_OVERFLOWS, .u64, .rc, false, 0, 0, 0, 0, 0xFFFFFFFFFFFFFFFF, 0xFFFFFFFFFFFFFFFF⟩,
  ⟨Obj.EDIT_FAULTS, .u64, .rc, false, 0, 0, 0, 0, 0xFFFFFFFFFFFFFFFF, 0xFFFFFFFFFFFFFFFF⟩,
  ⟨Obj.FRAGS_DROPPED, .u64, .rc, false, 0, 0, 0, 0, 0xFFFFFFFFFFFFFFFF, 0xFFFFFFFFFFFFFFFF⟩]

/-- Area 31h. -/
def objArea31 : List ObjRow := [
  ⟨Obj.MASK_SET, .blob, .rw, true, 0, 15, 0, 0, 0, 0⟩,
  ⟨Obj.RULE_BATCH, .blob, .w, false, 0, 0, 0, 0, 0, 0⟩,
  ⟨Obj.RULE_FREE, .u32, .r, false, 0, 0, 65536, 0, 0xFFFFFFFF, 0xFFFFFFFF⟩,
  ⟨Obj.SET_USED, .u32, .r, false, 0, 15, 0, 0, 0xFFFFFFFF, 0xFFFFFFFF⟩,
  ⟨Obj.EDIT, .blob, .rw, false, 1, 4095, 0, 0, 0, 0⟩,
  ⟨Obj.SET_HITS, .u64, .rc, false, 0, 15, 0, 0, 0xFFFFFFFFFFFFFFFF, 0xFFFFFFFFFFFFFFFF⟩,
  ⟨Obj.GROUP_MISSES, .u64, .rc, false, 0, 3, 0, 0, 0xFFFFFFFFFFFFFFFF, 0xFFFFFFFFFFFFFFFF⟩,
  ⟨Obj.RULE_ENTRY, .blob, .r, true, 0, 65535, 0, 0, 0, 0⟩]

/-- Area 32h. -/
def objArea32 : List ObjRow := [
  ⟨Obj.TRIE_DESC, .blob, .r, false, 0, 63, 0, 0, 0, 0⟩,
  ⟨Obj.BANK_MAP, .blob, .rw, true, 0, 0, 0, 0, 0, 0⟩,
  ⟨Obj.STAGE_FREE, .u32, .r, false, 0, 11, 0, 0, 0xFFFFFFFF, 0xFFFFFFFF⟩,
  ⟨Obj.TRIE_FREE, .u32, .r, false, 0, 0, 4194304, 0, 0xFFFFFFFF, 0xFFFFFFFF⟩,
  ⟨Obj.TRIE_BATCH, .blob, .w, false, 0, 0, 0, 0, 0, 0⟩,
  ⟨Obj.TRIE_LOAD, .blob, .w, false, 0, 63, 0, 0, 0, 0⟩,
  ⟨Obj.TRIE_COST, .u32, .r, false, 0, 63, 0, 0, 0xFFFFFFFF, 0xFFFFFFFF⟩,
  ⟨Obj.TRIE_PREFIXES, .u32, .r, false, 0, 63, 0, 0, 0xFFFFFFFF, 0xFFFFFFFF⟩,
  ⟨Obj.TRIE_LOOKUPS, .u64, .rc, false, 0, 63, 0, 0, 0xFFFFFFFFFFFFFFFF, 0xFFFFFFFFFFFFFFFF⟩,
  ⟨Obj.TRIE_VIOLATIONS, .u64, .rc, false, 0, 63, 0, 0, 0xFFFFFFFFFFFFFFFF, 0xFFFFFFFFFFFFFFFF⟩,
  ⟨Obj.TRIE_FLIPS, .u32, .r, false, 0, 63, 0, 0, 0xFFFFFFFF, 0xFFFFFFFF⟩,
  ⟨Obj.GROUP, .blob, .rw, false, 0, 4095, 0, 0, 0, 0⟩,
  ⟨Obj.FLOWLET_GAP, .u32, .rw, true, 0, 0, 16000, 1000, 1000000, 0xFFFFFFFF⟩,
  ⟨Obj.RESEED_LAP, .u64, .rw, true, 0, 0, 281474976710655, 0, 0xFFFFFFFFFFFFFFFF, 0xFFFFFFFFFFFFFFFF⟩,
  ⟨Obj.BALANCE_EPOCH, .u32, .r, false, 0, 0, 0, 0, 0xFFFFFFFF, 0xFFFFFFFF⟩,
  ⟨Obj.POLAR_WINDOW, .u32, .rw, true, 0, 0, 1000, 100, 100000, 0xFFFFFFFF⟩,
  ⟨Obj.POLAR_THRESHOLD, .u16, .rw, true, 0, 4095, 200, 101, 10000, 65535⟩,
  ⟨Obj.POLAR_HOLD, .u32, .rw, true, 0, 0, 100000, 0, 0xFFFFFFFF, 0xFFFFFFFF⟩,
  ⟨Obj.POLAR_MIN_BYTES, .u32, .rw, true, 0, 0, 1000000, 0, 0xFFFFFFFF, 0xFFFFFFFF⟩,
  ⟨Obj.IMBALANCE, .u16, .r, false, 0, 4095, 0, 0, 65535, 65535⟩,
  ⟨Obj.POLARIZED, .blob, .r, false, 0, 0, 0, 0, 0, 0⟩,
  ⟨Obj.POLAR_EVENTS, .u64, .rc, false, 0, 0, 0, 0, 0xFFFFFFFFFFFFFFFF, 0xFFFFFFFFFFFFFFFF⟩,
  ⟨Obj.NEW_FLOWLETS, .u64, .rc, false, 0, 0, 0, 0, 0xFFFFFFFFFFFFFFFF, 0xFFFFFFFFFFFFFFFF⟩,
  ⟨Obj.AUDIT_RATE, .u16, .rw, true, 0, 0, 64, 1, 1024, 65535⟩,
  ⟨Obj.AUDIT_PASS_TIME, .u32, .r, false, 0, 0, 0, 0, 0xFFFFFFFF, 0xFFFFFFFF⟩,
  ⟨Obj.AUDIT_MISMATCHES, .u64, .rc, false, 0, 0, 0, 0, 0xFFFFFFFFFFFFFFFF, 0xFFFFFFFFFFFFFFFF⟩,
  ⟨Obj.AUDIT_POISON_SKIPS, .u64, .rc, false, 0, 0, 0, 0, 0xFFFFFFFFFFFFFFFF, 0xFFFFFFFFFFFFFFFF⟩,
  ⟨Obj.TABLE_ECC_REPAIRS, .u64, .rc, false, 0, 0, 0, 0, 0xFFFFFFFFFFFFFFFF, 0xFFFFFFFFFFFFFFFF⟩,
  ⟨Obj.TABLE_ENTRIES_LOST, .u64, .rc, false, 0, 0, 0, 0, 0xFFFFFFFFFFFFFFFF, 0xFFFFFFFFFFFFFFFF⟩,
  ⟨Obj.HASH_TEST_SEED, .blob, .w, true, 0, 0, 0, 0, 0, 0⟩]

/-- Area 33h. -/
def objArea33 : List ObjRow := [
  ⟨Obj.LEARN_ENABLE, .bool, .rw, false, 0, 255, 1, 0, 1, 1⟩,
  ⟨Obj.LEARN_QUOTA, .u32, .rw, false, 0, 255, 65536, 0, 0xFFFFFFFF, 0xFFFFFFFF⟩,
  ⟨Obj.MOVE_HOLDOFF, .u32, .rw, false, 0, 0, 1000, 20, 60000, 0xFFFFFFFF⟩,
  ⟨Obj.AGE_INTERVAL, .u32, .rw, false, 0, 0, 75000, 0, 0x36EE80, 0xFFFFFFFF⟩,
  ⟨Obj.FLAP_THRESHOLD, .u8, .rw, false, 0, 0, 8, 1, 63, 255⟩,
  ⟨Obj.LEARN_ENTRIES, .u32, .r, false, 0, 0, 0, 0, 0xFFFFFFFF, 0xFFFFFFFF⟩,
  ⟨Obj.STASH_USED, .u8, .r, false, 0, 0, 0, 0, 255, 255⟩,
  ⟨Obj.TENANT_ENTRIES, .u32, .r, false, 0, 255, 0, 0, 0xFFFFFFFF, 0xFFFFFFFF⟩,
  ⟨Obj.LEARN_STATIC, .blob, .w, false, 0, 0, 0, 0, 0, 0⟩,
  ⟨Obj.LEARN_FLUSH, .u8, .w, false, 0, 255, 0, 1, 2, 255⟩,
  ⟨Obj.LEARNS, .u64, .rc, false, 0, 0, 0, 0, 0xFFFFFFFFFFFFFFFF, 0xFFFFFFFFFFFFFFFF⟩,
  ⟨Obj.LEARN_REFUSALS, .u64, .rc, false, 0, 0, 0, 0, 0xFFFFFFFFFFFFFFFF, 0xFFFFFFFFFFFFFFFF⟩,
  ⟨Obj.STASH_INSERTS, .u64, .rc, false, 0, 0, 0, 0, 0xFFFFFFFFFFFFFFFF, 0xFFFFFFFFFFFFFFFF⟩,
  ⟨Obj.FLAPS, .u64, .rc, false, 0, 0, 0, 0, 0xFFFFFFFFFFFFFFFF, 0xFFFFFFFFFFFFFFFF⟩,
  ⟨Obj.MOVES, .u64, .rc, false, 0, 0, 0, 0, 0xFFFFFFFFFFFFFFFF, 0xFFFFFFFFFFFFFFFF⟩,
  ⟨Obj.AGED, .u64, .rc, false, 0, 0, 0, 0, 0xFFFFFFFFFFFFFFFF, 0xFFFFFFFFFFFFFFFF⟩,
  ⟨Obj.QUOTA_REFUSALS, .u64, .rc, false, 0, 0, 0, 0, 0xFFFFFFFFFFFFFFFF, 0xFFFFFFFFFFFFFFFF⟩,
  ⟨Obj.LEARN_LOOKUPS, .u64, .rc, false, 0, 0, 0, 0, 0xFFFFFFFFFFFFFFFF, 0xFFFFFFFFFFFFFFFF⟩,
  ⟨Obj.LEARN_ENTRY, .blob, .r, true, 0, 524351, 0, 0, 0, 0⟩]

/-- Area 38h. -/
def objArea38 : List ObjRow := [
  ⟨Obj.RELAY_SET, .blob, .r, false, 1, 255, 0, 0, 0, 0⟩,
  ⟨Obj.RELAY_SET_PENDING, .blob, .rw, false, 1, 255, 0, 0, 0, 0⟩,
  ⟨Obj.LAP_DIVISOR, .u16, .rw, false, 1, 255, 1, 0, 65535, 65535⟩,
  ⟨Obj.LAP_PHASE, .u16, .rw, false, 1, 255, 0, 0, 65535, 65535⟩,
  ⟨Obj.RELAY_MODE, .enum, .rw, false, 1, 255, 0, 0, 1, 255⟩,
  ⟨Obj.SHELL_LEAD, .u32, .rw, true, 1, 255, 1000, 200, 1000000, 0xFFFFFFFF⟩,
  ⟨Obj.STORE_FREE, .u32, .r, false, 0, 0, 2097152, 0, 0xFFFFFFFF, 0xFFFFFFFF⟩,
  ⟨Obj.SLAB_TABLE_FREE, .u32, .r, false, 0, 0, 65536, 0, 0xFFFFFFFF, 0xFFFFFFFF⟩,
  ⟨Obj.UNIT_LOAD, .u16, .r, true, 0, 3, 0, 0, 65535, 65535⟩,
  ⟨Obj.SLABS_IN, .u64, .rc, false, 1, 255, 0, 0, 0xFFFFFFFFFFFFFFFF, 0xFFFFFFFFFFFFFFFF⟩,
  ⟨Obj.SLABS_OUT, .u64, .rc, false, 1, 255, 0, 0, 0xFFFFFFFFFFFFFFFF, 0xFFFFFFFFFFFFFFFF⟩,
  ⟨Obj.MISSING, .u64, .rc, false, 1, 255, 0, 0, 0xFFFFFFFFFFFFFFFF, 0xFFFFFFFFFFFFFFFF⟩,
  ⟨Obj.NOTICES_SENT, .u64, .rc, false, 1, 255, 0, 0, 0xFFFFFFFFFFFFFFFF, 0xFFFFFFFFFFFFFFFF⟩,
  ⟨Obj.REPAIRS_SENT, .u64, .rc, false, 1, 255, 0, 0, 0xFFFFFFFFFFFFFFFF, 0xFFFFFFFFFFFFFFFF⟩,
  ⟨Obj.REPAIRS_USED, .u64, .rc, false, 1, 255, 0, 0, 0xFFFFFFFFFFFFFFFF, 0xFFFFFFFFFFFFFFFF⟩,
  ⟨Obj.DUPLICATES, .u64, .rc, false, 1, 255, 0, 0, 0xFFFFFFFFFFFFFFFF, 0xFFFFFFFFFFFFFFFF⟩,
  ⟨Obj.MISMATCHES, .u64, .rc, false, 1, 255, 0, 0, 0xFFFFFFFFFFFFFFFF, 0xFFFFFFFFFFFFFFFF⟩,
  ⟨Obj.UNDERRUNS, .u64, .rc, false, 1, 255, 0, 0, 0xFFFFFFFFFFFFFFFF, 0xFFFFFFFFFFFFFFFF⟩,
  ⟨Obj.AGE_MISMATCHES, .u64, .rc, true, 1, 255, 0, 0, 0xFFFFFFFFFFFFFFFF, 0xFFFFFFFFFFFFFFFF⟩,
  ⟨Obj.UNREPAIRABLE, .u64, .rc, false, 1, 255, 0, 0, 0xFFFFFFFFFFFFFFFF, 0xFFFFFFFFFFFFFFFF⟩,
  ⟨Obj.LAP_FAULTS, .u64, .rc, false, 1, 255, 0, 0, 0xFFFFFFFFFFFFFFFF, 0xFFFFFFFFFFFFFFFF⟩,
  ⟨Obj.TAINTED, .u64, .rc, false, 1, 255, 0, 0, 0xFFFFFFFFFFFFFFFF, 0xFFFFFFFFFFFFFFFF⟩,
  ⟨Obj.SHELL_FAILS, .u64, .rc, false, 1, 255, 0, 0, 0xFFFFFFFFFFFFFFFF, 0xFFFFFFFFFFFFFFFF⟩,
  ⟨Obj.SHELLS_WITHDRAWN, .u64, .rc, false, 1, 255, 0, 0, 0xFFFFFFFFFFFFFFFF, 0xFFFFFFFFFFFFFFFF⟩]

/-- Area 40h. -/
def objArea40 : List ObjRow := [
  ⟨Obj.SQUAD_MODE, .enum, .rws, false, 0, 11, 1, 0, 2, 255⟩,
  ⟨Obj.SQUAD_STATE, .enum, .r, false, 0, 11, 0, 0, 255, 255⟩,
  ⟨Obj.SQUAD_FREQ, .u16, .rws, false, 0, 11, 2500, 0, 65535, 65535⟩,
  ⟨Obj.SQUAD_FREQ_ACTUAL, .u16, .r, false, 0, 11, 0, 0, 65535, 65535⟩,
  ⟨Obj.DISPATCH_SQUADS, .bits32, .rw, true, 0, 3, 0, 0, 0xFFFFFFFF, 0xFFFFFFFF⟩,
  ⟨Obj.DISPATCH_PRIORITY, .u8, .rw, true, 0, 3, 0, 0, 3, 255⟩,
  ⟨Obj.RESERVED_THREADS, .u8, .rw, true, 0, 11, 0, 0, 255, 255⟩,
  ⟨Obj.INSTR_BUDGET, .u16, .rw, true, 0, 0, 4096, 16, 65535, 65535⟩,
  ⟨Obj.CARD_STORE_USED, .u16, .r, false, 0, 0, 0, 0, 65535, 65535⟩,
  ⟨Obj.CARD_WAITS, .u64, .rc, false, 0, 3, 0, 0, 0xFFFFFFFFFFFFFFFF, 0xFFFFFFFFFFFFFFFF⟩,
  ⟨Obj.SQUAD_LOAD, .u16, .r, false, 0, 11, 0, 0, 65535, 65535⟩,
  ⟨Obj.RUNS, .u64, .rc, false, 0, 11, 0, 0, 0xFFFFFFFFFFFFFFFF, 0xFFFFFFFFFFFFFFFF⟩,
  ⟨Obj.THREAD_FAULTS, .u64, .rc, false, 0, 11, 0, 0, 0xFFFFFFFFFFFFFFFF, 0xFFFFFFFFFFFFFFFF⟩,
  ⟨Obj.BUDGET_FAULTS, .u64, .rc, false, 0, 11, 0, 0, 0xFFFFFFFFFFFFFFFF, 0xFFFFFFFFFFFFFFFF⟩,
  ⟨Obj.LOST_SLOTS, .u64, .rc, true, 0, 11, 0, 0, 0xFFFFFFFFFFFFFFFF, 0xFFFFFFFFFFFFFFFF⟩,
  ⟨Obj.PROGRAM_DROPS, .u64, .rc, false, 0, 11, 0, 0, 0xFFFFFFFFFFFFFFFF, 0xFFFFFFFFFFFFFFFF⟩,
  ⟨Obj.FAULT_CARDS, .blob, .r, false, 0, 0, 0, 0, 0, 0⟩,
  ⟨Obj.FAULT_CARDS_LOST, .u64, .rc, false, 0, 0, 0, 0, 0xFFFFFFFFFFFFFFFF, 0xFFFFFFFFFFFFFFFF⟩,
  ⟨Obj.FAULT_ALARM, .u32, .rw, true, 0, 0, 1000, 0, 0xFFFFFFFF, 0xFFFFFFFF⟩,
  ⟨Obj.ENGINE_HOLDS, .u64, .rc, false, 0, 0, 0, 0, 0xFFFFFFFFFFFFFFFF, 0xFFFFFFFFFFFFFFFF⟩,
  ⟨Obj.SQUAD_EVENT, .bool, .w, true, 0, 11, 0, 0, 1, 1⟩,
  ⟨Obj.STOPWATCH_LIMIT, .u32, .rw, true, 0, 0, 100000, 1000, 0x989680, 0xFFFFFFFF⟩,
  ⟨Obj.DRAIN_LIMIT, .u32, .rw, true, 0, 0, 1000, 10, 100000, 0xFFFFFFFF⟩,
  ⟨Obj.THREADS_BUSY, .u8, .r, false, 0, 11, 0, 0, 255, 255⟩,
  ⟨Obj.THREADS_STOPPED, .u64, .rc, false, 0, 11, 0, 0, 0xFFFFFFFFFFFFFFFF, 0xFFFFFFFFFFFFFFFF⟩,
  ⟨Obj.TOKEN_TIMEOUTS, .u64, .rc, false, 0, 0, 0, 0, 0xFFFFFFFFFFFFFFFF, 0xFFFFFFFFFFFFFFFF⟩,
  ⟨Obj.RELAY_CARD_RESERVE, .u16, .rw, true, 0, 0, 2048, 0, 8192, 65535⟩,
  ⟨Obj.SLOW_ENTRY, .u8, .rw, false, 0, 255, 1, 0, 255, 255⟩,
  ⟨Obj.TOKEN_LIMIT, .u32, .rw, true, 0, 0, 50, 1, 10000, 0xFFFFFFFF⟩]

/-- Area 41h. -/
def objArea41 : List ObjRow := [
  ⟨Obj.IMAGE, .blob, .r, false, 0, 11, 0, 0, 0, 0⟩,
  ⟨Obj.IMAGE_PENDING, .blob, .rw, true, 0, 11, 0, 0, 0, 0⟩,
  ⟨Obj.IMAGE_COMMIT, .bits32, .w, true, 0, 0, 0, 0, 0xFFFFFFFF, 0xFFFFFFFF⟩,
  ⟨Obj.IMAGE_SWAP, .bits32, .r, false, 0, 0, 0, 0, 0xFFFFFFFF, 0xFFFFFFFF⟩,
  ⟨Obj.IMAGE_ID, .u32, .r, false, 0, 11, 0, 0, 0xFFFFFFFF, 0xFFFFFFFF⟩,
  ⟨Obj.RELAY_PROGRAM_ID, .u32, .r, false, 0, 0, 0, 0, 0xFFFFFFFF, 0xFFFFFFFF⟩]

/-- Area 50h. -/
def objArea50 : List ObjRow := [
  ⟨Obj.PARTITION_SIZES, .blob, .rws, true, 0, 0, 0, 0, 0, 0⟩,
  ⟨Obj.PARTITION_FREE, .u32, .r, false, 0, 3, 0, 0, 0xFFFFFFFF, 0xFFFFFFFF⟩,
  ⟨Obj.PARTITION_RESERVED, .u32, .r, false, 0, 3, 0, 0, 0xFFFFFFFF, 0xFFFFFFFF⟩,
  ⟨Obj.ALLOC_FAILS, .u64, .rc, false, 0, 3, 0, 0, 0xFFFFFFFFFFFFFFFF, 0xFFFFFFFFFFFFFFFF⟩,
  ⟨Obj.DOUBLE_FREES, .u64, .rc, false, 0, 0, 0, 0, 0xFFFFFFFFFFFFFFFF, 0xFFFFFFFFFFFFFFFF⟩,
  ⟨Obj.STALE_BATONS, .u64, .rc, false, 0, 0, 0, 0, 0xFFFFFFFFFFFFFFFF, 0xFFFFFFFFFFFFFFFF⟩,
  ⟨Obj.PARTITION_MIN_FREE, .u32, .rc, false, 0, 3, 0, 0, 0xFFFFFFFF, 0xFFFFFFFF⟩,
  ⟨Obj.INGRESS_RESERVE, .u32, .r, false, 0, 13, 2861, 0, 0xFFFFFFFF, 0xFFFFFFFF⟩,
  ⟨Obj.RETAIN_FAILS, .u64, .rc, false, 0, 0, 0, 0, 0xFFFFFFFFFFFFFFFF, 0xFFFFFFFFFFFFFFFF⟩,
  ⟨Obj.REF_SATURATIONS, .u64, .rc, false, 0, 0, 0, 0, 0xFFFFFFFFFFFFFFFF, 0xFFFFFFFFFFFFFFFF⟩,
  ⟨Obj.HOST_RESERVE, .u32, .rws, true, 14, 15, 1024, 0, 0xFFFFFFFF, 0xFFFFFFFF⟩]

/-- Area 51h. -/
def objArea51 : List ObjRow := [
  ⟨Obj.QUEUE_DESC, .blob, .rw, false, 0, 16383, 0, 0, 0, 0⟩,
  ⟨Obj.QUEUE_BLOCK, .bits32, .rw, true, 0, 255, 0, 0, 0xFFFFFFFF, 0xFFFF1FFF⟩,
  ⟨Obj.QUEUE_STATUS, .blob, .r, false, 0, 16383, 0, 0, 0, 0⟩,
  ⟨Obj.QUEUE_RING, .blob, .rw, false, 0, 16383, 0, 0, 0, 0⟩,
  ⟨Obj.ENQUEUED, .u64, .rc, false, 0, 16383, 0, 0, 0xFFFFFFFFFFFFFFFF, 0xFFFFFFFFFFFFFFFF⟩,
  ⟨Obj.DEQUEUED, .u64, .rc, false, 0, 16383, 0, 0, 0xFFFFFFFFFFFFFFFF, 0xFFFFFFFFFFFFFFFF⟩,
  ⟨Obj.LIMIT_DROPS, .u64, .rc, false, 0, 16383, 0, 0, 0xFFFFFFFFFFFFFFFF, 0xFFFFFFFFFFFFFFFF⟩,
  ⟨Obj.MARSHAL_DROPS, .u64, .rc, false, 0, 16383, 0, 0, 0xFFFFFFFFFFFFFFFF, 0xFFFFFFFFFFFFFFFF⟩,
  ⟨Obj.ADMISSION_DROPS, .u64, .rc, false, 0, 16383, 0, 0, 0xFFFFFFFFFFFFFFFF, 0xFFFFFFFFFFFFFFFF⟩,
  ⟨Obj.DOWN_DROPS, .u64, .rc, false, 0, 16383, 0, 0, 0xFFFFFFFFFFFFFFFF, 0xFFFFFFFFFFFFFFFF⟩,
  ⟨Obj.CE_MARKS, .u64, .rc, false, 0, 16383, 0, 0, 0xFFFFFFFFFFFFFFFF, 0xFFFFFFFFFFFFFFFF⟩,
  ⟨Obj.BYTES_OUT, .u64, .rc, false, 0, 16383, 0, 0, 0xFFFFFFFFFFFFFFFF, 0xFFFFFFFFFFFFFFFF⟩,
  ⟨Obj.NO_CLASS_QUEUE, .u64, .rc, false, 0, 255, 0, 0, 0xFFFFFFFFFFFFFFFF, 0xFFFFFFFFFFFFFFFF⟩,
  ⟨Obj.DOORBELL_ERRORS, .u64, .rc, false, 0, 0, 0, 0, 0xFFFFFFFFFFFFFFFF, 0xFFFFFFFFFFFFFFFF⟩]

/-- Area 52h. -/
def objArea52 : List ObjRow := [
  ⟨Obj.QUEUE_PACER, .blob, .rw, false, 0, 16383, 0, 0, 0, 0⟩,
  ⟨Obj.TENANT_PACER, .blob, .rw, false, 0, 4095, 0, 0, 0, 0⟩,
  ⟨Obj.PACER_INTERVAL, .u32, .rw, true, 0, 0, 256, 64, 16384, 0xFFFFFFFF⟩,
  ⟨Obj.TENANT_PACER_TOKENS, .s32, .r, true, 0, 4095, 0, 0, 0xFFFFFFFF, 0xFFFFFFFF⟩,
  ⟨Obj.QUEUE_PACER_TOKENS, .s32, .r, true, 0, 16383, 0, 0, 0xFFFFFFFF, 0xFFFFFFFF⟩,
  ⟨Obj.MARSHAL, .blob, .rw, false, 0, 8191, 0, 0, 0, 0⟩,
  ⟨Obj.MARSHAL_GREEN, .u64, .rc, false, 0, 8191, 0, 0, 0xFFFFFFFFFFFFFFFF, 0xFFFFFFFFFFFFFFFF⟩,
  ⟨Obj.MARSHAL_YELLOW, .u64, .rc, false, 0, 8191, 0, 0, 0xFFFFFFFFFFFFFFFF, 0xFFFFFFFFFFFFFFFF⟩,
  ⟨Obj.MARSHAL_RED, .u64, .rc, false, 0, 8191, 0, 0, 0xFFFFFFFFFFFFFFFF, 0xFFFFFFFFFFFFFFFF⟩,
  ⟨Obj.GUARANTEE_CAPACITY, .u32, .r, false, 0, 15, 0, 0, 0xFFFFFFFF, 0xFFFFFFFF⟩,
  ⟨Obj.GUARANTEE_SHORTFALLS, .u64, .rc, false, 0, 15, 0, 0, 0xFFFFFFFFFFFFFFFF, 0xFFFFFFFFFFFFFFFF⟩]

/-- Area 60h. -/
def objArea60 : List ObjRow := [
  ⟨Obj.TENANT_STATE, .bits32, .r, false, 1, 255, 0, 0, 0xFFFFFFFF, 0xFFFFFFFF⟩,
  ⟨Obj.FAULT_LOG, .blob, .r, false, 1, 255, 0, 0, 0, 0⟩,
  ⟨Obj.FAULT_LOG_CLEAR, .bool, .w, false, 1, 255, 0, 0, 1, 1⟩,
  ⟨Obj.TENANT_MEMBERS, .bits32, .rw, false, 1, 255, 0, 0, 0xFFFFFFFF, 319⟩,
  ⟨Obj.LAST_PHOTO, .u64, .r, false, 1, 255, 281474976710655, 0, 0xFFFFFFFFFFFFFFFF, 0xFFFFFFFFFFFFFFFF⟩,
  ⟨Obj.PHOTO_STATUS, .enum, .r, false, 1, 255, 0, 0, 255, 255⟩,
  ⟨Obj.PHOTO_RESTORE, .u64, .w, false, 1, 255, 0, 0, 0xFFFFFFFFFFFFFFFF, 0xFFFFFFFFFFFFFFFF⟩,
  ⟨Obj.RESETS, .u64, .rc, false, 1, 255, 0, 0, 0xFFFFFFFFFFFFFFFF, 0xFFFFFFFFFFFFFFFF⟩]

/-- Area 61h. -/
def objArea61 : List ObjRow := [
  ⟨Obj.GLOBAL_OP, .blob, .w, false, 0, 0, 0, 0, 0, 0⟩,
  ⟨Obj.OP_SCHEDULE, .blob, .r, false, 0, 0, 0, 0, 0, 0⟩,
  ⟨Obj.OP_LEAD, .u32, .rw, true, 0, 0, 50000, 2000, 0x989680, 0xFFFFFFFF⟩,
  ⟨Obj.WAVE_LEAD, .u32, .rw, true, 0, 0, 10000, 2000, 1000000, 0xFFFFFFFF⟩,
  ⟨Obj.LATE_OPS, .u64, .rc, false, 0, 0, 0, 0, 0xFFFFFFFFFFFFFFFF, 0xFFFFFFFFFFFFFFFF⟩,
  ⟨Obj.SKIPPED_OPS, .u64, .rc, false, 0, 0, 0, 0, 0xFFFFFFFFFFFFFFFF, 0xFFFFFFFFFFFFFFFF⟩,
  ⟨Obj.WAVE_CHILDREN, .bits32, .r, false, 0, 0, 0, 0, 0xFFFFFFFF, 0xFFFFFFFF⟩,
  ⟨Obj.BARRIER_ARRIVE, .u16, .w, false, 1, 255, 0, 0, 65535, 65535⟩,
  ⟨Obj.BARRIER_STATUS, .u64, .r, false, 1, 255, 0, 0, 0xFFFFFFFFFFFFFFFF, 0xFFFFFFFFFFFFFFFF⟩,
  ⟨Obj.BROADCAST_SEND, .u64, .w, false, 1, 255, 0, 0, 0xFFFFFFFFFFFFFFFF, 0xFFFFFFFFFFFFFFFF⟩,
  ⟨Obj.BROADCAST_VALUE, .u64, .r, false, 1, 255, 0, 0, 0xFFFFFFFFFFFFFFFF, 0xFFFFFFFFFFFFFFFF⟩,
  ⟨Obj.HALT_REQUEST, .bool, .w, false, 1, 255, 0, 0, 1, 1⟩,
  ⟨Obj.WAVE_ERRORS, .u64, .rc, false, 0, 0, 0, 0, 0xFFFFFFFFFFFFFFFF, 0xFFFFFFFFFFFFFFFF⟩,
  ⟨Obj.HALTS_MERGED, .u64, .rc, false, 0, 0, 0, 0, 0xFFFFFFFFFFFFFFFF, 0xFFFFFFFFFFFFFFFF⟩]

/-- Area 62h. -/
def objArea62 : List ObjRow := [
  ⟨Obj.LOCK, .u64, .rw, false, 0, 63, 0, 0, 0xFFFFFFFFFFFFFFFF, 0xFFFFFFFFFFFFFFFF⟩,
  ⟨Obj.LOCK_CONFIG, .bits32, .rw, true, 0, 63, 0, 0, 0xFFFFFFFF, 65281⟩,
  ⟨Obj.LOCK_ABANDONS, .u64, .rc, false, 0, 0, 0, 0, 0xFFFFFFFFFFFFFFFF, 0xFFFFFFFFFFFFFFFF⟩,
  ⟨Obj.LOCK_VIOLATIONS, .u64, .rc, false, 0, 0, 0, 0, 0xFFFFFFFFFFFFFFFF, 0xFFFFFFFFFFFFFFFF⟩,
  ⟨Obj.ATOMIC_BLOCK, .bits32, .rw, true, 1, 255, 0, 0, 0xFFFFFFFF, 0xFFFFFFFF⟩,
  ⟨Obj.ATOMIC_RANGE_ERRORS, .u64, .rc, false, 0, 0, 0, 0, 0xFFFFFFFFFFFFFFFF, 0xFFFFFFFFFFFFFFFF⟩,
  ⟨Obj.ATOMIC_WORD, .u40, .rw, true, 0, 65535, 0, 0, 0xFFFFFFFFFF, 0xFFFFFFFFFF⟩]

/-- Area 70h. -/
def objArea70 : List ObjRow := [
  ⟨Obj.TRACE_RING, .blob, .rw, false, 1, 255, 0, 0, 0, 0⟩,
  ⟨Obj.TRACE_TRIGGERS, .blob, .rw, false, 1, 255, 0, 0, 0, 0⟩,
  ⟨Obj.TRACE_STATUS, .blob, .r, false, 1, 255, 0, 0, 0, 0⟩,
  ⟨Obj.TRACE_READ, .u64, .rw, false, 1, 255, 0, 0, 0xFFFFFFFFFFFFFFFF, 0xFFFFFFFFFFFFFFFF⟩,
  ⟨Obj.TRACE_ARM, .bool, .w, false, 1, 255, 0, 0, 1, 1⟩,
  ⟨Obj.TRACE_TRIGGER, .bool, .w, false, 1, 255, 0, 0, 1, 1⟩,
  ⟨Obj.TRACE_RECORDS, .u64, .rc, false, 1, 255, 0, 0, 0xFFFFFFFFFFFFFFFF, 0xFFFFFFFFFFFFFFFF⟩,
  ⟨Obj.TRACE_GAPS, .u64, .rc, false, 1, 255, 0, 0, 0xFFFFFFFFFFFFFFFF, 0xFFFFFFFFFFFFFFFF⟩,
  ⟨Obj.TRACE_LOST, .u64, .rc, false, 1, 255, 0, 0, 0xFFFFFFFFFFFFFFFF, 0xFFFFFFFFFFFFFFFF⟩,
  ⟨Obj.UPLOAD, .blob, .rw, false, 1, 255, 0, 0, 0, 0⟩,
  ⟨Obj.SNAP_UPLOAD, .u64, .w, false, 1, 255, 0, 0, 0xFFFFFFFFFFFFFFFF, 0xFFFFFFFFFFFFFFFF⟩,
  ⟨Obj.UPLOAD_FRAMES, .u64, .rc, false, 0, 0, 0, 0, 0xFFFFFFFFFFFFFFFF, 0xFFFFFFFFFFFFFFFF⟩,
  ⟨Obj.BAD_RECORDS, .u64, .rc, false, 0, 0, 0, 0, 0xFFFFFFFFFFFFFFFF, 0xFFFFFFFFFFFFFFFF⟩,
  ⟨Obj.SNAP_AREA, .blob, .rw, false, 1, 255, 0, 0, 0, 0⟩,
  ⟨Obj.SNAP_SLOTS, .blob, .r, false, 1, 255, 0, 0, 0, 0⟩,
  ⟨Obj.RESTORE_FAILS, .u64, .rc, false, 1, 255, 0, 0, 0xFFFFFFFFFFFFFFFF, 0xFFFFFFFFFFFFFFFF⟩]

/-- Area 71h. -/
def objArea71 : List ObjRow := [
  ⟨Obj.DRAM_CONFIG, .blob, .rws, true, 0, 0, 0, 0, 0, 0⟩,
  ⟨Obj.CHANNEL_INFO, .blob, .r, false, 0, 3, 0, 0, 0, 0⟩,
  ⟨Obj.WAYS, .u8, .r, false, 0, 0, 0, 0, 255, 255⟩,
  ⟨Obj.DRAM_SIZE, .u64, .r, false, 0, 0, 0, 0, 0xFFFFFFFFFFFFFFFF, 0xFFFFFFFFFFFFFFFF⟩,
  ⟨Obj.DRAM_DELAYS, .blob, .r, true, 0, 3, 0, 0, 0, 0⟩,
  ⟨Obj.DRAM_SWEEP, .bool, .w, true, 0, 3, 0, 0, 1, 1⟩,
  ⟨Obj.SWEEP_RESULT, .blob, .r, true, 0, 3, 0, 0, 0, 0⟩,
  ⟨Obj.BAR2_ERRORS, .u64, .rc, false, 0, 0, 0, 0, 0xFFFFFFFFFFFFFFFF, 0xFFFFFFFFFFFFFFFF⟩,
  ⟨Obj.USABLE_BW, .u32, .r, false, 0, 3, 0, 0, 0xFFFFFFFF, 0xFFFFFFFF⟩,
  ⟨Obj.DERATED_BW, .u32, .r, false, 0, 0, 0, 0, 0xFFFFFFFF, 0xFFFFFFFF⟩,
  ⟨Obj.RESERVED_BW, .u32, .r, false, 0, 0, 0, 0, 0xFFFFFFFF, 0xFFFFFFFF⟩,
  ⟨Obj.HOST_BW_RESERVE, .u32, .rw, true, 0, 0, 0, 0, 0xFFFFFFFF, 0xFFFFFFFF⟩,
  ⟨Obj.STARTER_BW, .u32, .rw, true, 0, 0, 4000, 1000, 16000, 0xFFFFFFFF⟩,
  ⟨Obj.BW_SHORTFALLS, .u64, .rc, false, 0, 0, 0, 0, 0xFFFFFFFFFFFFFFFF, 0xFFFFFFFFFFFFFFFF⟩,
  ⟨Obj.REFRESH_MODE, .enum, .r, false, 0, 3, 0, 0, 255, 255⟩,
  ⟨Obj.DIMM_TEMP, .s32, .r, false, 0, 3, 0, 0, 0xFFFFFFFF, 0xFFFFFFFF⟩,
  ⟨Obj.ECC_CORRECTED, .u64, .rc, false, 0, 3, 0, 0, 0xFFFFFFFFFFFFFFFF, 0xFFFFFFFFFFFFFFFF⟩,
  ⟨Obj.ECC_UNCORRECTABLE, .u64, .rc, false, 0, 3, 0, 0, 0xFFFFFFFFFFFFFFFF, 0xFFFFFFFFFFFFFFFF⟩,
  ⟨Obj.POISON_MAP, .blob, .r, false, 0, 0, 0, 0, 0, 0⟩,
  ⟨Obj.POISON_ENTRIES, .u16, .r, false, 0, 0, 0, 0, 65535, 65535⟩,
  ⟨Obj.POISON_OVERFLOWS, .u64, .rc, false, 0, 0, 0, 0, 0xFFFFFFFFFFFFFFFF, 0xFFFFFFFFFFFFFFFF⟩,
  ⟨Obj.SCRUB_PERIOD, .u32, .rws, true, 0, 0, 24, 1, 720, 0xFFFFFFFF⟩,
  ⟨Obj.SCRUB_PASS_TIME, .u32, .r, false, 0, 0, 0, 0, 0xFFFFFFFF, 0xFFFFFFFF⟩,
  ⟨Obj.SCRUB_LATE, .u64, .rc, false, 0, 0, 0, 0, 0xFFFFFFFFFFFFFFFF, 0xFFFFFFFFFFFFFFFF⟩]

/-- Area 80h. -/
def objArea80 : List ObjRow := [
  ⟨Obj.CORE_STATE, .enum, .r, false, 0, 3, 0, 0, 255, 255⟩,
  ⟨Obj.CORE_LOAD, .u16, .r, false, 0, 3, 0, 0, 65535, 65535⟩,
  ⟨Obj.DNF_RECORD, .blob, .r, false, 0, 3, 0, 0, 0, 0⟩,
  ⟨Obj.DNF_COUNT, .u64, .rc, false, 0, 3, 0, 0, 0xFFFFFFFFFFFFFFFF, 0xFFFFFFFFFFFFFFFF⟩,
  ⟨Obj.HW_RECOVERIES, .u64, .rc, false, 0, 3, 0, 0, 0xFFFFFFFFFFFFFFFF, 0xFFFFFFFFFFFFFFFF⟩,
  ⟨Obj.WATCHDOG_PERIOD, .u32, .rw, true, 0, 0, 10000, 100, 1000000, 0xFFFFFFFF⟩,
  ⟨Obj.FIRMWARE_ID, .u32, .r, false, 0, 0, 0, 0, 0xFFFFFFFF, 0xFFFFFFFF⟩,
  ⟨Obj.WORKQ_CONFIG, .blob, .rw, true, 0, 6, 0, 0, 0, 0⟩,
  ⟨Obj.WORKQ_DEPTH, .u16, .r, false, 0, 6, 0, 0, 65535, 65535⟩,
  ⟨Obj.WORKQ_HIGH, .u16, .rc, false, 0, 6, 0, 0, 65535, 65535⟩,
  ⟨Obj.WORKQ_OVERFLOWS, .u64, .rc, false, 0, 6, 0, 0, 0xFFFFFFFFFFFFFFFF, 0xFFFFFFFFFFFFFFFF⟩,
  ⟨Obj.BUSY_REPLIES, .u64, .rc, false, 0, 6, 0, 0, 0xFFFFFFFFFFFFFFFF, 0xFFFFFFFFFFFFFFFF⟩,
  ⟨Obj.WORKQ_SERVED, .u64, .rc, false, 0, 6, 0, 0, 0xFFFFFFFFFFFFFFFF, 0xFFFFFFFFFFFFFFFF⟩,
  ⟨Obj.WORKQ_WAIT, .u32, .r, false, 0, 6, 0, 0, 0xFFFFFFFF, 0xFFFFFFFF⟩,
  ⟨Obj.EXT_MODULE, .blob, .rw, true, 0, 0, 0, 0, 0, 0⟩,
  ⟨Obj.EXT_STATE, .enum, .r, false, 0, 0, 0, 0, 255, 255⟩,
  ⟨Obj.EXT_BUDGET, .u32, .rw, true, 0, 0, 1000000, 1000, 0x5F5E100, 0xFFFFFFFF⟩,
  ⟨Obj.EXT_CALL, .blob, .rw, false, 0, 0, 0, 0, 0, 0⟩,
  ⟨Obj.EXT_FAULTS, .u64, .rc, false, 0, 0, 0, 0, 0xFFFFFFFFFFFFFFFF, 0xFFFFFFFFFFFFFFFF⟩,
  ⟨Obj.EXT_LOG, .blob, .r, false, 0, 0, 0, 0, 0, 0⟩]

/-- Area 90h. -/
def objArea90 : List ObjRow := [
  ⟨Obj.PRINCIPAL, .bits32, .r, false, 0, 0, 0, 0, 0xFFFFFFFF, 0xFFFFFFFF⟩,
  ⟨Obj.SESSION_LEVEL, .bool, .rw, false, 0, 0, 0, 0, 1, 1⟩,
  ⟨Obj.SESSION_IDLE, .u32, .rw, true, 0, 0, 600, 10, 86400, 0xFFFFFFFF⟩,
  ⟨Obj.VIOLATIONS, .u64, .rc, false, 0, 258, 0, 0, 0xFFFFFFFFFFFFFFFF, 0xFFFFFFFFFFFFFFFF⟩,
  ⟨Obj.ATTENTION, .u8, .r, false, 0, 0, 0, 0, 255, 255⟩,
  ⟨Obj.ATTENTION_LOG, .blob, .rc, false, 0, 0, 0, 0, 0, 0⟩,
  ⟨Obj.ATTENTION_LOST, .u64, .rc, false, 0, 0, 0, 0, 0xFFFFFFFFFFFFFFFF, 0xFFFFFFFFFFFFFFFF⟩,
  ⟨Obj.FIELD_WRITE_AREAS, .blob, .rws, true, 0, 0, 0, 0, 0, 0⟩,
  ⟨Obj.EXPERT_RIGHTS, .bits32, .rws, true, 0, 0, 1, 0, 0xFFFFFFFF, 3⟩,
  ⟨Obj.HOST_MGMT_MAC, .u64, .rws, true, 14, 15, 0, 0, 0xFFFFFFFFFFFFFFFF, 0xFFFFFFFFFFFFFFFF⟩,
  ⟨Obj.FIELD_NODE_ID, .u8, .r, false, 0, 0, 255, 0, 255, 255⟩,
  ⟨Obj.FIELD_EPOCH, .u16, .r, false, 0, 0, 0, 0, 65535, 65535⟩,
  ⟨Obj.FIELD_MASTER, .bool, .rws, true, 0, 0, 0, 0, 1, 1⟩,
  ⟨Obj.CALL_ROOM_PERIOD, .u32, .rws, true, 0, 0, 10000, 100, 0x36EE80, 0xFFFFFFFF⟩,
  ⟨Obj.FIELD_NODES, .blob, .r, false, 0, 0, 0, 0, 0, 0⟩,
  ⟨Obj.CALL_ROOM_WINDOW, .u8, .rws, true, 0, 0, 16, 1, 64, 255⟩,
  ⟨Obj.PLCA_NODE_COUNT, .u8, .rws, true, 0, 0, 32, 2, 32, 255⟩,
  ⟨Obj.FIELD_FCS_ERRORS, .u64, .rc, false, 0, 0, 0, 0, 0xFFFFFFFFFFFFFFFF, 0xFFFFFFFFFFFFFFFF⟩,
  ⟨Obj.FIELD_COLLISIONS, .u64, .rc, false, 0, 0, 0, 0, 0xFFFFFFFFFFFFFFFF, 0xFFFFFFFFFFFFFFFF⟩,
  ⟨Obj.MESSAGE_DISCARDS, .u64, .rc, false, 0, 0, 0, 0, 0xFFFFFFFFFFFFFFFF, 0xFFFFFFFFFFFFFFFF⟩,
  ⟨Obj.CACHED_REPLIES, .u64, .rc, false, 0, 0, 0, 0, 0xFFFFFFFFFFFFFFFF, 0xFFFFFFFFFFFFFFFF⟩,
  ⟨Obj.SEQ_REFUSALS, .u64, .rc, false, 0, 0, 0, 0, 0xFFFFFFFFFFFFFFFF, 0xFFFFFFFFFFFFFFFF⟩,
  ⟨Obj.MAILBOX_ERRORS, .u64, .rc, false, 0, 0, 0, 0, 0xFFFFFFFFFFFFFFFF, 0xFFFFFFFFFFFFFFFF⟩,
  ⟨Obj.ANSWERS_ABANDONED, .u64, .rc, false, 0, 0, 0, 0, 0xFFFFFFFFFFFFFFFF, 0xFFFFFFFFFFFFFFFF⟩,
  ⟨Obj.CALL_ROOM_ERRORS, .u64, .rc, false, 0, 0, 0, 0, 0xFFFFFFFFFFFFFFFF, 0xFFFFFFFFFFFFFFFF⟩]

/-- Area A0h. -/
def objAreaA0 : List ObjRow := [
  ⟨Obj.ERROR_LOG, .blob, .r, false, 0, 0, 0, 0, 0, 0⟩,
  ⟨Obj.ERROR_LOG_CLEAR, .bool, .w, false, 0, 0, 0, 0, 1, 1⟩,
  ⟨Obj.ERROR_LOG_OVERWRITTEN, .u64, .rc, false, 0, 0, 0, 0, 0xFFFFFFFFFFFFFFFF, 0xFFFFFFFFFFFFFFFF⟩,
  ⟨Obj.SRAM_CORRECTED, .u64, .rc, false, 0, 31, 0, 0, 0xFFFFFFFFFFFFFFFF, 0xFFFFFFFFFFFFFFFF⟩,
  ⟨Obj.SRAM_UNCORRECTABLE, .u64, .rc, false, 0, 31, 0, 0, 0xFFFFFFFFFFFFFFFF, 0xFFFFFFFFFFFFFFFF⟩,
  ⟨Obj.HALT_STATE, .enum, .r, false, 0, 0, 0, 0, 255, 255⟩]

/-- Area B0h. -/
def objAreaB0 : List ObjRow := [
  ⟨Obj.CAL_BLOCK, .blob, .rw, true, 0, 0, 0, 0, 0, 0⟩,
  ⟨Obj.CAL_STATUS, .blob, .r, false, 0, 0, 0, 0, 0, 0⟩,
  ⟨Obj.CAL_SERDES, .blob, .rw, true, 0, 16, 0, 0, 0, 0⟩,
  ⟨Obj.CAL_THERMAL, .blob, .rw, true, 0, 0, 0, 0, 0, 0⟩,
  ⟨Obj.CAL_DRAM, .blob, .rw, true, 0, 3, 0, 0, 0, 0⟩,
  ⟨Obj.CAL_TIME_PATH, .blob, .rw, true, 0, 0, 0, 0, 0, 0⟩,
  ⟨Obj.CAL_COMMIT, .bool, .w, true, 0, 0, 0, 0, 1, 1⟩,
  ⟨Obj.CAL_DISCARD, .bool, .w, true, 0, 0, 0, 0, 1, 1⟩,
  ⟨Obj.PERSIST_STATUS, .blob, .r, false, 0, 0, 0, 0, 0, 0⟩,
  ⟨Obj.PERSIST_REJECTS, .u64, .rc, false, 0, 0, 0, 0, 0xFFFFFFFFFFFFFFFF, 0xFFFFFFFFFFFFFFFF⟩,
  ⟨Obj.PERSIST_ERASE, .bool, .w, true, 0, 0, 0, 0, 1, 1⟩,
  ⟨Obj.FLASH_INFO, .blob, .r, false, 0, 0, 0, 0, 0, 0⟩,
  ⟨Obj.FLASH_ERRORS, .u64, .rc, false, 0, 0, 0, 0, 0xFFFFFFFFFFFFFFFF, 0xFFFFFFFFFFFFFFFF⟩,
  ⟨Obj.FW_IMAGE, .blob, .w, true, 0, 1, 0, 0, 0, 0⟩,
  ⟨Obj.FW_SLOT, .blob, .r, false, 0, 1, 0, 0, 0, 0⟩,
  ⟨Obj.FW_BOOT_SLOT, .enum, .rws, true, 0, 0, 0, 0, 1, 255⟩,
  ⟨Obj.FW_RUNNING, .enum, .r, false, 0, 0, 0, 0, 255, 255⟩]

/-- The rows of an area (Table 14.1). -/
def objArea : Nat → List ObjRow
  | 0x10 => objArea10
  | 0x11 => objArea11
  | 0x12 => objArea12
  | 0x13 => objArea13
  | 0x20 => objArea20
  | 0x21 => objArea21
  | 0x30 => objArea30
  | 0x31 => objArea31
  | 0x32 => objArea32
  | 0x33 => objArea33
  | 0x38 => objArea38
  | 0x40 => objArea40
  | 0x41 => objArea41
  | 0x50 => objArea50
  | 0x51 => objArea51
  | 0x52 => objArea52
  | 0x60 => objArea60
  | 0x61 => objArea61
  | 0x62 => objArea62
  | 0x70 => objArea70
  | 0x71 => objArea71
  | 0x80 => objArea80
  | 0x90 => objArea90
  | 0xA0 => objAreaA0
  | 0xB0 => objAreaB0
  | _ => []

/-- The row of an object number. -/
def objRow? (o : Nat) : Option ObjRow := (objArea (o / 256)).find? (fun r => r.code == o)

/-- Whether an object has an instance (R405, R406); 2105h has instance 8p + c for c of 2 to 7 only (R132). -/
def objHas (r : ObjRow) (i : Nat) : Bool := r.lo ≤ i && i ≤ r.hi && (r.code != Obj.CREDIT_INIT || i % 8 ≥ 2)

/-- The key under which an instance of an object stands in the state's tables. -/
def objKey (o i : Nat) : Nat := o * 2 ^ 20 + i

end Sys2Proof.Machine
end

