-- ==== Sys2Proof/Machine/Types.lean ====
section
/-! DEFINITION. The records the state is made of, chapter by chapter of the manual. Times are in the units of TIME80,
2⁻¹⁶ ns (R31), unless a name says otherwise. -/

namespace Sys2Proof.Machine

/-- A gun time or a duration, in units of 2⁻¹⁶ ns (Table 2.1). -/
abbrev Time := Nat

/-- The result codes of Table 13.5. -/
inductive Result where
  | ok | busy | noObject | badType | range | overcommit | partialRes | state | seq | internal
deriving DecidableEq, Repr

/-- What the last object access answered: result, attention, retry hint and data (R383). -/
structure Reply where
  result : Result
  data : Blob
  hint : Nat
deriving DecidableEq, Repr

/-! ## Time (chapter 02) -/

/-- TIME_ROLE, 1202h. -/
inductive Role where
  | anchor | locked | acquiring | holdover | freeRun
deriving DecidableEq, Repr

/-- The last announce of a fabric port and when it came (R40). -/
structure Heard where
  body : AnnounceBody
  arrived : Time
deriving DecidableEq, Repr

/-- The two-way exchange of a port (R42): the four times, the sequence, and the exchanges completed since UP (R120). -/
structure Exchange where
  seq : Nat
  t1 : Time
  t2 : Time
  t3 : Time
  t4 : Time
  mean : Option Int
  done : Nat
deriving DecidableEq, Repr

/-- The PTP ordinary clock (R46): the dataset and the port identity of the master it follows, when its last Announce came and how
long that holds, in ticks; a two-step Sync that waits for its Follow_Up (sequence, arrival, correction), the last pair of t1 with its
corrections and t2, the sequence of the last Delay_Req and its departure, and the mean path delay. -/
structure PtpClock where
  dataset : Blob
  source : Blob
  heardAt : Nat
  holds : Nat
  sync : Option (Nat × Time × Int)
  pair : Option (Int × Time)
  reqSeq : Nat
  reqAt : Option Time
  delay : Option Int
deriving DecidableEq, Repr

/-- A PTP message that a run has released to the time engine: port and sub-port, its time stamp, and the frame. -/
structure PtpFrame where
  port : Nat
  sub : Nat
  at_ : Time
  frame : Blob
deriving DecidableEq, Repr

/-- The time engine; `formerRx` holds the receive-window lists that the last swap replaced (R65). `rate` corrects the counter in 2⁻³² ns a tick and `acc` carries its fraction. -/
structure TimeSt where
  gun : Time
  rate : Int
  acc : Int
  ticks : Nat
  role : Role
  parent : Option Nat
  hops : Nat
  heard : Tab Heard
  lastBetter : Time
  exch : Tab Exchange
  everLocked : Bool
  est : Int
  estFrom : Option Time
  lockRun : Nat
  stepWanted : Bool
  offMark : Bool
  lowSince : Option Time
  tclkLost : Bool
  lap : Nat
  lapStart : Time
  next : Time
  ppsFirst : Bool
  ppsLast : Time
  ppsBad : Nat
  ppsGood : Nat
  ppsPhases : List Time
  slew : Int
  ppsOut : Bool
  staged : List Nat
  adopt : Option (Nat × Nat)
  prevStart : Time
  swapped : List Nat
  formerRx : Tab Blob
  ptp : PtpClock
  ptpIn : List PtpFrame
deriving DecidableEq, Repr

/-! ## Ports (chapter 04) -/

/-- The states of Table 4.9. -/
inductive PortState where
  | disabled | down | train | align | exchange | up | isolated
deriving DecidableEq, Repr

/-- A control flit that waits to leave (Table 4.7), or has left. -/
inductive CtlFlit where
  | idle
  | sync (seq : Nat) (prevSeq : Nat) (t4 : Time)
  | reply (seq : Nat) (t2 : Time)
  | lapMarker (vc lap : Nat)
  | missedSlab (t slab lap : Nat)
  | wave (t op wave dir value : Nat)
  | credit (limits : List Nat)
  | announce (a : AnnounceBody)
  | link (op lane : Nat)
  | sleep (wake : Time)
  | abort (reason : Nat)
deriving DecidableEq, Repr

/-- The sleep of a port's transmit lanes (R66 to R69). -/
inductive SleepPhase where
  | awake
  | entering (runEnd : Time)
  | preWake (runEnd : Time)
  | waking (granted : Time)
deriving DecidableEq, Repr

/-- A copy in a queue (R276, R277): its frame, the baton and cells it holds and their partition, its wire bytes, whether it
leaves with CE, its edit entry, and for a repair REPAIR = 1 (R99). -/
structure Copy where
  fid : Nat
  baton : Nat
  cells : Nat
  part : Nat
  wire : Nat
  ce : Bool
  edit : Nat
  repair : Bool
deriving DecidableEq, Repr

/-- A copy on the wire of a sub-port: its queue, its class, and when it started. -/
structure OnWire where
  q : Nat
  cls : Nat
  copy : Copy
  started : Time
deriving DecidableEq, Repr

/-- One port, 0 to 16 as in R132; `holdFrom` says since when the hold time of a class runs (R121), `polarity` and `reversed` what TRAIN
detected (R117), `fellBack` that the receive direction has fallen back (R118), `ctlRun` the control flits sent at the boundary before a
frame that is ready (R112), `wireFree` when the last control flit ends at the pin, and `subDown` the host sub-ports that have lost a lane (R123). -/
structure Port where
  st : PortState
  nb : Option Capability
  rxLanes : Nat
  txLanes : Nat
  fec : Nat
  cwseq : Option Nat
  uncRun : Nat
  burst : Nat
  slips : List Time
  trainAt : Time
  limit : Tab Nat
  sent : Tab Nat
  freed : Tab Nat
  initial : Tab Nat
  held : List Nat
  holdFrom : Tab Time
  rx : Tab Nat
  rxSleepUntil : Time
  sel : Tab Nat
  tx : Tab OnWire
  ctl : List CtlFlit
  sleep : SleepPhase
  sleptAt : Time
  gateRow : Nat
  paused : Tab Time
  xoff : List Nat
  vtime : Tab Nat
  breakout : Nat
  polarity : Nat
  reversed : Bool
  fellBack : Bool
  ctlRun : Nat
  wireFree : Time
  subDown : List Nat
deriving DecidableEq, Repr

/-! ## Frames, parsing and classification (chapter 05) -/

/-- The frame flags of Table 5.5. -/
structure CardFlags where
  depthExceeded : Bool
  lenConflict : Bool
  lenPending : Bool
  fragFirst : Bool
  fragLater : Bool
  fragNoEntry : Bool
  opaqueBit : Bool
  slow : Bool
  drop : Bool
  trailer : Bool
  l3CsumBad : Bool
deriving DecidableEq, Repr

/-- The parse card of Table 5.4. -/
structure Card where
  source : Nat
  port : Nat
  sub : Nat
  cls : Nat
  tenant : Nat
  od : Nat
  baton : Nat
  frameLen : Nat
  depth : Nat
  inner : Nat
  flags : CardFlags
  stamp : Nat
  program : Nat
  edit : Nat
  tags : Nat
  fragEntry : Nat
  results : List (Option (Nat × Nat))
  metaW : List Nat
  headers : List (Nat × Nat)
deriving DecidableEq, Repr

/-- How far an arriving frame has come. -/
inductive FrameEnd where
  | arriving
  | good
  | bad (k : EndKind)
deriving DecidableEq, Repr

/-- What of the pool a frame in ingress is charged to (R268, R269). -/
inductive Charge where
  | none
  | port (p c halves : Nat)
  | hostPort (p halves : Nat)
  | shared (part cells : Nat)
  | relay
deriving DecidableEq, Repr

/-- A frame inside the device. `bytes` are the stored bytes of R262 as they arrived or were submitted; what the pool
holds of them stands in its cells. -/
structure Frame where
  src : Nat
  port : Nat
  sub : Nat
  cls : Nat
  tenant : Nat
  bytes : Blob
  flits : Nat
  tf : Time
  ended : FrameEnd
  phys : Nat
  startType : Nat
  parseTenant : Nat
  walked : Bool
  walkFlags : CardFlags
  headers : List (Nat × Nat)
  inner : Nat
  tags : Nat
  claim : Option Nat
  frag : Option (Nat × Nat)
  baton : Nat
  charge : Charge
  seqNo : Option Nat
  card : Option Card
  handed : Bool
  lateConflict : Bool
  relayLap : Option Nat
  relayOk : Bool
  query : Nat × Nat × Nat
  picks : List (Nat × Nat)
  heldAt : Option Time
  graph : Option Blob
deriving DecidableEq, Repr

/-- The states of a fragment entry (R151). -/
inductive FragState where
  | pending | decided | dropped
deriving DecidableEq, Repr

/-- A fragment-table entry (R151). -/
structure FragEntry where
  key : Blob
  tenant : Nat
  st : FragState
  od : Nat
  program : Nat
  edit : Nat
  metaW : List Nat
  results : List (Option (Nat × Nat))
  verdict : W40
  created : Time
  first : Nat
deriving DecidableEq, Repr

/-- A stored rule (Table 5.8): owner tenant, action word, presence byte and the 40 key bytes. -/
structure Rule where
  tenant : Nat
  action : Nat
  presence : Nat
  key : Blob
deriving DecidableEq, Repr

/-! ## Tables (chapter 06) -/

/-- A prefix of a trie (Table 6.4): length, left-aligned bits as a number of the key's width, value. -/
structure TriePrefix where
  plen : Nat
  bits : Nat
  value : Nat
deriving DecidableEq, Repr

/-- A trie: the fields of Table 6.2, where each of its nodes lies in its stage (`places`: first entry by path·16 + level), and the prefix
set its entries follow from under R170. -/
structure Trie where
  wide : Bool
  owner : Nat
  strides : List Nat
  places : Tab Nat
  prefixes : List TriePrefix
deriving DecidableEq, Repr

/-- An accepted load or batch on its way to its flip (R172 to R174): its number among all, the trie it makes, and the nodes it has
built in free entries, as level and path. -/
structure TrieJob where
  no : Nat
  n : Nat
  result : Option Trie
  load : Bool
  built : List (Nat × Nat)
deriving DecidableEq, Repr

/-- A replaced node of trie n that is not yet free: since when, its stage, first entry and entries (R173). -/
structure OldNode where
  since : Time
  n : Nat
  stage : Nat
  first : Nat
  size : Nat
deriving DecidableEq, Repr

/-- Where the audit stands (R189): table and entry next to be compared, whether this pass over the table met a mismatch, since when the
pass over all tables runs, and how long the last one took, in µs. -/
structure Audit where
  table : Nat
  entry : Nat
  mismatch : Bool
  since : Time
  passTime : Nat
deriving DecidableEq, Repr

/-- A learn-table entry (Table 6.7). -/
structure LearnEntry where
  fixed : Bool
  flap : Bool
  hit : Bool
  age : Nat
  flaps : Nat
  ktype : Nat
  tenant : Nat
  fid : Nat
  address : Nat
  port : Nat
  cand : Nat
  learnTime : Nat
  value : Nat
deriving DecidableEq, Repr

/-- A flowlet slot (R184). -/
structure Flowlet where
  mem : Nat
  last : Nat
deriving DecidableEq, Repr

/-! ## Relay traffic (chapter 03) -/

/-- A relay set (Table 3.8): slab-table entries, signal-map entries and the four lanes, 64-bit words. -/
structure RelaySet where
  slabs : List Nat
  signals : List Nat
  lanes : List (List Nat)
deriving DecidableEq, Repr

/-- The states of an input (R86) and of its loss (R97). -/
inductive InputState where
  | absent | arriving | complete | lost | missing
deriving DecidableEq, Repr

/-- An input slab of a tenant and lap (R86); `wasLost` that it awaits repair since its deadline (R97). -/
structure Input where
  st : InputState
  fid : Nat
  baton : Nat
  age : Nat
  miss : Bool
  tens : Nat
  four : Bool
  noticed : Bool
  traced : Bool
  wasLost : Bool
deriving DecidableEq, Repr

/-- An output whose shell is issued (R88): tenant, lap, lane, its place in the lane, its frame, when it became ready and when its build started. -/
structure Shell where
  t : Nat
  lap : Nat
  lane : Nat
  k : Nat
  fid : Nat
  baton : Nat
  readySince : Option Time
  startAt : Option Time
  built : Bool
deriving DecidableEq, Repr

/-- A retention copy (R99): the port, the slab number and lap on the wire, the tenant, and the cells. -/
structure Retained where
  t : Nat
  port : Nat
  slab : Nat
  lap : Nat
  baton : Nat
  fid : Nat
deriving DecidableEq, Repr

/-- A notice a pass-through sender holds until the repair comes from upstream (R99). -/
structure HeldNotice where
  t : Nat
  port : Nat
  slab : Nat
  lap : Nat
deriving DecidableEq, Repr

/-! ## Threads (chapters 07, 08) -/

/-- A destination whose write takes effect after a distance (Table 8.8). -/
inductive Dest where
  | w (n : Nat) | a (n : Nat) | m (n : Nat) | ls (n : Nat) | le (n : Nat) | lc (n : Nat)
  | flags | lsmem
deriving DecidableEq, Repr

/-- A write under way: the instruction count at which it is first visible, and the value (R233, R234). -/
structure PendWrite where
  dst : Dest
  value : W40
  due : Nat
deriving DecidableEq, Repr

/-- The flags X V C N Z of CR0 (Table 8.3). -/
structure Flags where
  x : Bool
  v : Bool
  c : Bool
  n : Bool
  z : Bool
deriving DecidableEq, Repr

/-- What the transfer or loop before a slot changed, as it stood before: link stack, reserved entry, trap and loop registers
(R354). -/
structure Undo where
  link : List Addr
  reserved : Option Addr
  trapFill : Bool
  ls : Tab Addr
  le : Tab Addr
  lc : Tab Nat
deriving DecidableEq, Repr

/-- What slot the next instruction stands in (R235): none, a delay slot with the target if the transfer is taken, or the
setup slot of the loop instruction at an address, with where a count of 0 goes on (R239). -/
inductive Slot where
  | none
  | taken (target : Addr) (owner : Addr)
  | notTaken (owner : Addr)
  | setup (owner : Addr) (skip : Option Addr)
deriving DecidableEq, Repr

/-- A helper command whose result has not returned (R204, R251): tag, helper, result registers and the values to fill, and when it
issued (R214). -/
structure InFlight where
  tag : Nat
  helper : Nat
  hd : Nat
  values : List W40
  token : Bool
  since : Time
deriving DecidableEq, Repr

/-- The registers of Table 8.1 of one thread or Starter core, with the writes under way; `fetched` counts the bytes that the fetch
buffer of a thread holds from the pc on, at most 16 (R192, R195). -/
structure Ctx where
  w : Tab W40
  a : Tab Addr
  m : Tab Addr
  h : Tab W40
  pendH : List Nat
  ls : Tab Addr
  le : Tab Addr
  lc : Tab Nat
  link : List Addr
  reserved : Option Addr
  trapFill : Bool
  flags : Flags
  lsmem : Nat
  pc : Addr
  slot : Slot
  undo : Option Undo
  issued : Nat
  writes : List PendWrite
  results : List InFlight
  fetched : Nat
deriving DecidableEq, Repr

/-- The thread states of chapter 07. -/
inductive TState where
  | free | ready | running | waiting | ending
deriving DecidableEq, Repr

/-- Why a WAITING thread waits (R200 to R202). -/
inductive Wait where
  | none | regs (hs : List Nat) | queue (helper : Nat) | stopwatch (c : W40) | event
deriving DecidableEq, Repr

/-- What a run is (KIND of Table 7.7), and a DROP card's run (R211). -/
inductive RunKind where
  | entry (n : Nat) | relay | init | test (n : Nat) | dropCard
deriving DecidableEq, Repr

/-- A fault card (Table 7.7). -/
structure FaultCard where
  cause : Nat
  tid : Nat
  released : Bool
  tenant : Nat
  kind : Nat
  entry : Nat
  rep : Nat
  pc : Nat
  operand : Nat
  imageId : Nat
  count : Nat
  od : Nat
  baton : Nat
  stamp : Nat
  posted : Time
deriving DecidableEq, Repr

/-- One of the 1,536 Strider threads. -/
structure Thread where
  st : TState
  wait : Wait
  kind : RunKind
  ctx : Ctx
  fid : Option Nat
  prio : Nat
  dispPrio : Nat
  readySince : Nat
  budget : Nat
  released : Bool
  faulted : Bool
  stopped : Option FaultCard
  batons : List Nat
  latch : Bool
  storedBlocks : List Nat
deriving DecidableEq, Repr

/-- SQUAD_STATE, 4001h. -/
inductive SquadState where
  | gated | waking | loading | running | draining | test | loadFailed
deriving DecidableEq, Repr

/-- A Strider image as stored (Table 7.8). -/
structure Image where
  id : Nat
  base : Nat
  text : Blob
  init : Option Nat
  entries : Tab (Nat × Nat)
  crc : Nat
deriving DecidableEq, Repr

/-- Where a squad goes once it has drained (R221, R224), or that it has been reset and its init entry runs again (R432). -/
inductive DrainGoal where
  | swap | gate | test | reset
deriving DecidableEq, Repr

/-- One squad; `slots` counts the issue slots used in the last 1.0 ms by gun time, newest first (400Ah), and `seen` is the squad time last
read (R24). -/
structure Squad where
  st : SquadState
  was : SquadState
  goal : DrainGoal
  drainFrom : Time
  loadFrom : Time
  wakeAt : Option Time
  image : Option Image
  staged : Option Image
  freqActual : Nat
  freqTarget : Option Nat
  freqNext : Option Nat
  faultTimes : List Time
  slots : List (Time × Nat)
  seen : Time
  asked : Bool
deriving DecidableEq, Repr

/-! ## Buffers, queues, scheduling (chapter 09) -/

/-- What the pool keeps of a cell besides its bytes (R266): partition, state bit, references, generation, link. -/
structure Cell where
  part : Nat
  alloc : Bool
  refs : Nat
  gen : Nat
  link : Nat
deriving DecidableEq, Repr

/-- A free stack (R261): indices pushed, top first, above a run of cells never popped. -/
structure FreeStack where
  pushed : List Nat
  lo : Nat
  hi : Nat
deriving DecidableEq, Repr

/-- The buffer pool: cells, their bytes, free stacks, current partition sizes, open halves with the time they opened, lowest free
counts, what BUF ALLOC has given out (head cell to partition and cells), and when a refusal last raised attention. -/
structure Pool where
  cells : Tab Cell
  data : Mem
  freeCells : Tab FreeStack
  sizes : Tab Nat
  openHalf : Tab (Nat × Time)
  minFree : Tab Nat
  allocs : Tab (Nat × Nat)
  lastRaise : Option Time
deriving DecidableEq, Repr

/-- A queue's own state: copies waiting, oldest first, and copies on the wire; finish tag, cost of the head, and the ring of a
queue on port P with its posted descriptors, 16 bytes each (R280), and its tag among the transmit rings. -/
structure Queue where
  copies : List Copy
  wire : List Copy
  ftag : Nat
  headCost : Nat
  ringHead : Nat
  ringTail : Nat
  posted : List Blob
  armed : Bool
  raiseAt : List Time
  txTag : Nat
deriving DecidableEq, Repr

/-- A token bucket in millibits, with a rate or burst write still to be taken (R289). -/
structure Pacer where
  rate : Nat
  burst : Nat
  tokens : Int
  pend : Option (Nat × Nat)
deriving DecidableEq, Repr

/-- A marshal's two buckets, in 1/8000 byte times 2⁻¹⁶ ns, and the time of their last update (R282). -/
structure Marshal where
  tc : Nat
  tp : Nat
  last : Time
deriving DecidableEq, Repr

/-- What a run posted for its frame (R212, R255): a drop, or a release to queues with its edit. -/
inductive Release where
  | drop
  | toQueues (qs : List Nat) (edit : Nat) (setEdit : Bool)
deriving DecidableEq, Repr

/-- An order domain (R149, R213): the next number to assign, the next to hand over, and the frames and releases waiting. -/
structure OrderDomain where
  assign : Nat
  hand : Nat
  frames : Tab Nat
  posted : Tab Release
deriving DecidableEq, Repr

/-! ## Tenants, locks, operations (chapter 10) -/

/-- The states of Table 10.1. -/
inductive TenantState where
  | idle | running | held | faulted | resetting
deriving DecidableEq, Repr

/-- A fault-log entry of 6001h: cause, port, slab, lap, NS. -/
structure FaultEntry where
  cause : Nat
  port : Nat
  slab : Nat
  lap : Nat
  ns : Nat
deriving DecidableEq, Repr

/-- A Photo finish in progress (R320 to R324): its lap and slot, when the marker of each port and virtual channel came, who has
reported, and the queued frames it holds a reference of. -/
structure Photo where
  lap : Nat
  slot : Nat
  cut : Time
  markers : Tab Time
  endpoints : List Nat
  children : List Nat
  incomplete : Bool
  joined : Bool
  sent : Bool
  frames : List (Nat × Nat)
deriving DecidableEq, Repr

/-- A restore staged under R323: the captured lap and its items in capture order: kind 0 to 2 a SLAB record's KIND with slab and
port, 3 a FRAME record with its queue; and the frame loaded into cells. `due` from a START with FROM_PHOTO on. -/
structure Restore where
  lap : Nat
  items : List (Nat × Nat × Nat × Nat)
  due : Bool
deriving DecidableEq, Repr

/-- One tenant, 1 to 255; `lately` are the active laps begun last, newest first, each with its index since START (R87, R342). -/
structure Tenant where
  st : TenantState
  frozen : Bool
  faultLog : List FaultEntry
  barrier : Nat
  arrived : Tab (List Nat)
  barSent : Bool
  late : List Nat
  barrierInc : List Nat
  release : Option (Nat × Nat)
  haltNo : Nat
  haltSent : Bool
  haltSeen : Option (Nat × Nat)
  bcastOut : Bool
  bcastNo : Nat
  bcastQ : List Nat
  photo : Option Photo
  restore : Option Restore
  activeIdx : Nat
  lately : List (Nat × Nat)
  stAtLap : TenantState
  stPrev : TenantState
  resetClear : Bool
deriving DecidableEq, Repr

/-- The operations of Table 10.4, in the order in which one lap boundary takes them (R311). -/
inductive Op where
  | reset | fault | hold | freeze | snapshot | start
deriving DecidableEq, Repr

/-- A scheduled operation (R309). -/
structure Sched where
  op : Op
  t : Nat
  flags : Nat
  lap : Nat
  halt : Option (Nat × Nat)
deriving DecidableEq, Repr

/-- A hardware lock (Table 10.6, 6201h). -/
structure Lock where
  holder : Option Nat
  abandoned : Bool
  releases : Nat
  waiters : List Nat
deriving DecidableEq, Repr

/-! ## Trace and DRAM (chapter 11) -/

/-- The states of 7002h. -/
inductive RingState where
  | off | running | armed | triggered | stopped
deriving DecidableEq, Repr

/-- A trace ring (R345 to R347); `waiting` holds the records in the write buffer, oldest first: lap, record, and since when. -/
structure Ring where
  st : RingState
  write : Nat
  wraps : Nat
  seq : Nat
  trigLap : Nat
  cause : Nat
  stopAt : Nat
  lost : Nat
  lostFirst : Nat
  lostLast : Nat
  lostCause : Nat
  lastWord : Tab Nat
  mirrored : Time
  trigDue : Bool
  waiting : List (Nat × Blob × Time)
deriving DecidableEq, Repr

/-- A snapshot slot (R348): lap, bytes used, records, status 0 empty, 1 capturing, 2 complete, 3 incomplete. -/
structure SnapSlot where
  lap : Nat
  used : Nat
  records : Nat
  status : Nat
deriving DecidableEq, Repr

/-- A DRAM channel (R327, R332 to R335). -/
structure Channel where
  state : Nat
  capacity : Nat
  tRFC : Nat
  serial : Nat
  doubled : Bool
  temp : Int
  writeQ : List (Nat × Nat)
  rows : Tab Nat
  refreshes : Nat
  sweeping : Bool
deriving DecidableEq, Repr

/-- The DRAM controllers and everything behind them. -/
structure Dram where
  ways : Nat
  config : Blob
  data : Mem
  channels : Tab Channel
  poison : List Nat
  bad : List Nat
  whole : Tab Nat
  delays : Tab Blob
  sweep : Tab Blob
  buckets : Tab Nat
  spent : Nat
  selfRefresh : Bool
deriving DecidableEq, Repr

/-! ## The Starter complex (chapter 12) -/

/-- CORE_STATE, 8000h. -/
inductive CoreState where
  | running | dnf | restarting | heldInReset
deriving DecidableEq, Repr

/-- A line of a Starter core's L1 data cache over DRAM (R353). -/
structure Line where
  bytes : Blob
  dirty : Bool
deriving DecidableEq, Repr

/-- One Starter core: Tables 8.1, 12.2 and 12.3. -/
structure Core where
  st : CoreState
  ctx : Ctx
  il : Nat
  ie : Bool
  u : Bool
  fstk : Bool
  vbar : Addr
  splim : Addr
  ksp : W40
  usp : W40
  cause : Nat
  faddr : Nat
  tcmp : W40
  lockPend : Nat
  ubase : Addr
  ulimit : Addr
  dwin : Nat
  irq : List Nat
  waiting : Bool
  eventLatch : Bool
  lines : Tab Line
  locked : List Nat
  taken : List Nat
  batons : List Nat
  wdog : Time
  dnfAt : Time
  userCount : Nat
deriving DecidableEq, Repr

/-- An item of a work queue (R364): its handle, the tenant that queue 1 shares by, and what it is about. -/
structure WorkItem where
  handle : Nat
  tenant : Nat
  what : Nat
  taken : Option Nat
  born : Time
deriving DecidableEq, Repr

/-- A work queue: its items oldest first, its tokens and high mark, and of the items taken last when and after how many µs (R364, R365,
8016h). -/
structure WorkQueue where
  items : List WorkItem
  tokens : Nat
  high : Nat
  turn : Nat
  waits : List (Nat × Nat)
deriving DecidableEq, Repr

/-- The extension module (R369, R370). -/
structure Module where
  id : Nat
  call : Nat
  tick : Option Nat
  period : Nat
deriving DecidableEq, Repr

/-- A frame of the Starter that waits for cells (R269): its bytes, class, the port and sub-port of its card, and whether it is a reply to the
field principal. -/
structure StarterSend where
  bytes : Blob
  cls : Nat
  port : Nat
  sub : Nat
  field : Bool
deriving DecidableEq, Repr

/-- The Starter complex; `sendQ` are the frames that wait for cells, oldest first, and `extBy` is the principal whose call the module runs. -/
structure Starter where
  cores : Tab Core
  store : Mem
  rom : Mem
  queues : Tab WorkQueue
  nextHandle : Nat
  running : Bool
  ext : Option Module
  extState : Nat
  extCalls : List (Principal × Blob)
  extBy : Option Principal
  extReplies : Tab Blob
  extTickAt : Time
  extLog : List Blob
  domainResets : List Time
  rebuilding : Bool
  sendQ : List StarterSend
deriving DecidableEq, Repr

/-! ## Management (chapter 13) -/

/-- An entry of a reply cache (R386): sequence number and the reply, none while pending. -/
structure Cached where
  seq : Nat
  reply : Option Blob
deriving DecidableEq, Repr

/-- A blob assembly (R379). -/
structure Assembly where
  o : Nat
  i : Nat
  total : Nat
  bytes : Blob
  last : Time
deriving DecidableEq, Repr

/-- An attention-log entry (R384). -/
structure Att where
  level : Nat
  tenant : Nat
  o : Nat
  i : Nat
  reps : Nat
  ns : Nat
  unread : Bool
deriving DecidableEq, Repr

/-- A principal instance's session, sequence space, cache, assembly and attention view (R373). -/
structure Session where
  expert : Bool
  idle : Nat
  lastReq : Time
  lastSeq : Option Nat
  cache : List Cached
  assembly : Option Assembly
  gens : Tab Nat
  log : List Att
  lost : Nat
deriving DecidableEq, Repr

/-- A PCIe mailbox (Table 13.8): STATE 0 idle, 1 busy, 2 reply ready. -/
structure Mailbox where
  st : Nat
  request : Blob
  reply : Blob
  dropReply : Bool
deriving DecidableEq, Repr

/-- The device's side of the call room (R402). -/
structure CallRoom where
  node : Nat
  epoch : Option Nat
  takingPart : Bool
  assigned : Bool
  misses : Nat
  answer : Option (Time × Time × Nat)
deriving DecidableEq, Repr

/-- What the call-room master waits for (R403). -/
inductive MasterWait where
  | idle | started | listening (p l : Nat) | assigning (b n tries : Nat)
deriving DecidableEq, Repr

/-- The master's side of the call room (R403): found sets of this and the last two epochs, branches still to search. -/
structure Master where
  epoch : Nat
  wait : MasterWait
  answers : List (Nat × Nat)
  found : List (Nat × Nat)
  last : List (Nat × Nat)
  before : List (Nat × Nat)
  todo : List (Nat × Nat)
  since : Time
  first : Bool
deriving DecidableEq, Repr

/-! ## Reliability and the board (chapters 14, 15, 16) -/

/-- An error-log record (Table 14.5). -/
structure ErrRec where
  source : Nat
  severity : Nat
  attention : Nat
  tenant : Nat
  o : Nat
  i : Nat
  detail : Nat
  time : Time
  rep : Nat
  first : Time
deriving DecidableEq, Repr

/-- A wake before the limiter (R436, R437): need time, order key (squads 0 to 11, then 12 + 16·port + lane), slope in mA
per µs, ramp end once granted, and when it was requested. -/
structure Wake where
  need : Time
  key : Nat
  slope : Nat
  ramp : Time
  ends : Option Time
  asked : Time
deriving DecidableEq, Repr

/-- A copy of the persisted set (R409): store count and the values by object and instance. -/
structure PersistCopy where
  valid : Bool
  count : Nat
  nums : Tab Nat
  blobs : Tab Blob
deriving DecidableEq, Repr

/-- What the flash interface is doing (R409, R420, R423, R435). -/
inductive FlashOp where
  | persist (c : PersistCopy) | commit (block : Blob) | slot (n : Nat) (image : Blob)
deriving DecidableEq, Repr

/-- A firmware slot (B021h). -/
structure FwSlot where
  valid : Bool
  image : Blob
  bytes : Nat
  writes : Nat
deriving DecidableEq, Repr

/-- The external flash: the two persisted copies, the two firmware slots, the calibration block, and the operations of its
interface, the first in progress. -/
structure Flash where
  copyA : PersistCopy
  copyB : PersistCopy
  slots : Tab FwSlot
  cal : Blob
  busy : List FlashOp
  eraseWanted : Bool
deriving DecidableEq, Repr

/-- Start-up and resets: where the boot stands, straps, causes, and the resets that wait. -/
structure Boot where
  bib : Nat
  grade : Nat
  dieIds : Blob
  straps : BitVec 8
  firmware : Bool
  recovery : Bool
  pllFail : Bool
  resetN : Bool
  cause : Nat
  waitReset : Option ResetCause
  tried : List Nat
  runningSlot : Nat
  halted : Bool
  persistSet : PersistCopy
  pendCount : Nat
  pendSince : Option Time
  storedAt : Time
  cal : Blob
  calStaged : Blob
  bar2 : Nat
deriving DecidableEq, Repr

/-- Chapter 05 as a whole: the fragment table and the rule entries. -/
structure Parser where
  frags : Tab FragEntry
  rules : Tab Rule
deriving DecidableEq, Repr

/-- Chapter 06 as a whole; `invalid` and `shadowBad` name entries by table and number: those invalidated for repair, and those whose shadow
is poisoned (R189). -/
structure Tables where
  seed : Nat
  salt : Nat
  epoch : Nat
  tries : Tab Trie
  jobs : List (Nat × TrieJob)
  freeing : List OldNode
  learn : Tab LearnEntry
  stash : Tab LearnEntry
  victim : Tab Nat
  flowlets : Tab Flowlet
  bytesOut : Tab (Tab Nat)
  polarSince : Tab Nat
  polarized : List Nat
  invalid : List (Nat × Nat)
  shadowBad : List (Nat × Nat)
  jobNo : Nat
  audit : Audit
deriving DecidableEq, Repr

/-- Chapter 03 as a whole; `swapLap` is the lap of the last swap, and `busy` the builds of the last 1.0 ms: unit, start and cycles. -/
structure Relay where
  sets : Tab RelaySet
  staged : Tab RelaySet
  former : Tab RelaySet
  inputs : Tab Input
  shells : List Shell
  retained : List Retained
  notices : List HeldNotice
  swapLap : Nat
  busy : List (Nat × Time × Nat)
deriving DecidableEq, Repr

/-- Chapters 07 and 08 as a whole; `pinned` is the relay program that every local store holds below 2000h (R194), `portBusy` the Striders whose
last instruction took the local store's port (R195). -/
structure Striders where
  threads : Tab Thread
  squads : Tab Squad
  lstore : Mem
  sstore : Mem
  windows : Mem
  waiting : List (Nat × Nat)
  held : List Nat
  readyNo : Nat
  swap : Option (Nat × Nat)
  cards : List FaultCard
  pinned : Mem
  portBusy : List Nat
deriving DecidableEq, Repr

/-- Chapter 09 as a whole; `interval` is the refill interval in force (R289). -/
structure Buffers where
  pool : Pool
  interval : Nat
  queues : Tab Queue
  qpacers : Tab Pacer
  tpacers : Tab Pacer
  marshals : Tab Marshal
  ods : Tab OrderDomain
deriving DecidableEq, Repr

/-- Chapter 10 as a whole; `marks` are the LAP_MARKERs received for the current lap and later ones: lap, port·8 + channel, time. -/
structure TenantsSt where
  tenants : Tab Tenant
  sched : List Sched
  children : List Nat
  upWait : List (Nat × Nat × Nat × Nat)
  locks : Tab Lock
  atoms : Tab Nat
  marks : List (Nat × Nat × Time)
deriving DecidableEq, Repr

/-- Chapter 11's trace and snapshot part. -/
structure TraceSt where
  rings : Tab Ring
  slots : Tab (Tab SnapSlot)
  uploads : Tab (Nat × Nat)
deriving DecidableEq, Repr

/-- A request that reached the management front end and waits to be taken (R376, R396): its path, the message, and the frame
that carried it. -/
structure Inbound where
  path : Path
  msg : Blob
  frame : Blob
deriving DecidableEq, Repr

/-- A reply that waits for a flash operation of its request (R420, R423) or for the flips of its loads and batches (R173): the path,
view, sequence number and request frame, the reply so far, where in it the RESULT of the flash operation stands, the jobs, and the squads in reset. -/
structure Held where
  path : Path
  view : Nat
  seq : Nat
  frame : Blob
  len : Nat
  reply : Blob
  at_ : Option Nat
  jobs : List Nat
  resets : List Nat
  dropped : Bool
deriving DecidableEq, Repr

/-- Chapter 13 as a whole. -/
structure Mgmt where
  gens : Tab Nat
  sessions : Tab Session
  mailboxes : Tab Mailbox
  inbox : List Inbound
  held : List Held
  room : CallRoom
  master : Master
deriving DecidableEq, Repr

/-- Chapters 14 to 16 as a whole. -/
structure Reliab where
  errors : List ErrRec
  wakes : List Wake
  flash : Flash
  boot : Boot
  railFail : Nat
  avsDue : Bool
  warned : Bool
  awake : List (Nat × Nat)
  sdsLost : List Nat
deriving DecidableEq, Repr

/-- Port P's link and the MSI-X tables of its functions (R129, R131): rate in GT/s, width and Flit mode while active; table entries of
16 bytes and pending bits by function·512 + vector. -/
structure Pcie where
  rate : Nat
  width : Nat
  flitMode : Bool
  vectors : Tab Blob
  pendingBits : List Nat
deriving DecidableEq, Repr

/-- What left the device at a pin or over a bus: the model's record, oldest last. A frame and a control flit carry the gun time of their
first flit; a stomp carries what was sent before it, then the ABORT flit or, after a PCS error, the complement of the FCS (R128). -/
inductive Emission where
  | frame (port sub fid : Nat) (bytes : Blob) (at_ : Time)
  | ctl (port : Nat) (flit : Blob) (at_ : Time)
  | capability (port : Nat) (c : Capability)
  | stomp (port sub fid : Nat) (sent tail : Blob) (pcsError : Bool)
  | cutOff (port sub fid : Nat) (sent : Blob)
  | pfc (port prio : Nat) (xoff : Bool)
  | dma (address : Nat) (bytes : Blob)
  | dmaRead (address len : Nat)
  | msix (function vector address data : Nat)
  | field (frame : Blob)
  | pps (high : Bool)
  | safeN (low : Bool)
  | vout (address mv : Nat)
  | bar2 (bytes : Blob) (poisoned : Bool)
  | lockWord (v : Nat)
  | dramData (bytes : Blob) (poisoned : Bool)
deriving DecidableEq, Repr

end Sys2Proof.Machine
end

