-- ==== Sys2Proof/Machine/State.lean ====
section
/-! DEFINITION. The state of the block, its reasons to stop, and the state right after device reset. -/

namespace Sys2Proof.Machine

/-- Why the machine stops with a fault. -/
inductive Fault where
  /-- Raised by a load or store of a Starter core in 10000000h to 1FFFFFFFh: the device registers of Table 12.1, of which
  the manual says that they are internal to the firmware. Safe: the model stops where the part goes on. -/
  | starterDevice (addr : Nat)
deriving DecidableEq, Repr

/-- Why a command has no meaning. -/
inductive Refusal where
  /-- Raised by an arm of the dispatch whose command has no meaning yet. Safe: the model stops. -/
  | notModelled (mnemonic : String)
deriving DecidableEq, Repr

/-- The state: the object dictionary, the records of every chapter, the model's record of what left the device, the
counter of free values, and the queue of commands that wait. -/
structure State where
  num : Tab Nat
  blob : Tab Blob
  reply : Reply
  time : TimeSt
  ports : Tab Port
  frames : Tab Frame
  nextFid : Nat
  ingress : Tab Nat
  parser : Parser
  tables : Tables
  relay : Relay
  strider : Striders
  buf : Buffers
  ten : TenantsSt
  trc : TraceSt
  dram : Dram
  starter : Starter
  mgmt : Mgmt
  rel : Reliab
  pcie : Pcie
  out : List Emission
  free : Nat
  pending : List Instr
deriving DecidableEq, Repr

/-! ## What an unlisted entry stands for, and the values after device reset -/

/-- One nanosecond in units of TIME80 (Table 2.1). -/
abbrev ns : Nat := 65536

/-- The time engine after device reset (R52, R60, R408). -/
def TimeSt.reset : TimeSt where
  gun := 0
  rate := 0
  acc := 0
  ticks := 0
  role := .freeRun
  parent := none
  hops := 0
  heard := []
  lastBetter := 0
  exch := []
  everLocked := false
  est := 0
  estFrom := none
  lockRun := 0
  stepWanted := false
  offMark := true
  lowSince := none
  tclkLost := false
  lap := 0
  lapStart := 0
  next := 100000 * ns
  ppsFirst := true
  ppsLast := 0
  ppsBad := 0
  ppsGood := 0
  ppsPhases := []
  slew := 0
  ppsOut := false
  staged := []
  adopt := none
  prevStart := 0
  swapped := []
  formerRx := []
  ptp := ⟨[], [], 0, 0, none, none, 0, none, none⟩
  ptpIn := []

/-- A port after device reset: DISABLED until boot releases it (R117, R428); port P trains from then on (R427). -/
def Port.reset : Port where
  st := .disabled
  nb := none
  rxLanes := 0xFFFF
  txLanes := 0xFFFF
  fec := 0
  cwseq := none
  uncRun := 0
  burst := 0
  slips := []
  trainAt := 0
  limit := []
  sent := []
  freed := []
  initial := []
  held := []
  holdFrom := (List.range 8).map (fun c => (c, 0))
  rx := []
  rxSleepUntil := 0
  sel := []
  tx := []
  ctl := []
  sleep := .awake
  sleptAt := 0
  gateRow := 0
  paused := []
  xoff := []
  vtime := []
  breakout := 0
  polarity := 0
  reversed := false
  fellBack := false
  ctlRun := 0
  wireFree := 0
  subDown := []

/-- A flag set with every flag clear. -/
def Flags.clear : Flags := ⟨false, false, false, false, false⟩

/-- The registers of a thread or core with everything zero. -/
def Ctx.reset : Ctx where
  w := []
  a := []
  m := []
  h := []
  pendH := []
  ls := []
  le := []
  lc := []
  link := []
  reserved := none
  trapFill := false
  flags := .clear
  lsmem := 0
  pc := 0
  slot := .none
  undo := none
  issued := 0
  writes := []
  results := []
  fetched := 0

/-- A thread after device reset: FREE. -/
def Thread.reset : Thread where
  st := .free
  wait := .none
  kind := .entry 0
  ctx := .reset
  fid := none
  prio := 0
  dispPrio := 0
  readySince := 0
  budget := 0
  released := false
  faulted := false
  stopped := none
  batons := []
  latch := false
  storedBlocks := []

/-- A squad after device reset: gated until boot wakes it (R428). -/
def Squad.reset : Squad where
  st := .gated
  was := .gated
  goal := .swap
  drainFrom := 0
  loadFrom := 0
  wakeAt := none
  image := none
  staged := none
  freqActual := 2500
  freqTarget := none
  freqNext := none
  faultTimes := []
  slots := []
  seen := 0
  asked := false

/-- A queue with nothing in it. -/
def Queue.reset : Queue := ⟨[], [], 0, 0, 0, 0, [], false, [], 0⟩

/-- A pacer that is off. -/
def Pacer.reset : Pacer := ⟨0, 0, 0, none⟩

/-- A tenant after device reset: IDLE. -/
def Tenant.reset : Tenant where
  st := .idle
  frozen := false
  faultLog := []
  barrier := 0
  arrived := []
  barSent := false
  late := []
  barrierInc := []
  release := none
  haltNo := 0
  haltSent := false
  haltSeen := none
  bcastOut := false
  bcastNo := 0
  bcastQ := []
  photo := none
  restore := none
  activeIdx := 0
  lately := []
  stAtLap := .idle
  stPrev := .idle
  resetClear := false

/-- A free hardware lock. -/
def Lock.reset : Lock := ⟨none, false, 0, []⟩

/-- A trace ring that is off. -/
def Ring.reset : Ring := ⟨.off, 0, 0, 0, 0, 0, 0, 0, 0, 0, 0, [], 0, false, []⟩

/-- A Starter core after device reset, held in reset until boot releases it (R427). -/
def Core.reset : Core where
  st := .heldInReset
  ctx := .reset
  il := 15
  ie := false
  u := false
  fstk := false
  vbar := 0
  splim := 0x100000
  ksp := 0
  usp := 0
  cause := 0
  faddr := 0
  tcmp := 0
  lockPend := 0
  ubase := 0x4BC000
  ulimit := 0x4FC000
  dwin := 1
  irq := []
  waiting := false
  eventLatch := false
  lines := []
  locked := []
  taken := []
  batons := []
  wdog := 0
  dnfAt := 0
  userCount := 0

/-- A work queue with nothing in it. -/
def WorkQueue.reset : WorkQueue := ⟨[], 0, 0, 0, []⟩

/-- A session of a principal instance after device reset (R386, R393). -/
def Session.reset : Session := ⟨false, 600, 0, none, [], none, [], [], 0⟩

/-- A mailbox after device reset. -/
def Mailbox.reset : Mailbox := ⟨0, [], [], false⟩

/-- A copy of the persisted set that holds nothing. -/
def PersistCopy.empty : PersistCopy := ⟨false, 0, [], []⟩

/-- A firmware slot that holds nothing. -/
def FwSlot.empty : FwSlot := ⟨false, [], 0, 0⟩

/-- The flash as shipped without its images: nothing stored (DESIGN CHOICE, log 5). -/
def Flash.blank : Flash := ⟨.empty, .empty, [], [], [], false⟩

/-- Start-up with blank fuses and straps 0 (DESIGN CHOICE, log 5). -/
def Boot.reset : Boot where
  bib := 0
  grade := 0
  dieIds := List.replicate 80 0
  straps := 0
  firmware := false
  recovery := false
  pllFail := false
  resetN := true
  cause := 1
  waitReset := none
  tried := []
  runningSlot := 0
  halted := false
  persistSet := .empty
  pendCount := 0
  pendSince := none
  storedAt := 0
  cal := []
  calStaged := []
  bar2 := 32

/-- Port P's link while it is not active, and MSI-X tables in which every vector is masked (log 123). -/
def Pcie.reset : Pcie := ⟨0, 0, false, [], []⟩

/-- A DRAM channel before boot. -/
def Channel.reset : Channel := ⟨0, 0, 0, 0, false, 0, [], [], 0, false⟩

/-- The block right after device reset, before firmware runs. The device seed is a free value (R162); the balance salt is 0 (R165). -/
def State.reset : State where
  num := []
  blob := []
  reply := ⟨.ok, [], 0⟩
  time := .reset
  ports := [(16, { Port.reset with st := .down })]
  frames := []
  nextFid := 1
  ingress := []
  parser := ⟨[], []⟩
  tables := ⟨Config.freeNat 0 % 2 ^ 128, 0, 0, [], [], [], [], [], [], [], [], [], [], [], [], 0, ⟨0, 0, false, 0, 0⟩⟩
  relay := ⟨[], [], [], [], [], [], [], 0, []⟩
  strider := ⟨[], [], [], [], [], [], [], 0, none, [], [], []⟩
  buf := ⟨⟨[], [], [], [], [], [], [], none⟩, 256, [], [], [], [], []⟩
  ten := ⟨[], [], [], [], [], [], []⟩
  trc := ⟨[], [], []⟩
  dram := ⟨0, [], [], [], [], [], [], [], [], [], 0, false⟩
  starter := ⟨[], [], [], [], 1, false, none, 0, [], none, [], 0, [], [], false, []⟩
  mgmt := ⟨[], [], [], [], [], ⟨255, none, false, false, 0, none⟩, ⟨0, .idle, [], [], [], [], [], 0, true⟩⟩
  rel := ⟨[], [], .blank, .reset, 0, false, false, [], []⟩
  pcie := .reset
  out := []
  free := 1
  pending := []

end Sys2Proof.Machine
end

