-- ==== Sys2Proof/Machine/Ops.lean ====
section
/-! DEFINITION. The shared operations of every chapter: object values and their defaults, counters, free values, the record of
what leaves the device, attention (R384), the error log (R417) and the work queues (R364). -/

namespace Sys2Proof.Machine

/-! ## Defaults of the object dictionary (R408) -/

/-- The descriptors 0 to 14 of the default parse graph (Table 5.2, coded by Table 5.1). -/
def graphDescs : List Nat := [
  0x80000000000802A100003FC000000000,
  0x80000000000383020008BFC000000000,
  0xA0000000000100820008BFC000000000,
  0xA0000000000100820008BFC000000000,
  0x8D0200008480020100307FC000000000,
  0x82042800000A01A10048FFC000000000,
  0x8000000008C200210048FFC000000000,
  0x90000000000200210048FFC000000000,
  0x810400000002008200805FC000000000,
  0x8000000CC480000000001FC000000000,
  0xC0000000000200000000004000000000,
  0xC00000008682008200907FC000000000,
  0x800000000008800000001FC000000000,
  0x800000000002000000001FC000000000,
  0x800000000002000000001FC000000000]

/-- The transition entries of the default parse graph, VALUE and NEXT (Table 5.2). -/
def graphTrans : List (Nat × Nat) := [(1, 1), (33024, 2), (34984, 3), (2048, 4), (34525, 5), (35063, 12), (6, 9), (17, 8), (1, 13), (0, 6), (43, 6), (60, 6), (44, 7), (6, 9), (17, 8), (58, 14), (4789, 10), (6081, 11), (25944, 1), (2048, 4), (34525, 5)]

/-- The default parse graph as the blob of 3000h: 64 descriptors, then 1,024 transitions. -/
def graphDefault : Blob :=
  (graphDescs ++ List.replicate 49 0).flatMap (beBytes 16) ++
  (graphTrans.map (fun (e : Nat × Nat) => e.1 * 2 ^ 16 + e.2) ++ List.replicate 1003 0).flatMap (beBytes 4)

/-- The default stage of each bank (R166). -/
def bankMapDefault : Blob :=
  (List.range 128).map (fun b => BitVec.ofNat 8 (if b < 64 then b / 16 else 4 + (b - 64) / 8))

/-- The default areas writable by FIELD (9020h, Table 13.11): bit 7 of byte 0 is area 00h. -/
def fieldAreasDefault : Blob :=
  (List.range 32).map (fun k => BitVec.ofNat 8 ((List.range 8).foldl (fun v j =>
    v * 2 + nat01 ([0x11, 0x12, 0x13, 0x20, 0x21, 0x40, 0x41, 0x62, 0x90].contains (8 * k + j))) 0))

/-- Depth, default rate and priority of the work queues (Table 12.9). -/
def workqDepth : Nat → Nat
  | 0 => 64 | 1 => 256 | 2 => 64 | 3 => 512 | 4 => 4096 | 5 => 1024 | _ => 256

/-- The default 8010h[q]: rate, burst of one millisecond, priority (Table 12.9), every core in the mask (DESIGN CHOICE,
log 6). -/
def workqDefault (q : Nat) : Blob :=
  let (r, p) := match q with
    | 0 => (2000, 5) | 1 => (2000, 3) | 2 => (500, 4) | 3 => (1000, 6) | 4 => (4000, 1) | 5 => (1000, 7) | _ => (500, 2)
  beBytes 4 r ++ beBytes 2 r ++ beBytes 1 p ++ beBytes 1 15

/-- The default of a numeric object (the Default columns of the object tables). -/
def numDefault (o i : Nat) : Nat :=
  match o with
  | 0x2105 => match i % 8 with
    | 2 => 400 | 3 => 600 | 4 => 3000 | 5 => 3000 | 6 => 2000 | 7 => 1000 | _ => 0
  | 0x3003 => if i < 14 then 0 else 1
  | 0x3009 => 256 * i * 2 ^ 16 + 8
  | 0x4004 => if i = 0 then 3 else 0xFFF
  | 0x4005 => [3, 0, 2, 1].getD i 0
  | 0x4006 => if i < 2 then 0xC0 else 0
  | 0x5101 => 64 * i * 2 ^ 16 + 64
  | 0x6210 => 256 * i * 2 ^ 16 + 256
  | _ => match objRow? o with
    | some r => r.dflt
    | none => 0

/-- The default queue descriptor (Table 9.5): CLASS 7, the tenant of the default block, WEIGHT 256, LIMIT 2,048. -/
def queueDescDefault (q : Nat) : Nat :=
  7 * 2 ^ 116 + q / 64 * 2 ^ 108 + 256 * 2 ^ 92 + 2048 * 2 ^ 78

/-- The default of a blob or string object. -/
def blobDefault (o i : Nat) : Blob :=
  match o with
  | 0x1002 => [0x41, 0x31]
  | 0x1004 => [0x53, 0x6B, 0x6F, 0x76, 0x6F, 0x74, 0x74, 0x65, 0x20, 0x4D, 0x69, 0x63, 0x72, 0x6F, 0x73, 0x79, 0x73, 0x74,
    0x65, 0x6D, 0x73]
  | 0x1005 => [0x52, 0x5A, 0x2D, 0x39, 0x36, 0x30, 0x30]
  | 0x1303 | 0x1305 => beBytes 8 0xFC000000000186A0
  | 0x3000 | 0x3001 => graphDefault
  | 0x3004 => List.replicate 4096 0
  | 0x3100 => beBytes 1 0 ++ beBytes 1 0xFF ++ List.replicate 94 0
  | 0x3104 => List.replicate 64 0
  | 0x3201 => bankMapDefault
  | 0x3220 => List.replicate 8 0
  | 0x5000 => [12288, 4096, 44031, 5120].flatMap (beBytes 4)
  | 0x5100 => beBytes 16 (queueDescDefault i)
  | 0x5103 => List.replicate 24 0
  | 0x5200 => List.replicate 8 0
  | 0x5201 => List.replicate 9 0
  | 0x5210 => List.replicate 8 0 ++ beBytes 4 1 ++ beBytes 4 1 ++ List.replicate 4 0
  | 0x7000 => List.replicate 48 0
  | 0x7001 => List.replicate 104 0
  | 0x7010 => List.replicate 16 0
  | 0x7020 => List.replicate 24 0
  | 0x7100 => beBytes 2 8000 ++ [12, 1, 0, 0, 0, 0]
  | 0x8010 => workqDefault i
  | 0x9020 => fieldAreasDefault
  | _ => []

/-! ## Object values -/

/-- The value of a numeric object. -/
def State.cfg (s : State) (o : Nat) (i : Nat := 0) : Nat := tabGet s.num (objKey o i) (numDefault o i)

/-- Stores a numeric object. -/
def State.setCfg (s : State) (o i v : Nat) : State :=
  { s with num := tabPut s.num (objKey o i) (numDefault o i) v }

/-- The value of a blob or string object. -/
def State.blb (s : State) (o : Nat) (i : Nat := 0) : Blob := tabGet s.blob (objKey o i) (blobDefault o i)

/-- Stores a blob or string object, and advances its write generation (R380). -/
def State.setBlb (s : State) (o i : Nat) (b : Blob) : State :=
  { s with
    blob := tabPut s.blob (objKey o i) (blobDefault o i) b
    mgmt.gens := tabUpd s.mgmt.gens (objKey o i) 0 (· + 1) }

/-- Adds to a counter, which stops at 2⁶⁴ − 1 (R407). -/
def State.countN (s : State) (o i n : Nat) : State := s.setCfg o i (min (s.cfg o i + n) (2 ^ 64 - 1))

/-- Counts one event. -/
def State.count (s : State) (o : Nat) (i : Nat := 0) : State := s.countN o i 1

/-- Enters a written value of an RWS object in the persisted set (R409). -/
def State.persistNum (s : State) (o i v : Nat) : State :=
  { s with
    rel.boot.persistSet.nums := tabSet s.rel.boot.persistSet.nums (objKey o i) v
    rel.boot.pendCount := s.rel.boot.pendCount + 1
    rel.boot.pendSince := s.rel.boot.pendSince <|> some s.time.ticks }

/-- The same for a blob or string object. -/
def State.persistBlob (s : State) (o i : Nat) (b : Blob) : State :=
  { s with
    rel.boot.persistSet.blobs := tabSet s.rel.boot.persistSet.blobs (objKey o i) b
    rel.boot.pendCount := s.rel.boot.pendCount + 1
    rel.boot.pendSince := s.rel.boot.pendSince <|> some s.time.ticks }

/-- Stores a written number, and enters it in the persisted set if its object is RWS. -/
def State.writeNum (s : State) (o i v : Nat) : State :=
  let s := s.setCfg o i v
  match objRow? o with
  | some r => if r.acc = .rws then s.persistNum o i v else s
  | none => s

/-- Stores a written blob, and enters it in the persisted set if its object is RWS. -/
def State.writeBlob (s : State) (o i : Nat) (b : Blob) : State :=
  let s := s.setBlb o i b
  match objRow? o with
  | some r => if r.acc = .rws then s.persistBlob o i b else s
  | none => s

/-! ## Free values and what leaves the device -/

/-- The next free number, and the state that has used it. -/
def State.draw (s : State) : Nat × State := (Config.freeNat s.free, { s with free := s.free + 1 })

/-- The next free signed number, and the state that has used it. -/
def State.drawInt (s : State) : Int × State := (Config.freeInt s.free, { s with free := s.free + 1 })

/-- The next free bytes, and the state that has used them. -/
def State.drawBytes (s : State) : Blob × State := (Config.freeBytes s.free, { s with free := s.free + 1 })

/-- Records that something left the device. -/
def State.emit (s : State) (e : Emission) : State := { s with out := s.out ++ [e] }

/-! ## The work queues (R364) -/

/-- A work queue of the Starter. -/
def State.workq (s : State) (q : Nat) : WorkQueue := tabGet s.starter.queues q .reset

/-- Ticks of 1.25 ns in 1.0 ms. -/
abbrev msTicks : Nat := 800000

/-- The waits of the items taken in the last 1.0 ms, one more among them. -/
def WorkQueue.waitsWith (w : WorkQueue) (now us : Nat) : List (Nat × Nat) := (now, us) :: w.waits.filter (fun e => now < e.1 + msTicks)

/-- The mean wait in µs of the items taken in the last 1.0 ms, 0 where none was (8016h). -/
def WorkQueue.meanWait (w : WorkQueue) (now : Nat) : Nat :=
  let us := (w.waits.filter (fun e => now < e.1 + msTicks)).map Prod.snd
  us.sum / max 1 us.length

/-- Posts an item to a work queue; at a full queue it is counted instead, a fault card in 4011h too (Table 12.9, log 153). -/
def State.post (s : State) (q tenant what : Nat) : State :=
  let w := s.workq q
  if w.items.length ≥ workqDepth q then (if q = 3 then s.count Obj.FAULT_CARDS_LOST else s).count Obj.WORKQ_OVERFLOWS q
  else
    let items := w.items ++ [⟨s.starter.nextHandle, tenant, what, none, s.time.gun⟩]
    { s with
      starter.nextHandle := s.starter.nextHandle + 1
      starter.queues := tabSet s.starter.queues q { w with items := items, high := max w.high items.length } }

/-! ## Attention (R384, R385) -/

/-- Enters an event in one attention log: a repeat of an unread entry adds to it; a full log gives up its oldest read
entry, or its oldest unread entry of the lowest level not above the event's own; otherwise the event is only counted. -/
def attEnter (x : Session) (e : Att) : Session :=
  let same := fun a : Att => a.unread && a.level == e.level && a.o == e.o && a.i == e.i
  if x.log.any same then
    { x with log := x.log.map (fun a => if same a then { a with reps := min (a.reps + 1) 65535, ns := e.ns } else a) }
  else if x.log.length < 32 then { x with log := e :: x.log }
  else
    let old := x.log.reverse
    match old.findIdx? (fun a => !a.unread) with
    | some k => { x with log := e :: (old.eraseIdx k).reverse }
    | none => match leastBy Att.level (old.filter (fun a => a.level ≤ e.level)) with
      | none => { x with lost := min (x.lost + 1) (2 ^ 64 - 1) }
      | some v => { x with log := e :: (old.eraseIdx (old.findIdx (fun a => a.level == v.level))).reverse }

/-- Whether the view of a principal instance (0 to 255 TENANT, 256 HOST, 257 FIELD) sees an event. -/
def attSees (view level : Nat) (tenant : Option Nat) : Bool := view ≥ 256 || level ≥ 4 || tenant == some view

/-- The state of a principal instance. -/
def State.session (s : State) (v : Nat) : Session := tabGet s.mgmt.sessions v .reset

/-- Raises attention: the event enters the log of each view that sees it. -/
def State.raise (s : State) (level : Nat) (tenant : Option Nat) (o : Nat) (i : Nat := 0) : State :=
  let e : Att := ⟨level, tenant.getD 0, o, i, 1, s.time.gun / ns % 2 ^ 64, true⟩
  let views := (if level ≥ 4 then List.range 256 else tenant.toList) ++ [256, 257]
  { s with mgmt.sessions := views.foldl (fun m v => tabUpd m v .reset (fun x => attEnter x e)) s.mgmt.sessions }

/-! ## The error log (R417, R418) -/

/-- Writes or repeats an error log record, posts a new one to work queue 5, and raises its attention. -/
def State.logError (s : State) (source severity att : Nat) (tenant : Option Nat) (o i detail : Nat) : State :=
  let now := s.time.gun
  let same := fun r : ErrRec => r.source == source && r.o == o && r.i == i && r.detail == detail && now ≤ r.first + 1000000 * ns
  let s := if s.rel.errors.any same then
      { s with rel.errors := s.rel.errors.map (fun r => if same r then { r with rep := min (r.rep + 1) 65535, time := now } else r) }
    else
      let full := s.rel.errors.length ≥ 256
      let s := if full then s.count Obj.ERROR_LOG_OVERWRITTEN else s
      let s := { s with rel.errors := ⟨source, severity, att, tenant.getD 0, o, i, detail, now, 1, now⟩ :: s.rel.errors.take 255 }
      s.post 5 0 source
  if att = 0 then s else s.raise att tenant o i

/-- An ECC event in an on-die store (R416, R438): counted in its unit, and recorded with SOURCE 01h. -/
def State.sramEvent (s : State) (u addr : Nat) : Ecc → State
  | .clean => s
  | .corrected => (s.count Obj.SRAM_CORRECTED u).logError 1 0 0 none Obj.SRAM_CORRECTED u (u * 2 ^ 56 + addr)
  | .uncorrectable => (s.count Obj.SRAM_UNCORRECTABLE u).logError 1 1 0 none Obj.SRAM_UNCORRECTABLE u (u * 2 ^ 56 + addr)

/-! ## Named views of the state -/

/-- A port. -/
def State.port (s : State) (p : Nat) : Port := tabGet s.ports p .reset

/-- Changes a port. -/
def State.modPort (s : State) (p : Nat) (f : Port → Port) : State := { s with ports := tabUpd s.ports p .reset f }

/-- A tenant. -/
def State.tenant (s : State) (t : Nat) : Tenant := tabGet s.ten.tenants t .reset

/-- Changes a tenant. -/
def State.modTenant (s : State) (t : Nat) (f : Tenant → Tenant) : State :=
  { s with ten.tenants := tabUpd s.ten.tenants t .reset f }

/-- A frame inside the device. -/
def State.frame? (s : State) (f : Nat) : Option Frame := tabGet? s.frames f

/-- Changes a frame that is listed. -/
def State.modFrame (s : State) (f : Nat) (g : Frame → Frame) : State := { s with frames := tabMod s.frames f g }

/-- Whether every tenant 1 to 255 is IDLE (R48, R413). -/
def State.allIdle (s : State) : Bool := s.ten.tenants.all (fun e => e.2.st == .idle)

/-- Whether port p is a fabric port F0 to F7. -/
def isFabric (p : Nat) : Bool := p < 8

/-- Whether port p is a Psiot port, F0 to F7 or T0 to T5 (R132). -/
def isPsiot (p : Nat) : Bool := p < 14

/-- Whether port p is a host Ethernet port, H0 or H1 (R132). -/
def isHost (p : Nat) : Bool := p == 14 || p == 15

/-- The operational lap length in ns. -/
def State.lapLen (s : State) : Nat := s.cfg Obj.LAP_LENGTH

end Sys2Proof.Machine
end

