-- ==== Sys2Proof/Machine/Access.lean ====
section
/-! DEFINITION. The checks of R388 on an access to the object dictionary, the rights of R389 to R393, and the reply of an
access. A write's own rules are its applier, which each chapter gives. -/

namespace Sys2Proof.Machine

/-- The principal instance of a principal, as 9003h numbers it (R404). -/
def Principal.index : Principal → Nat
  | .tenant t => t
  | .host => 256
  | .field => 257
  | .fw _ => 258

/-- The objects that the ROM recovery responder serves (R426). -/
def recoveryObject (o : Nat) : Bool :=
  [0x1000, 0x1001, 0x1002, 0x1009, 0x1010, 0xA005, 0x9000, 0x9001, 0x9011, 0xB020, 0xB021, 0xB023].contains o

/-- Whether a principal holds the expert right (Table 13.6, R390; under the responder FIELD too, R426). -/
def State.expertRight (s : State) : Principal → Bool
  | .host | .fw _ => true
  | .field => s.rel.boot.recovery || bit (s.cfg Obj.EXPERT_RIGHTS) 0
  | .tenant t => t ≠ 0 && bit (s.cfg Obj.EXPERT_RIGHTS) 1

/-- Whether an access of a principal is at expert level; FW has no session (R373) and always holds the right (DEDUCED, log 7). -/
def State.atExpert (s : State) (p : Principal) : Bool :=
  match p with
  | .fw _ => true
  | _ => (s.session (Principal.index p)).expert

/-- Whether queue q lies in the block of tenant t (R274). -/
def State.inBlock (s : State) (t q : Nat) : Bool :=
  let v := s.cfg Obj.QUEUE_BLOCK t
  bits v 31 16 ≤ q && q < bits v 31 16 + bits v 12 0

/-- The tenant of each record of a batch of 16-, 24- or 64-byte records whose tenant stands at a byte. -/
def batchTenants (size off : Nat) (b : Blob) : List Nat :=
  (List.range ((b.length - 8) / size)).map (fun k => beAt b (8 + k * size + off) 1)

/-- The objects of areas 30h, 33h, 38h, 51h, 60h and 70h that have a tenant instance (Table 13.7). -/
def tenantObject (o : Nat) : Bool :=
  [0x3006, 0x3007, 0x3008, 0x3009, 0x3300, 0x3301, 0x3307, 0x3309, 0x5101, 0x5118].contains o ||
  ((o / 256 == 0x38) && o != 0x3806 && o != 0x3807 && o != 0x3808) || o / 256 == 0x60 ||
  (o / 256 == 0x70 && o != 0x7012 && o != 0x7013)

/-- Whether an object belongs to tenant t, 1 to 255 (Table 13.7); `b` is the blob of a write. -/
def State.owns (s : State) (t o i : Nat) (b : Blob) : Bool :=
  (tenantObject o && i == t) ||
  (([0x5100, 0x5102, 0x5103, 0x5200, 0x5204].contains o || (0x5110 ≤ o && o ≤ 0x5117)) && s.inBlock t i) ||
  ((o == 0x5201 || o == 0x5203) && i / 16 == t) ||
  ((0x5210 ≤ o && o ≤ 0x5213) && beAt (s.blb Obj.MARSHAL i) 17 1 == t) ||
  ((o == 0x3200 || (0x3211 ≤ o && o ≤ 0x3216)) && (match tabGet? s.tables.tries i with
      | some x => x.owner == t && (o != 0x3211 || bits (beAt b 0 16) 119 112 == t)
      | none => false)) ||
  (o == 0x3220 && beAt (s.blb Obj.GROUP i) 3 1 == t) ||
  (o == 0x6200 && bits (s.cfg Obj.LOCK_CONFIG i) 15 8 == t) ||
  (o == 0x6212 && (let v := s.cfg Obj.ATOMIC_BLOCK t
      bits v 31 16 ≤ i && i < bits v 31 16 + bits v 15 0)) ||
  (o == 0x3101 && (List.range ((b.length - 8) / 64)).all (fun k =>
      beAt b (8 + 64 * k + 2) 1 == t && !bit (beAt (s.blb Obj.MASK_SET (beAt b (8 + 64 * k + 1) 1 % 16)) 0 1) 7)) ||
  (o == 0x3210 && (match tabGet? s.tables.tries (beAt b 0 1) with | some x => x.owner == t | none => false)) ||
  (o == 0x3308 && (batchTenants 16 1 b).all (· == t)) ||
  (o == 0x6100 && beAt b 1 1 == t)

/-- The objects every tenant may read (Table 13.6, R390). -/
def tenantReads (o : Nat) : Bool :=
  o / 256 == 0x10 || [0x1200, 0x1202, 0x1300, 0x1301, 0x9000, 0x9001, 0x9002, 0x9010, 0x9011, 0x9012].contains o

/-- What TENANT 0 owns (R390). -/
def State.ownsSystem (s : State) (o i : Nat) : Bool :=
  ([0x5100, 0x5102, 0x5103, 0x5200, 0x5204].contains o || (0x5110 ≤ o && o ≤ 0x5117)) && s.inBlock 0 i

/-- The read right (Table 13.6); only HOST and FW read 9003h (R392). -/
def State.readRight (s : State) (p : Principal) (o i : Nat) : Bool :=
  match p with
  | .host | .fw _ => true
  | .field => o != Obj.VIOLATIONS
  | .tenant 0 => tenantReads o || s.ownsSystem o i
  | .tenant t => tenantReads o || s.owns t o i []

/-- The write right (Table 13.6); a write of an R or RC object has none (R388), but for 9011h there is nothing to write. -/
def State.writeRight (s : State) (p : Principal) (r : ObjRow) (i : Nat) (b : Blob) : Bool :=
  r.acc != .r && r.acc != .rc &&
  match p with
  | .host | .fw _ => true
  | .field =>
    let a := r.code / 256
    if s.rel.boot.recovery then true else
    bit (beAt (s.blb Obj.FIELD_WRITE_AREAS) (a / 8) 1) (7 - a % 8) &&
      r.code != 0x6100 && r.code != 0x8030 && r.code != 0x9020 && r.code != 0x9021
  | .tenant 0 => r.code == 0x9001 || s.ownsSystem r.code i
  | .tenant t => r.code == 0x9001 || s.owns t r.code i b

/-- Whether a byte string is valid UTF-8 (R377): `k` continuation bytes are due, the next of them from `lo` to `hi`. -/
def utf8From : Nat → Nat → Nat → Blob → Bool
  | k, _, _, [] => k == 0
  | 0, _, _, b :: bs =>
    let x := b.toNat
    if x < 0x80 then utf8From 0 0x80 0xBF bs
    else if 0xC2 ≤ x && x ≤ 0xDF then utf8From 1 0x80 0xBF bs
    else if x == 0xE0 then utf8From 2 0xA0 0xBF bs
    else if x == 0xED then utf8From 2 0x80 0x9F bs
    else if 0xE1 ≤ x && x ≤ 0xEF then utf8From 2 0x80 0xBF bs
    else if x == 0xF0 then utf8From 3 0x90 0xBF bs
    else if 0xF1 ≤ x && x ≤ 0xF3 then utf8From 3 0x80 0xBF bs
    else if x == 0xF4 then utf8From 3 0x80 0x8F bs
    else false
  | k + 1, lo, hi, b :: bs => lo ≤ b.toNat && b.toNat ≤ hi && utf8From k 0x80 0xBF bs

/-- Whether a byte string is valid UTF-8. -/
def utf8 (b : Blob) : Bool := utf8From 0 0x80 0xBF b

/-- Check 2 of R388: the type and the length that go with it (R377). -/
def typeOk (r : ObjRow) (ty : Nat) (b : Blob) : Bool :=
  ty == r.ty.code && (match r.ty.width with
    | some w => b.length == w
    | none => r.ty != .str || b.length ≤ 255)

/-- The checks of R388 before an object's own rules: `none` where the access goes on to them, else what it answers. A write
without the right is counted (R392). -/
def State.checkWrite (s : State) (p : Principal) (o i ty : Nat) (b : Blob) : State × Option Result :=
  match objRow? o with
  | none => (s, some .noObject)
  | some r =>
    if s.rel.boot.recovery && Principal.index p < 256 then (s, some .state)
    else if !objHas r i || (s.rel.boot.recovery && !recoveryObject o) then (s, some .noObject)
    else if !typeOk r ty b then (s, some .badType)
    else if r.expert && !s.atExpert p then (s, some .ok)
    else if !s.writeRight p r i b then (s.count Obj.VIOLATIONS (Principal.index p), some .ok)
    else (s, none)

/-- Whether the device runs without DRAM (R431). -/
def State.noDram (s : State) : Bool := s.rel.boot.firmware && s.dram.ways == 0

/-- The writable objects whose tables have a shadow (R188). -/
def shadowed (o : Nat) : Bool :=
  [0x3001, 0x3002, 0x3100, 0x3101, 0x3104, 0x3210, 0x3211, 0x3220, 0x3801].contains o

/-- The objects that configure trace and snapshots (R431). -/
def traceConfig (o : Nat) : Bool := [0x7000, 0x7001, 0x7010, 0x7020].contains o

/-- Whether a write would start traffic, a port or a squad (R443). -/
def startsWork (o : Nat) (b : Blob) : Bool :=
  ([0x2000, 0x4000, 0x4102].contains o && beNat b != 0) || o == 0x7011 || (o == 0x6100 && beAt b 0 1 == 1) ||
  (o == 0x1010 && 16 ≤ beNat b)

/-- What the state of the device makes of a write: STATE without DRAM (R431) and in the halted safe state (R443), BUSY while the
Starter rebuilds its tables (R432). -/
def State.bars (s : State) (o : Nat) (b : Blob) : Option Result :=
  if (s.noDram && (shadowed o || traceConfig o)) || (s.rel.boot.halted && startsWork o b) then some .state
  else if s.starter.rebuilding && shadowed o then some .busy
  else none

/-- The result of a write that the device's state bars: RANGE goes before STATE, and BUSY comes last (R388). -/
def State.guard (s : State) (o : Nat) (b : Blob) (x : State × Result) : State × Result :=
  match s.bars o b with
  | none => x
  | some r => if x.2 == .range || (r == .busy && (x.2 == .state || x.2 == .overcommit)) then x else (s, r)

/-- The type code of an object. -/
def typeCode (o : Nat) : Nat := match objRow? o with | some r => r.ty.code | none => 0

/-- The key of a blob object's write generation (R380); the views of the staged calibration block share one. -/
def genKey (o i : Nat) : Nat := if 0xB000 ≤ o && o ≤ 0xB007 then objKey 0xB000 0 else objKey o i

/-- A new write generation of an object. -/
def State.bumpGen (s : State) (o i : Nat) : State := { s with mgmt.gens := tabUpd s.mgmt.gens (genKey o i) 0 (· + 1) }

/-- A write under R388: its checks, then the object's own rules; one that was applied starts a new generation. -/
def State.write (s : State) (p : Principal) (o i ty : Nat) (b : Blob) (apply : State → State × Result) : State × Result :=
  match s.checkWrite p o i ty b with
  | (s, some r) => (s, r)
  | (s, none) =>
    let x := s.guard o b (apply s)
    if (x.2 == .ok || x.2 == .partialRes) && (typeCode o == 14 || o == 0xB006 || o == 0xB007) then (x.1.bumpGen o i, x.2) else x

/-- The retry hint of an answer: a free value with BUSY, where the manual gives it no other (R174, R366), 0 otherwise. -/
def State.retryHint (s : State) (r : Result) : Nat × State :=
  if r == .busy then
    let (h, s) := s.draw
    (h % 65536, s)
  else (0, s)

/-- The state after an access, with its reply. -/
def State.answer (x : State × Result) (data : Blob := []) : State :=
  { (x.1.retryHint x.2).2 with reply := ⟨x.2, data, (x.1.retryHint x.2).1⟩ }

/-- The bytes of a number written to an object; a number that its type cannot hold has a wrong length. -/
def numBytes (o v : Nat) : Blob :=
  match objRow? o with
  | some r => match r.ty.width with
    | some w => if v < 256 ^ w then beBytes w v else beBytes (w + 1) v
    | none => []
  | none => []

/-- A command that writes a number to an object with rules of its own. -/
def State.writeNumCmd (s : State) (p : Principal) (o i v : Nat) (apply : Nat → State → State × Result) : State :=
  State.answer (s.write p o i (typeCode o) (numBytes o v) (apply v))

/-- A command that writes a blob to an object with rules of its own. -/
def State.writeBlobCmd (s : State) (p : Principal) (o i : Nat) (b : Blob) (apply : Blob → State → State × Result) : State :=
  State.answer (s.write p o i (typeCode o) b (apply b))

/-- The rules of a number whose row gives only its values: RANGE outside them, else it is stored without its reserved bits. -/
def applyPlain (o i v : Nat) (s : State) : State × Result :=
  match objRow? o with
  | none => (s, .noObject)
  | some r => if v < r.vlo || r.vhi < v then (s, .range) else (s.writeNum o i (v &&& r.mask), .ok)

/-- Whether a U64 that names a lap leaves bits 63 to 48 zero (R36). -/
def lapOk (v : Nat) : Bool := v < 2 ^ 48

/-- FFFFFFFFFFFFh: no lap (R36). -/
abbrev noLap : Nat := 2 ^ 48 - 1

/-- (L − current) mod 2⁴⁸ (R36). -/
def lapsAhead (s : State) (l : Nat) : Nat := (l + 2 ^ 48 - s.time.lap % 2 ^ 48) % 2 ^ 48

/-- Whether a lap is in the future (R36). -/
def lapFuture (s : State) (l : Nat) : Bool := 1 ≤ lapsAhead s l && lapsAhead s l ≤ 2 ^ 47 - 1

end Sys2Proof.Machine
end

