-- ==== Sys2Proof/Machine/Locks.lean ====
section
/-! DEFINITION. Hardware locks and atomic words (R301 to R306). -/

namespace Sys2Proof.Machine

/-- A lock. -/
def State.lock (s : State) (l : Nat) : Lock := tabGet s.ten.locks l .reset

/-- Replaces a lock. -/
def State.setLock (s : State) (l : Nat) (x : Lock) : State := { s with ten.locks := tabSet s.ten.locks l x }

/-- The OWNER tenant of a lock (6201h). -/
def State.lockOwner (s : State) (l : Nat) : Nat := bits (s.cfg Obj.LOCK_CONFIG l) 15 8

/-! ## Master IDs (Table 10.5) -/

/-- The master of a Starter core. -/
def midCore (k : Nat) : Nat := k
/-- The master of a host function, 0 the PF and 1 to 256 the VFs. -/
def midHost (f : Nat) : Nat := 2 ^ 14 + f
/-- The field principal's master. -/
def midField : Nat := 2 * 2 ^ 14
/-- The master of a Strider thread. -/
def midThread (tid : Nat) : Nat := 3 * 2 ^ 14 + tid

/-- The master of a principal (R305). -/
def masterOf : Principal → Nat
  | .host => midHost 0
  | .tenant t => midHost (t + 1)
  | .field => midField
  | .fw k => midCore k

/-- Whether a master other than a Strider thread may take a lock (R302). -/
def State.mayLock (s : State) (m l : Nat) : Bool :=
  match m / 2 ^ 14 with
  | 1 => m % 2 ^ 11 == 0 || (s.lockOwner l != 0 && m % 2 ^ 11 == s.lockOwner l + 1)
  | _ => true

/-- Whether a thread whose frame belongs to tenant t (none in LOADING and TEST) may take a lock (R302). -/
def State.mayLockThread (s : State) (t : Option Nat) (l : Nat) : Bool :=
  match t with
  | none => s.lockOwner l == 0
  | some t => t == 0 || t == s.lockOwner l

/-- An attempt on a lock (R302): whether it was granted, whether that grant reports ABANDONED, and the state. -/
def State.attempt (s : State) (m l : Nat) (may : Bool) : Bool × Bool × State :=
  let x := s.lock l
  if !may then (false, false, s.count Obj.LOCK_VIOLATIONS)
  else match x.holder with
    | none => (true, x.abandoned, s.setLock l { x with holder := some m, abandoned := false })
    | some h =>
      if h = m then (true, x.abandoned, s.setLock l { x with abandoned := false })
      else if m / 2 ^ 14 = 0 && !x.waiters.contains m then (false, false, s.setLock l { x with waiters := x.waiters ++ [m] })
      else (false, false, s)

/-- Wakes a Starter core that waits for an event, or leaves the event for its next wait. -/
def State.eventCore (s : State) (k : Nat) : State :=
  { s with starter.cores := tabUpd s.starter.cores k .reset (fun c =>
      if c.waiting then { c with waiting := false } else { c with eventLatch := true }) }

/-- Makes an interrupt vector pending at a Starter core. -/
def State.irqCore (s : State) (k v : Nat) : State :=
  { s with starter.cores := tabUpd s.starter.cores k .reset (fun c =>
      if c.irq.contains v then c else { c with irq := c.irq ++ [v] }) }

/-- A release of a lock: it is free, RELEASES advances, and every waiter is woken by the lock's wait mode (R302, R303). -/
def State.freeLock (s : State) (l : Nat) : State :=
  let x := s.lock l
  let s := s.setLock l { x with holder := none, releases := (x.releases + 1) % 2 ^ 32, waiters := [] }
  x.waiters.foldl (fun s k =>
    if bit (s.cfg Obj.LOCK_CONFIG l) 0 then
      { s with starter.cores := tabUpd s.starter.cores k .reset (fun c => { c with lockPend := c.lockPend ||| 2 ^ l }) }.irqCore k 24
    else s.eventCore k) s

/-- An unlock: true where the master held the lock (R302). -/
def State.unlockBy (s : State) (m l : Nat) : Bool × State :=
  if (s.lock l).holder = some m then (true, s.freeLock l) else (false, s.count Obj.LOCK_VIOLATIONS)

/-- R304: a master is reset with locks held: each is freed, marked abandoned, counted and recorded. -/
def State.abandonLocks (s : State) (m : Nat) : State :=
  (List.range 64).foldl (fun s l =>
    if (s.lock l).holder = some m then
      let s := s.freeLock l
      let s := (s.setLock l { s.lock l with abandoned := true }).count Obj.LOCK_ABANDONS
      s.logError 9 1 2 none Obj.LOCK_ABANDONS 0 (l * 2 ^ 16 + m)
    else s) s

/-- The lock word of Table 10.6 for a reading master. -/
def State.lockWord (s : State) (m l : Nat) : Nat :=
  let x := s.lock l
  nat01 x.holder.isSome * 2 ^ 63 + nat01 x.abandoned * 2 ^ 62 + nat01 (x.holder == some m) * 2 ^ 61 +
    x.holder.getD 0 * 2 ^ 32 + x.releases

/-- LOCK_REGISTER_READ (R305): a host function's read attempts the lock and returns the word after the attempt; the grant of
an abandoned lock reports it (DEDUCED, log 13). -/
def execLockRegisterRead (function l : Nat) (s : State) : Host.Outcome State Fault Refusal :=
  let m := midHost function
  let may := s.mayLock m l
  let (_, ab, s) := s.attempt m l may
  .next (s.emit (.lockWord (if may then s.lockWord m l ||| nat01 ab * 2 ^ 62 else 0)))

/-- LOCK_REGISTER_WRITE (R305): a host function's write of any value unlocks. -/
def execLockRegisterWrite (function l : Nat) (s : State) : Host.Outcome State Fault Refusal :=
  .next (s.unlockBy (midHost function) l).2

/-- A write of 6200h[l] (R305): 1 attempts, 0 unlocks. -/
def applyLock (p : Principal) (l v : Nat) (s : State) : State × Result :=
  if v = 1 then ((s.attempt (masterOf p) l (s.mayLock (masterOf p) l)).2.2, .ok)
  else if v = 0 then ((s.unlockBy (masterOf p) l).2, .ok)
  else (s, .range)

/-- LOCK_ATTEMPT: a write of 1 to 6200h[l]. -/
def execLockAttempt (p : Principal) (l : Nat) (s : State) : Host.Outcome State Fault Refusal :=
  .next (s.writeNumCmd p Obj.LOCK l 1 (applyLock p l))

/-- LOCK_UNLOCK: a write of 0 to 6200h[l]. -/
def execLockUnlock (p : Principal) (l : Nat) (s : State) : Host.Outcome State Fault Refusal :=
  .next (s.writeNumCmd p Obj.LOCK l 0 (applyLock p l))

/-- A write of 6201h[l] (R301): STATE while the lock is held. -/
def applyLockConfig (l v : Nat) (s : State) : State × Result :=
  if (s.lock l).holder.isSome then (s, .state) else (s.writeNum Obj.LOCK_CONFIG l (v &&& 0xFF01), .ok)

/-- LOCK_CONFIG: a write of 6201h[l]. -/
def execLockConfig (p : Principal) (i v : Nat) (s : State) : Host.Outcome State Fault Refusal :=
  .next (s.writeNumCmd p Obj.LOCK_CONFIG i v (applyLockConfig i))

/-! ## Atomic words (R306) -/

/-- The block of a tenant: base and count. -/
def State.atomBlock (s : State) (t : Nat) : Nat × Nat :=
  let v := s.cfg Obj.ATOMIC_BLOCK t
  (bits v 31 16, bits v 15 0)

/-- An atomic word. -/
def State.atom (s : State) (i : Nat) : Nat := tabGet s.ten.atoms i 0

/-- Writes an atomic word. -/
def State.setAtom (s : State) (i v : Nat) : State := { s with ten.atoms := tabPut s.ten.atoms i 0 (v % 2 ^ 40) }

/-- The word an index names: directly for tenant 0, LOADING, TEST and the Starter, within the tenant's block otherwise. -/
def State.atomIndex (s : State) (t : Option Nat) (i : Nat) : Option Nat :=
  match t with
  | none | some 0 => some (i % 65536)
  | some t => let (b, n) := s.atomBlock t
    if i % 65536 < n then some (b + i % 65536) else none

/-- Whether two blocks overlap. -/
def blocksMeet (a b : Nat × Nat) : Bool := 0 < a.2 && 0 < b.2 && a.1 < b.1 + b.2 && b.1 < a.1 + a.2

/-- A write of 6210h[t] (R306). -/
def applyAtomicBlock (t v : Nat) (s : State) : State × Result :=
  let x := (bits v 31 16, bits v 15 0)
  if x.2 > 32768 || x.1 + x.2 > 65536 ||
      (List.range 255).any (fun k => k + 1 != t && blocksMeet x (s.atomBlock (k + 1))) then (s, .range)
  else if (s.tenant t).st != .idle then (s, .state)
  else (s.writeNum Obj.ATOMIC_BLOCK t v, .ok)

/-- ATOMIC_BLOCK: a write of 6210h[t]. -/
def execAtomicBlock (p : Principal) (i v : Nat) (s : State) : Host.Outcome State Fault Refusal :=
  .next (s.writeNumCmd p Obj.ATOMIC_BLOCK i v (applyAtomicBlock i))

/-- A write of 6212h[i]. -/
def applyAtomicWord (i v : Nat) (s : State) : State × Result := (s.setAtom i v, .ok)

end Sys2Proof.Machine
end

