-- ==== Sys2Proof/Machine/Check.lean ====
section
/-! DEFINITION. The checks over bytes: CRC-32 (R107), CRC-16 (R108), the Internet checksum (R256), and SipHash-2-4 with the
keys of R162 and R163. -/

namespace Sys2Proof.Machine

/-- One bit step of a CRC register of width `w`, most significant bit first. -/
def crcStep (w poly reg : Nat) : Nat :=
  if reg.testBit (w - 1) then (reg * 2 % 2 ^ w) ^^^ poly else reg * 2 % 2 ^ w

/-- One byte into a CRC register. -/
def crcByte (w poly reg : Nat) (b : Byte) : Nat :=
  (List.range 8).foldl (fun r _ => crcStep w poly r) (reg ^^^ b.toNat * 2 ^ (w - 8))

/-- The running CRC-32 register of R107 over bytes. -/
def crc32Run (reg : Nat) (b : Blob) : Nat := b.foldl (crcByte 32 0x04C11DB7) reg

/-- The CRC-32 of R107, complemented. -/
def crc32 (b : Blob) : Nat := crc32Run 0xFFFFFFFF b ^^^ 0xFFFFFFFF

/-- The running CRC-16 register of R108 over bytes. -/
def crc16Run (reg : Nat) (b : Blob) : Nat := b.foldl (crcByte 16 0x1021) reg

/-- The running ones'-complement sum of big-endian 16-bit words, an odd byte padded with a zero byte (R256). -/
def inetRun : Nat → Blob → Nat
  | r, [] => r
  | r, [x] => let v := r + x.toNat * 256
    v % 65536 + v / 65536
  | r, x :: y :: t => let v := r + x.toNat * 256 + y.toNat
    inetRun (v % 65536 + v / 65536) t

/-! ## SipHash-2-4 (R162) -/

/-- A number from little-endian bytes, as SipHash reads its words. -/
def leNat (b : Blob) : Nat := b.foldr (fun x n => n * 256 + x.toNat) 0

/-- The four words of a SipHash state. -/
structure Sip where
  a : BitVec 64
  b : BitVec 64
  c : BitVec 64
  d : BitVec 64
deriving DecidableEq, Repr

/-- One round. -/
def Sip.round (v : Sip) : Sip :=
  let a := v.a + v.b
  let c := v.c + v.d
  let b := v.b.rotateLeft 13 ^^^ a
  let d := v.d.rotateLeft 16 ^^^ c
  let a := a.rotateLeft 32
  let c := c + b
  let a := a + d
  let b := b.rotateLeft 17 ^^^ c
  let d := d.rotateLeft 21 ^^^ a
  ⟨a, b, c.rotateLeft 32, d⟩

/-- One message word. -/
def Sip.word (v : Sip) (m : BitVec 64) : Sip :=
  let v := { v with d := v.d ^^^ m }.round.round
  { v with a := v.a ^^^ m }

/-- The whole words of a message, `n` of them. -/
def Sip.words (v : Sip) (b : Blob) : Nat → Sip
  | 0 => v
  | n + 1 => (v.word (BitVec.ofNat 64 (leNat (b.take 8)))).words (b.drop 8) n

/-- SipHash-2-4 of a message under a 16-byte key (PRESUMED from the published algorithm, which the manual names, log 11). -/
def sipHash (key msg : Blob) : Nat :=
  let k0 := BitVec.ofNat 64 (leNat (key.take 8))
  let k1 := BitVec.ofNat 64 (leNat (key.drop 8))
  let v : Sip := ⟨k0 ^^^ 0x736F6D6570736575, k1 ^^^ 0x646F72616E646F6D, k0 ^^^ 0x6C7967656E657261, k1 ^^^ 0x7465646279746573⟩
  let n := msg.length / 8
  let last := leNat (msg.drop (8 * n)) + msg.length % 256 * 2 ^ 56
  let v := (v.words msg n).word (BitVec.ofNat 64 last)
  let v := { v with c := v.c ^^^ 0xFF }.round.round.round.round
  (v.a ^^^ v.b ^^^ v.c ^^^ v.d).toNat

/-- The key of a hash of use `u` for tenant `t` (R163). -/
def hashKey (seed salt u t : Nat) : Blob :=
  let k := beBytes 16 seed
  let k := k.set 0 (k.getD 0 0 ^^^ BitVec.ofNat 8 u)
  let k := k.set 1 (k.getD 1 0 ^^^ BitVec.ofNat 8 t)
  if u = 6 then k.take 8 ++ List.zipWith (· ^^^ ·) (k.drop 8) (beBytes 8 salt) else k

end Sys2Proof.Machine
end

