-- ==== Sys2Proof/Machine/Rings.lean ====
section
/-! DEFINITION. The configuration of trace rings and their trigger (Table 11.6, R346), which the combining wave reaches too. -/

namespace Sys2Proof.Machine

/-! ## Ring configuration (7000h) -/

/-- BASE of a ring. -/
def State.ringBase (s : State) (t : Nat) : Nat := beAt (s.blb Obj.TRACE_RING t) 0 8
/-- SIZE of a ring. -/
def State.ringSize (s : State) (t : Nat) : Nat := beAt (s.blb Obj.TRACE_RING t) 8 8
/-- MIRROR of a ring. -/
def State.ringMirror (s : State) (t : Nat) : Nat := beAt (s.blb Obj.TRACE_RING t) 16 8
/-- MODE of a ring: 0 off, 1 wrap, 2 trigger, 3 stream. -/
def State.ringMode (s : State) (t : Nat) : Nat := beAt (s.blb Obj.TRACE_RING t) 24 1
/-- SAMPLE of a ring. -/
def State.ringSample (s : State) (t : Nat) : Nat := max 1 (beAt (s.blb Obj.TRACE_RING t) 26 2)
/-- PRE of a ring. -/
def State.ringPre (s : State) (t : Nat) : Nat := beAt (s.blb Obj.TRACE_RING t) 28 4
/-- POST of a ring. -/
def State.ringPost (s : State) (t : Nat) : Nat := beAt (s.blb Obj.TRACE_RING t) 32 4

/-- A ring. -/
def State.ring (s : State) (t : Nat) : Ring := tabGet s.trc.rings t .reset

/-- Changes a ring. -/
def State.modRing (s : State) (t : Nat) (f : Ring → Ring) : State := { s with trc.rings := tabUpd s.trc.rings t .reset f }

/-- Whether a ring takes records now. -/
def Ring.takes (r : Ring) : Bool := r.st == .running || r.st == .armed || r.st == .triggered

/-- The index of lap n among tenant t's active laps since START: of one begun as it was noted, of a later one by counting on. -/
def State.activeIndex (s : State) (t n : Nat) : Nat :=
  let x := s.tenant t
  match x.lately.find? (fun e => e.1 == n) with
  | some (_, i) => i
  | none => x.activeIdx + (lapsAhead s n - 1) / s.cfg Obj.LAP_DIVISOR t

/-- The active laps of tenant t since START up to lap n, which is current or one of the last. -/
def State.activeCount (s : State) (t n : Nat) : Nat :=
  let x := s.tenant t
  match x.lately.find? (fun e => (n + 2 ^ 48 - e.1) % 2 ^ 48 < 2 ^ 47) with
  | some (_, i) => i + 1
  | none => (x.lately.getLast?.map Prod.snd).getD x.activeIdx

/-- Of so many active laps, those that are traced (R342). -/
def State.tracedCount (s : State) (t n : Nat) : Nat := (n + s.ringSample t - 1) / s.ringSample t

/-- Whether a ring takes the records of an active lap: a triggered one takes those of POST traced laps after the trigger lap (R346). -/
def State.ringTakesLap (s : State) (t n : Nat) : Bool :=
  (s.ring t).takes && ((s.ring t).st != .triggered || s.activeIndex t n / s.ringSample t < (s.ring t).stopAt)

/-- A trigger source fires for lap n: an armed ring triggers; further sources of the same lap are added to CAUSE. -/
def State.fire (s : State) (t n src : Nat) : State :=
  let x := s.ring t
  if s.ringMode t != 2 then s
  else if x.st == .armed then
    let last := s.tracedCount t (s.activeCount t n) + s.ringPost t
    s.modRing t (fun x => { x with st := .triggered, trigLap := n, cause := 2 ^ src, stopAt := last, trigDue := true })
  else if x.st == .triggered && x.trigDue && x.trigLap == n then s.modRing t (fun x => { x with cause := x.cause ||| 2 ^ src })
  else s

/-- A HALT comes down for a tenant (Table 11.5): `n` is its lap of the condition. -/
def State.ringHalt (s : State) (t n : Nat) : State :=
  if bit (beAt (s.blb Obj.TRACE_TRIGGERS t) 102 1) 0 then s.fire t n 6 else s

end Sys2Proof.Machine
end

