-- ==== Sys2Proof/Machine/Wire.lean ====
section
/-! DEFINITION. What stands on the wire of a Psiot link: codeword messages (R104, R106), fabric headers (R107, R108) and control flits
(R110, R111). -/

namespace Sys2Proof.Machine

/-! ## Codewords (R104, R105, R115) -/

/-- Symbols of a codeword: RS(544,514), or RS(272,257) in low-latency mode (Table 4.2). -/
def cwSymbols (low : Bool) : Nat := if low then 272 else 544

/-- Message symbols of a codeword. -/
def cwMessage (low : Bool) : Nat := if low then 257 else 514

/-- The symbols a mode corrects in one codeword: half its parity symbols, 15 or 7 (R115). -/
def cwCorrects (low : Bool) : Nat := (cwSymbols low - cwMessage low) / 2

/-- Flits of a codeword (Table 4.2). -/
def cwFlits (low : Bool) : Nat := if low then 8 else 16

/-- What CWSEQ counts modulo (R104). -/
def cwModulus (low : Bool) : Nat := if low then 4 else 16

/-- CWSEQ of a codeword header. -/
def headerSeq (low : Bool) (header : Nat) : Nat := header % cwModulus low

/-- Whether flit j of a codeword has START (Table 4.2). -/
def headerStart (low : Bool) (header j : Nat) : Bool := j < cwFlits low && bit header ((if low then 9 else 19) - j)

/-- The header of a codeword from the START bits of its flits and its CWSEQ (Table 4.2). -/
def cwHeader (low : Bool) (starts : List Bool) (seq : Nat) : Nat :=
  ((List.range (cwFlits low)).map (fun j => nat01 (starts.getD j false) * 2 ^ ((if low then 9 else 19) - j))).sum + seq % cwModulus low

/-- The message of a codeword as 10-bit symbols, most significant bit first: the header, then the flits (R104). -/
def cwMessageSymbols (low : Bool) (header : Nat) (flits : List Blob) : List Nat :=
  let n := header * 2 ^ (320 * cwFlits low) + beNat (((List.range (cwFlits low)).map (fun j => flits.getD j [])).flatten)
  (List.range (cwMessage low)).map (fun k => n / 2 ^ (10 * (cwMessage low - 1 - k)) % 1024)

/-- The lane on which symbol i of a codeword travels at a width of 16 or 8 lanes (R104). -/
def symbolLane (width i : Nat) : Nat := i % width

/-- The codeword time in units of 2⁻¹⁶ ns: 3.2 ns or 1.6 ns at x16, twice that at x8 (Table 4.2). -/
def cwTime (low half : Bool) : Nat := (if low then 104857 else 209715) * (if half then 2 else 1)

/-- The next nominal flit time at or after a gun time: a whole multiple of the flit time, 0.2 ns at x16 and 0.4 ns at x8 (R104, R105). -/
def flitBoundary (half : Bool) (t : Nat) : Nat :=
  let d := if half then 2 else 1
  ((t * 5 + 65536 * d - 1) / (65536 * d)) * (65536 * d) / 5

/-- One step of the time stamp and launch units, 78.125 ps (R32). -/
abbrev fineStep : Nat := 5120

/-! ## Fabric headers -/

/-- F of R107: the flits of a frame with a payload of `len` bytes. -/
def flitsOf (len : Nat) : Nat := max 2 ((36 + len + 39) / 40)

/-- The fields of a fabric header (Table 4.4) that a sender chooses. -/
structure FabricHdr where
  dest : Nat
  src : Nat
  cls : Nat
  hops : Nat
  proto : Nat
  len : Nat
  flow : Nat
  ce : Bool
  mark : Bool
  word : Nat
deriving DecidableEq, Repr

/-- A header with its HCRC over bytes 0–21 and 24–31 (R108). -/
def withHcrc (h : Blob) : Blob := overwrite h 22 (beBytes 2 (crc16Run 0xFFFF (h.take 22 ++ (h.drop 24).take 8)))

/-- The 32 bytes of a fabric header. -/
def FabricHdr.bytes (h : FabricHdr) : Blob :=
  withHcrc (beBytes 32 (packFields [(32, h.dest), (32, h.src), (4, 1), (3, h.cls), (1, 0), (6, h.hops), (2, 0), (8, h.proto),
    (14, h.len), (2, 0), (24, h.flow), (1, nat01 h.ce), (1, nat01 h.mark), (46, 0), (16, 0), (64, h.word)]))

/-- The zero bytes that pad a frame of a payload to its F flits (R107). -/
def framePad (len : Nat) : Blob := List.replicate (40 * flitsOf len - (36 + len)) 0

/-! ## Control flits -/

/-- The 40 bytes of a control flit: TYPE, VC, 36 body bytes, and CCRC over bytes 0–37 (Table 4.6). -/
def flitBytes (ty vc : Nat) (body : Blob) : Blob :=
  let h := beBytes 1 ty ++ beBytes 1 (vc * 32) ++ (body ++ List.replicate 36 0).take 36
  h ++ beBytes 2 (crc16Run 0xFFFF h)

/-- Whether a control flit is whole, its CCRC holds and its TYPE is not reserved (R110). -/
def flitOk (f : Blob) : Bool :=
  f.length == 40 && crc16Run 0xFFFF (f.take 38) == beAt f 38 2 && beAt f 0 1 ≤ 0x0A

/-- TYPE of a control flit (Table 4.7). -/
def flitType (f : Blob) : Nat := beAt f 0 1

/-- VC of a control flit, for LAP_MARKER. -/
def flitVc (f : Blob) : Nat := beAt f 1 1 / 32

/-- The TYPE code of a control flit (Table 4.7). -/
def CtlFlit.code : CtlFlit → Nat
  | .idle => 0 | .credit _ => 1 | .announce _ => 2 | .sync _ _ _ => 3 | .reply _ _ => 4 | .lapMarker _ _ => 5
  | .missedSlab _ _ _ => 6 | .wave _ _ _ _ _ => 7 | .sleep _ => 8 | .abort _ => 9 | .link _ _ => 10

/-- The body of a control flit from byte 2 on (Table 4.7); `at_` is its own nominal time at the pin, T1 or T3. -/
def CtlFlit.body (at_ : Nat) : CtlFlit → Blob
  | .idle => []
  | .credit limits => (List.range 6).flatMap (fun k => beBytes 4 (limits.getD k 0))
  | .announce a => beBytes 1 a.rank ++ beBytes 1 a.hops ++ beBytes 8 a.bib ++ beBytes 4 (unsigned 32 a.offset) ++ beBytes 6 a.lap ++
      beBytes 10 a.lapStart ++ beBytes 4 a.lapLen
  | .sync seq prev t4 => beBytes 2 seq ++ beBytes 10 at_ ++ beBytes 2 prev ++ beBytes 10 t4
  | .reply seq t2 => beBytes 2 seq ++ beBytes 10 t2 ++ beBytes 10 at_
  | .lapMarker _ lap => beBytes 6 lap
  | .missedSlab t slab lap => beBytes 1 t ++ [0] ++ beBytes 2 slab ++ beBytes 2 lap
  | .wave t op n dir value => beBytes 1 t ++ beBytes 1 op ++ beBytes 2 n ++ beBytes 1 dir ++ [0] ++ beBytes 8 value
  | .sleep wake => beBytes 10 wake
  | .abort reason => beBytes 1 reason
  | .link op lane => beBytes 1 op ++ beBytes 1 lane

/-- VC of a control flit that leaves. -/
def CtlFlit.vc : CtlFlit → Nat
  | .lapMarker vc _ => vc
  | _ => 0

/-- The bytes of a control flit that leaves at a time (R110, R111). -/
def CtlFlit.bytes (f : CtlFlit) (at_ : Nat) : Blob := flitBytes f.code f.vc (f.body at_)

/-- The announce a flit carries (Table 4.7). -/
def announceOf (f : Blob) : AnnounceBody :=
  ⟨beAt f 2 1, beAt f 3 1 % 64, beAt f 4 8, signed 32 (beAt f 12 4), beAt f 16 6, beAt f 22 10, beAt f 32 4⟩

end Sys2Proof.Machine
end

