-- ==== Sys2Proof/Machine/Waves.lean ====
section
/-! DEFINITION. Laps, tenant states at a lap, the operation schedule, the fault log, control flits queued on a port, and the
combining wave (R34 to R37, R74, R75, R89, R291, R292, R311, R313 to R319). -/

namespace Sys2Proof.Machine

/-! ## Laps -/

/-- One lap further, modulo 2⁴⁸ (R35). -/
def lapAdd (l k : Nat) : Nat := (l + k) % 2 ^ 48

/-- The lap k laps back, modulo 2⁴⁸. -/
def lapSub (l k : Nat) : Nat := (l + 2 ^ 48 - k % 2 ^ 48) % 2 ^ 48

/-- Whether a swap is scheduled for a lap at or before the one `j` laps ahead (R61, R89). -/
def State.swappedBy (s : State) (j : Nat) : Bool :=
  let w := s.cfg Obj.SWAP_LAP
  w != noLap && 1 ≤ lapsAhead s w && lapsAhead s w ≤ j

/-- Whether a pending copy is staged: 0 to 15 the gate lists, 16 to 31 the receive-window lists, 32 the lap length. -/
def State.isStaged (s : State) (k : Nat) : Bool := s.time.staged.contains k

/-- The lap length a swap brings: the staged one, or the operational one (R61). -/
def State.swapLen (s : State) : Nat := if s.isStaged 32 then s.cfg Obj.LAP_LENGTH_PENDING else s.lapLen

/-- The gun time at which the lap `j` laps ahead starts, j at least 1 (R35, R62). -/
def State.lapStartIn (s : State) (j : Nat) : Time :=
  let w := s.cfg Obj.SWAP_LAP
  let a := lapsAhead s w
  let old := if w != noLap && 1 ≤ a then min (j - 1) (a - 1) else j - 1
  s.time.next + (old * s.lapLen + (j - 1 - old) * s.swapLen) * ns

/-- How many laps ahead the first lap lies that starts at or after a gun time. -/
def State.lapsUntil (s : State) (t : Time) : Nat :=
  if t ≤ s.time.next then 1
  else
    let w := s.cfg Obj.SWAP_LAP
    let a := lapsAhead s w
    let j := 1 + (t - s.time.next + s.lapLen * ns - 1) / (s.lapLen * ns)
    if w == noLap || a = 0 || j ≤ a then j
    else a + (t - s.lapStartIn a + s.swapLen * ns - 1) / (s.swapLen * ns)

/-- The lap of a slab: the one congruent to LAP modulo 2¹⁶ within current − 32,768 to current + 32,767 (R74). -/
def State.lapOf (s : State) (lap16 : Nat) : Nat :=
  let d := (lap16 + 65536 - s.time.lap % 65536) % 65536
  if d < 32768 then lapAdd s.time.lap d else lapSub s.time.lap (65536 - d)

/-! ## Tenant states and the schedule -/

/-- The order of the operations of one lap and tenant (R311). -/
def Op.rank : Op → Nat
  | .reset => 0 | .fault => 1 | .hold => 2 | .freeze => 3 | .snapshot => 4 | .start => 5

/-- The codes of Table 10.4. -/
def Op.code : Op → Nat
  | .start => 1 | .hold => 2 | .freeze => 3 | .snapshot => 4 | .reset => 5 | .fault => 6

/-- The operation of a code (Table 10.4). -/
def opOf? : Nat → Option Op
  | 1 => some .start | 2 => some .hold | 3 => some .freeze | 4 => some .snapshot | 5 => some .reset | 6 => some .fault
  | _ => none

/-- Whether an operation is allowed in a state (Table 10.4). -/
def opAllowed : Op → TenantState → Bool
  | .start, st => st == .idle || st == .held
  | .hold, st => st == .running
  | .freeze, st | .snapshot, st | .fault, st => st == .running || st == .held
  | .reset, st => st != .resetting

/-- The state an allowed operation leads to (Table 10.4, R296). -/
def opResult : Op → TenantState → TenantState
  | .start, _ => .running
  | .hold, _ => .held
  | .freeze, _ => .held
  | .snapshot, st => st
  | .reset, _ => .resetting
  | .fault, _ => .faulted

/-- The state of a tenant at the start of a lap: kept for this lap, the one before it and the active laps of which inputs are held,
projected through the schedule for a later one (R89, R292). -/
def State.stateAt (s : State) (t n : Nat) : TenantState :=
  let x := s.tenant t
  if n = s.time.lap then x.stAtLap
  else if n = lapSub s.time.lap 1 then x.stPrev
  else if lapFuture s n then
    (s.ten.sched.filter (fun y => y.t == t && lapsAhead s y.lap ≤ lapsAhead s n)).foldl
      (fun st y => if opAllowed y.op st then opResult y.op st else st) x.st
  else if x.lately.any (fun e => e.1 == n) then .running
  else .idle

/-- Whether lap n is an active lap of tenant t by its divisor and phase (R75). -/
def State.lapMatches (s : State) (t n : Nat) : Bool :=
  n % s.cfg Obj.LAP_DIVISOR t == s.cfg Obj.LAP_PHASE t

/-- Whether lap n is an active lap of tenant t, which must be RUNNING at its start (R75, R292). -/
def State.activeLap (s : State) (t n : Nat) : Bool :=
  1 ≤ t && t ≤ 255 && s.lapMatches t n && s.stateAt t n == .running

/-- Enters an entry in a tenant's fault log, 32 entries, newest first (R325). -/
def State.faultEntry (s : State) (t cause port slab lap : Nat) : State :=
  s.modTenant t (fun x => { x with
    faultLog := (⟨cause, port, slab, lap, s.time.gun / ns % 2 ^ 48⟩ :: x.faultLog).take 32 })

/-! ## Control flits and waves -/

/-- Whether control flits pass on a port (Table 4.9). -/
def Port.passes (p : Port) : Bool := p.st == .up || p.st == .isolated

/-- Queues a control flit on a port on which control flits pass. -/
def State.queueCtl (s : State) (p : Nat) (f : CtlFlit) : State :=
  if (s.port p).passes then s.modPort p (fun x => { x with ctl := x.ctl ++ [f] }) else s

/-- The fabric ports that are children (R313). -/
def State.fabricChildren (s : State) : List Nat := s.ten.children.filter (fun p => (s.port p).st == .up)

/-- The target ports of a tenant that are UP: the endpoints of 6003h[t] (R316). -/
def State.endpoints (s : State) (t : Nat) : List Nat :=
  (List.range 6).filterMap (fun k =>
    if bit (s.cfg Obj.TENANT_MEMBERS t) k && (s.port (8 + k)).st == .up then some (8 + k) else none)

/-- The target ports that 6003h[t] names, UP or not. -/
def State.members (s : State) (t : Nat) : List Nat :=
  (List.range 6).filterMap (fun k => if bit (s.cfg Obj.TENANT_MEMBERS t) k then some (8 + k) else none)

/-- The payload of Table 10.7 of an operation. -/
def Sched.bytes (x : Sched) : Blob :=
  beBytes 1 x.op.code ++ beBytes 1 x.t ++ beBytes 1 x.flags ++ [0] ++ beBytes 6 x.lap ++ List.replicate 6 0

/-- Enters a frame of the Starter behind those that wait for cells (R269). -/
def State.starterQueue (s : State) (w : Blob) (cls port sub : Nat) (field : Bool := false) : State :=
  { s with starter.sendQ := s.starter.sendQ ++ [⟨w, cls, port, sub, field⟩] }

/-- The command frame of an operation for a target port: PROTO 06h in class C2 with the 16 bytes of Table 10.7 (R122, R310). Its
endpoint, HOPS and FLOW are not stated and free (log 19). -/
def State.sendCommand (s : State) (x : Sched) (p : Nat) : State :=
  let (v, s) := s.draw
  let own := x.t * 2 ^ 24 + s.cfg Obj.DEVICE_ID * 2 ^ 10
  let h : FabricHdr := ⟨own + v % 1024, own, 2, v / 2 ^ 10, 6, 16, v / 2 ^ 16, false, false, 0⟩
  s.starterQueue (h.bytes ++ x.bytes) 2 p 0

/-- Enters an operation in the schedule, which stands in execution order (R309, R311), and sends it to the tenant's endpoints ahead
of its lap (R310). -/
def State.schedule (s : State) (x : Sched) : State :=
  let s := { s with ten.sched := insertBy (fun y => lapsAhead s y.lap * 4096 + y.t * 8 + y.op.rank) x s.ten.sched }
  (s.endpoints x.t).foldl (fun s p => s.sendCommand x p) s

/-- Sends a wave towards the root, or keeps it until the device has a parent (R319). -/
def State.waveUp (s : State) (t op wave value : Nat) : State :=
  match s.time.parent, s.time.role with
  | some p, .locked | some p, .acquiring => s.queueCtl p (.wave t op wave 0 value)
  | _, _ => { s with ten.upWait := s.ten.upWait ++ [(t, op, wave, value)] }

/-- Sends a wave of tenant t away from the root: to every fabric child and to the tenant's endpoints (R313, R316, R318). -/
def State.waveDown (s : State) (t op wave value : Nat) : State :=
  (s.fabricChildren ++ s.endpoints t).foldl (fun s p => s.queueCtl p (.wave t op wave 1 value)) s

/-- Sends a wave to every fabric child; its endpoints are told at the lap it names (R309, R316). -/
def State.waveFabric (s : State) (t op wave value : Nat) : State :=
  s.fabricChildren.foldl (fun s p => s.queueCtl p (.wave t op wave 1 value)) s

/-- Sends the waves that waited for a parent (R319). -/
def State.flushUp (s : State) : State :=
  s.ten.upWait.foldl (fun s w => s.waveUp w.1 w.2.1 w.2.2.1 w.2.2.2) { s with ten.upWait := [] }

/-- The Anchor takes a halt: it chooses the halt lap, schedules the halt and sends HALT down (R317), which a ring may trigger on
(Table 11.5). -/
def State.takeHalt (s : State) (t cause lap : Nat) : State :=
  let x := s.tenant t
  let h := lapAdd s.time.lap (s.lapsUntil (s.time.gun + s.cfg Obj.WAVE_LEAD * ns))
  let s := (s.waveDown t 4 x.haltNo (cause * 2 ^ 56 + h)).ringHalt t lap
  s.schedule ⟨if cause ≤ 3 then .fault else .hold, t, 0, h, some (cause, lap)⟩

/-- A device raises or receives a halt of the current halt number: the first goes up, with its cause and the lap of its condition kept
for the fault log, and later ones are merged (R317). -/
def State.halt (s : State) (t cause lap : Nat) : State :=
  if (s.tenant t).haltSent then s.count Obj.HALTS_MERGED
  else
    let s := s.modTenant t (fun x => { x with haltSent := true, haltSeen := some (cause, lap) })
    if s.time.role == .anchor then s.takeHalt t cause lap
    else s.waveUp t 4 (s.tenant t).haltNo (cause * 2 ^ 56 + lap)

/-- A broadcast value comes down, or starts down at the Anchor (R318). -/
def State.broadcastDown (s : State) (t wave v : Nat) : State :=
  let s := (s.waveDown t 5 wave v).setCfg Obj.BROADCAST_VALUE t v
  s.modTenant t (fun x => { x with
    bcastNo := (wave + 1) % 65536, bcastOut := x.bcastOut && !x.bcastQ.contains v, bcastQ := x.bcastQ.filter (· != v) })

/-! ## Barriers (R316) -/

/-- Whether the device is ready for the tenant's barrier: every member and every child has reported. -/
def State.barrierReady (s : State) (t : Nat) : Bool :=
  let x := s.tenant t
  let got := tabGet x.arrived x.barrier []
  (s.members t).all got.contains && (s.fabricChildren.filter (fun p => !x.late.contains p)).all got.contains &&
    (!bit (s.cfg Obj.TENANT_MEMBERS t) 8 || got.contains 99)

/-- A ready device reports once; the Anchor chooses the release lap instead and sends it down. -/
def State.barrierStep (s : State) (t : Nat) : State :=
  let x := s.tenant t
  if x.barSent || x.st == .idle || x.st == .resetting || !s.barrierReady t then s
  else
    let s := s.modTenant t (fun x => { x with barSent := true })
    let inc := if x.barrierInc.contains x.barrier then 2 ^ 63 else 0
    if s.time.role == .anchor then
      let l := lapAdd s.time.lap (s.lapsUntil (s.time.gun + s.cfg Obj.WAVE_LEAD * ns))
      let s := s.waveFabric t 3 x.barrier (inc + l)
      s.modTenant t (fun x => { x with release := some (x.barrier, l) })
    else s.waveUp t 3 x.barrier inc

/-- A port that ceases to be a child counts as reported, with INCOMPLETE, in every barrier that waits for it (R316, R319). -/
def State.dropReporter (s : State) (p : Nat) : State :=
  s.ten.tenants.foldl (fun s e =>
    let x := s.tenant e.1
    let got := tabGet x.arrived x.barrier []
    let waits := x.st != .idle && x.st != .resetting && !x.barSent && !got.contains p && !x.late.contains p &&
      (isFabric p || (s.members e.1).contains p)
    let s := if waits then
        s.modTenant e.1 (fun x => { x with arrived := tabUpd x.arrived x.barrier [] (· ++ [p]), barrierInc := x.barrier :: x.barrierInc })
      else s
    s.barrierStep e.1) s

end Sys2Proof.Machine
end

