-- ==== Sys2Proof/Machine/Pool.lean ====
section
/-! DEFINITION. The buffer pool: partitions and free stacks, batons and reference counts, packed frames, reservations and shared
use (R261 to R272). -/

namespace Sys2Proof.Machine

/-- The partition of a class (Table 1.4, R271). -/
def partOf (c : Nat) : Nat := if c < 2 then 0 else if c < 4 then 3 else 2

/-- The target size of a partition (5000h). -/
def State.partTarget (s : State) (k : Nat) : Nat := beAt (s.blb Obj.PARTITION_SIZES) (4 * k) 4

/-- The default sizes of Table 9.1. -/
def partDefault : Nat → Nat
  | 0 => 12288 | 1 => 4096 | 2 => 44031 | _ => 5120

/-- The cells a partition has now. -/
def State.partSize (s : State) (k : Nat) : Nat := tabGet s.buf.pool.sizes k (partDefault k)

/-- The free stack of a partition after device reset: its cells in index order, lowest on top (DESIGN CHOICE, log 10). -/
def stackDefault : Nat → FreeStack
  | 0 => ⟨[], 1, 12288⟩ | 1 => ⟨[], 12289, 16384⟩ | 2 => ⟨[], 16385, 60415⟩ | _ => ⟨[], 60416, 65535⟩

/-- The partition of a cell that was never touched. -/
def cellPart (c : Nat) : Nat := if c ≤ 12288 then 0 else if c ≤ 16384 then 1 else if c ≤ 60415 then 2 else 3

/-- A cell of the pool. -/
def State.cell (s : State) (c : Nat) : Cell := tabGet s.buf.pool.cells c ⟨cellPart c, false, 0, 0, 0⟩

/-- Replaces a cell. -/
def State.setCell (s : State) (c : Nat) (x : Cell) : State := { s with buf.pool.cells := tabSet s.buf.pool.cells c x }

/-- The free stack of a partition. -/
def State.stack (s : State) (k : Nat) : FreeStack := tabGet s.buf.pool.freeCells k (stackDefault k)

/-- The free cells of a partition (5001h). -/
def FreeStack.count (x : FreeStack) : Nat := x.pushed.length + (x.hi + 1 - x.lo)

/-- Replaces a free stack, keeping the lowest free count (5006h). -/
def State.setStack (s : State) (k : Nat) (x : FreeStack) : State :=
  let low := match tabGet? s.buf.pool.minFree k with
    | some m => min m x.count
    | none => min (s.stack k).count x.count
  { s with
    buf.pool.freeCells := tabSet s.buf.pool.freeCells k x
    buf.pool.minFree := tabSet s.buf.pool.minFree k low }

/-- Pops a cell of a partition (R261); the cell comes allocated with one reference. -/
def State.popCell (s : State) (k : Nat) : Option (Nat × State) :=
  let x := s.stack k
  match x.pushed with
  | c :: cs => some (c, (s.setStack k { x with pushed := cs }).setCell c { s.cell c with part := k, alloc := true, refs := 1 })
  | [] =>
    if x.lo ≤ x.hi then
      some (x.lo, (s.setStack k { x with lo := x.lo + 1 }).setCell x.lo { s.cell x.lo with part := k, alloc := true, refs := 1 })
    else none

/-- The partition a cell freed in partition k goes to: k itself, or while k is above its size, one that is below its own
(R264). -/
def State.pushPart (s : State) (k : Nat) : Nat :=
  if s.partSize k ≤ s.partTarget k then k
  else ((List.range 4).find? (fun j => s.partSize j < s.partTarget j)).getD k

/-- Frees one allocated cell: its state bit clears, its generation advances, and it is pushed (R266). -/
def State.pushCell (s : State) (c : Nat) : State :=
  let x := s.cell c
  if c = 0 || !x.alloc then s else
  let k := s.pushPart x.part
  let s := if k = x.part then s
    else { s with buf.pool.sizes := tabSet (tabSet s.buf.pool.sizes x.part (s.partSize x.part - 1)) k (s.partSize k + 1) }
  let s := s.setCell c ⟨k, false, 0, (x.gen + 1) % 32, 0⟩
  s.setStack k { s.stack k with pushed := c :: (s.stack k).pushed }

/-! ## Batons (R265 to R267) -/

/-- CELL of a baton. -/
def bCell (b : Nat) : Nat := bits b 31 16
/-- The cells of a baton's chain. -/
def bCells (b : Nat) : Nat := bits b 15 10 + 1
/-- HALF of a baton. -/
def bHalf (b : Nat) : Bool := bit b 9
/-- SIDE of a baton. -/
def bSide (b : Nat) : Nat := bits b 8 8
/-- GEN of a baton. -/
def bGen (b : Nat) : Nat := bits b 7 3

/-- A baton from its fields (Table 9.2). -/
def batonOf (cell cells : Nat) (half : Bool) (side gen : Nat) : Nat :=
  cell * 2 ^ 16 + (cells - 1) * 2 ^ 10 + nat01 half * 2 ^ 9 + side * 2 ^ 8 + gen * 2 ^ 3

/-- The cells of a chain from its head, following the link words to the last, whose link is 0. -/
def State.chain (s : State) (c : Nat) : Nat → List Nat
  | 0 => []
  | n + 1 => if c = 0 then [] else c :: s.chain (s.cell c).link n

/-- The cells of a baton: its chain, of at most 64 cells (R262), whatever its CELLS says. -/
def State.batonCells (s : State) (b : Nat) : List Nat := s.chain (bCell b) 64

/-- Whether an operation on a baton is in order (R267). -/
def State.batonOk (s : State) (b : Nat) : Bool :=
  bCell b != 0 && (s.cell (bCell b)).alloc && (s.cell (bCell b)).gen == bGen b

/-- A refusal (R267): counted, logged with SOURCE 08h, and attention 2 unless one was raised in the last 1.0 ms. -/
def State.refuseBaton (s : State) (b : Nat) : State :=
  let o := if bCell b != 0 && !(s.cell (bCell b)).alloc then Obj.DOUBLE_FREES else Obj.STALE_BATONS
  let s := s.count o
  let quiet : Bool := match s.buf.pool.lastRaise with
    | some t => s.time.gun < t + 1000000 * ns
    | none => false
  let s := if quiet then s else { s with buf.pool.lastRaise := some s.time.gun }
  s.logError 8 1 (if quiet then 0 else 2) none o 0 b

/-- Frees the chain of a head whose count has reached 0 (R266). -/
def State.freeChain (s : State) (b : Nat) : State :=
  let cs := s.batonCells b
  let s := { s with buf.pool.allocs := tabDel s.buf.pool.allocs (bCell b) }
  cs.foldl State.pushCell s

/-- Releases one reference (R266); false where the operation is refused. -/
def State.decRef (s : State) (b : Nat) : Bool × State :=
  if !s.batonOk b then (false, s.refuseBaton b)
  else
    let x := s.cell (bCell b)
    if x.refs = 0 then (false, s.refuseBaton b)
    else if x.refs = 1 then (true, s.freeChain b)
    else (true, s.setCell (bCell b) { x with refs := x.refs - 1 })

/-- Releases one reference, whatever is answered. -/
def State.release (s : State) (b : Nat) : State := (s.decRef b).2

/-- Adds references (R266, R277): one that would pass 255 is refused and counted in 5009h. -/
def State.incRef (s : State) (b : Nat) (n : Nat := 1) : Bool × State :=
  if !s.batonOk b then (false, s.refuseBaton b)
  else
    let x := s.cell (bCell b)
    if x.refs + n > 255 then (false, s.count Obj.REF_SATURATIONS)
    else (true, s.setCell (bCell b) { x with refs := x.refs + n })

/-- Pops a chain of n cells of a partition and links it; none where the stack runs out. -/
def State.popChain (s : State) (k : Nat) : Nat → Option (List Nat × State)
  | 0 => some ([], s)
  | n + 1 => match s.popChain k n with
    | none => none
    | some (cs, s) => match s.popCell k with
      | none => none
      | some (c, s) => some (c :: cs, s.setCell c { s.cell c with link := cs.headD 0 })

/-- The cells that a number of stored bytes takes as a chain (R262). -/
def cellsFor (len : Nat) : Nat := max 1 ((len + 255) / 256)

/-- Whether a frame of a partition is packed (R262). -/
def packs (k len : Nat) : Bool := k ≥ 2 && len ≤ 128

/-- Allocates a chain of cells. -/
def State.allocCells (s : State) (k n : Nat) : Option (Nat × State) :=
  match s.popChain k n with
  | some (c :: _, s) => some (batonOf c n false 0 (s.cell c).gen, s)
  | _ => none

/-- Allocates what a frame of `len` stored bytes of a lane group takes (R262, R263); none where no cell is free. -/
def State.allocFrame (s : State) (k len grp : Nat) : Option (Nat × State) :=
  if packs k len then
    let key := k * 64 + grp
    match tabGet? s.buf.pool.openHalf key with
    | some (c, _) => some (batonOf c 1 true 1 (s.cell c).gen, { s with buf.pool.openHalf := tabDel s.buf.pool.openHalf key })
    | none => match s.popCell k with
      | none => none
      | some (c, s) =>
        let s := s.setCell c { s.cell c with refs := 2 }
        some (batonOf c 1 true 0 (s.cell c).gen,
          { s with buf.pool.openHalf := tabSet s.buf.pool.openHalf key (c, s.time.gun) })
  else s.allocCells k (cellsFor len)

/-- OPEN_HALF_EXPIRY (R263): an open half left untaken for 1.0 µs releases its reference. -/
def execOpenHalfExpiry (part grp : Nat) (s : State) : Host.Outcome State Fault Refusal :=
  let key := part * 64 + grp
  match tabGet? s.buf.pool.openHalf key with
  | some (c, t) =>
    if t + 1000 * ns ≤ s.time.gun then
      .next ({ s with buf.pool.openHalf := tabDel s.buf.pool.openHalf key }.release (batonOf c 1 true 1 (s.cell c).gen))
    else .next s
  | none => .next s

/-! ## The bytes of a baton -/

/-- The pool address of byte `off` of a baton's chain or half. -/
def State.batonAddr (s : State) (b off : Nat) : Nat :=
  if bHalf b then bCell b * 256 + bSide b * 128 + off % 128
  else ((s.batonCells b)[off / 256]?).getD 0 * 256 + off % 256

/-- The bytes a baton's chain or half holds. -/
def State.batonSpan (s : State) (b : Nat) : Nat := if bHalf b then 128 else min (bCells b) (s.batonCells b).length * 256

/-- Reads bytes of a baton. -/
def State.readBaton (s : State) (b off n : Nat) : Blob :=
  (List.range n).map (fun k => memRead s.buf.pool.data (s.batonAddr b (off + k)))

/-- Writes bytes of a baton. -/
def State.writeBaton (s : State) (b off : Nat) (bs : Blob) : State :=
  { s with buf.pool.data := (List.range bs.length).foldl (fun m k =>
      memWrite m (s.batonAddr b (off + k)) (bs.getD k 0)) s.buf.pool.data }

/-! ## Retention by exchange of cells (R267) -/

/-- Retags the cells of a slab as retention cells, giving the relay stack as many cells of the retention stack; false,
counted in 5008h, where the retention stack holds too few. -/
def State.exchangeCells (s : State) (b : Nat) : Bool × State :=
  let cs := s.batonCells b
  if (s.stack 1).count < cs.length then (false, s.count Obj.RETAIN_FAILS)
  else (true, cs.foldl (fun s c => match s.popCell 1 with
    | none => s
    | some (r, s) =>
      let s := s.setCell r ⟨0, false, 0, (s.cell r).gen, 0⟩
      let s := s.setStack 0 { s.stack 0 with pushed := r :: (s.stack 0).pushed }
      s.setCell c { s.cell c with part := 1 }) s)

/-! ## Queue descriptors (Table 9.5) -/

/-- The descriptor of a queue. -/
def State.qdesc (s : State) (q : Nat) : Nat := beAt (s.blb Obj.QUEUE_DESC q) 0 16
/-- ENABLE. -/
def State.qEnable (s : State) (q : Nat) : Bool := bit (s.qdesc q) 127
/-- PORT. -/
def State.qPort (s : State) (q : Nat) : Nat := bits (s.qdesc q) 126 122
/-- SUBPORT. -/
def State.qSub (s : State) (q : Nat) : Nat := bits (s.qdesc q) 121 119
/-- CLASS. -/
def State.qClass (s : State) (q : Nat) : Nat := bits (s.qdesc q) 118 116
/-- TENANT. -/
def State.qTenant (s : State) (q : Nat) : Nat := bits (s.qdesc q) 115 108
/-- WEIGHT. -/
def State.qWeight (s : State) (q : Nat) : Nat := bits (s.qdesc q) 107 92
/-- LIMIT. -/
def State.qLimit (s : State) (q : Nat) : Nat := bits (s.qdesc q) 91 78
/-- RESERVE. -/
def State.qReserve (s : State) (q : Nat) : Nat := bits (s.qdesc q) 77 64
/-- CE_THRESHOLD. -/
def State.qCe (s : State) (q : Nat) : Nat := bits (s.qdesc q) 63 50
/-- MARSHAL, where MARSHAL_EN is set. -/
def State.qMarshal (s : State) (q : Nat) : Option Nat := if bit (s.qdesc q) 49 then some (bits (s.qdesc q) 48 36) else none
/-- PACER_EN. -/
def State.qPacerEn (s : State) (q : Nat) : Bool := bit (s.qdesc q) 35

/-- A queue's own state. -/
def State.queue (s : State) (q : Nat) : Queue := tabGet s.buf.queues q .reset

/-- Changes a queue. -/
def State.modQueue (s : State) (q : Nat) (f : Queue → Queue) : State := { s with buf.queues := tabUpd s.buf.queues q .reset f }

/-- The cells of a queue's copies, waiting and on the wire (R271). -/
def Queue.depth (x : Queue) : Nat := ((x.copies ++ x.wire).map Copy.cells).sum

/-- The cells of those copies that lie in a partition. -/
def Queue.depthIn (x : Queue) (k : Nat) : Nat := (((x.copies ++ x.wire).filter (fun c => c.part == k)).map Copy.cells).sum

/-- The queues whose descriptors were written, with the number of each. -/
def State.writtenQueues (s : State) : List Nat :=
  s.blob.filterMap (fun e => if e.1 / 2 ^ 20 == Obj.QUEUE_DESC then some (e.1 % 2 ^ 20) else none)

/-! ## Reservations (R268 to R271) -/

/-- The cells reserved for a class of a Psiot port (R268). -/
def State.classReserve (s : State) (p c : Nat) : Nat := (2 * s.cfg Obj.CREDIT_INIT (8 * p + c) + 6) / 7

/-- The ingress reservation of a Psiot port (5007h). -/
def State.portReserve (s : State) (p : Nat) : Nat := ((List.range 6).map (fun k => s.classReserve p (k + 2))).sum

/-- The sum of the RESERVE fields of a partition's queues. -/
def State.queueReserve (s : State) (k : Nat) : Nat :=
  ((s.writtenQueues.filter (fun q => partOf (s.qClass q) == k)).map s.qReserve).sum

/-- The reservations of a partition (R271, 5002h). -/
def State.reserved (s : State) (k : Nat) : Nat :=
  ((List.range 14).map (fun p => ((List.range 6).map (fun c => if partOf (c + 2) == k then s.classReserve p (c + 2) else 0)).sum)).sum +
  (if k == 2 then s.cfg Obj.HOST_RESERVE 14 + s.cfg Obj.HOST_RESERVE 15 + 256 else 0) + s.queueReserve k

/-- The shared region of a partition (R271). -/
def State.sharedRegion (s : State) (k : Nat) : Nat := s.partTarget k - s.reserved k

/-- The cells a frame is charged to the shared region of a partition, while in no queue (R269). -/
def Charge.sharedIn (k : Nat) : Charge → Nat
  | .shared p n => if p == k then n else 0
  | _ => 0

/-- The shared use of a partition (R271). -/
def State.sharedUse (s : State) (k : Nat) : Nat :=
  (s.buf.queues.map (fun e =>
    if partOf (s.qClass e.1) == k then e.2.depthIn k - s.qReserve e.1 else e.2.depthIn k)).sum +
  (s.frames.map (fun e => e.2.charge.sharedIn k)).sum +
  (s.buf.pool.allocs.map (fun e => if e.2.1 == k then e.2.2 else 0)).sum

/-- Whether the shared region of a partition can take n more cells. -/
def State.sharedFits (s : State) (k n : Nat) : Bool := s.sharedUse k + n ≤ s.sharedRegion k

/-- The half cells of a host port's reservation in use (R268, R269). -/
def State.hostUse (s : State) (p : Nat) : Nat :=
  (s.frames.map (fun e => match e.2.charge with
    | .hostPort q h => if q == p then h else 0
    | _ => 0)).sum

/-- The half cells that a baton is charged (R268). -/
def halfCells (b : Nat) : Nat := if bHalf b then 1 else 2 * bCells b

/-- The cells a baton counts in a queue (R276). -/
def queueCells (b : Nat) : Nat := if bHalf b then 1 else bCells b

/-! ## Objects of the pool -/

/-- A write of 500Ah[p] (R272). -/
def applyHostReserve (i v : Nat) (s : State) : State × Result :=
  if v - s.cfg Obj.HOST_RESERVE i > s.sharedRegion 2 then (s, .overcommit) else (s.writeNum Obj.HOST_RESERVE i v, .ok)

/-- HOST_RESERVE: a write of 500Ah[p]. -/
def execHostReserve (p : Principal) (i v : Nat) (s : State) : Host.Outcome State Fault Refusal :=
  .next (s.writeNumCmd p Obj.HOST_RESERVE i v (applyHostReserve i))

/-- A write of 2105h[8p + c] (R114, R272): OVERCOMMIT past the port's 10,000 flits, or past the partition's shared region. -/
def applyCreditInit (i v : Nat) (s : State) : State × Result :=
  let p := i / 8
  let c := i % 8
  let sum := ((List.range 6).map (fun k => if k + 2 == c then v else s.cfg Obj.CREDIT_INIT (8 * p + k + 2))).sum
  if sum > 10000 || (2 * v + 6) / 7 - s.classReserve p c > s.sharedRegion (partOf c) then (s, .overcommit)
  else (s.writeNum Obj.CREDIT_INIT i v, .ok)

/-- CREDIT_INIT: a write of 2105h[i]. -/
def execCreditInit (p : Principal) (i v : Nat) (s : State) : Host.Outcome State Fault Refusal :=
  .next (s.writeNumCmd p Obj.CREDIT_INIT i v (applyCreditInit i))

end Sys2Proof.Machine
end

