-- ==== Sys2Proof/Machine/Walk.lean ====
section
/-! DEFINITION. What the parse engine reads out of a frame: the graph and its checks (R136 to R139), the walk (R140), fragment
fields (R150), tenant, class and flow key (R146 to R148, R164), and the rule lookup (R155 to R158). -/

namespace Sys2Proof.Machine

/-! ## The parse graph (R136, R137) -/

/-- A header-type descriptor (Table 5.1). -/
structure HType where
  valid : Bool
  tunnel : Bool
  tag : Bool
  frag : Nat
  csum4 : Bool
  chk : Nat
  chkByte : Nat
  chkAdd : Nat
  lenByte : Nat
  lenLsb : Nat
  lenWidth : Nat
  lenShift : Nat
  lenAdd : Nat
  nextByte : Nat
  nextLsb : Nat
  nextWidth : Nat
  base : Nat
  count : Nat
  dflt : Nat
  reserved : Nat
deriving DecidableEq, Repr

/-- A descriptor from its 128 bits. -/
def htypeOf (v : Nat) : HType where
  valid := bit v 127
  tunnel := bit v 126
  tag := bit v 125
  frag := bits v 124 123
  csum4 := bit v 122
  chk := bits v 121 120
  chkByte := bits v 119 112
  chkAdd := bits v 111 104
  lenByte := bits v 103 96
  lenLsb := bits v 95 92
  lenWidth := bits v 91 88
  lenShift := bits v 87 86
  lenAdd := bits v 85 78
  nextByte := bits v 77 70
  nextLsb := bits v 69 66
  nextWidth := bits v 65 61
  base := bits v 60 51
  count := bits v 50 45
  dflt := bits v 44 38
  reserved := bits v 37 0

/-- Descriptor `n` of a graph blob. -/
def graphType (g : Blob) (n : Nat) : HType := htypeOf (beAt g (16 * n) 16)

/-- Transition entry `n` of a graph blob. -/
def graphTran (g : Blob) (n : Nat) : Nat := beAt g (1024 + 4 * n) 4

/-- The next type from a next-header field (R137). -/
def nextType (g : Blob) (d : HType) (v : Nat) : Nat :=
  match ((List.range d.count).map (fun k => graphTran g (d.base + k))).find? (fun e => bits e 31 16 == v) with
  | some e => bits e 6 0
  | none => d.dflt

/-- Whether a NEXT or DEFAULT names a valid type or the end. -/
def nextOk (g : Blob) (n : Nat) : Bool := n == 0x7F || (n < 64 && (graphType g n).valid)

/-- The 32-bit words of a byte string. -/
def words4 : Blob → List Nat
  | a :: b :: c :: d :: r => beNat [a, b, c, d] :: words4 r
  | _ => []

/-- R138: the conditions on a pending graph, with the start types named in 3003h. The conditions on lengths and transition ranges bind valid
types only, those on reserved fields every type (DESIGN CHOICE, log 136). -/
def graphOk (g : Blob) (starts : List Nat) : Bool :=
  g.length == 5120 && starts.all (fun n => n < 64 && (graphType g n).valid) &&
  (List.range 64).all (fun n =>
    let d := graphType g n
    d.reserved == 0 && d.frag != 3 && d.chk != 3 && (d.count ≤ 32) && (d.lenWidth ≤ 8) && (d.nextWidth ≤ 16) &&
    (!d.valid || (d.base + d.count ≤ 1024 && d.lenLsb + d.lenWidth ≤ 16 && d.nextLsb + d.nextWidth ≤ 16 &&
      (d.lenWidth != 0 || d.lenAdd ≥ 1) && nextOk g d.dflt &&
      (List.range d.count).all (fun k => nextOk g (bits (graphTran g (d.base + k)) 6 0))))) &&
  (words4 (g.drop 1024)).all (fun w => bits w 15 7 == 0)

/-! ## The walk (R140, R141) -/

/-- Every card flag clear. -/
def CardFlags.clear : CardFlags := ⟨false, false, false, false, false, false, false, false, false, false, false⟩

/-- field(b, l, w) of the header at `off` (R136). -/
def fieldAt (w : Blob) (off b l n : Nat) : Nat := beAt w (off + b) 2 / 2 ^ l % 2 ^ n

/-- The parsed bytes as the window holds them: 256 bytes, zero beyond the physical length (R135). -/
def windowBytes (b : Blob) (phys : Nat) : Blob := let x := (b.take phys).take 256
  x ++ List.replicate (256 - x.length) 0

/-- Where a walk stands. `pending` holds until the first length comparison of a frame whose end has not come (R141). -/
structure Walk where
  typ : Nat
  off : Nat
  headers : List (Nat × Nat)
  inner : Nat
  tags : Nat
  extent : Nat
  firstChk : Bool
  pending : Bool
  claim : Option Nat
  frag : Option (Nat × Nat)
  flags : CardFlags
  csumBad : Nat
deriving DecidableEq, Repr

/-- The physical length stands for "greater than 256" while the end has not come (R141). -/
abbrev noPhys : Nat := 2 ^ 20

/-- The words a walk reads from a header, as offsets (R140). -/
def wordsRead (d : HType) : List Nat :=
  (if d.lenWidth = 0 then [] else [d.lenByte]) ++ (if d.chk = 0 then [] else [d.chkByte]) ++
  (if d.nextWidth = 0 then [] else [d.nextByte]) ++ (if d.frag = 1 then [6] else if d.frag = 2 then [2] else [])

/-- The fragment state of a header (R150): none, or its offset. -/
def fragOf (w : Blob) (off : Nat) (d : HType) : Option Nat :=
  if d.frag = 1 then
    let v := beAt w (off + 6) 2
    if bits v 12 0 != 0 || bit v 13 then some (bits v 12 0) else none
  else if d.frag = 2 then some (bits (beAt w (off + 2) 2) 15 3)
  else none

/-- The walk of R140, at most `fuel` headers further. -/
def walkFrom (g w : Blob) (phys : Nat) : Nat → Walk → Walk
  | 0, x => { x with flags := { x.flags with depthExceeded := true } }
  | fuel + 1, x =>
    let d := graphType g x.typ
    let len := if d.lenWidth = 0 then d.lenAdd else fieldAt w x.off d.lenByte d.lenLsb d.lenWidth * 2 ^ d.lenShift + d.lenAdd
    let reach := ((wordsRead d).map (· + 2)).foldl max len
    if len = 0 || phys < x.off + reach then { x with flags := { x.flags with lenConflict := true } }
    else if 256 < x.off + reach then { x with flags := { x.flags with depthExceeded := true } }
    else
      let k := x.headers.length
      let outer := x.inner == 31
      let bad := d.csum4 && inetRun 0 ((w.drop x.off).take len) != 0xFFFF
      let x := { x with
        headers := x.headers ++ [(x.typ, x.off)]
        tags := if d.tag && outer then x.tags + 1 else x.tags
        csumBad := x.csumBad + nat01 bad
        flags := { x.flags with l3CsumBad := x.flags.l3CsumBad || bad } }
      let claim := x.off + fieldAt w x.off d.chkByte 0 16 + (if d.chk = 2 then d.chkAdd else 0)
      let conflict := d.chk != 0 && (claim < x.off + len || (!x.pending && (x.extent < claim || (claim < x.extent && !x.firstChk))))
      if conflict then { x with flags := { x.flags with lenConflict := true } }
      else
        let x := if d.chk = 0 then x else
          if x.pending then { x with extent := claim, firstChk := false, pending := false, claim := some claim }
          else { x with
            extent := claim, firstChk := false
            flags := { x.flags with trailer := x.flags.trailer || claim < x.extent } }
        let f := if x.frag.isSome then none else fragOf w x.off d
        let x := match f with
          | some o => { x with frag := some (k, o) }
          | none => x
        match f with
        | some (_ + 1) => { x with flags := { x.flags with fragLater := true } }
        | _ =>
          let x := if d.tunnel then { x with inner := k + 1, firstChk := true } else x
          let next := nextType g d (if d.nextWidth = 0 then 2 ^ 16 else fieldAt w x.off d.nextByte d.nextLsb d.nextWidth)
          if next = 0x7F then x else walkFrom g w phys fuel { x with typ := next, off := x.off + len }

/-- Walks a window from a start type: `phys` the physical length, none while the frame's end has not come, which sets LEN_PENDING whether
or not a length-bearing header follows (R141). -/
def walk (g w : Blob) (start : Nat) (phys : Option Nat) : Walk :=
  walkFrom g w (phys.getD noPhys) 16
    ⟨start, 0, [], 31, 0, phys.getD noPhys, true, phys.isNone, none, none, { CardFlags.clear with lenPending := phys.isNone }, 0⟩

/-! ## Headers of a frame

Types are known by their numbers in the default graph (DEDUCED, log 12). -/

/-- The IPV4 header type. -/
abbrev tIPv4 : Nat := 4
/-- The IPV6 header type. -/
abbrev tIPv6 : Nat := 5

/-- The tag control information of the first TAG header of a walk, 0 for an untagged frame. -/
def tagTci (g w : Blob) (hs : List (Nat × Nat)) : Nat :=
  match hs.find? (fun (e : Nat × Nat) => (graphType g e.1).tag) with
  | some (_, o) => beAt w o 2
  | none => 0

/-- The index of the last header of a list that satisfies a test. -/
def lastIdx (hs : List (Nat × Nat)) (f : Nat × Nat → Bool) : Option Nat :=
  ((List.range hs.length).filter (fun k => match hs[k]? with | some h => f h | none => false)).getLast?

/-- The protocol of an IPv6 header: the next-header field of the last of it and the extension and fragment headers that directly
follow (R148). -/
def ipv6Proto (w : Blob) : Nat → List (Nat × Nat) → Nat
  | p, (t, o) :: r => if t == 6 || t == 7 then ipv6Proto w (beAt w o 1) r else p
  | p, [] => p

/-- The flow key of R148 and R164. `fabric` says that the parsed bytes begin with a fabric header. -/
def flowKey (w : Blob) (hs : List (Nat × Nat)) (tci tenant cls : Nat) (fabric : Bool) : Blob :=
  let head := beBytes 1 tenant ++ beBytes 1 cls
  match lastIdx hs (fun (e : Nat × Nat) => e.1 == tIPv4 || e.1 == tIPv6) with
  | some k =>
    let (t, o) := hs.getD k (0, 0)
    let after := hs.drop (k + 1)
    let ports := match after.find? (fun (e : Nat × Nat) => e.1 == 8 || e.1 == 9) with
      | some (_, p) => (w.drop p).take 4
      | none => [0, 0, 0, 0]
    if t == tIPv4 then head ++ [4] ++ (w.drop (o + 12)).take 8 ++ (w.drop (o + 9)).take 1 ++ ports
    else head ++ [6] ++ (w.drop (o + 8)).take 32 ++ beBytes 1 (ipv6Proto w (beAt w (o + 6) 1) after) ++ ports
  | none =>
    if fabric then head ++ [1] ++ (w.drop 4).take 4 ++ w.take 4 ++ (w.drop 13).take 3
    else head ++ [2] ++ w.take 12 ++ beBytes 2 (bits tci 11 0)

/-- The key of R151: parse tenant, addresses, ID and protocol, read as the header's descriptor says (FRAG of R150). -/
def fragKey (g w : Blob) (hs : List (Nat × Nat)) (tenant k : Nat) : Blob :=
  let (t, o) := hs.getD k (0, 0)
  if (graphType g t).frag == 2 then
    let ip := match lastIdx (hs.take k) (fun (e : Nat × Nat) => e.1 == tIPv6) with
      | some j => (hs.getD j (0, 0)).2
      | none => 0
    beBytes 1 tenant ++ (w.drop (ip + 8)).take 32 ++ (w.drop (o + 4)).take 4 ++ (w.drop o).take 1
  else beBytes 1 tenant ++ (w.drop (o + 12)).take 8 ++ (w.drop (o + 4)).take 2 ++ (w.drop (o + 9)).take 1

/-- A keyed hash (R163). -/
def State.hash (s : State) (u t : Nat) (msg : Blob) : Nat := sipHash (hashKey s.tables.seed s.tables.salt u t) msg

/-! ## Tenant and class (R146, R147) -/

/-- DEST of a fabric header. -/
def fhDest (w : Blob) : Nat := beAt w 0 4
/-- CLASS of a fabric header. -/
def fhClass (w : Blob) : Nat := beAt w 8 1 / 2 % 8
/-- PROTO of a fabric header. -/
def fhProto (w : Blob) : Nat := beAt w 10 1
/-- LENGTH of a fabric header. -/
def fhLength (w : Blob) : Nat := beAt w 11 2 / 4
/-- The relay word of a fabric header. -/
def fhWord (w : Blob) : Nat := beAt w 24 8

/-- The parse tenant of a frame that came in on a port (R146). -/
def State.parseTenantOf (s : State) (g : Blob) (port : Nat) (w : Blob) (hs : List (Nat × Nat)) : Nat :=
  if isHost port then beAt (s.blb Obj.TENANT_MAP port) (bits (tagTci g w hs) 11 0) 1 else fhDest w / 2 ^ 24

/-- The EtherType fields of the outer stack. -/
def outerTypes (w : Blob) (hs : List (Nat × Nat)) (inner : Nat) : List Nat :=
  (hs.take inner).filterMap (fun (e : Nat × Nat) =>
    if e.1 == 1 then some (beAt w (e.2 + 12) 2) else if e.1 == 2 || e.1 == 3 then some (beAt w (e.2 + 2) 2) else none)

/-- The class of a frame that came in on a port (R147). -/
def State.classOf (s : State) (g : Blob) (port : Nat) (w : Blob) (hs : List (Nat × Nat)) (inner : Nat) : Nat :=
  if !isHost port then fhClass w
  else if hs.any (fun (e : Nat × Nat) => e.1 == 12) then 2
  else if (outerTypes w hs inner).contains 0x88B5 then 3
  else bits (s.cfg Obj.PCP_CLASS port / 2 ^ (3 * bits (tagTci g w hs) 15 13)) 2 0

/-! ## Mask sets and rules (R155 to R158) -/

/-- Entries allocated to a mask set; 0 while it is disabled. -/
def setSize (b : Blob) : Nat := let n := beAt b 1 1
  if n = 0xFF then 0 else 2 ^ n
/-- SYSTEM of a mask set. -/
def setSystem (b : Blob) : Bool := bit (beAt b 0 1) 7
/-- GROUP of a mask set. -/
def setGroup (b : Blob) : Nat := bits (beAt b 0 1) 5 4
/-- PRIORITY of a mask set. -/
def setPrio (b : Blob) : Nat := bits (beAt b 0 1) 3 0
/-- Whether a mask set is enabled. -/
def setOn (b : Blob) : Bool := beAt b 1 1 != 0xFF
/-- Field specification i of a mask set. -/
def setField (b : Blob) (i : Nat) : Nat := beAt b (8 + 4 * i) 4
/-- MASK of a mask set: the presence byte and 40 key bytes. -/
def setMask (b : Blob) : Blob := (b.drop 40).take 41

/-- The first entry of each mask set among the 65,536: sets are laid out by number. -/
def State.setBase (s : State) (m : Nat) : Nat := ((List.range m).map (fun k => setSize (s.blb Obj.MASK_SET k))).sum

/-- The header a field specification names, if recorded (Table 5.7). -/
def fieldHeader (hs : List (Nat × Nat)) (inner spec : Nat) : Option Nat :=
  let hs := if bit spec 30 then hs.drop inner else hs.take inner
  (hs.find? (fun (e : Nat × Nat) => e.1 == bits spec 29 24)).map Prod.snd

/-- The key of a set for a frame (R156): presence byte and 40 bytes. The presence bit of a used field taken from the card is 1 (DESIGN
CHOICE, log 138). -/
def setKey (b w card : Blob) (hs : List (Nat × Nat)) (inner : Nat) : Blob :=
  let parts := (List.range 8).map (fun i =>
    let spec := setField b i
    let len := bits spec 15 11
    if len = 0 then (false, [])
    else if bit spec 31 then (true, (List.range len).map (fun k => card.getD (bits spec 23 16 + k) 0))
    else match fieldHeader hs inner spec with
      | some o => (true, (List.range len).map (fun k => w.getD (o + bits spec 23 16 + k) 0))
      | none => (false, List.replicate len 0))
  let pres := ((List.range 8).map (fun i => nat01 (parts.getD i (false, [])).1 * 2 ^ i)).sum
  let key := (parts.map Prod.snd).flatten
  (beBytes 1 pres ++ key ++ List.replicate (40 - key.length) 0).take 41

/-- A key under a set's mask. -/
def maskKey (b key : Blob) : Blob := List.zipWith (· &&& ·) key (setMask b)

/-- The two buckets of 4 entries of a set for a masked key (Table 6.1), as entry indices. -/
def State.ruleBuckets (s : State) (m t : Nat) (key : Blob) : Nat × Nat :=
  let b := s.blb Obj.MASK_SET m
  let n := max 1 (setSize b / 4)
  let h := s.hash 5 (if setSystem b then 0 else t) key
  (s.setBase m + 4 * (h % 65536 % n), s.setBase m + 4 * (h / 2 ^ 32 % 65536 % n))

/-- The eight entries where a key of a set may lie. -/
def State.ruleSlots (s : State) (m t : Nat) (key : Blob) : List Nat :=
  let (a, b) := s.ruleBuckets m t key
  (List.range 4).map (a + ·) ++ (List.range 4).map (b + ·)

/-- Invalidates a table entry for repair (R189). -/
def State.invalidate (s : State) (k n : Nat) : State :=
  { s with tables.invalid := if s.tables.invalid.contains (k, n) then s.tables.invalid else (k, n) :: s.tables.invalid }

/-- The entry of a set that stores a masked key, valid or not (R157). -/
def State.storedRule (s : State) (m t : Nat) (key : Blob) : Option (Nat × Rule) :=
  let b := s.blb Obj.MASK_SET m
  (s.ruleSlots m t key).findSome? (fun k => match tabGet? s.parser.rules k with
    | some r => if beBytes 1 r.presence ++ r.key == key && (setSystem b || r.tenant == t) then some (k, r) else none
    | none => none)

/-- The entry of a set that a masked key hits (R156); one invalidated for repair is not found (R189). -/
def State.findRule (s : State) (m t : Nat) (key : Blob) : Option (Nat × Rule) :=
  (s.storedRule m t key).filter (fun (e : Nat × Rule) => !s.tables.invalid.contains (6, e.1))

/-- Whether a key's lookup in a set reads an entry that has been invalidated: its frame is dropped (Table 15.7). -/
def State.ruleUnsound (s : State) (m t : Nat) (key : Blob) : Bool :=
  (s.ruleSlots m t key).any (fun k => s.tables.invalid.contains (6, k))

/-- The merged action of a lookup (R158). -/
structure Merged where
  drop : Bool
  slow : Bool
  cls : Option Nat
  tenant : Option Nat
  od : Option (Nat × Bool)
  program : Option Nat
  edit : Option Nat
  results : List (Option (Nat × Nat))
  metaW : List Nat
deriving DecidableEq, Repr

/-- A lookup without a hit. -/
def Merged.empty : Merged := ⟨false, false, none, none, none, none, none, [none, none, none, none], [0, 0, 0, 0]⟩

/-- R158: one pass over the sets enabled for a source, and the counters it advances. ENTRY of a result is the entry's number within its set
(DESIGN CHOICE, log 137). -/
def State.ruleLookup (s : State) (source t : Nat) (w card : Blob) (hs : List (Nat × Nat)) (inner : Nat) : Merged × State :=
  let sets := (List.range 16).filter (fun m => let b := s.blb Obj.MASK_SET m
    setOn b && bit (beAt b 2 4) source)
  let key := fun (m : Nat) => let b := s.blb Obj.MASK_SET m
    maskKey b (setKey b w card hs inner)
  let hits := sets.filterMap (fun m => (s.findRule m t (key m)).map (fun (e : Nat × Rule) => (m, e.1, e.2)))
  let bad := sets.any (fun m => s.ruleUnsound m t (key m))
  (List.range 4).foldl (fun (x : Merged × State) g =>
    let mine := hits.filter (fun (h : Nat × Nat × Rule) => setGroup (s.blb Obj.MASK_SET h.1) == g)
    match leastBy (fun (h : Nat × Nat × Rule) => 15 - setPrio (s.blb Obj.MASK_SET h.1)) mine with
    | none => (x.1, x.2.count Obj.GROUP_MISSES g)
    | some (m, k, r) =>
      let a := r.action
      let y := x.1
      ({ drop := y.drop || bit a 63
         slow := y.slow || bit a 62
         cls := y.cls <|> (if bit a 61 then some (bits a 60 58) else none)
         tenant := y.tenant <|> (if bit a 57 then some (bits a 56 49) else none)
         od := y.od <|> (if bit a 48 then some (bits a 47 32, setSystem (s.blb Obj.MASK_SET m)) else none)
         program := y.program <|> (if bit a 31 then some (bits a 30 23) else none)
         edit := y.edit <|> (if bit a 22 then some (bits a 21 10) else none)
         results := y.results.set g (some (m, k - s.setBase m))
         metaW := y.metaW.set g (bits a 4 0) }, x.2.count Obj.SET_HITS m)) ({ Merged.empty with drop := bad }, s)

/-! ## The parse card as bytes (R145) -/

/-- FLAGS of Table 5.5 as a number. -/
def CardFlags.toNat (f : CardFlags) : Nat :=
  [f.depthExceeded, f.lenConflict, f.lenPending, f.fragFirst, f.fragLater, f.fragNoEntry, f.opaqueBit, f.slow, f.drop,
    f.trailer, f.l3CsumBad].foldl (fun v b => v * 2 + nat01 b) 0 * 32

/-- FLAGS from a number. -/
def cardFlagsOf (v : Nat) : CardFlags :=
  ⟨bit v 15, bit v 14, bit v 13, bit v 12, bit v 11, bit v 10, bit v 9, bit v 8, bit v 7, bit v 6, bit v 5⟩

/-- The card as the 512 bits of Table 5.4. -/
def Card.toNat (c : Card) : Nat :=
  packFields ([(4, c.source), (5, c.port), (3, c.sub), (3, c.cls), (1, 0), (8, c.tenant), (16, c.od), (32, c.baton),
    (14, c.frameLen), (5, c.depth), (5, c.inner), (16, c.flags.toNat), (32, c.stamp), (8, c.program), (12, c.edit), (4, c.tags),
    (13, c.fragEntry), (3, 0)] ++
    (List.range 4).flatMap (fun g => match c.results.getD g none with
      | some (m, e) => [(1, 1), (4, m), (16, e)]
      | none => [(21, 0)]) ++
    (List.range 4).map (fun g => (5, c.metaW.getD g 0)) ++
    (List.range 16).map (fun k => match c.headers[k]? with
      | some (t, o) => (14, t * 256 + o)
      | none => (14, 0)))

/-- The card's 64 bytes. -/
def Card.bytes (c : Card) : Blob := beBytes 64 c.toNat

/-- A card from 64 bytes. -/
def cardOf (b : Blob) : Card :=
  let v := beNat b
  { source := bits v 511 508, port := bits v 507 503, sub := bits v 502 500, cls := bits v 499 497
    tenant := bits v 495 488, od := bits v 487 472, baton := bits v 471 440, frameLen := bits v 439 426
    depth := bits v 425 421, inner := bits v 420 416, flags := cardFlagsOf (bits v 415 400), stamp := bits v 399 368
    program := bits v 367 360, edit := bits v 359 348, tags := bits v 347 344, fragEntry := bits v 343 331
    results := (List.range 4).map (fun g =>
      let r := bits v (327 - 21 * g) (307 - 21 * g)
      if bit r 20 then some (bits r 19 16, bits r 15 0) else none)
    metaW := (List.range 4).map (fun g => bits v (243 - 5 * g) (239 - 5 * g))
    headers := (List.range (min 16 (bits v 425 421))).map (fun k =>
      let e := bits v (223 - 14 * k) (210 - 14 * k)
      (e / 256, e % 256)) }

/-! ## Edits (R159, R160) -/

/-- An operation of an edit entry. -/
structure EditOp where
  op : Nat
  slot : Nat
  off : Nat
  len : Nat
  arg : Nat
deriving DecidableEq, Repr

/-- The operations of an edit entry up to its END. -/
def editOps (b : Blob) : List EditOp :=
  ((List.range 8).map (fun k =>
    let v := beAt b (4 * k) 4
    (⟨bits v 31 28, bits v 27 24, bits v 23 16, bits v 15 8, bits v 7 0⟩ : EditOp))).takeWhile (fun x => x.op != 0)

/-- R159: whether an entry may be stored. -/
def editOk (b : Blob) : Bool :=
  let xs := editOps b
  let net : Int := (xs.map (fun x => if x.op = 2 then (x.len : Int) else if x.op = 3 then -(x.len : Int) else 0)).sum
  b.length == 64 && -64 ≤ net && net ≤ 64 &&
  (List.range 8).all (fun k => beAt b (4 * k) 4 / 2 ^ 28 < 6) &&
  xs.all (fun x => match x.op with
    | 1 | 2 => 1 ≤ x.len && x.len ≤ 32 && 32 + x.arg + x.len ≤ 64
    | 3 => 1 ≤ x.len
    | 4 => 1 ≤ x.len && x.len ≤ 4
    | _ => true)

/-- The span of parsed bytes an operation covers, for the overlap test: SET, POP and INC their bytes, CSUM4 its header's
checksum field, a PUSH no byte. -/
def EditOp.span (hs : List (Nat × Nat)) (x : EditOp) : Nat × Nat :=
  let o := (hs.getD x.slot (0, 0)).2
  match x.op with
  | 2 => (o + x.off, o + x.off)
  | 5 => (o + 10, o + 12)
  | _ => (o + x.off, o + x.off + x.len)

/-- Whether two operations overlap. -/
def spansMeet (a b : Nat × Nat) : Bool := max a.1 b.1 < min a.2 b.2

/-- R160: whether an entry is faulty for a frame with these headers. -/
def editFaulty (g : Blob) (hs : List (Nat × Nat)) (b : Blob) : Bool :=
  let xs := editOps b
  let sp := xs.map (EditOp.span hs)
  xs.any (fun x => hs.length ≤ x.slot || 256 < (x.span hs).2 ||
    (x.op == 5 && !(graphType g (hs.getD x.slot (0, 0)).1).csum4)) ||
  (List.range sp.length).any (fun i => (List.range i).any (fun j => spansMeet (sp.getD i (0, 0)) (sp.getD j (0, 0))))

/-- The bytes of an edit's data area. -/
def editData (b : Blob) (arg len : Nat) : Blob := (b.drop (32 + arg)).take len

/-- The edited frame: SET, INC and CSUM4 in place, then the insertions and removals by falling position, so that every
position refers to the frame before editing and a PUSH goes before a POP that starts there (R159). -/
def applyEdit (g : Blob) (hs : List (Nat × Nat)) (b w : Blob) : Blob :=
  let xs := editOps b
  let w := xs.foldl (fun w x => match x.op with
    | 1 => overwrite w (x.span hs).1 (editData b x.arg x.len)
    | 4 =>
      let o := (x.span hs).1
      overwrite w o (beBytes x.len (unsigned (8 * x.len) ((beAt w o x.len : Int) + signed 8 x.arg)))
    | _ => w) w
  let w := xs.foldl (fun w x => if x.op = 5 then
      let (t, o) := hs.getD x.slot (0, 0)
      let d := graphType g t
      let len := if d.lenWidth = 0 then d.lenAdd else fieldAt w o d.lenByte d.lenLsb d.lenWidth * 2 ^ d.lenShift + d.lenAdd
      let h := overwrite ((w.drop o).take len) 10 [0, 0]
      overwrite w (o + 10) (beBytes 2 (65535 - inetRun 0 h))
    else w) w
  let moves := sortBy (fun x => 2 * (1000 - (x.span hs).1) + (if x.op = 3 then 0 else 1)) (xs.reverse.filter (fun x => x.op == 2 || x.op == 3))
  moves.foldl (fun w x =>
    let o := (x.span hs).1
    if x.op = 2 then w.take o ++ editData b x.arg x.len ++ w.drop o else w.take o ++ w.drop (o + x.len)) w

end Sys2Proof.Machine
end

