-- ==== Sys2Proof/Machine/Threads.lean ====
section
/-! DEFINITION. Order domains, the distributor, runs and thread faults (R149, R196, R198, R199, R205 to R218). Threads are
numbered 128·squad + 8·Strider + thread (R192). -/

namespace Sys2Proof.Machine

/-- A thread. -/
def State.thread (s : State) (x : Nat) : Thread := tabGet s.strider.threads x .reset

/-- Changes a thread. -/
def State.modThread (s : State) (x : Nat) (f : Thread → Thread) : State :=
  { s with strider.threads := tabUpd s.strider.threads x .reset f }

/-- A squad. -/
def State.squad (s : State) (k : Nat) : Squad := tabGet s.strider.squads k .reset

/-- Changes a squad. -/
def State.modSquad (s : State) (k : Nat) (f : Squad → Squad) : State :=
  { s with strider.squads := tabUpd s.strider.squads k .reset f }

/-- The squad of a thread. -/
def squadOf (x : Nat) : Nat := x / 128

/-- Takes an order number for a thread that becomes READY: a smaller one became READY earlier (R199). -/
def State.stampReady (s : State) (x : Nat) : State :=
  let n := s.strider.readyNo
  let s := { s with strider.readyNo := n + 1 }
  s.modThread x (fun t => { t with st := .ready, wait := .none, readySince := n })

/-- The threads of the Strider of thread x. -/
def striderThreads (x : Nat) : List Nat := (List.range 8).map (x / 8 * 8 + ·)

/-- Wakes the threads that a returned or withdrawn result lets go on (R200, R204). -/
def State.wakeHelpers (s : State) (x helper : Nat) : State :=
  (striderThreads x).foldl (fun s y => match (s.thread y).st, (s.thread y).wait with
    | .waiting, .regs hs => if y == x && !hs.any (s.thread y).ctx.pendH.contains then s.stampReady y else s
    | .waiting, .queue k => if k == helper then s.stampReady y else s
    | _, _ => s) s

/-! ## Order domains (R149, R213) -/

/-- An order domain. -/
def State.od (s : State) (n : Nat) : OrderDomain := tabGet s.buf.ods n ⟨0, 0, [], []⟩

/-- Replaces an order domain. -/
def State.setOd (s : State) (n : Nat) (x : OrderDomain) : State := { s with buf.ods := tabSet s.buf.ods n x }

/-- The card of a frame. -/
def State.cardOf? (s : State) (fid : Nat) : Option Card := (s.frame? fid).bind Frame.card

/-- Gives a card its sequence number in its order domain as it reaches the distributor (R149). -/
def State.takeSeq (s : State) (fid : Nat) : State :=
  match s.cardOf? fid with
  | none => s
  | some c =>
    let x := s.od c.od
    let s := s.setOd c.od { x with assign := x.assign + 1, frames := tabSet x.frames x.assign fid }
    s.modFrame fid (fun f => { f with seqNo := some x.assign })

/-- Posts what a run decided for its frame (R213). -/
def State.postRelease (s : State) (fid : Nat) (r : Release) : State :=
  match s.cardOf? fid, (s.frame? fid).bind Frame.seqNo with
  | some c, some n => let x := s.od c.od
    s.setOd c.od { x with posted := tabSet x.posted n r }
  | _, _ => s

/-! ## Frame windows (R135, R196) -/

/-- The address of a thread's window among all windows. -/
def windowBase (x : Nat) : Nat := 320 * x

/-- Writes a thread's window: header bytes and card. -/
def State.fillWindow (s : State) (x fid : Nat) : State :=
  match s.frame? fid with
  | some f => match f.card with
    | some c => { s with strider.windows := memWriteN s.strider.windows (windowBase x) (windowBytes f.bytes f.phys ++ c.bytes) }
    | none => s
  | none => s

/-- R196: writes back the blocks the thread stored into, no further than the frame's physical length. -/
def State.writeBack (s : State) (x : Nat) : State :=
  let t := s.thread x
  match t.fid.bind s.frame? with
  | none => s
  | some f => t.storedBlocks.foldl (fun s k =>
      let n := min 32 (f.phys - 32 * k)
      let b := memReadN s.strider.windows (windowBase x + 32 * k) n
      (s.modFrame (t.fid.getD 0) (fun f => { f with bytes := overwrite f.bytes (32 * k) b })).writeBaton f.baton (32 * k) b) s

/-! ## The distributor (R206 to R209) -/

/-- The dispatch class of a card (Table 7.4). -/
def Card.klass (c : Card) : Nat :=
  if c.source == 1 || (c.source == 0 && c.cls < 2) then 0
  else if c.flags.slow then 1
  else if c.cls == 2 || c.cls == 3 then 2
  else 3

/-- Whether a thread may take a card of a class (R207). -/
def State.threadAvail (s : State) (k x : Nat) : Bool :=
  let t := s.thread x
  t.st == .free && t.fid.isNone && (k == 0 || !bit (s.cfg Obj.RESERVED_THREADS (squadOf x)) (x % 8))

/-- The threads a class may take among the 8 of a Strider, by number of the Strider's first thread. -/
def State.availOf (s : State) (k first : Nat) : List Nat := ((List.range 8).map (first + ·)).filter (s.threadAvail k)

/-- R207: the thread that a card of class k gets. -/
def State.chooseThread (s : State) (k : Nat) : Option Nat :=
  let squads := (List.range 12).filter (fun q => bit (s.cfg Obj.DISPATCH_SQUADS k) q && (s.squad q).st == .running)
  let byStrider := squads.map (fun q => (q, (List.range 16).map (fun i => s.availOf k (128 * q + 8 * i))))
  let best := leastBy (fun (e : Nat × List (List Nat)) => 1000 - (e.2.map List.length).sum) byStrider
  match best with
  | none => none
  | some (_, is) => match leastBy (fun l : List Nat => 8 - l.length) is with
    | some (x :: _) => some x
    | _ => none

/-- Gives a card to a thread, whose window is written (R135, R208). -/
def State.giveThread (s : State) (fid x : Nat) : State :=
  (s.modThread x (fun t => { t with fid := some fid })).fillWindow x fid

/-- Whether the card store can take a card of class k (R208). -/
def State.storeRoom (s : State) (k : Nat) : Bool :=
  s.strider.waiting.length < 16384 &&
  (k == 0 || (s.strider.waiting.filter (fun (e : Nat × Nat) => e.1 != 0)).length < 16384 - s.cfg Obj.RELAY_CARD_RESERVE)

/-- A card at the distributor's door: a thread, or a place in the card store; false where it must be held. -/
def State.tryDispatch (s : State) (fid : Nat) : Bool × State :=
  match s.cardOf? fid with
  | none => (true, s)
  | some c =>
    let k := c.klass
    match s.chooseThread k with
    | some x => (true, (s.takeSeq fid).giveThread fid x)
    | none =>
      if s.storeRoom k then
        let s := (s.takeSeq fid).count Obj.CARD_WAITS k
        (true, { s with strider.waiting := s.strider.waiting ++ [(k, fid)] })
      else (false, s)

/-- The lane group of a port (Table 1.1): the Psiot ports, H0 and H1 together, and P. -/
def laneGroup (p : Nat) : Nat := if p < 14 then p else if p < 16 then 14 else 15

/-- The port behind whose held cards a card waits at its parse engine (R135, R208): its own, P for what comes over PCIe. -/
def Card.holdPort (c : Card) : Nat := if c.source == 0 || c.source == 4 then c.port else 16

/-- A written card goes to the distributor, behind the cards of its port that are held (R135, R208); true where it is taken. -/
def State.offerCard (s : State) (fid : Nat) : Bool × State :=
  match s.cardOf? fid with
  | none => (true, s)
  | some c =>
    let behind := s.strider.held.any (fun g => match s.cardOf? g with
      | some d => d.holdPort == c.holdPort && c.source != 1
      | none => false)
    if behind then (false, s) else s.tryDispatch fid

/-- A written card is taken or, once and for all counted, held at its engine (R208). -/
def State.dispatch (s : State) (fid : Nat) : State :=
  match s.offerCard fid with
  | (true, s) => s
  | (false, s) => { s.count Obj.ENGINE_HOLDS with strider.held := s.strider.held ++ [fid] }

/-- Held cards move into the room that has come free, in order; those that stay were counted when they were first held. -/
def State.unhold (s : State) : State :=
  let xs := s.strider.held
  xs.foldl (fun s fid => match s.offerCard fid with
    | (true, s) => s
    | (false, s) => { s with strider.held := s.strider.held ++ [fid] }) { s with strider.held := [] }

/-- The place in the waiting order of a class (Table 7.4). -/
def waitRank : Nat → Nat
  | 0 => 0 | 2 => 1 | 3 => 2 | _ => 3

/-- A thread that becomes FREE is offered to the oldest waiting card that may take it (R207). -/
def State.offerThread (s : State) (x : Nat) : State :=
  let q := squadOf x
  let may := s.strider.waiting.filter (fun (e : Nat × Nat) =>
    bit (s.cfg Obj.DISPATCH_SQUADS e.1) q && (s.squad q).st == .running && s.threadAvail e.1 x)
  match leastBy (fun (e : Nat × Nat) => waitRank e.1) may with
  | none => s
  | some e =>
    let s := { s with strider.waiting := s.strider.waiting.erase e }
    (s.giveThread e.2 x).unhold

/-! ## Thread faults (R216 to R218) -/

/-- KIND of a fault card (Table 7.7). -/
def RunKind.code : RunKind → Nat
  | .entry _ | .dropCard => 0 | .relay => 1 | .init => 2 | .test _ => 3

/-- ENTRY of a fault card. -/
def RunKind.entryNo : RunKind → Nat
  | .entry n => n
  | _ => 0

/-- The identity of a squad's image. -/
def Squad.imageId (q : Squad) : Nat := match q.image with | some i => i.id | none => 0

/-- R218: posts a fault card, or adds to one of the last 1.0 ms. -/
def State.postFaultCard (s : State) (f : FaultCard) : State :=
  let same := fun g : FaultCard => g.cause == f.cause && g.pc == f.pc && g.imageId == f.imageId && f.posted ≤ g.posted + 1000000 * ns
  if s.strider.cards.any same then
    match s.strider.cards.findIdx? same with
    | some k => { s with strider.cards := s.strider.cards.modify k (fun g => { g with rep := min (g.rep + 1) 65535 }) }
    | none => s
  else { s with strider.cards := (f :: s.strider.cards).take 64 }.post 3 f.tenant f.cause

/-- Counts a fault or stop (R216) and watches the alarm of R218. -/
def State.countFault (s : State) (q cause : Nat) : State :=
  if cause ≥ 0x0D then s.count Obj.THREADS_STOPPED q
  else
    let s := s.count Obj.THREAD_FAULTS q
    let s := if cause = 5 then s.count Obj.BUDGET_FAULTS q else s
    let now := s.time.gun
    let s := s.modSquad q (fun x => { x with faultTimes := now :: x.faultTimes.filter (fun t => now < t + 1000000 * ns) })
    if (s.squad q).faultTimes.length > s.cfg Obj.FAULT_ALARM then s.raise 2 none Obj.THREAD_FAULTS q else s

/-- R217, once every result due to a stopped thread has returned: its frame is released as a drop, its batons and locks are freed,
its fault card is posted and counted. -/
def State.finishStop (s : State) (x : Nat) (card : FaultCard) : State :=
  let t := s.thread x
  let s := if t.released then s else match t.fid with
    | some f => (s.postRelease f .drop)
    | none => s
  let s := t.batons.foldl State.release s
  let s := s.abandonLocks (midThread x)
  let s := (s.postFaultCard { card with posted := s.time.gun }).countFault (squadOf x) card.cause
  s.modThread x (fun t => { t with batons := [], stopped := none })

/-- R217: a thread faults or is stopped. It is ENDING, issues nothing more and awaits no TOKEN; the rest waits until every other
result due to it has returned. -/
def State.stopThread (s : State) (x cause operand : Nat) : State :=
  let t := s.thread x
  let q := squadOf x
  let c := t.fid.bind s.cardOf?
  let card : FaultCard :=
    { cause := cause, tid := x, released := t.released, tenant := (c.map Card.tenant).getD 0, kind := t.kind.code
      entry := t.kind.entryNo, rep := 1, pc := t.ctx.pc.toNat, operand := operand, imageId := (s.squad q).imageId
      count := min t.ctx.issued 65535, od := (c.map Card.od).getD 0, baton := (c.map Card.baton).getD 0
      stamp := s.time.gun / ns % 2 ^ 32, posted := s.time.gun }
  let due := t.ctx.results.filter (fun r => !r.token)
  let s := s.modThread x (fun t => { t with
    st := .ending, wait := .none, faulted := true, stopped := some card, ctx := { t.ctx with results := due } })
  let s := if t.ctx.results.any InFlight.token then s.wakeHelpers x 3 else s
  if due.isEmpty then s.finishStop x card else s

/-! ## Runs (R198, R203, R210, R211) -/

/-- The program entry a card selects (Table 7.5). -/
def State.entryOf (s : State) (c : Card) : RunKind :=
  if c.flags.drop then .dropCard
  else if c.source == 1 || (c.source == 0 && c.cls < 2) then .relay
  else if c.flags.slow then .entry (s.cfg Obj.SLOW_ENTRY c.tenant)
  else .entry c.program

/-- The registers at the start of a run (R198). -/
def Ctx.start (pc : Addr) : Ctx := { Ctx.reset with a := [(0, 0x10000), (1, 0x10100)], pc := pc }

/-- An entry of a squad's image: its address and budget. -/
def Squad.entry? (q : Squad) (n : Nat) : Option (Nat × Nat) := q.image.bind (fun i => tabGet? i.entries n)

/-- Starts a thread in a kind of run at an address with a budget; 0 = none. -/
def State.startThread (s : State) (x : Nat) (kind : RunKind) (pc budget prio : Nat) : State :=
  let s := s.count Obj.RUNS (squadOf x)
  let s := s.modThread x (fun t => { Thread.reset with
    fid := t.fid, kind := kind, ctx := .start (BitVec.ofNat 32 pc), budget := budget, prio := prio, dispPrio := prio
    latch := t.latch })
  s.stampReady x

/-- RUN_START (R198): the card's ready flag reaches the squad. A DROP card issues nothing; an entry that is not VALID faults. A card whose
word in the card store holds an uncorrectable error counts as a DROP card (Table 15.7). -/
def execRunStart (tid : Nat) (e : Ecc) (s : State) : Host.Outcome State Fault Refusal :=
  let t := s.thread tid
  match t.st, t.fid.bind s.cardOf? with
  | .free, some c =>
    let prio := s.cfg Obj.DISPATCH_PRIORITY c.klass
    let s := s.sramEvent 29 tid e
    match (if e == .uncorrectable then .dropCard else s.entryOf c) with
    | .dropCard =>
      let s := s.startThread tid .dropCard 0 0 prio
      .next (s.modThread tid (fun t => { t with st := .waiting }))
    | .relay => .next (s.startThread tid .relay 0 1024 prio)
    | .entry n =>
      match (if n < 254 then (s.squad (squadOf tid)).entry? n else none) with
      | some (a, b) => .next (s.startThread tid (.entry n) a (if b = 0 then s.cfg Obj.INSTR_BUDGET else b) prio)
      | none => .next ((s.startThread tid (.entry n) 0 0 prio).stopThread tid 0x0B 0)
    | _ => .next s
  | _, _ => .next s

/-- A thread becomes FREE and is offered to a waiting card. -/
def State.freeThread (s : State) (x : Nat) : State :=
  (s.modThread x (fun t => { Thread.reset with latch := t.latch })).offerThread x

/-- DROP_CARD_RUN (R211): a thread that holds a DROP card releases the frame as a drop. -/
def execDropCardRun (tid : Nat) (s : State) : Host.Outcome State Fault Refusal :=
  let t := s.thread tid
  match t.kind, t.st, t.fid with
  | .dropCard, .waiting, some f => .next ((s.postRelease f .drop).freeThread tid)
  | _, _, _ => .next s

/-! ## The choice of the issuing thread (R199) -/

/-- The READY thread of the Strider of thread x that runs next: of the highest priority, the one READY longest (R199). -/
def State.nextReady (s : State) (x : Nat) : Option Nat :=
  let ready := (striderThreads x).filter (fun y => (s.thread y).st == .ready)
  let top := (ready.map (fun y => (s.thread y).prio)).foldl max 0
  leastBy (fun y => (s.thread y).readySince) (ready.filter (fun y => (s.thread y).prio == top))

/-- The thread that issues next on the Strider of thread x, and the state with it RUNNING (R199). -/
def State.issuer (s : State) (x : Nat) : Option Nat × State :=
  let ready := (striderThreads x).filter (fun y => (s.thread y).st == .ready)
  let running := (striderThreads x).filter (fun y => (s.thread y).st == .running)
  let s := running.foldl (fun s r =>
    if ready.any (fun y => (s.thread r).prio < (s.thread y).prio) then s.stampReady r else s) s
  match (striderThreads x).find? (fun y => (s.thread y).st == .running) with
  | some r => (some r, s)
  | none => match s.nextReady x with
    | some r => (some r, s.modThread r (fun t => { t with st := .running }))
    | none => (none, s)

/-! ## The fetch buffer (R192, R195) -/

/-- The byte at an address of a local store: the pinned region is the same in every one (R194). -/
def State.localByte (s : State) (strider a : Nat) : Byte :=
  if a < 0x2000 then memRead s.strider.pinned a else memRead s.strider.lstore (strider * 65536 + a)

/-- The fetch buffer after a fetch of the local store's port, up to the end of an aligned 8-byte word; none where it has no room. -/
def Ctx.fetchMore (c : Ctx) : Option Ctx :=
  let n := 8 - (c.pc.toNat + c.fetched) % 8
  if c.fetched + n ≤ 16 then some { c with fetched := c.fetched + n } else none

/-- One fetch for a thread, if its buffer has room. -/
def State.fetchFor (s : State) (x : Nat) : Option State :=
  ((s.thread x).ctx.fetchMore).map (fun c => s.modThread x (fun t => { t with ctx := c }))

/-- What the port did in the cycle of the Strider's last instruction, with thread x running: the data access of that instruction, else a
fetch for x, else one for the READY thread that would run next. -/
def State.portCycle (s : State) (x : Nat) : State :=
  if s.strider.portBusy.contains (x / 8) then { s with strider.portBusy := s.strider.portBusy.filter (· != x / 8) }
  else match s.fetchFor x with
    | some s => s
    | none => ((s.nextReady x).bind s.fetchFor).getD s

/-- The bytes of the instruction at a thread's pc (R229). -/
def State.insnBytes (s : State) (x : Nat) : Nat :=
  if 0xC0 ≤ (s.localByte (x / 8) ((s.thread x).ctx.pc.toNat % 65536)).toNat then 4 else 2

/-- R195, R199: an issue slot in which the next instruction of running thread x is not in its fetch buffer is lost, and counted; the port
fetches in it. -/
def State.lostSlot (s : State) (x : Nat) : State :=
  if (s.thread x).ctx.fetched < s.insnBytes x then
    let s := s.count Obj.LOST_SLOTS (squadOf x)
    (s.fetchFor x).getD s
  else s

/-- Running thread x has its next instruction in its fetch buffer: at most two slots are lost before. Cycles in which a Strider has nothing
to run are not modelled (log 145). -/
def State.supply (s : State) (x : Nat) : State := ((s.portCycle x).lostSlot x).lostSlot x

end Sys2Proof.Machine
end

