-- ==== Sys2Proof/Machine/Frames.lean ====
section
/-! DEFINITION. Frames: fabric headers and checks (R107, R108), relay words (R71), what a copy carries out of a port (R160, R276,
R283), flow control by ingress use (R125), and the end of a frame record. -/

namespace Sys2Proof.Machine

/-! ## Fabric headers -/

/-- SRC of a fabric header. -/
def fhSrc (w : Blob) : Nat := beAt w 4 4

/-- The relay word of Table 3.1. -/
structure RelayWord where
  lap : Nat
  slab : Nat
  four : Bool
  rpr : Bool
  miss : Bool
  age : Nat
  tens : Nat
deriving DecidableEq, Repr

/-- A relay word from its 64 bits. -/
def relayWordOf (v : Nat) : RelayWord :=
  ⟨bits v 63 48, bits v 47 32, bit v 31, bit v 30, bit v 29, bits v 23 20, bits v 13 0⟩

/-- The 64 bits of a relay word. -/
def RelayWord.toNat (r : RelayWord) : Nat :=
  packFields [(16, r.lap), (16, r.slab), (1, nat01 r.four), (1, nat01 r.rpr), (1, nat01 r.miss), (5, 0), (4, r.age), (6, 0),
    (14, r.tens)]

/-- The payload bytes of a slab (R72). -/
def tensBytes (tens : Nat) : Nat := (tens * 10 + 7) / 8

/-- Replaces the relay word of a frame. -/
def setWord (w : Blob) (r : RelayWord) : Blob := overwrite w 24 (beBytes 8 r.toNat)

/-- A device number of a fabric address, where device 0 becomes the device's own ID (R12). -/
def ownDevice (id a : Nat) : Nat := if bits a 23 10 = 0 then a + id * 2 ^ 10 else a

/-- The check bytes an Ethernet frame ends with: the FCS of IEEE 802.3, the CRC-32 with each byte taken least significant bit first
(PRESUMED, log 18). -/
def revByte (b : Byte) : Byte := b.reverse

/-- The FCS of a frame's bytes. -/
def fcs (w : Blob) : Blob := (beBytes 4 (crc32 (w.map revByte))).map revByte

/-! ## What a frame is -/

/-- Whether a frame is relay traffic: an Exchanger shell, or an arrival in C0 or C1 (R276 check 3). -/
def Frame.relay (f : Frame) : Bool := f.src == 1 || (f.src == 0 && f.cls < 2)

/-- Whether the end of a frame condemned it (R287). -/
def Frame.condemned (f : Frame) : Bool :=
  f.lateConflict || match f.ended with
    | .bad _ => true
    | _ => false

/-- Whether the last flit or byte of a frame has arrived. -/
def Frame.whole (f : Frame) : Bool := f.ended != .arriving

/-- A frame record with nothing known yet. -/
def Frame.blank : Frame where
  src := 0
  port := 16
  sub := 0
  cls := 0
  tenant := 0
  bytes := []
  flits := 0
  tf := 0
  ended := .good
  phys := 0
  startType := 0
  parseTenant := 0
  walked := false
  walkFlags := .clear
  headers := []
  inner := 31
  tags := 0
  claim := none
  frag := none
  baton := 0
  charge := .none
  seqNo := none
  card := none
  handed := false
  lateConflict := false
  relayLap := none
  relayOk := false
  query := (4, 0, 0)
  picks := []
  heldAt := none
  graph := none

/-- Enters a new frame and gives its number. -/
def State.newFrame (s : State) (f : Frame) : Nat × State :=
  (s.nextFid, { s with frames := tabSet s.frames s.nextFid f, nextFid := s.nextFid + 1 })

/-- Submits a frame on the Starter's path: whole in the management partition, tenant 0 for parsing, charged to the shared region (R134, R146,
R262, R269). `port` and `sub` are what its card names. Nothing is submitted while the region cannot hold it. -/
def State.submitStarter (s : State) (w : Blob) (cls port sub : Nat) : Option (Nat × State) :=
  let n := if packs 3 w.length then 1 else cellsFor w.length
  if !s.sharedFits 3 n then none
  else match s.allocFrame 3 w.length 15 with
    | none => none
    | some (b, s) =>
      let (fid, s) := s.newFrame { Frame.blank with
        src := 3, port := port, sub := sub, cls := cls, bytes := w, tf := s.time.gun, phys := w.length, baton := b
        charge := .shared 3 n }
      some (fid, s.writeBaton b 0 w)

/-- The frames of the Starter that wait are submitted in order while cells hold them (R269: the Starter waits, and drops none). -/
def State.starterFlush (s : State) : State :=
  let (left, s) := s.starter.sendQ.foldl (fun (y : List StarterSend × State) x =>
    if !y.1.isEmpty then (y.1 ++ [x], y.2)
    else match y.2.submitStarter x.bytes x.cls x.port x.sub with
      | some (_, s) => ([], s)
      | none => ([x], y.2)) ([], s)
  { s with starter.sendQ := left }

/-- The priority code point of a host frame; an untagged frame has priority 0 (R125). -/
def framePcp (w : Blob) : Nat := if beAt w 12 2 == 0x8100 || beAt w 12 2 == 0x88A8 then beAt w 14 1 / 32 else 0

/-! ## Egress editing (R94, R99, R159, R160, R277) -/

/-- The parsed bytes of a frame as the pool holds them now. -/
def State.frameNow (s : State) (f : Frame) : Blob := s.readBaton f.baton 0 f.phys

/-- The edit entry applied to a frame: its bytes as released, edited (R159). -/
def State.edited (s : State) (f : Frame) (edit : Nat) : Blob :=
  let w := s.frameNow f
  if edit = 0 then w else applyEdit (f.graph.getD (s.blb Obj.PARSE_GRAPH)) f.headers (s.blb Obj.EDIT edit) w

/-- The change of length that an edit entry makes. -/
def editNet (b : Blob) : Int :=
  ((editOps b).map (fun x => if x.op = 2 then (x.len : Int) else if x.op = 3 then -(x.len : Int) else 0)).sum

/-- The length of a frame after its edit. -/
def State.editedLen (s : State) (f : Frame) (edit : Nat) : Nat :=
  if edit = 0 then f.phys else ((f.phys : Int) + editNet (s.blb Obj.EDIT edit)).toNat

/-- R283: the wire bytes of a copy on a port. -/
def State.wireBytes (s : State) (p : Nat) (f : Frame) (edit : Nat) : Nat :=
  if isPsiot p then 40 * flitsOf (s.editedLen f edit - 32)
  else if isHost p then f.bytes.length + 20
  else s.editedLen f edit

/-- The bytes a copy of class `cls` leaves a Psiot port with: CLASS, CE, LENGTH, HCRC and the CRC-32 written by the editor, device 0
replaced, SLAB rewritten on a pass-through, REPAIR set on a repair (R12, R94, R99, R160, R277). -/
def State.psiotOut (s : State) (f : Frame) (c : Copy) (cls : Nat) : Blob :=
  let w := s.edited f c.edit
  let w := w ++ List.replicate (32 - w.length) 0
  let id := s.cfg Obj.DEVICE_ID
  let w := overwrite w 0 (beBytes 4 (ownDevice id (fhDest w)) ++ beBytes 4 (ownDevice id (fhSrc w)))
  let w := overwrite w 8 (beBytes 1 (beAt w 8 1 / 16 * 16 + cls * 2 + beAt w 8 1 % 2))
  let w := overwrite w 11 (beBytes 2 ((w.length - 32) * 4 + beAt w 12 1 % 4))
  let w := if c.ce then overwrite w 16 (beBytes 1 (beAt w 16 1 % 128 + 128)) else w
  let w := if f.relay then
      let r := relayWordOf (fhWord w)
      let r := if f.query.1 == 1 then { r with slab := f.query.2.1 } else r
      setWord w (if c.repair then { r with rpr := true } else r)
    else w
  let h := withHcrc (w.take 32) ++ w.drop 32
  h ++ beBytes 4 (crc32 h)

/-- The bytes a copy leaves with on a port of either kind; port P carries no check bytes (R281). -/
def State.outBytes (s : State) (p : Nat) (f : Frame) (c : Copy) (cls : Nat) : Blob :=
  if isPsiot p then s.psiotOut f c cls
  else
    let w := s.edited f c.edit
    if isHost p then w ++ fcs w else w

/-- The same as they stand on the wire: a Psiot frame padded with zero bytes to its F flits (R107). -/
def State.padded (s : State) (p : Nat) (f : Frame) (c : Copy) (cls : Nat) : Blob :=
  let w := s.outBytes p f c cls
  if isPsiot p then w ++ framePad (w.length - 36) else w

/-! ## PTP (R46) -/

/-- Where a PTP message starts in an Ethernet frame: after EtherType 88F7h, or in UDP over IPv4 or IPv6 to port 319 or 320, behind at
most two VLAN tags (PRESUMED, log 122). -/
def ptpAt (w : Blob) : Option Nat :=
  let tag := fun (o : Nat) => beAt w o 2 == 0x8100 || beAt w o 2 == 0x88A8
  let o := if tag 12 then (if tag 16 then 20 else 16) else 12
  let udp := fun (u : Nat) => if beAt w (u + 2) 2 == 319 || beAt w (u + 2) 2 == 320 then some (u + 8) else none
  match beAt w o 2 with
  | 0x88F7 => some (o + 2)
  | 0x0800 => if beAt w (o + 11) 1 == 17 then udp (o + 2 + beAt w (o + 2) 1 % 16 * 4) else none
  | 0x86DD => if beAt w (o + 8) 1 == 17 then udp (o + 42) else none
  | _ => none

/-! ## Flow control on host ports (R125) -/

/-- The ingress use of a host port at a priority, in bytes: the cells its arrivals are charged (R269); priority 8 stands for all. -/
def State.ingressUse (s : State) (p q : Nat) : Nat :=
  (s.frames.map (fun e =>
    let f := e.2
    if f.src == 0 && f.port == p && (q == 8 || framePcp f.bytes == q) then
      match f.charge with
      | .hostPort _ h => h * 128
      | .shared _ n => n * 256
      | _ => 0
    else 0)).sum

/-- Sends XOFF and XON by the thresholds of 2013h. -/
def State.flowCheck (s : State) (p : Nat) : State :=
  if !isHost p then s
  else
    let v := s.cfg Obj.PFC_CONFIG p
    let mode := s.cfg Obj.FLOW_CONTROL p
    let qs := if mode == 1 then (List.range 8).filter (bit v) else if mode == 2 then [8] else []
    qs.foldl (fun s q =>
      let use := s.ingressUse p q
      let off := (s.port p).xoff.contains q
      if !off && use > bits v 15 8 * 4096 then
        (s.modPort p (fun x => { x with xoff := q :: x.xoff })).emit (.pfc p q true)
      else if off && use < bits v 23 16 * 4096 then
        (s.modPort p (fun x => { x with xoff := x.xoff.filter (· != q) })).emit (.pfc p q false)
      else s) s

/-! ## Credits and charges (R113, R268, R269) -/

/-- The flits of a C2 to C7 arrival become free when it is released or dropped (R113). -/
def State.freeFlits (s : State) (f : Frame) : State :=
  if f.src == 0 && isPsiot f.port && f.cls ≥ 2 then
    s.modPort f.port (fun x => { x with freed := tabUpd x.freed f.cls 0 (fun n => (n + f.flits) % 2 ^ 32) })
  else s

/-- A frame is no longer charged to ingress: its flits become free once, its cells leave the reservation. -/
def State.uncharge (s : State) (fid : Nat) : State :=
  match s.frame? fid with
  | none => s
  | some f =>
    if f.handed then s
    else
      let s := s.modFrame fid (fun f => { f with charge := .none, handed := true })
      (s.freeFlits f).flowCheck f.port

/-! ## The end of a frame record -/

/-- Whether anything in the device still names a frame. -/
def State.frameNamed (s : State) (fid : Nat) : Bool :=
  s.buf.queues.any (fun e => (e.2.copies ++ e.2.wire).any (fun c => c.fid == fid)) ||
  s.relay.inputs.any (fun e => e.2.fid == fid) ||
  s.relay.shells.any (fun h => h.fid == fid) ||
  s.relay.retained.any (fun r => r.fid == fid) ||
  s.strider.threads.any (fun e => e.2.fid == some fid) ||
  s.ingress.any (fun e => e.2 == fid) ||
  s.buf.ods.any (fun e => e.2.frames.any (fun x => x.2 == fid)) ||
  s.ten.tenants.any (fun e => match e.2.photo with
    | some ph => ph.frames.any (fun x => x.2 == fid)
    | none => false) ||
  s.ten.tenants.any (fun e => match e.2.restore with
    | some r => r.items.any (fun x => x.2.2.2 == fid)
    | none => false)

/-- Forgets a frame that nothing names any more. -/
def State.forget (s : State) (fid : Nat) : State := if s.frameNamed fid then s else { s with frames := tabDel s.frames fid }

end Sys2Proof.Machine
end

