-- ==== Sys2Proof/Machine/Gates.lean ====
section
/-! DEFINITION. Gate lists, open intervals, sleep runs, receive windows and the offset estimate (R42, R51 to R58, R63 to R67,
R120). -/

namespace Sys2Proof.Machine

/-! ## The offset estimate (R51 to R53) -/

/-- One tick of the time domain, 1.25 ns (R31). -/
abbrev tickUnits : Nat := 81920

/-- Ticks in a number of microseconds. -/
abbrev usTicks (n : Nat) : Nat := n * 800

/-- Nanoseconds times 65,536 from picoseconds. -/
def psToUnits (v : Int) : Int := v * 65536 / 1000

/-- Picoseconds from units of 2⁻¹⁶ ns. -/
def unitsToPs (v : Int) : Int := v * 1000 / 65536

/-- The offset estimate of R51 in units of 2⁻¹⁶ ns; none where it only counts as beyond 20 ns (R52, R456). -/
def State.estimate (s : State) : Option Int :=
  let x := s.time
  if x.tclkLost then none
  else match x.role with
    | .anchor => some 0
    | .locked => some x.est
    | _ =>
      if !x.everLocked then none
      else match x.estFrom with
        | none => some x.est
        | some t => some (x.est + ((x.ticks - t) * tickUnits * s.cfg Obj.HOLDOVER_DRIFT / 1000000000 : Nat))

/-- Whether the estimate exceeds a number of ns in magnitude, or has no value. -/
def State.estBeyond (s : State) (n : Nat) : Bool :=
  match s.estimate with
  | none => true
  | some e => e.natAbs > n * ns

/-- Notes since when the estimate has stayed at or below 10 ns (R53). -/
def State.noteEst (s : State) : State :=
  { s with time.lowSince := if s.estBeyond 10 then none else s.time.lowSince <|> some s.time.ticks }

/-- The offset estimate that 1203h reports, S32 in ps, saturated (R51). -/
def State.estPs (s : State) : Int :=
  match s.estimate with
  | none => 0x7FFFFFFF
  | some e => saturate 32 (unitsToPs e)

/-- A delay of the TIME_PATH section in use, by its byte (Table 14.7); an invalid section corrects nothing (log 125). -/
def State.timePath (s : State) (o : Nat) : Int :=
  if bit (beAt s.rel.boot.cal 3 1) 3 then psToUnits (signed 32 (beAt s.rel.boot.cal (10848 + o) 4)) else 0

/-- The pin time of an event on a receiver: the time stamp, `fine` steps of 78.125 ps into the tick (R32), less the calibrated pin delay
at a byte of TIME_PATH (R105, log 125). -/
def State.pinTime (s : State) (o fine : Nat) : Time := (((s.time.gun + fine % 16 * fineStep : Nat) : Int) - s.timePath o).toNat

/-! ## Gate lists (R54 to R58) -/

/-- A split entry (Table 2.3). -/
structure Split where
  gate : Nat
  tenant : Nat
  guard : Nat
  sleep : Bool
  dur : Nat
deriving DecidableEq, Repr

/-- A split from its 64-bit entry. -/
def splitOf (v : Nat) : Split := ⟨bits v 63 56, bits v 55 48, bits v 47 40, bit v 39, bits v 23 0⟩

/-- The splits of a gate list blob. -/
def splitsOf (b : Blob) : List Split := (List.range (b.length / 8)).map (fun k => splitOf (beAt b (8 * k) 8))

/-- The gate list of a port in force in the lap `j` laps ahead (R61, R62). -/
def State.gateListIn (s : State) (p j : Nat) : List Split :=
  splitsOf (if j ≥ 1 && s.swappedBy j && s.isStaged p then s.blb Obj.GATE_LIST_PENDING p else s.blb Obj.GATE_LIST p)

/-- Whether a split opens a class in lap n (R56). -/
def State.splitOpens (s : State) (x : Split) (c n : Nat) : Bool :=
  bit x.gate c && (c ≥ 2 || x.tenant == 0 || s.activeLap x.tenant n)

/-- The split in force at a port. -/
def State.splitNow (s : State) (p : Nat) : Split :=
  ((s.gateListIn p 0)[(s.port p).gateRow]?).getD ⟨0, 0, 0, false, 0⟩

/-- The gun time at which split k of the current lap starts at a port (R56). -/
def State.splitStart (s : State) (p k : Nat) : Time :=
  s.time.lapStart + (((s.gateListIn p 0).take k).map Split.dur).sum * ns

/-- Goes on over the splits of one lap while they continue an open interval of a class and tenant (R57): the ns so far,
the guard of the last split, and whether the interval goes on. -/
def State.extend (s : State) (c n tenant : Nat) : List Split → Nat × Nat → Nat × Nat × Bool
  | [], (d, g) => (d, g, true)
  | x :: xs, (d, g) =>
    if s.splitOpens x c n && (c ≥ 2 || x.tenant == tenant) then s.extend c n tenant xs (d + x.dur, x.guard) else (d, g, false)

/-- The same from lap to lap, at most `fuel` laps further. -/
def State.extendLaps (s : State) (p c tenant : Nat) : Nat → Nat → Nat × Nat → Nat × Nat × Bool
  | 0, _, (d, g) => (d, g, true)
  | fuel + 1, j, x =>
    match s.extend c (lapAdd s.time.lap j) tenant (s.gateListIn p j) x with
    | (d, g, true) => s.extendLaps p c tenant fuel (j + 1) (d, g)
    | r => r

/-- The laps ahead over which an interval or a sleep run is followed: the longest pattern of active laps (R75). -/
abbrev horizon : Nat := 257

/-- The end of the open interval of a class at a port, as ns after the current split's start, with the guard of its last
split; none while the class is closed (R57). An interval that reaches the horizon has no end. -/
def State.interval (s : State) (p c : Nat) : Option (Nat × Nat × Bool) :=
  let x := s.splitNow p
  if !s.splitOpens x c s.time.lap then none
  else match s.extend c s.time.lap x.tenant ((s.gateListIn p 0).drop ((s.port p).gateRow + 1)) (x.dur, x.guard) with
    | (d, g, true) => some (s.extendLaps p c x.tenant 64 1 (d, g))
    | r => some r

/-- Whether C0 and C1 may pass on a port: on the mark, and 16 exchanges done since UP (R53, R120). -/
def State.relayOpen (s : State) (p : Nat) : Bool :=
  !s.rel.boot.halted && !s.time.offMark && (tabGet s.time.exch p ⟨0, 0, 0, 0, 0, none, 0⟩).done ≥ 16

/-- Whether a class is open at a port now; port P has no gate list, and no gate closes there (R56, R53, R120). -/
def State.classOpen (s : State) (p c : Nat) : Bool :=
  p ≥ 16 || (!s.rel.boot.halted && s.splitOpens (s.splitNow p) c s.time.lap && (c ≥ 2 || s.relayOpen p))

/-- Whether a frame of class c that takes `f` units of 2⁻¹⁶ ns on the wire may start now at a port (R58). -/
def State.mayLaunch (s : State) (p c f : Nat) : Bool :=
  p ≥ 16 || (s.classOpen p c && match s.interval p c with
    | none => false
    | some (_, _, true) => true
    | some (d, g, false) => s.time.gun + f + g * ns ≤ s.splitStart p (s.port p).gateRow + d * ns)

/-- The tenant that the split in force at a port restricts C0 and C1 to; 0 = none (R56). -/
def State.splitTenant (s : State) (p : Nat) : Nat := (s.splitNow p).tenant

/-! ## Sleep runs (R66, R126) -/

/-- Whether a split is idle for sleep in lap n (R66); on host ports only where 2015h allows it (R126). -/
def State.splitIdle (s : State) (p : Nat) (x : Split) (n : Nat) : Bool :=
  x.sleep && (!isHost p || s.cfg Obj.HOST_SLEEP p == 1) &&
  (x.gate == 0 || (x.gate / 4 == 0 &&
    (if x.tenant == 0 then (List.range 255).all (fun k => !s.activeLap (k + 1) n) else !s.activeLap x.tenant n)))

/-- Goes on over idle splits: the ns so far and whether the run goes on. -/
def State.idleRun (s : State) (p n : Nat) : List Split → Nat → Nat × Bool
  | [], d => (d, true)
  | x :: xs, d => if s.splitIdle p x n then s.idleRun p n xs (d + x.dur) else (d, false)

/-- The same from lap to lap. -/
def State.idleLaps (s : State) (p : Nat) : Nat → Nat → Nat → Nat
  | 0, _, d => d
  | fuel + 1, j, d =>
    match s.idleRun p (lapAdd s.time.lap j) (s.gateListIn p j) d with
    | (d, true) => s.idleLaps p fuel (j + 1) d
    | (d, false) => d

/-- The length in ns of the sleep run that starts with the split in force (R66), followed over the horizon. -/
def State.sleepRun (s : State) (p : Nat) : Nat :=
  match s.idleRun p s.time.lap ((s.gateListIn p 0).drop (s.port p).gateRow) 0 with
  | (d, true) => s.idleLaps p horizon 1 d
  | (d, false) => d

/-- When the sleep run that a port is in ends, as the schedule now stands (R66). -/
def State.runEnd (s : State) (p : Nat) : Time :=
  s.splitStart p (s.port p).gateRow + (if s.splitIdle p (s.splitNow p) s.time.lap then s.sleepRun p else 0) * ns

/-- The ns a port's transmit lanes have slept in the sleep under way, from its entry to the pre-wake (R67). -/
def State.sleptNow (s : State) (p : Nat) : Nat :=
  match (s.port p).sleep with
  | .entering _ => (s.time.gun - (s.port p).sleptAt) / ns
  | _ => 0

/-- Whether the split in force is the first of its sleep run in this lap: the one before it is not idle, or there is none. -/
def State.sleepStarts (s : State) (p : Nat) : Bool :=
  let k := (s.port p).gateRow
  k == 0 || !s.splitIdle p (((s.gateListIn p 0)[k - 1]?).getD ⟨0, 0, 0, false, 0⟩) s.time.lap

/-! ## Receive windows (R63 to R65) -/

/-- A receive-window entry (Table 2.4). -/
structure Window where
  opens : Nat
  length : Nat
  deadline : Nat
  tenant : Nat
deriving DecidableEq, Repr

/-- The entries of a receive-window list. -/
def windowsOf (b : Blob) : List Window :=
  (List.range (b.length / 8)).map (fun k =>
    let v := beAt b (8 * k) 8
    ⟨bits v 63 40, bits v 39 24, bits v 23 8, bits v 7 0⟩)

/-- A port's incoming one-way delay: mean − 1208h ÷ 2 (R42, R64); 0 before the first exchange. -/
def State.delayIn (s : State) (p : Nat) : Int :=
  ((tabGet s.time.exch p ⟨0, 0, 0, 0, 0, none, 0⟩).mean).getD 0 - psToUnits (signed 32 (s.cfg Obj.LINK_ASYMMETRY p)) / 2

/-- The device's own start of lap n, one of previous, current and next (R64). -/
def State.lapStartOf (s : State) (n : Nat) : Int :=
  if n = s.time.lap then s.time.lapStart
  else if n = lapAdd s.time.lap 1 then s.time.next
  else s.time.prevStart

/-- Open, close and deadline of a window in lap n at a port (R64). -/
def State.windowTimes (s : State) (p n : Nat) (w : Window) : Int × Int × Int :=
  let o := s.lapStartOf n + (w.opens * ns : Nat) + s.delayIn p
  (o, o + (w.length * ns : Nat), o + ((w.length + w.deadline) * ns : Nat))

/-- What R65 makes of a slab: whether it is accepted, and the counter it adds to. -/
inductive Judgement where
  | onTime | falseStart | overrun | wide | late
deriving DecidableEq, Repr

/-- The receive-window list of a port in force in lap n. -/
def State.windowsIn (s : State) (p n : Nat) : List Window :=
  let j := lapsAhead s n
  let former := n = lapSub s.time.lap 1 && s.time.swapped.contains (16 + p)
  let staged := j = 1 && s.swappedBy 1 && s.isStaged (16 + p)
  windowsOf (if former then tabGet s.time.formerRx p [] else if staged then s.blb Obj.RX_WINDOWS_PENDING p else s.blb Obj.RX_WINDOWS p)

/-- R65: the judgement of a slab of tenant t and lap n on port p with first flit at tf and end at tl. -/
def State.judge (s : State) (p t n : Nat) (tf tl : Int) : Judgement :=
  if s.time.offMark || !s.relayOpen p || !(n = s.time.lap || n = lapAdd s.time.lap 1 || n = lapSub s.time.lap 1) then .late
  else
    let g : Int := (s.cfg Obj.GRACE p * ns : Nat)
    let ws := (s.windowsIn p n).filter (fun w => w.tenant == t || w.tenant == 0)
    match ws.find? (fun w => let (o, c, _) := s.windowTimes p n w; o - g ≤ tf && tf ≤ c + g) with
    | some w =>
      let (o, c, d) := s.windowTimes p n w
      if o ≤ tf && tl ≤ c then .onTime
      else if tl ≤ c + g then (if tf < o then .falseStart else .overrun)
      else if tl ≤ d then .wide
      else .late
    | none =>
      if ws.any (fun w => let (_, _, d) := s.windowTimes p n w; tl ≤ d) then .wide else .late

end Sys2Proof.Machine
end

