-- ==== Sys2Proof/Machine/Learn.lean ====
section
/-! DEFINITION. The learn table (R175 to R182) and the load-balanced groups (R183 to R187), the hash seed (R165). Learn entries are
numbered as 3318h numbers them: bucket · 4 + way in half A, 262,144 more in half B; the stash is kept oldest first. -/

namespace Sys2Proof.Machine

/-- The key of a learn entry. -/
structure LearnKey where
  ktype : Nat
  tenant : Nat
  fid : Nat
  address : Nat
deriving DecidableEq, Repr

/-- The key an entry holds. -/
def LearnEntry.key (e : LearnEntry) : LearnKey := ⟨e.ktype, e.tenant, e.fid, e.address⟩

/-- The two buckets of a key, 0 to 65535 in half A and 65536 more in half B (Table 6.1). -/
def State.learnBuckets (s : State) (k : LearnKey) : Nat × Nat :=
  let h := s.hash 3 k.tenant (beBytes 1 k.ktype ++ beBytes 2 k.fid ++ beBytes 6 k.address)
  (h % 65536, 65536 + h / 2 ^ 32 % 65536)

/-- An entry of the two halves. -/
def State.learnAt (s : State) (n : Nat) : Option LearnEntry := tabGet? s.tables.learn n

/-- Replaces an entry of the two halves. -/
def State.setLearn (s : State) (n : Nat) (e : Option LearnEntry) : State :=
  { s with tables.learn := match e with
      | some e => tabSet s.tables.learn n e
      | none => tabDel s.tables.learn n }

/-- Where a key lies. -/
inductive LearnPlace where
  | bucket (n : Nat)
  | stash (n : Nat)
deriving DecidableEq, Repr

/-- The lookup of R176: both buckets and the stash. -/
def State.findLearn (s : State) (k : LearnKey) : Option (LearnPlace × LearnEntry) :=
  let (a, b) := s.learnBuckets k
  let spots := (List.range 4).map (4 * a + ·) ++ (List.range 4).map (4 * b + ·)
  match spots.findSome? (fun n => match s.learnAt n with
      | some e => if e.key = k then some (LearnPlace.bucket n, e) else none
      | none => none) with
  | some x => some x
  | none => s.tables.stash.findSome? (fun (x : Nat × LearnEntry) => if x.2.key = k then some (.stash x.1, x.2) else none)

/-- Replaces the entry at a place. -/
def State.putLearn (s : State) (p : LearnPlace) (e : LearnEntry) : State :=
  match p with
  | .bucket n => s.setLearn n (some e)
  | .stash n => { s with tables.stash := s.tables.stash.map (fun (x : Nat × LearnEntry) => if x.1 = n then (n, e) else x) }

/-- The free way of a bucket with the lowest number, as an entry number. -/
def State.freeWay (s : State) (c : Nat) : Option Nat := ((List.range 4).map (4 * c + ·)).find? (fun n => (s.learnAt n).isNone)

/-- LEARN_TIME now: NS[25:14] (Table 6.7). -/
def State.learnNow (s : State) : Nat := s.time.gun / ns / 2 ^ 14 % 2 ^ 12

/-- What happened to the entry of a learn record (R182). -/
inductive LearnEvent where
  | insert | move | flap | aged | refused
deriving DecidableEq, Repr

/-- A learn-table entry as the 128 bits of Table 6.7. -/
def LearnEntry.toNat (e : LearnEntry) : Nat :=
  packFields [(1, 1), (1, nat01 e.fixed), (1, nat01 e.flap), (1, nat01 e.hit), (2, e.age), (6, e.flaps), (4, e.ktype),
    (8, e.tenant), (12, e.fid), (48, e.address), (8, e.port), (8, e.cand), (12, e.learnTime), (16, e.value)]

/-- An entry as the learn of a key makes it. -/
def newLearn (k : LearnKey) (port v now : Nat) (fixed : Bool) : LearnEntry :=
  { fixed := fixed, flap := false, hit := !fixed, age := 0, flaps := 0, ktype := k.ktype, tenant := k.tenant, fid := k.fid
    address := k.address, port := port, cand := 0, learnTime := now, value := v }

/-- A learn record: the event above the entry's last state (its format is the firmware's, log 143). -/
def learnRecord (e : LearnEntry) (ev : LearnEvent) : Nat :=
  (match ev with | .insert => 1 | .move => 2 | .flap => 3 | .aged => 4 | .refused => 5) * 2 ^ 128 + e.toNat

/-- R182: posts a learn record. Records of one entry within 1.0 ms, or at a full queue (Table 12.9), coalesce into one, with its last state. -/
def State.postLearn (s : State) (e : LearnEntry) (ev : LearnEvent) : State :=
  let w := s.workq 4
  let same := fun (x : WorkItem) => bits x.what 115 44 == bits (learnRecord e ev) 115 44 && x.taken.isNone &&
    (s.time.gun ≤ x.born + 1000000 * ns || w.items.length ≥ workqDepth 4)
  if w.items.any same then
    let items := w.items.map (fun x => if same x then { x with what := learnRecord e ev } else x)
    { s with starter.queues := tabSet s.starter.queues 4 { w with items := items } }
  else s.post 4 e.tenant (learnRecord e ev)

/-- The path of R178 from bucket c: each step a bucket, way and other bucket; the free way it ends at. A STATIC entry is never
moved, so its way is passed over (DEDUCED, log 17). -/
def State.relocPath (s : State) : Nat → Nat → List (Nat × Nat) → Option (List (Nat × Nat) × Nat) × State
  | 0, _, _ => (none, s)
  | fuel + 1, c, path =>
    let v := tabGet s.tables.victim c 0
    let ways := (List.range 4).map (fun k => (v + k) % 4)
    match ways.find? (fun w => match s.learnAt (4 * c + w) with | some e => !e.fixed | none => false) with
    | none => (none, s)
    | some w =>
      let s := { s with tables.victim := tabPut s.tables.victim c 0 ((w + 1) % 4) }
      match s.learnAt (4 * c + w) with
      | none => (none, s)
      | some y =>
        let (a, b) := s.learnBuckets y.key
        let alt := if c < 65536 then b else a
        let path := path ++ [(4 * c + w, alt)]
        match s.freeWay alt with
        | some f => (some (path, f), s)
        | none => s.relocPath fuel alt path

/-- R178: inserts an entry whose key is in no place; false where it is refused. -/
def State.insertLearn (s : State) (e : LearnEntry) : Bool × State :=
  let (a, b) := s.learnBuckets e.key
  match s.freeWay a <|> s.freeWay b with
  | some n => (true, s.setLearn n (some e))
  | none =>
    match s.relocPath 32 a [] with
    | (some (path, f), s) =>
      let (hole, s) := path.reverse.foldl (fun (x : Nat × State) (p : Nat × Nat) =>
        (p.1, x.2.setLearn x.1 (x.2.learnAt p.1))) (f, s)
      (true, s.setLearn hole (some e))
    | (none, s) =>
      if s.tables.stash.length < 64 then
        let n := ((List.range 64).find? (fun k => !s.tables.stash.any (fun (x : Nat × LearnEntry) => x.1 == k))).getD 0
        (true, { s with tables.stash := s.tables.stash ++ [(n, e)] }.count Obj.STASH_INSERTS)
      else (false, (s.count Obj.LEARN_REFUSALS).raise 2 none Obj.LEARN_REFUSALS)

/-- R179: the stash entries, oldest first, try their two buckets after an entry has left one. -/
def State.migrateStash (s : State) : State :=
  match s.tables.stash.find? (fun (x : Nat × LearnEntry) =>
      let (a, b) := s.learnBuckets x.2.key
      (s.freeWay a <|> s.freeWay b).isSome) with
  | none => s
  | some x =>
    let (a, b) := s.learnBuckets x.2.key
    match s.freeWay a <|> s.freeWay b with
    | some n => { s.setLearn n (some x.2) with tables.stash := s.tables.stash.erase x }
    | none => s

/-- Removes the entry at a place. -/
def State.dropLearn (s : State) : LearnPlace → State
  | .bucket n => (s.setLearn n none).migrateStash
  | .stash n => { s with tables.stash := s.tables.stash.filter (fun (x : Nat × LearnEntry) => x.1 != n) }

/-- Every entry with its place. -/
def State.learnEntries (s : State) : List (LearnPlace × LearnEntry) :=
  s.tables.learn.map (fun e => (LearnPlace.bucket e.1, e.2)) ++ s.tables.stash.map (fun e => (LearnPlace.stash e.1, e.2))

/-- The dynamic entries of a tenant (3307h). -/
def State.tenantEntries (s : State) (t : Nat) : Nat :=
  (s.learnEntries.filter (fun (x : LearnPlace × LearnEntry) => x.2.tenant == t && !x.2.fixed)).length

/-- R177: a learn. The entry as it stands after it, none where it is refused. -/
def State.learn (s : State) (k : LearnKey) (p v : Nat) : Option LearnEntry × State :=
  let now := s.learnNow
  match s.findLearn k with
  | none =>
    if s.cfg Obj.LEARN_QUOTA k.tenant ≤ s.tenantEntries k.tenant then
      (none, (s.count Obj.QUOTA_REFUSALS).postLearn (newLearn k p v now false) .refused)
    else
      let e := newLearn k p v now false
      match s.insertLearn e with
      | (true, s) => (some e, (s.count Obj.LEARNS).postLearn e .insert)
      | (false, s) => (none, s.postLearn e .refused)
  | some (at_, x) =>
    if x.fixed then (some x, if p != x.port then s.count Obj.FLAPS else s)
    else
      let old := decide (s.cfg Obj.MOVE_HOLDOFF * 1000 ≤ ((now + 4096 - x.learnTime) % 4096 - 1) * 16384) &&
        (now + 4096 - x.learnTime) % 4096 != 0
      if p = x.port then
        let e := { x with flap := false, hit := true, learnTime := now }
        (some e, s.putLearn at_ e)
      else if (x.flap && x.cand == p && old) || (!x.flap && old) then
        let e := { x with port := p, flap := false, hit := true, learnTime := now }
        (some e, ((s.putLearn at_ e).count Obj.MOVES).postLearn e .move)
      else if x.flap && x.cand == p then (some x, s)
      else
        let e := { x with flap := true, cand := p, learnTime := now, flaps := min 63 (x.flaps + 1) }
        let s := (s.putLearn at_ e).count Obj.FLAPS
        let s := if x.flap then s else s.postLearn e .flap
        (some e, if e.flaps = s.cfg Obj.FLAP_THRESHOLD then s.raise 1 (some k.tenant) Obj.FLAPS else s)

/-- The result register of a learn or lookup (Table 8.20). -/
def learnResult (e : Option LearnEntry) (refused : Bool) : Nat :=
  match e with
  | some e => 2 ^ 39 + nat01 e.fixed * 2 ^ 38 + nat01 e.flap * 2 ^ 37 + e.port * 2 ^ 16 + e.value
  | none => nat01 refused * 2 ^ 36

/-- LKP LEARN_LOOKUP (R176): an entry with an uncorrectable error is invalidated and misses. -/
def State.lkpLookup (s : State) (k : LearnKey) (e : Ecc) : Nat × State :=
  let s := s.count Obj.LEARN_LOOKUPS
  match s.findLearn k, e with
  | some (p, _), .uncorrectable => (0, (s.dropLearn p).sramEvent 25 0 e)
  | some (_, x), e => (learnResult (some x) false, s.sramEvent 25 0 e)
  | none, e => (0, s.sramEvent 25 0 e)

/-- LKP LEARN (R177): a lookup where 3300h[t] is 0. An entry that its lookup finds uncorrectable is invalidated, and the learn recreates
it (R176). -/
def State.lkpLearn (s : State) (k : LearnKey) (p v : Nat) (e : Ecc) : Nat × State :=
  if s.cfg Obj.LEARN_ENABLE k.tenant = 0 then s.lkpLookup k e
  else
    let s := s.sramEvent 25 0 e
    let s := match s.findLearn k, e with
      | some (at_, _), .uncorrectable => s.dropLearn at_
      | _, _ => s
    let (x, s) := (s.count Obj.LEARN_LOOKUPS).learn k p v
    (learnResult x x.isNone, s)

/-- One ageing visit of an entry (R180). -/
def State.ageOne (s : State) (x : LearnPlace × LearnEntry) : State :=
  let e := x.2
  if e.fixed then s
  else if e.hit then s.putLearn x.1 { e with hit := false, age := 0 }
  else if e.age < 2 then s.putLearn x.1 { e with age := e.age + 1 }
  else ((s.dropLearn x.1).count Obj.AGED).postLearn e .aged

/-- The visit of the entry of a key, where it lies by then. -/
def State.ageKey (s : State) (k : LearnKey) : State := match s.findLearn k with
  | some x => s.ageOne x
  | none => s

/-- AGEING_VISIT (R180): every bucket and the stash once; an interval of 0 stops ageing. -/
def execAgeingVisit (s : State) : Host.Outcome State Fault Refusal :=
  if s.cfg Obj.AGE_INTERVAL = 0 then .next s else .next ((s.learnEntries.map (fun x => x.2.key)).foldl State.ageKey s)

/-- A record of the static batch (R181): OP, key, port, value; none for a bad field. -/
def staticRecord (b : Blob) : Option (Nat × LearnKey × Nat × Nat) :=
  let op := beAt b 0 1
  let port := beAt b 3 1
  if (op = 1 || op = 2) && beAt b 2 1 < 16 && port / 8 ≤ 16 && beAt b 4 2 < 4096 then
    some (op, ⟨beAt b 2 1, beAt b 1 1, beAt b 4 2, beAt b 6 6⟩, port, beAt b 12 2)
  else none

/-- Applies one static record; false where it cannot be placed. -/
def State.applyStatic (s : State) (r : Nat × LearnKey × Nat × Nat) : Bool × State :=
  let (op, k, port, v) := r
  let e := newLearn k port v s.learnNow true
  match op, s.findLearn k with
  | 2, some (p, _) => (true, s.dropLearn p)
  | 2, none => (true, s)
  | _, some (p, _) => (true, s.putLearn p e)
  | _, none => s.insertLearn e

/-- Applies static records in order until one cannot be placed: how many were applied. -/
def State.applyStatics (s : State) : List (Nat × LearnKey × Nat × Nat) → Nat → Nat × State
  | [], n => (n, s)
  | r :: rs, n => match s.applyStatic r with
    | (true, s) => s.applyStatics rs (n + 1)
    | (false, s) => (n, s)

/-- A bitmap of the first k of n records, bit 7 of byte 0 the first. -/
def firstBits (k n : Nat) : Blob :=
  (List.range ((n + 7) / 8)).map (fun i => BitVec.ofNat 8 ((List.range 8).foldl (fun v j => v * 2 + nat01 (8 * i + j < k)) 0))

/-- A write of 3308h (R181): the result with the bitmap that a PARTIAL reply carries. -/
def applyLearnStaticData (b : Blob) (s : State) : (State × Result) × Blob :=
  let n := beAt b 0 2
  let rs := (List.range n).filterMap (fun k => staticRecord ((b.drop (8 + 16 * k)).take 16))
  if n = 0 || 1024 < n || b.length != 8 + 16 * n || rs.length != n then ((s, .range), [])
  else
    let (k, s) := s.applyStatics rs 0
    if k = n then ((s, .ok), []) else ((s, .partialRes), firstBits k n)

/-- The same without the bitmap. -/
def applyLearnStatic (b : Blob) (s : State) : State × Result := (applyLearnStaticData b s).1

/-- LEARN_STATIC: a write of 3308h; a PARTIAL reply carries the bitmap. -/
def execLearnStatic (p : Principal) (b : Blob) (s : State) : Host.Outcome State Fault Refusal :=
  let x := s.write p Obj.LEARN_STATIC 0 (typeCode Obj.LEARN_STATIC) b (applyLearnStatic b)
  .next (State.answer x (if x.2 == .partialRes then (applyLearnStaticData b s).2 else []))

/-- A write of 3309h[t] (R181). -/
def applyLearnFlush (t v : Nat) (s : State) : State × Result :=
  if v != 1 && v != 2 then (s, .range)
  else
    let dead := s.learnEntries.filter (fun (x : LearnPlace × LearnEntry) => x.2.tenant == t && (v == 2 || !x.2.fixed))
    let keys := dead.map (fun x => x.2.key)
    (keys.foldl (fun s k => match s.findLearn k with
      | some (p, _) => s.dropLearn p
      | none => s) s, .ok)

/-- LEARN_FLUSH: a write of 3309h[t]. -/
def execLearnFlush (p : Principal) (i v : Nat) (s : State) : Host.Outcome State Fault Refusal :=
  .next (s.writeNumCmd p Obj.LEARN_FLUSH i v (applyLearnFlush i))

/-! ## The seed (R165) -/

/-- A write of 3250h. -/
def applyHashTestSeed (b : Blob) (s : State) : State × Result :=
  if b.length != 16 then (s, .range)
  else if !s.allIdle || s.learnEntries.any (fun (x : LearnPlace × LearnEntry) => !x.2.fixed) || !s.parser.frags.isEmpty ||
      !s.parser.rules.isEmpty then (s, .state)
  else ({ s with tables.seed := beNat b, tables.salt := 0 }, .ok)

/-- HASH_TEST_SEED: a write of 3250h. -/
def execHashTestSeed (p : Principal) (b : Blob) (s : State) : Host.Outcome State Fault Refusal :=
  .next (s.writeBlobCmd p Obj.HASH_TEST_SEED 0 b applyHashTestSeed)

/-! ## Groups (R183 to R187) -/

/-- COUNT of a group. -/
def groupCount (b : Blob) : Nat := beAt b 0 2

/-- A member word. -/
def groupMember (b : Blob) (m : Nat) : Nat := beAt b (8 + 4 * m) 4

/-- The member words of every group. -/
def State.memberWords (s : State) : Nat :=
  (s.blob.filterMap (fun e => if e.1 / 2 ^ 20 == Obj.GROUP then some (groupCount e.2) else none)).sum

/-- A group as it is stored, its reserved fields zero (R4, R183). -/
def groupStored (b : Blob) : Blob :=
  b.take 2 ++ beBytes 1 (beAt b 2 1 / 128 * 128) ++ (b.drop 3).take 1 ++ [0, 0, 0, 0] ++
  (List.range (groupCount b)).flatMap (fun m => let w := groupMember b m
    beBytes 4 (w - bits w 25 24 * 2 ^ 24))

/-- A write of 3220h[g] (R183): the new list stands beside the old one until the flip. -/
def applyGroup (g : Nat) (b : Blob) (s : State) : State × Result :=
  let n := groupCount b
  if b.length < 8 || 256 < n || b.length != 8 + 4 * n ||
      (List.range n).any (fun m => let p := bits (groupMember b m) 30 26
        16 < p && p != 31) then (s, .range)
  else if 65536 < s.memberWords + n then (s, .overcommit)
  else (s.writeBlob Obj.GROUP g (groupStored b), .ok)

/-- GROUP: a write of 3220h[g]. -/
def execGroup (p : Principal) (i : Nat) (b : Blob) (s : State) : Host.Outcome State Fault Refusal :=
  .next (s.writeBlobCmd p Obj.GROUP i b (applyGroup i))

/-- Whether a member word is usable (R183). -/
def State.usable (s : State) (w : Nat) : Bool :=
  bit w 31 && (bits w 30 26 == 31 || (s.port (bits w 30 26)).st == .up)

/-- The first usable member from m on, at most `fuel` tried. -/
def State.seekMember (s : State) (b : Blob) (n : Nat) : Nat → Nat → Option Nat
  | 0, _ => none
  | fuel + 1, m => if s.usable (groupMember b m) then some m else s.seekMember b n fuel ((m + 1) % n)

/-- R184: selects a member of group g for a frame of a tenant with a flow key. -/
def State.selectMember (s : State) (g tenant : Nat) (key : Blob) : Option Nat × State :=
  let b := s.blb Obj.GROUP g
  let n := groupCount b
  if n = 0 then (none, s)
  else
    let i := s.hash 2 tenant (beBytes 2 g ++ key) / 2 ^ 32 % 2 ^ 17
    let now := s.time.gun / ns / 256 % 2 ^ 32
    let keep := match tabGet? s.tables.flowlets i with
      | some f => if ((now + 2 ^ 32 - f.last) % 2 ^ 32) * 256 ≤ s.cfg Obj.FLOWLET_GAP + 256 && s.usable (groupMember b (f.mem % n))
          then some (f.mem % n) else none
      | none => none
    let (m, s) := match keep with
      | some m => (some m, s)
      | none => match s.seekMember b n n (s.hash 6 tenant key % 2 ^ 32 % n) with
        | some m => (some m, s.count Obj.NEW_FLOWLETS)
        | none => (none, s)
    match m with
    | some m => (some m, { s with tables.flowlets := tabSet s.tables.flowlets i ⟨m, now⟩ })
    | none => (none, s)

/-- LKP GROUP (R183, R184, R252): the result register; the selection is kept with the frame for R187. -/
def State.lkpGroup (s : State) (fid : Option Nat) (g tenant : Nat) (key : Blob) : Nat × State :=
  let b := s.blb Obj.GROUP g
  let owner := beAt b 3 1
  if tenant != 0 && owner != 0 && owner != tenant then (2 ^ 38, s)
  else match s.selectMember g tenant key with
    | (none, s) => (0, s)
    | (some m, s) =>
      let w := groupMember b m
      let s := match fid with
        | some f => s.modFrame f (fun x => { x with picks := x.picks ++ [(g, m)] })
        | none => s
      (2 ^ 39 + m * 2 ^ 30 + bits w 30 26 * 2 ^ 25 + bits w 23 0, s)

/-- Counts a released frame's bytes to the members selected for it (R187). -/
def State.countPicks (s : State) (picks : List (Nat × Nat)) (n : Nat) : State :=
  picks.foldl (fun s (e : Nat × Nat) =>
    if bit (beAt (s.blb Obj.GROUP e.1) 2 1) 7 then
      { s with tables.bytesOut := tabUpd s.tables.bytesOut e.1 [] (fun t => tabUpd t e.2 0 (· + n)) }
    else s) s

/-- One monitored group at the end of a window (R187). `polarSince` holds the span of the consecutive windows above the threshold, in µs; a
window that is not evaluated ends their run (DEDUCED, log 144). -/
def State.judgeGroup (s : State) (g : Nat) (counts : Tab Nat) : State :=
  let b := s.blb Obj.GROUP g
  let n := groupCount b
  let total := (counts.map Prod.snd).sum
  if !bit (beAt b 2 1) 7 || n < 2 || total < s.cfg Obj.POLAR_MIN_BYTES || total = 0 then
    { s with tables.polarSince := tabDel s.tables.polarSince g }
  else
    let i := 100 * (counts.map Prod.snd).foldl max 0 * n / total
    let s := s.setCfg Obj.IMBALANCE g i
    if s.cfg Obj.POLAR_THRESHOLD g < i then
      let run := tabGet s.tables.polarSince g 0 + s.cfg Obj.POLAR_WINDOW
      let s := { s with tables.polarSince := tabSet s.tables.polarSince g run }
      if s.cfg Obj.POLAR_HOLD ≤ run && !s.tables.polarized.contains g then
        let s := { s with tables.polarized := insertBy id g s.tables.polarized }
        ((s.count Obj.POLAR_EVENTS).raise 2 none Obj.POLAR_EVENTS).post 6 0 g
      else s
    else { s with
      tables.polarSince := tabDel s.tables.polarSince g
      tables.polarized := s.tables.polarized.filter (· != g) }

/-- POLAR_WINDOW_END (R187): every monitored group is evaluated and its counts start again. -/
def execPolarWindowEnd (s : State) : Host.Outcome State Fault Refusal :=
  let idle := fun (g : Nat) => (tabGet? s.tables.bytesOut g).isNone
  let s := { s with tables.polarSince := s.tables.polarSince.filter (fun e => !idle e.1) }
  .next { s.tables.bytesOut.foldl (fun s e => s.judgeGroup e.1 e.2) s with tables.bytesOut := [] }

/-- A write of 3222h (R186): a future lap with a lead of at least 10 µs, or none. -/
def applyReseedLap (v : Nat) (s : State) : State × Result :=
  if !lapOk v then (s, .range)
  else if v = noLap then (s.writeNum Obj.RESEED_LAP 0 v, .ok)
  else if !lapFuture s v || s.lapStartIn (lapsAhead s v) < s.time.gun + 10000 * ns then (s, .state)
  else (s.writeNum Obj.RESEED_LAP 0 v, .ok)

/-- RESEED_LAP: a write of 3222h. -/
def execReseedLap (p : Principal) (v : Nat) (s : State) : Host.Outcome State Fault Refusal :=
  .next (s.writeNumCmd p Obj.RESEED_LAP 0 v applyReseedLap)

/-- The reseed at its lap (R186): a new balance salt, a free value. -/
def State.reseed (s : State) : State :=
  if s.cfg Obj.RESEED_LAP = s.time.lap then
    let (r, s) := s.draw
    { s.setCfg Obj.RESEED_LAP 0 noLap with tables.salt := r % 2 ^ 64, tables.epoch := s.tables.epoch + 1 }
  else s

end Sys2Proof.Machine
end

