-- ==== Sys2Proof/Machine/QueueOps.lean ====
section
/-! DEFINITION. Queues from the inside: class queues, tags and costs, entering and leaving a queue, marshals, and admission (R275 to
R278, R282, R285). -/

namespace Sys2Proof.Machine

/-- The tenant whose block holds a queue; 0 for a queue in no block (R273, R274). -/
def State.blockOwner (s : State) (q : Nat) : Nat := ((List.range 256).find? (fun t => s.inBlock t q)).getD 0

/-- R275: the class queue of tenant t for port p and class c. -/
def State.classQueue (s : State) (t p c : Nat) : Option Nat :=
  let v := s.cfg Obj.QUEUE_BLOCK t
  ((List.range (bits v 12 0)).map (bits v 31 16 + ·)).find? (fun q =>
    s.qEnable q && s.qPort q == p && s.qSub q == 0 && s.qClass q == c)

/-! ## Tags (R285) -/

/-- a < b modulo 2⁴⁸. -/
def vBefore (a b : Nat) : Bool := let d := (b + 2 ^ 48 - a % 2 ^ 48) % 2 ^ 48
  1 ≤ d && d ≤ 2 ^ 47 - 1

/-- The later of two tags. -/
def vMax (a b : Nat) : Nat := if vBefore a b then b else a

/-- The virtual time of a queue's class at its sub-port. -/
def State.vtimeOf (s : State) (q : Nat) : Nat := tabGet (s.port (s.qPort q)).vtime (s.qSub q * 8 + s.qClass q) 0

/-- The cost of a copy in a queue. -/
def State.cost (s : State) (q wire : Nat) : Nat := wire * 65536 / max 1 (s.qWeight q)

/-- A copy enters a queue. -/
def State.enqueue (s : State) (q : Nat) (c : Copy) : State :=
  let n := s.cost q c.wire
  let v := s.vtimeOf q
  let s := s.modQueue q (fun x =>
    if x.copies.isEmpty then { x with copies := [c], ftag := (vMax v x.ftag + n) % 2 ^ 48, headCost := n }
    else { x with copies := x.copies ++ [c] })
  s.count Obj.ENQUEUED q

/-- The head copy of a queue starts on a sub-port: the next one adds its cost. -/
def State.startHead (s : State) (q : Nat) : State :=
  s.modQueue q (fun x => match x.copies with
    | c :: d :: r => { x with copies := d :: r, wire := x.wire ++ [c], ftag := (x.ftag + s.cost q d.wire) % 2 ^ 48, headCost := s.cost q d.wire }
    | [c] => { x with copies := [], wire := x.wire ++ [c], headCost := 0 }
    | [] => x)

/-- Takes copies out of a queue unsent: a head gives back its cost, and the copy behind it adds its own. -/
def State.takeOut (s : State) (q : Nat) (f : Copy → Bool) : List Copy × State :=
  let x := s.queue q
  let out := x.copies.filter f
  let left := x.copies.filter (fun c => !f c)
  let headGoes : Bool := match x.copies with
    | c :: _ => f c
    | [] => false
  let y := if headGoes then
      let back := (x.ftag + 2 ^ 48 - x.headCost % 2 ^ 48) % 2 ^ 48
      match left with
      | d :: _ => { x with copies := left, ftag := (back + s.cost q d.wire) % 2 ^ 48, headCost := s.cost q d.wire }
      | [] => { x with copies := [], ftag := back, headCost := 0 }
    else { x with copies := left }
  (out, if out.isEmpty then s else s.modQueue q (fun _ => y))

/-- Releases the reference of a copy. -/
def State.releaseCopy (s : State) (c : Copy) : State := (s.release c.baton).forget c.fid

/-- Takes copies out of a queue, counts each in an object of the queue, and releases them. -/
def State.flush (s : State) (q obj : Nat) (f : Copy → Bool) : State :=
  let (out, s) := s.takeOut q f
  out.foldl (fun s c => (s.count obj q).releaseCopy c) s

/-- The queues that hold anything. -/
def State.busyQueues (s : State) : List Nat :=
  (s.buf.queues.filter (fun e => !(e.2.copies.isEmpty && e.2.wire.isEmpty))).map Prod.fst

/-- Takes a frame's copies out of every queue unsent (R287). -/
def State.takeOutFrame (s : State) (fid : Nat) : State :=
  s.busyQueues.foldl (fun s q =>
    let (out, s) := s.takeOut q (fun c => c.fid == fid)
    out.foldl State.releaseCopy s) s

/-! ## Marshals (R282) -/

/-- One byte of a bucket: buckets count 1/8000 byte in units of 2⁻¹⁶ ns. -/
abbrev bucketByte : Nat := 8000 * ns

/-- CIR, PIR, CBS, PBS and MODE of a marshal. -/
def State.marshalCfg (s : State) (m : Nat) : Nat × Nat × Nat × Nat × Nat :=
  let b := s.blb Obj.MARSHAL m
  (beAt b 0 4, beAt b 4 4, beAt b 8 4, beAt b 12 4, beAt b 16 1)

/-- A marshal's buckets, full before its first use. -/
def State.marshal (s : State) (m : Nat) : Marshal :=
  let (_, _, cbs, pbs, _) := s.marshalCfg m
  tabGet s.buf.marshals m ⟨cbs * bucketByte, pbs * bucketByte, s.time.gun⟩

/-- Meters B wire bytes: the colour 0 green, 1 yellow, 2 red, and the state with the buckets drawn and the colour counted. -/
def State.meter (s : State) (m b pre : Nat) : Nat × State :=
  let (cir, pir, cbs, pbs, mode) := s.marshalCfg m
  let x := s.marshal m
  let dt := s.time.gun - x.last
  let tc := min (cbs * bucketByte) (x.tc + cir * dt)
  let tp := min (pbs * bucketByte) (x.tp + pir * dt)
  let n := b * bucketByte
  let aware := bit mode 0
  let (col, tc, tp) :=
    if (aware && pre ≥ 2) || tp < n then (2, tc, tp)
    else if (aware && pre == 1) || tc < n then (1, tc, tp - n)
    else (0, tc - n, tp - n)
  let s := { s with buf.marshals := tabSet s.buf.marshals m ⟨tc, tp, s.time.gun⟩ }
  (col, s.count (if col == 0 then Obj.MARSHAL_GREEN else if col == 1 then Obj.MARSHAL_YELLOW else Obj.MARSHAL_RED) m)

/-- What a colour does: none drops the copy, otherwise whether it passes with CE. -/
def colourAct (mode col : Nat) : Option Bool :=
  if col = 0 then some false
  else if col = 1 then (if bits mode 2 1 = 2 then none else some (bits mode 2 1 == 1))
  else if bit mode 3 then some true else none

/-! ## Admission (R276, R277) -/

/-- Where admission of one frame stands: the copies admitted so far and the colours its marshals gave. -/
structure Admission where
  admitted : Nat
  seen : List Nat
  colours : Tab Nat
deriving DecidableEq, Repr

/-- Check 5 of R276: what the queue's marshal says, `none` a drop. -/
def State.judgeColour (s : State) (x : Admission) (card : Card) (q wire : Nat) : Option Bool × Admission × State :=
  match (if s.qClass q < 2 then none else s.qMarshal q) with
  | none => (some false, x, s)
  | some m =>
    let (col, s) := match tabGet? x.colours m with
      | some c => (c, s)
      | none => s.meter m wire (card.metaW.getD 0 0 % 4)
    let (_, _, _, _, mode) := s.marshalCfg m
    (colourAct mode col, { x with colours := tabSet x.colours m col }, s)

/-- Checks 6 and 7 of R276: only cells outside RESERVE need the shared region. -/
def State.queueFits (s : State) (f : Frame) (q : Nat) : Bool :=
  let n := queueCells f.baton
  let d := (s.queue q).depth
  let k := (s.cell (bCell f.baton)).part
  let extra := if partOf (s.qClass q) == k then min n (d + n - s.qReserve q) else n
  d + n ≤ s.qLimit q && (extra = 0 || s.sharedFits k extra)

/-- Tries one copy of a frame (R276, R277): the first admitted takes the run's reference, each later one adds a reference. -/
def State.admitTo (s : State) (fid : Nat) (f : Frame) (card : Card) (edit : Nat) (x : Admission) (q : Nat) : Admission × State :=
  if x.seen.contains q then (x, s)
  else
    let x := { x with seen := q :: x.seen }
    let wrong := !s.qEnable q || (card.tenant != 0 && s.qTenant q != card.tenant) || (f.relay != decide (s.qClass q < 2)) ||
      (card.tenant != 0 && (s.tenant card.tenant).st == .resetting)
    if wrong then (x, s.count Obj.ADMISSION_DROPS q)
    else if (s.port (s.qPort q)).held.contains (s.qClass q) then (x, s.count Obj.DOWN_DROPS q)
    else
      let wire := s.wireBytes (s.qPort q) f edit
      match s.judgeColour x card q wire with
      | (none, x, s) => (x, s.count Obj.MARSHAL_DROPS q)
      | (some mark, x, s) =>
        if !s.queueFits f q then (x, s.count Obj.LIMIT_DROPS q)
        else
          let (ok, s) := if x.admitted = 0 then (true, s) else s.incRef f.baton
          if !ok then (x, s.count Obj.ADMISSION_DROPS q)
          else
            let ce := mark || (s.qCe q != 0 && s.qCe q ≤ (s.queue q).depth)
            ({ x with admitted := x.admitted + 1 },
              s.enqueue q ⟨fid, f.baton, queueCells f.baton, (s.cell (bCell f.baton)).part, wire, ce, edit, false⟩)

end Sys2Proof.Machine
end

