-- ==== Sys2Proof/Machine/Relay.lean ====
section
/-! DEFINITION. Relay traffic and the Exchanger: relay sets and their acceptance (R77 to R85, R270), inputs (R86, R87, R97), shells and
builds (R88 to R93), missed slabs, retention and lap faults (R98 to R100). -/

namespace Sys2Proof.Machine

/-! ## Relay sets (R77 to R81) -/

/-- A slab-table entry (Table 3.2). -/
structure SlabEntry where
  tenant : Nat
  valid : Bool
  four : Bool
  pass : Bool
  port : Nat
  tens : Nat
  passPort : Nat
  passSlab : Nat
  reserved : Nat
  win : Nat
deriving DecidableEq, Repr

/-- A slab-table entry from its 64 bits. -/
def slabOf (v : Nat) : SlabEntry :=
  ⟨bits v 63 56, bit v 55, bit v 54, bit v 53, bits v 52 49, bits v 48 35, bits v 34 31, bits v 30 15, bits v 14 12, bits v 11 0⟩

/-- Entry k of a set's slab table. -/
def RelaySet.slab? (r : RelaySet) (k : Nat) : Option SlabEntry := r.slabs[k]?.map slabOf

/-- A HEAD run (Table 3.4). -/
structure Head where
  tens : Nat
  out : Nat
  port : Nat
  four : Bool
  alo : Nat
  stream : Bool
  reserved : Nat
  runs : Nat
deriving DecidableEq, Repr

/-- A HEAD from its 64 bits. -/
def headOf (v : Nat) : Head :=
  ⟨bits v 61 48, bits v 47 32, bits v 31 28, bit v 27, bits v 26 26, bit v 25, bits v 24 17, bits v 16 0⟩

/-- A data run (Tables 3.5 to 3.7). -/
inductive Run where
  | block (len inp src dst : Nat)
  | bits (len inp src dst : Nat)
  | fill (len value dst : Nat)
deriving DecidableEq, Repr

/-- A data run from its 64 bits; none for a HEAD. -/
def runOf (v : Nat) : Option Run :=
  match bits v 63 62 with
  | 0 => some (.block (bits v 61 48) (bits v 47 32) (bits v 31 18) (bits v 17 4))
  | 1 => some (.bits (bits v 61 52) (bits v 51 36) (bits v 35 18) (bits v 17 0))
  | 3 => some (.fill (bits v 61 48) (bits v 47 38) (bits v 17 4))
  | _ => none

/-- The reserved bits of a data run. -/
def runReserved (v : Nat) : Nat :=
  match bits v 63 62 with
  | 0 => bits v 3 0
  | 3 => bits v 37 18 + bits v 3 0
  | _ => 0

/-- The HEADs of a lane, each with its data runs as words; none where the lane does not hold exactly them (R81). -/
def headsOf : Nat → List Nat → Option (List (Head × List Nat))
  | _, [] => some []
  | 0, _ => none
  | fuel + 1, v :: rest =>
    let h := headOf v
    if bits v 63 62 != 2 || rest.length < h.runs then none
    else (headsOf fuel (rest.drop h.runs)).map ((h, rest.take h.runs) :: ·)

/-- The HEADs of lane u of a set. -/
def RelaySet.heads (r : RelaySet) (u : Nat) : List (Head × List Nat) :=
  let l := r.lanes.getD u []
  (headsOf l.length l).getD []

/-- The input a run reads. -/
def Run.input : Run → Option Nat
  | .block _ i _ _ | .bits _ i _ _ => some i
  | .fill _ _ _ => none

/-- The destination of a run in value bits: first and past the last. -/
def Run.dest : Run → Nat × Nat
  | .block n _ _ d | .fill n _ d => (10 * d, 10 * (d + n))
  | .bits n _ _ d => (d, d + n)

/-- Whether one data run is in order under its HEAD (R81). -/
def runOk (r : RelaySet) (h : Head) (v : Nat) : Bool :=
  runReserved v == 0 && match runOf v with
  | none => false
  | some x => (x.dest).1 < (x.dest).2 && (x.dest).2 ≤ 10 * h.tens && match x with
    | .fill _ _ _ => true
    | .block n i src _ => (match r.slab? i with
      | some e => src + n ≤ e.tens && e.four == h.four
      | none => false)
    | .bits n i src d => n ≤ 640 && (match r.slab? i with
      | some e => src + n ≤ 10 * e.tens && e.four == h.four
      | none => false) && (!h.four || (n % 2 == 0 && src % 2 == 0 && d % 2 == 0))

/-- Whether the destinations of runs ascend without overlap (R81). -/
def runsAscend : Nat → List Nat → Bool
  | _, [] => true
  | at_, v :: vs => match runOf v with
    | some x => at_ ≤ (x.dest).1 && runsAscend (x.dest).2 vs
    | none => false

/-- Whether a signal-map entry is in order under the slabs of its set (Table 3.3). -/
def signalOk (t : Nat) (r : RelaySet) (v : Nat) : Bool :=
  bits v 63 56 == t && bit v 55 && bits v 52 48 == 0 && bits v 31 15 ≤ 127999 && 1 ≤ bits v 14 0 &&
    !(bit v 54 && bits v 31 15 % 2 == 1) && match r.slab? (bits v 47 32) with
    | some e => e.four == bit v 54
    | none => false

/-- R81: whether a set for tenant t is accepted. -/
def relaySetOk (t : Nat) (r : RelaySet) : Bool :=
  r.slabs.length ≤ 65536 &&
  r.slabs.all (fun v => let e := slabOf v
    e.tenant == t && e.valid && e.reserved == 0 && e.port ≤ 13 && e.passPort ≤ 13 && 1 ≤ e.tens && e.tens ≤ 12800 &&
      !(e.pass && e.passPort == e.port)) &&
  r.signals.all (signalOk t r) &&
  (List.range 4).all (fun u =>
    let l := r.lanes.getD u []
    match headsOf l.length l with
    | none => false
    | some hs => hs.all (fun (e : Head × List Nat) =>
        e.1.reserved == 0 && e.1.port ≤ 13 && e.1.port % 4 == u && 1 ≤ e.1.tens && e.1.tens ≤ 12800 &&
        e.2.all (runOk r e.1) && runsAscend 0 e.2))

/-- The 64-bit words of a blob from a byte on. -/
def words64 (b : Blob) (off n : Nat) : List Nat := (List.range n).map (fun k => beAt b (off + 8 * k) 8)

/-- A relay set from its blob (Table 3.8); none where the counts do not fit the blob or a reserved byte is not zero. -/
def relaySetOf (b : Blob) : Option RelaySet :=
  let n := beAt b 0 4
  let m := beAt b 4 4
  let c := (List.range 4).map (fun u => beAt b (8 + 4 * u) 4)
  if b.length < 32 || b.length != 32 + 8 * (n + m + c.sum) || beAt b 24 8 != 0 then none
  else
    let start := fun u => 32 + 8 * (n + m + (c.take u).sum)
    some ⟨words64 b 32 n, words64 b (32 + 8 * n) m, (List.range 4).map (fun u => words64 b (start u) (c.getD u 0))⟩

/-- A set with nothing in it. -/
def RelaySet.empty : RelaySet := ⟨[], [], [[], [], [], []]⟩

/-- Runs of a set, HEADs included. -/
def RelaySet.runCount (r : RelaySet) : Nat := (r.lanes.map List.length).sum

/-- Every HEAD of a set. -/
def RelaySet.allHeads (r : RelaySet) : List Head := (List.range 4).flatMap (fun u => (r.heads u).map Prod.fst)

/-- The cells of a slab (R270). -/
def slabCells (tens : Nat) : Nat := cellsFor (36 + tensBytes tens)

/-- The relay demand of a set (R270). -/
def RelaySet.demand (r : RelaySet) : Nat :=
  2 * (r.slabs.map (fun v => slabCells (slabOf v).tens)).sum + (r.allHeads.map (fun h => slabCells h.tens)).sum

/-- The retention demand of a set (R270). -/
def RelaySet.retention (r : RelaySet) : Nat :=
  ((r.slabs.filter (fun v => (slabOf v).pass)).map (fun v => slabCells (slabOf v).tens)).sum +
    (r.allHeads.map (fun h => slabCells h.tens)).sum

/-- Every set the stores hold: operational, staged and former (R83, R84). -/
def State.allSets (s : State) : List (Nat × RelaySet) := s.relay.sets ++ s.relay.staged ++ s.relay.former

/-- Free entries of the signal store (3806h). -/
def State.storeFree (s : State) : Nat :=
  2097152 - (s.allSets.map (fun (e : Nat × RelaySet) => e.2.signals.length + e.2.runCount)).sum

/-- Free slab-table entries (3807h). -/
def State.slabFree (s : State) : Nat := 65536 - (s.allSets.map (fun (e : Nat × RelaySet) => e.2.slabs.length)).sum

/-- Whether a tenant is in replay mode (3804h). -/
def State.replay (s : State) (t : Nat) : Bool := s.cfg Obj.RELAY_MODE t == 1

/-- Whether a set of tenant t fits beside the others (R77, R83, R270); its former staged set is freed already. -/
def State.setFits (s : State) (t : Nat) (r : RelaySet) : Bool :=
  let both := s.relay.sets ++ s.relay.staged ++ [(t, r)]
  let after := (t, r) :: (s.relay.staged ++ s.relay.sets.filter (fun e => e.1 != t && !s.relay.staged.any (fun x => x.1 == e.1)))
  r.slabs.length ≤ s.slabFree && r.signals.length + r.runCount ≤ s.storeFree &&
  (after.map (fun e => e.2.signals.length)).sum ≤ 1048576 && (after.map (fun e => e.2.runCount)).sum ≤ 1048576 &&
  (both.map (fun e => e.2.demand)).sum ≤ s.partTarget 0 &&
  (both.map (fun e => if s.replay e.1 then e.2.retention else 0)).sum ≤ s.partTarget 1

/-- A write of 3801h[t] (R81 to R83, R270). -/
def applyRelaySetPending (t : Nat) (b : Blob) (s : State) : State × Result :=
  match relaySetOf b with
  | none => (s, .range)
  | some r =>
    if !relaySetOk t r then (s, .range)
    else if s.cfg Obj.SWAP_LAP != noLap then (s, .state)
    else
      let freed := { s with relay.staged := tabDel s.relay.staged t }
      if !freed.setFits t r then (s, .overcommit)
      else ({ s with relay.staged := tabSet s.relay.staged t r }.writeBlob Obj.RELAY_SET_PENDING t b, .ok)

/-- RELAY_SET_PENDING: a write of 3801h[t]. -/
def execRelaySetPending (p : Principal) (i : Nat) (b : Blob) (s : State) : Host.Outcome State Fault Refusal :=
  .next (s.writeBlobCmd p Obj.RELAY_SET_PENDING i b (applyRelaySetPending i))

/-- Writes of 3802h to 3805h (R75, Table 3.13). -/
def applyRelayObj (o t v : Nat) (s : State) : State × Result :=
  let bad : Bool :=
    if o == Obj.LAP_DIVISOR then !([1, 2, 4, 8, 16, 32, 64, 128, 256].contains v)
    else if o == Obj.LAP_PHASE then decide (s.cfg Obj.LAP_DIVISOR t ≤ v)
    else if o == Obj.RELAY_MODE then decide (1 < v)
    else v < 200 || 1000000 < v
  if bad then (s, .range)
  else if (s.tenant t).st != .idle then (s, .state)
  else (s.writeNum o t v, .ok)

/-- Whether lap a is before lap b. -/
def lapBefore (a b : Nat) : Bool := 1 ≤ (b + 2 ^ 48 - a % 2 ^ 48) % 2 ^ 48 && (b + 2 ^ 48 - a % 2 ^ 48) % 2 ^ 48 < 2 ^ 47

/-- The set that judges lap n (R84, R89): the staged one for laps at or after a scheduled swap, the former one, while it is held, for the
laps before the last swap, the operational one otherwise. -/
def State.relaySetFor (s : State) (t n : Nat) : RelaySet :=
  let oper := tabGet s.relay.sets t .empty
  if lapFuture s n && s.swappedBy (lapsAhead s n) then tabGet s.relay.staged t oper
  else match tabGet? s.relay.former t with
    | some r => if lapBefore n s.relay.swapLap then r else oper
    | none => oper

/-! ## Inputs (R86, R87) -/

/-- The key of the input of tenant t, slab and lap. -/
def inputKey (t slab n : Nat) : Nat := (t * 65536 + slab) * 2 ^ 48 + n

/-- The lap of an input's key. -/
def keyLap (k : Nat) : Nat := k % 2 ^ 48
/-- The slab of an input's key. -/
def keySlab (k : Nat) : Nat := k / 2 ^ 48 % 65536
/-- The tenant of an input's key. -/
def keyTenant (k : Nat) : Nat := k / 2 ^ 64

/-- An input nothing is known of. -/
def Input.reset : Input := ⟨.absent, 0, 0, 0, false, 0, false, false, false, false⟩

/-- An input. -/
def State.input (s : State) (t slab n : Nat) : Input := tabGet s.relay.inputs (inputKey t slab n) .reset

/-- Replaces an input. -/
def State.setInput (s : State) (t slab n : Nat) (x : Input) : State :=
  { s with relay.inputs := tabPut s.relay.inputs (inputKey t slab n) .reset x }

/-- Whether an input needs no more waiting for a HEAD of a set (R85, R90): complete, missing, of a lap that is not active for the
tenant (R292), or not what the set's entry expects (DEDUCED, log 20). -/
def State.inputSettled (s : State) (r : RelaySet) (t slab n : Nat) : Bool :=
  let x := s.input t slab n
  x.st == .complete || x.st == .missing ||
    ((x.st == .absent || x.st == .lost) && n != s.time.lap && !lapFuture s n && !s.activeLap t n) ||
    (r.slab? slab).isNone

/-- Whether an input's bits may be read for a set: complete, with the TENS and FOUR its entry expects (R85). -/
def State.inputReadable (s : State) (r : RelaySet) (t slab n : Nat) : Bool :=
  let x := s.input t slab n
  x.st == .complete && match r.slab? slab with
    | some e => e.tens == x.tens && e.four == x.four
    | none => false

/-! ## Shells (R88, R89) -/

/-- The lap whose inputs a HEAD of lap n reads (R76). -/
def State.inputLap (s : State) (t n : Nat) (h : Head) : Nat := if h.alo = 0 then n else lapSub n (s.cfg Obj.LAP_DIVISOR t)

/-- The HEAD of a shell with its data runs, under the set of its lap. -/
def State.shellHead (s : State) (x : Shell) : Option (Head × List Nat) := ((s.relaySetFor x.t x.lap).heads x.lane)[x.k]?

/-- Whether a shell's HEAD is ready (R90). -/
def State.shellReady (s : State) (x : Shell) : Bool :=
  match s.shellHead x with
  | none => false
  | some (h, vs) =>
    let l := s.inputLap x.t x.lap h
    (vs.filterMap (fun v => (runOf v).bind Run.input)).all (fun i => s.inputSettled (s.relaySetFor x.t x.lap) x.t i l)

/-- Notes when a HEAD became ready. -/
def State.noteReady (s : State) : State :=
  { s with relay.shells := s.relay.shells.map (fun x =>
      if x.readySince.isNone && !x.built && s.shellReady x then { x with readySince := some s.time.gun } else x) }

/-- When a lap starts, for the current lap and later ones. -/
def State.startOfLap (s : State) (n : Nat) : Option Time :=
  if n = s.time.lap then some s.time.lapStart
  else if lapFuture s n then some (s.lapStartIn (lapsAhead s n))
  else none

/-- The fabric header of a shell (R88). What the manual does not say of it, the endpoints, the device reached over a fabric port,
HOPS and FLOW, is a free value (log 19). -/
def State.shellHeader (s : State) (t n : Nat) (h : Head) : Blob × State :=
  let (v, s) := s.draw
  let id := s.cfg Obj.DEVICE_ID
  let dest := t * 2 ^ 24 + (if h.port ≥ 8 then id * 2 ^ 10 + v % 1024 else v % 2 ^ 24)
  let src := t * 2 ^ 24 + id * 2 ^ 10 + v / 2 ^ 24 % 1024
  let word : RelayWord := ⟨n % 65536, h.out, h.four, false, false, h.alo, h.tens⟩
  let f : FabricHdr := ⟨dest, src, 0, v / 2 ^ 34 % 64, 0, tensBytes h.tens, v / 2 ^ 40 % 2 ^ 24, false, false, word.toNat⟩
  (f.bytes, s)

/-- The order domain block of a tenant: its base, and an index within it (R148). -/
def State.odIn (s : State) (t i : Nat) : Nat :=
  let v := s.cfg Obj.OD_BLOCK t
  bits v 31 16 + i % 2 ^ bits v 4 0

/-- Issues a shell (R88): cells of the relay partition, header, card, and submission to the distributor. Whether the card lists the
fabric header is a free value (log 19). -/
def State.issueShell (s : State) (t n lane k : Nat) (h : Head) : State :=
  let len := tensBytes h.tens
  match s.allocCells 0 (cellsFor (36 + len)) with
  | none =>
    let s := (s.count Obj.ALLOC_FAILS 0).count Obj.SHELL_FAILS t
    { s with relay.shells := s.relay.shells ++ [⟨t, n, lane, k, 0, 0, none, none, true⟩] }
  | some (b, s) =>
    let (hdr, s) := s.shellHeader t n h
    let (v, s) := s.draw
    let w := hdr ++ List.replicate len 0
    let card : Card :=
      { source := 1, port := h.port, sub := 0, cls := 0, tenant := t, od := s.odIn t (16 + h.port), baton := b
        frameLen := 32 + len, depth := v % 2, inner := 31, flags := .clear, stamp := s.time.gun / ns % 2 ^ 32, program := 0, edit := 0
        tags := 0, fragEntry := 0x1FFF, results := [none, none, none, none], metaW := [0, 0, 0, 0]
        headers := List.replicate (v % 2) (0, 0) }
    let (fid, s) := s.newFrame { Frame.blank with
      src := 1, port := h.port, tenant := t, bytes := w, flits := flitsOf len, tf := s.time.gun, phys := 32 + len
      parseTenant := t, walked := true, baton := b, charge := .relay, card := some card
      query := (2, 0, h.port), relayLap := some n }
    let s := s.writeBaton b 0 w
    let s : State := { s with relay.shells := s.relay.shells ++ [⟨t, n, lane, k, fid, b, none, none, false⟩] }
    s.noteReady.dispatch fid

/-- SHELL_ISSUE (R88, R89): at the shell time of HEAD k of a lane for lap n, once. -/
def execShellIssue (t lap lane k : Nat) (s : State) : Host.Outcome State Fault Refusal :=
  match s.startOfLap lap, ((s.relaySetFor t lap).heads lane)[k]? with
  | some start, some (h, _) =>
    if s.activeLap t lap && start ≤ s.time.gun + s.cfg Obj.SHELL_LEAD t * ns &&
        !s.relay.shells.any (fun x => x.t == t && x.lap == lap && x.lane == lane && x.k == k) then
      .next (s.issueShell t lap lane k h)
    else .next s
  | _, _ => .next s

/-- A shell whose cells are gone is built no more. -/
def State.abandonShell (s : State) (fid : Nat) : State :=
  { s with relay.shells := s.relay.shells.map (fun x => if x.fid == fid then { x with built := true } else x) }

/-- Withdraws a shell (R89, R101): it is never launched, and its cells are released. -/
def State.withdrawShell (s : State) (x : Shell) : State :=
  let s := { s with relay.shells := s.relay.shells.filter (fun y => y.fid != x.fid || y.lap != x.lap || y.lane != x.lane || y.k != x.k) }
  if x.fid = 0 then s
  else (s.modFrame x.fid (fun f => { f with ended := .bad (.abort 3) })).takeOutFrame x.fid

/-- SHELL_WITHDRAW (R89): at the start of lap n, the shells of lap n of a tenant that is not RUNNING. A shell that was not issued for lack of
cells is not counted again. -/
def State.withdrawLap (s : State) (n : Nat) : State :=
  (s.relay.shells.filter (fun x => x.lap == n && (s.tenant x.t).st != .running)).foldl (fun s x =>
    let s := s.withdrawShell x
    if x.fid = 0 then s else s.count Obj.SHELLS_WITHDRAWN x.t) s

/-! ## Lap faults and notices (R97, R98, R100) -/

/-- A lap fault (R100): counted, logged, attention 3, and the tenant's halt requested. -/
def State.lapFault (s : State) (t n slab port cause : Nat) : State :=
  let s := s.count Obj.LAP_FAULTS t
  let s := s.faultEntry t cause port slab n
  let s := s.raise 3 (some t) Obj.LAP_FAULTS t
  s.halt t cause n

/-- An input becomes missing (R97). -/
def State.inputMissing (s : State) (t slab n port : Nat) : State :=
  let s := s.setInput t slab n { s.input t slab n with st := .missing }
  let s := s.count Obj.MISSING t
  s.lapFault t n slab port 1

/-- MISSED_SLAB_NOTICE (R98): at most one notice a slab and lap. -/
def State.notice (s : State) (t slab n port : Nat) : State :=
  let x := s.input t slab n
  if x.noticed then s
  else
    let s := s.setInput t slab n { x with noticed := true }
    (s.queueCtl port (.missedSlab t slab (n % 65536))).count Obj.NOTICES_SENT t

/-- Drops the Exchanger's hold on an input's baton. -/
def State.dropHold (s : State) (x : Input) : State := if x.baton = 0 then s else s.release x.baton

/-- An input becomes lost at its deadline (R97): in strict mode missing at once, in replay mode noticed, and missing at once where its
lap has ended. -/
def State.inputLost (s : State) (t slab n port : Nat) : State :=
  let x := s.input t slab n
  if x.st != .absent && x.st != .arriving then s
  else
    let s := s.dropHold x
    let s := s.setInput t slab n { x with st := .lost, fid := 0, baton := 0, wasLost := true }
    if !s.replay t then s.inputMissing t slab n port
    else
      let s := s.notice t slab n port
      if n == s.time.lap || lapFuture s n then s else s.inputMissing t slab n port

/-- The slabs of a set that a window expects (R97). -/
def RelaySet.expected (r : RelaySet) (port win : Nat) : List Nat :=
  (List.range r.slabs.length).filter (fun k => match r.slab? k with
    | some e => e.port == port && e.win == win
    | none => false)

/-- EXCHANGE_DEADLINE (R97): at the deadline of a window in a lap, each slab it expects that is absent or arriving is lost. -/
def execExchangeDeadline (port win lap : Nat) (s : State) : Host.Outcome State Fault Refusal :=
  match (s.windowsIn port lap)[win]? with
  | none => .next s
  | some w =>
    let near := lap == s.time.lap || lap == lapAdd s.time.lap 1 || lap == lapSub s.time.lap 1
    if !near || (s.time.gun : Int) < (s.windowTimes port lap w).2.2 then .next s
    else
      let ts := ((s.relay.sets.map Prod.fst ++ s.relay.staged.map Prod.fst ++ s.relay.former.map Prod.fst).dedup).filter
        (fun t => s.activeLap t lap)
      let s := (sortBy id ts).foldl (fun s t =>
        ((s.relaySetFor t lap).expected port win).foldl (fun s k => s.inputLost t k lap port) s) s
      .next s.noteReady

/-! ## Arrival (R86) -/

/-- R86 at the fabric header of an accepted slab: registered, or dropped and counted; the verdict of QUERY is kept (R253). -/
def State.register (s : State) (fid : Nat) : State :=
  match s.frame? fid with
  | none => s
  | some f =>
    let w := windowBytes f.bytes f.phys
    let r := relayWordOf (fhWord w)
    let t := f.parseTenant
    let n := f.relayLap.getD (s.lapOf r.lap)
    let set := s.relaySetFor t n
    let reject := fun (s : State) => s.modFrame fid (fun f => { f with query := (3, 0, 0) })
    let fits : Option SlabEntry := match set.slab? r.slab with
      | some e => if t != 0 && !s.tables.invalid.contains (2, t * 65536 + r.slab) && e.port == f.port && e.tens == r.tens && e.four == r.four && fhLength w == tensBytes r.tens &&
          s.activeLap t n then some e else none
      | none => none
    match fits with
    | none => reject (s.count Obj.MISMATCHES t)
    | some e =>
      let x := s.input t r.slab n
      if x.st == .arriving || x.st == .complete then reject (s.count Obj.DUPLICATES t)
      else
        let s := (s.incRef f.baton).2
        let s := s.setInput t r.slab n
          { x with st := .arriving, fid := fid, baton := f.baton, age := r.age, miss := r.miss, tens := r.tens, four := r.four }
        s.modFrame fid (fun f => { f with
          relayLap := some n, relayOk := true, query := if e.pass then (1, e.passSlab, e.passPort) else (0, 0, 0) })

/-- R86 at the end of a registered frame: complete, or absent; a failed CRC or FEC is noticed at once in replay mode (R98). -/
def State.endSlab (s : State) (fid : Nat) (good mayNotice : Bool) : State :=
  match s.frame? fid with
  | none => s
  | some f =>
    match f.relayLap with
    | none => s
    | some n =>
      let r := relayWordOf (fhWord f.bytes)
      let t := f.parseTenant
      let x := s.input t r.slab n
      if !f.relayOk || f.src != 0 || x.st != .arriving || x.fid != fid then s
      else if good then
        let s := s.setInput t r.slab n { x with st := .complete }
        let s := s.count Obj.SLABS_IN t
        let s := if r.rpr then s.count Obj.REPAIRS_USED t else s
        let s := if r.miss then s.count Obj.TAINTED t else s
        s.noteReady
      else
        let s := s.dropHold x
        let s := s.setInput t r.slab n { Input.reset with
          st := if x.wasLost then .lost else .absent, noticed := x.noticed, wasLost := x.wasLost }
        if mayNotice && s.replay t then s.notice t r.slab n f.port else s

/-- Registers a slab; one whose frame has ended by then is complete or absent at once (R86). A whole frame of the right flit count that is
bad has failed its CRC. -/
def State.registerSlab (s : State) (fid : Nat) : State :=
  let s := s.register fid
  match s.frame? fid with
  | some f => match f.ended with
    | .arriving => s
    | .good => s.endSlab fid true false
    | .bad k => s.endSlab fid false (k == .fec || (k == .whole && f.flits == flitsOf (fhLength f.bytes)))
  | none => s

/-! ## Builds (R90 to R92) -/

/-- The tens of a payload. -/
def tensOf (b : Blob) (n : Nat) : List Nat :=
  let v := beNat (b.take (tensBytes n)) / 2 ^ (8 * tensBytes n - 10 * n)
  (List.range n).map (fun j => v / 2 ^ (10 * (n - 1 - j)) % 1024)

/-- A payload from its tens (R8, R72). -/
def packTens (ts : List Nat) : Blob :=
  let n := ts.length
  beBytes (tensBytes n) (ts.foldl (fun v x => v * 1024 + x % 1024) 0 * 2 ^ (8 * tensBytes n - 10 * n))

/-- Value bit `b` of a sequence of tens (R73). -/
def valueBit (ts : List Nat) (b : Nat) : Bool := (ts.getD (b / 10) 0).testBit (b % 10)

/-- Sets value bit `b`. -/
def setValueBit (ts : List Nat) (b : Nat) (v : Bool) : List Nat :=
  ts.modify (b / 10) (fun x => if x.testBit (b % 10) == v then x else x ^^^ 2 ^ (b % 10))

/-- Puts tens at a place. -/
def putTens (ts : List Nat) (d : Nat) (xs : List Nat) : List Nat := ts.take d ++ xs ++ ts.drop (d + xs.length)

/-- One data run on the output under way; `src` holds the tens of its input where that is present, and otherwise the run's range
takes the substitute it already holds (R91). -/
def applyRun (ts : List Nat) (src : Option (List Nat)) : Run → List Nat
  | .fill n v d => putTens ts d (List.replicate n v)
  | .block n _ a d => match src with
    | some xs => putTens ts d ((xs.drop a).take n)
    | none => ts
  | .bits n _ a d => match src with
    | some xs => (List.range n).foldl (fun ts k => setValueBit ts (d + k) (valueBit xs (a + k))) ts
    | none => ts

/-- The substitute ten (R91). -/
def substitute (four : Bool) : Nat := if four then 1023 else 0

/-- Exchanger cycles of a data run (R92). -/
def Run.cycles : Run → Nat
  | .block n _ _ _ | .fill n _ _ => max 1 ((n + 127) / 128)
  | .bits _ _ _ _ => 1

/-- Exchanger cycles elapsed, at 1.8 GHz. -/
def exchCycles (d : Time) : Nat := d * 18 / (10 * ns)

/-- The next HEAD of lane u of each tenant whose shell is issued (R90): the earliest whose build has not started. -/
def State.nextHeads (s : State) (u : Nat) : List Shell :=
  let open_ := s.relay.shells.filter (fun x => x.lane == u && !x.built && x.startAt.isNone)
  open_.filter (fun x => !open_.any (fun y => y.t == x.t && y.lane == u && (lapBefore y.lap x.lap || (y.lap == x.lap && y.k < x.k))))

/-- The throughput cycles of a build: its HEAD's and its runs' (R92). -/
def State.buildCycles (s : State) (x : Shell) : Nat :=
  match s.shellHead x with
  | some (_, vs) => 1 + ((vs.filterMap runOf).map Run.cycles).sum
  | none => 0

/-- The time of a number of Exchanger cycles, at 1.8 GHz. -/
def exchTime (n : Nat) : Time := n * 10 * ns / 18

/-- Whether unit u is occupied: the cycles of a build it started have not passed. The 16 cycles of latency overlap with the next (R92). -/
def State.unitBusy (s : State) (u : Nat) : Bool :=
  s.relay.busy.any (fun e => e.1 == u && s.time.gun < e.2.1 + exchTime e.2.2)

/-- UNIT_LOAD (3808h): the busy time of unit u per 1,000 over the last 1.0 ms. -/
def State.unitLoad (s : State) (u : Nat) : Nat :=
  let now := s.time.gun
  let from_ := now - 1000000 * ns
  ((s.relay.busy.filter (fun e => e.1 == u)).map (fun e => min now (e.2.1 + exchTime e.2.2) - max from_ e.2.1)).sum / (1000 * ns)

/-- BUILD_START (R90): an idle unit takes, of the next HEADs that are ready, the one that became ready first. -/
def execBuildStart (u : Nat) (s : State) : Host.Outcome State Fault Refusal :=
  if s.unitBusy u then .next s
  else
    let s := s.noteReady
    let ready := (s.nextHeads u).filter (fun x => x.readySince.isSome)
    match leastBy (fun x => x.readySince.getD 0 * 256 + x.t) ready with
    | none => .next s
    | some h =>
      let now := s.time.gun
      .next { s with
        relay.shells := s.relay.shells.map (fun x =>
          if x.fid == h.fid && x.t == h.t && x.lap == h.lap && x.lane == h.lane && x.k == h.k then { x with startAt := some now } else x)
        relay.busy := s.relay.busy.filter (fun e => now ≤ e.2.1 + exchTime e.2.2 + 1000000 * ns) ++ [(u, now, s.buildCycles h)] }

/-- The tens of a complete input. -/
def State.inputTens (s : State) (t slab n : Nat) : List Nat :=
  let x := s.input t slab n
  tensOf (s.readBaton x.baton 32 (tensBytes x.tens)) x.tens

/-- R91 and R76: builds an output into its shell's cells; those that a stomped slab of a strict tenant gave back are not written (R93). -/
def State.build (s : State) (x : Shell) (h : Head) (vs : List Nat) : State :=
  let set := s.relaySetFor x.t x.lap
  let l := s.inputLap x.t x.lap h
  let runs := vs.filterMap runOf
  let ins := (runs.filterMap Run.input).dedup
  let present := ins.filter (fun i => s.inputReadable set x.t i l)
  let ts := runs.foldl (fun ts r =>
    let src := match r.input with
      | some i => if present.contains i then some (s.inputTens x.t i l) else none
      | none => none
    applyRun ts src r) (List.replicate h.tens (substitute h.four))
  let ages := present.map (fun i => (s.input x.t i l).age)
  let age := min 15 (h.alo + ages.foldl max 0)
  let miss := present.length != ins.length || present.any (fun i => (s.input x.t i l).miss)
  let s := if ages.dedup.length > 1 then s.count Obj.AGE_MISMATCHES x.t else s
  let word : RelayWord := ⟨x.lap % 65536, h.out, h.four, false, miss, age, h.tens⟩
  let s := if s.batonOk x.baton then (s.writeBaton x.baton 24 (beBytes 8 word.toNat)).writeBaton x.baton 32 (packTens ts) else s
  let s := s.count Obj.SLABS_OUT x.t
  match (if h.alo = 0 && s.replay x.t then ins.find? (fun i => !present.contains i) else none) with
  | some i => s.lapFault x.t x.lap i ((set.slab? i).map SlabEntry.port |>.getD 0) 2
  | none => s

/-- BUILD_COMPLETE (R91, R92): unit u has spent 16 cycles and its runs' cycles on the oldest build under way. -/
def execBuildComplete (u : Nat) (s : State) : Host.Outcome State Fault Refusal :=
  match leastBy (fun x => x.startAt.getD 0) (s.relay.shells.filter (fun x => x.lane == u && !x.built && x.startAt.isSome)) with
  | none => .next s
  | some x => match s.shellHead x with
    | none => .next (s.abandonShell x.fid)
    | some (h, vs) =>
      if exchCycles (s.time.gun - x.startAt.getD 0) < 16 + ((vs.filterMap runOf).map Run.cycles).sum then .next s
      else .next ((s.build x h vs).abandonShell x.fid)

/-- The cells of a shell that a build under way has filled by now (R91, R92). -/
def State.cellsFilled (s : State) (x : Shell) : Nat :=
  match s.shellHead x, x.startAt with
  | some (h, vs), some t0 =>
    if x.built then slabCells h.tens
    else
      let runs := vs.filterMap runOf
      let cyc := exchCycles (s.time.gun - t0)
      let done := (List.range (runs.length + 1)).filter (fun k => 16 + ((runs.take k).map Run.cycles).sum ≤ cyc)
      let k := done.getLast?.getD 0
      if k = 0 then 0
      else
        let upTo := if k = runs.length then 10 * h.tens else ((runs[k - 1]?).map (fun r => (Run.dest r).2)).getD 0
        if k = runs.length then slabCells h.tens else (32 + upTo / 8) / 256
  | some (h, _), none => if x.built then slabCells h.tens else 0
  | none, _ => 0

/-- The shell of a frame. -/
def State.shellOf (s : State) (fid : Nat) : Option Shell := s.relay.shells.find? (fun x => x.fid == fid)

/-- R93: whether a shell's copy may be launched, R58 aside: its build is complete, or STREAM is set and its first cell is filled. -/
def State.shellLaunchable (s : State) (fid : Nat) : Bool :=
  match s.shellOf fid with
  | none => true
  | some x => x.built || (match s.shellHead x with
    | some (h, _) => h.stream && 1 ≤ s.cellsFilled x
    | none => false)

/-! ## Retention and repairs (R99, R267) -/

/-- SLAB on the wire of a frame's copies (R94). -/
def Frame.wireSlab (f : Frame) : Nat := if f.query.1 == 1 then f.query.2.1 else (relayWordOf (fhWord f.bytes)).slab

/-- Keeps a C0 slab's copy as its retention copy in replay mode: it takes over the copy's reference, unless the retention stack holds
too few cells (R99, R267). Otherwise the reference is released. -/
def State.retain (s : State) (p : Nat) (c : Copy) : State :=
  match s.frame? c.fid with
  | none => s.releaseCopy c
  | some f => match f.relayLap with
    | none => s.releaseCopy c
    | some n =>
      if !s.replay f.parseTenant || !s.batonOk c.baton then s.releaseCopy c
      else
        let (ok, s) := s.exchangeCells c.baton
        if ok then { s with relay.retained := s.relay.retained ++ [⟨f.parseTenant, p, f.wireSlab, n, c.baton, c.fid⟩] }
        else s.releaseCopy c

/-- A C0 slab that is not launched: a missed launch (R59). Its retention copy is kept in replay mode; an output not yet built whose
cells are gone is built no more. -/
def State.missLaunch (s : State) (q : Nat) (c : Copy) : State :=
  let s := s.count Obj.MISSED_LAUNCHES (s.qPort q)
  let s := s.retain (s.qPort q) c
  if s.relay.retained.any (fun r => r.fid == c.fid) then s else s.abandonShell c.fid

/-- Queues a repair from a retention copy on the tenant's C1 queue of the port (R99). -/
def State.queueRepair (s : State) (r : Retained) : State :=
  match s.classQueue r.t r.port 1, s.frame? r.fid with
  | some q, some f =>
    let (ok, s) := s.incRef r.baton
    if !ok then s.count Obj.UNREPAIRABLE r.t
    else
      let s := s.enqueue q ⟨r.fid, r.baton, queueCells r.baton, 1, s.wireBytes r.port f 0, false, 0, true⟩
      s.count Obj.REPAIRS_SENT r.t
  | _, _ => s.count Obj.UNREPAIRABLE r.t

/-- Whether tenant t's slab on the wire of a port is a pass-through of an input of lap n that never completed (R99). -/
def State.passPending (s : State) (t port slab n : Nat) : Bool :=
  let set := s.relaySetFor t n
  (List.range set.slabs.length).any (fun k => match set.slab? k with
    | some e => e.pass && e.passPort == port && e.passSlab == slab && (s.input t k n).st != .complete &&
        (s.input t k n).st != .missing
    | none => false)

/-- What a sender does with a missed-slab notice (R99). -/
def State.takeNotice (s : State) (port t slab lap16 : Nat) : State :=
  let n := s.lapOf lap16
  match s.relay.retained.find? (fun r => r.t == t && r.port == port && r.slab == slab && r.lap == n) with
  | some r => s.queueRepair r
  | none =>
    if s.replay t && s.passPending t port slab n then
      { s with relay.notices := s.relay.notices ++ [⟨t, port, slab, n⟩] }
    else s.count Obj.UNREPAIRABLE t

/-- A C1 slab starts on a port: a held notice for it is served (R99). -/
def State.serveNotice (s : State) (p : Nat) (f : Frame) : State :=
  match f.relayLap with
  | none => s
  | some n => { s with relay.notices := s.relay.notices.filter (fun x =>
      !(x.t == f.parseTenant && x.port == p && x.slab == f.wireSlab && x.lap == n)) }

/-! ## The end of a lap -/

/-- Whether a lap is over: neither current nor future. -/
def State.lapOver (s : State) (n : Nat) : Bool := n != s.time.lap && !lapFuture s n

/-- REPAIR_LAPSE (R97): at the end of lap n, lost inputs that are not complete become missing, those whose repair is arriving too. -/
def State.repairLapse (s : State) (n : Nat) : State :=
  let gone := s.relay.inputs.filter (fun e => keyLap e.1 == n && e.2.wasLost && (e.2.st == .lost || e.2.st == .arriving))
  gone.foldl (fun s e =>
    let t := keyTenant e.1
    let k := keySlab e.1
    let s := (s.dropHold e.2).setInput t k n { e.2 with st := .lost, fid := 0, baton := 0 }
    s.inputMissing t k n (((s.relaySetFor t n).slab? k).map SlabEntry.port |>.getD 0)) s

/-- INPUT_HOLD_END (R87): lap n, the next active lap of tenants after the laps of their held inputs, ends, whatever their state (R75, R292). -/
def State.endHolds (s : State) (n : Nat) : State :=
  let old := s.relay.inputs.filter (fun e => keyLap e.1 != n && !lapFuture s (keyLap e.1) && s.lapMatches (keyTenant e.1) n)
  old.foldl (fun s e => ({ s with relay.inputs := tabDel s.relay.inputs e.1 }.dropHold e.2).forget e.2.fid) s

/-- RETENTION_RELEASE (R99): the retention copies of lap n, and the repairs and notices it leaves unserved. -/
def State.endRetention (s : State) (n : Nat) : State :=
  let due := fun (l : Nat) => l == n || (l != n && !lapFuture s l)
  let s := s.busyQueues.foldl (fun s q =>
    if s.qClass q != 1 then s
    else
      let (out, s) := s.takeOut q (fun c => match (s.frame? c.fid).bind Frame.relayLap with
        | some l => due l
        | none => false)
      out.foldl (fun s c =>
        let t := ((s.frame? c.fid).map Frame.parseTenant).getD 0
        (if c.repair then s.count Obj.UNREPAIRABLE t else s).releaseCopy c) s) s
  let lapsed := s.relay.notices.filter (fun x => due x.lap)
  let s := lapsed.foldl (fun s x => s.count Obj.UNREPAIRABLE x.t) s
  let s := { s with relay.notices := s.relay.notices.filter (fun x => !due x.lap) }
  let old := s.relay.retained.filter (fun r => due r.lap)
  let s := { s with relay.retained := s.relay.retained.filter (fun r => !due r.lap) }
  old.foldl (fun s r => (s.release r.baton).forget r.fid) s

/-- FORMER_SET_FREE (R84): lap n, a tenant's first active lap at or after the swap, ends. -/
def State.freeFormer (s : State) (n : Nat) : State :=
  { s with relay.former := s.relay.former.filter (fun e => !s.lapMatches e.1 n) }

/-- What the end of lap n does to relay traffic, while n is still current. -/
def State.relayEndLap (s : State) (n : Nat) : State :=
  let s := s.repairLapse n
  let s := s.endHolds n
  let s := s.endRetention n
  let s := s.freeFormer n
  { s with relay.shells := s.relay.shells.filter (fun x => !x.built || lapFuture s x.lap) }

/-- R84: staged relay sets become operational at the swap lap; the former ones stay for their laps, and 3801h then holds the former copy,
unstaged, as R62 has it of the lists (log 135). -/
def State.swapRelay (s : State) : State :=
  s.relay.staged.foldl (fun s e =>
    let t := e.1
    let old := tabGet? s.relay.sets t
    let empty := e.2.slabs.isEmpty && e.2.signals.isEmpty && e.2.runCount == 0
    let s := { s with
      relay.former := tabSet s.relay.former t (old.getD .empty)
      relay.swapLap := s.time.lap
      relay.sets := if empty then tabDel s.relay.sets t else tabSet s.relay.sets t e.2
      relay.staged := tabDel s.relay.staged t }
    (s.setBlb Obj.RELAY_SET t (if empty then [] else s.blb Obj.RELAY_SET_PENDING t)).setBlb Obj.RELAY_SET_PENDING t (s.blb Obj.RELAY_SET t)) s

/-- R101: what a tenant reset does to relay traffic, the wire aside. -/
def State.relayReset (s : State) (t : Nat) : State :=
  let mine := s.relay.inputs.filter (fun e => keyTenant e.1 == t)
  let s := mine.foldl (fun s e => { s with relay.inputs := tabDel s.relay.inputs e.1 }.dropHold e.2) s
  let kept := s.relay.retained.filter (fun r => r.t == t)
  let s := { s with
    relay.retained := s.relay.retained.filter (fun r => r.t != t)
    relay.notices := s.relay.notices.filter (fun x => x.t != t) }
  let s := kept.foldl (fun s r => s.release r.baton) s
  (s.relay.shells.filter (fun x => x.t == t)).foldl (fun s x => s.withdrawShell x) s

/-! ## Queries (R253) -/

/-- XCH QUERY of a thread's frame: the result register. -/
def State.xchQuery (s : State) (fid : Option Nat) : Nat × State :=
  match fid, fid.bind s.frame? with
  | some n, some f =>
    let (v, slab, port) := f.query
    if v == 1 || v == 2 then
      match s.classQueue f.parseTenant port (if v == 2 then 0 else f.cls) with
      | some q => (v * 2 ^ 36 + slab * 2 ^ 14 + q, s)
      | none => (3 * 2 ^ 36, (s.count Obj.NO_CLASS_QUEUE f.parseTenant).modFrame n (fun f => { f with query := (3, 0, 0) }))
    else (v * 2 ^ 36, s)
  | _, _ => (4 * 2 ^ 36, s)

/-- The two laps a tenant's inputs are retained for: its latest lap of the pattern up to now, and the one before it (R87). -/
def State.retainedLap (s : State) (t n : Nat) : Bool :=
  let k := s.cfg Obj.LAP_DIVISOR t
  let back := (s.time.lap + 2 ^ 48 - s.cfg Obj.LAP_PHASE t) % k
  n == lapSub s.time.lap back || n == lapSub s.time.lap (back + k)

/-- XCH STATE (R253): the state of an input, and UNKNOWN for a slab outside the set or a lap outside the two retained laps. -/
def State.xchState (s : State) (frameTenant : Nat) (v : Nat) : Nat :=
  let t := if frameTenant = 0 then bits v 39 32 else frameTenant
  let slab := bits v 31 16
  let n := s.lapOf (bits v 15 0)
  if ((s.relaySetFor t n).slab? slab).isNone || !s.retainedLap t n then 2 ^ 37
  else (match (s.input t slab n).st with
    | .absent | .lost => 0 | .arriving => 1 | .complete => 2 | .missing => 3) * 2 ^ 38

end Sys2Proof.Machine
end

