-- ==== Sys2Proof/Machine/Parse.lean ====
section
/-! DEFINITION. The parse engines: the walk of a frame and the judgement of a slab (R65, R86, R140 to R144), the parse card (R135,
R145 to R148), fragments (R150 to R154), and the objects of chapter 05 (R138, R139, R155, R157, R159). -/

namespace Sys2Proof.Machine

/-- The parse instance of a frame (R161). -/
def Frame.inst (f : Frame) : Nat := if f.src == 0 then f.port else 16

/-- The parse graph that a frame is parsed under (R139). -/
def State.graphOf (s : State) (f : Frame) : Blob := f.graph.getD (s.blb Obj.PARSE_GRAPH)

/-- The time of one flit on the wire into a port (R104). -/
def Port.flitTime (p : Port) (n : Nat) : Time := if p.rxLanes = 0xFFFF then n * ns / 5 else 2 * n * ns / 5

/-! ## The slab judgement (R65) -/

/-- Takes a frame that the device drops at step 1 out of the pool; its record stays until its end. -/
def State.dropArrival (s : State) (fid : Nat) : State :=
  match s.frame? fid with
  | none => s
  | some f =>
    let s := if f.baton = 0 then s else s.release f.baton
    let s := (s.uncharge fid).modFrame fid (fun f => { f with baton := 0 })
    s.forget fid

/-- R65 for an arriving C0 or C1 frame, once: it gets its lap (R74), or is dropped as a late drop. -/
def State.judgeSlab (s : State) (fid : Nat) : State :=
  match s.frame? fid with
  | none => s
  | some f =>
    if f.src != 0 || f.cls ≥ 2 || f.relayLap.isSome || f.baton = 0 then s
    else
      let t := fhDest f.bytes / 2 ^ 24
      let n := s.lapOf (relayWordOf (fhWord f.bytes)).lap
      let keep := s.modFrame fid (fun f => { f with relayLap := some n, parseTenant := t })
      match s.judge f.port t n f.tf (f.tf + (s.port f.port).flitTime f.flits : Nat) with
      | .onTime => keep
      | .falseStart => keep.count Obj.FALSE_STARTS f.port
      | .overrun => keep.count Obj.OVERRUNS f.port
      | .wide => keep.count Obj.WIDE_ACCEPTS f.port
      | .late => (s.count Obj.LATE_DROPS f.port).dropArrival fid

/-! ## The walk (R140 to R144) -/

/-- The flags of a walk with the actions of Table 5.3. -/
def State.walkActions (s : State) (t : Nat) (x : CardFlags) : CardFlags :=
  let d := s.cfg Obj.DEPTH_ACTION t
  let l := s.cfg Obj.LEN_ACTION t
  let x := if x.depthExceeded then
      { x with slow := x.slow || d == 0, drop := x.drop || d == 1, opaqueBit := d == 2 } else x
  if x.lenConflict then { x with drop := x.drop || l == 0, slow := x.slow || l == 1 } else x

/-- The parse tenant by source (R146). -/
def State.tenantBySource (s : State) (f : Frame) (g w : Blob) (hs : List (Nat × Nat)) : Nat :=
  if f.src == 0 then s.parseTenantOf g f.port w hs else if f.src == 3 then 0 else f.parseTenant

/-- What a walk meets in the parse graph (Table 15.7): an entry found uncorrectable, of a type among those walked (a free value), is
invalidated, and a frame that reads an invalid one is dropped. -/
def State.graphEcc (s : State) (types : List Nat) (e : Ecc) : Bool × State :=
  let s := s.sramEvent 26 0 e
  if e = .uncorrectable then
    let (r, s) := s.draw
    (true, s.invalidate 7 (types.getD (r % max 1 types.length) 0))
  else (types.any (fun t => s.tables.invalid.contains (7, t)), s)

/-- PARSE_WALK on a frame that still holds its cells. -/
def State.walkFrame (s : State) (fid : Nat) (f : Frame) (e : Ecc) : State :=
  let g := s.graphOf f
  let w := windowBytes f.bytes f.phys
  let wait := f.src == 0 && isHost f.port && f.ended == .arriving && f.phys > 256
  let x := walk g w f.startType (if wait then none else some f.phys)
  let t := s.tenantBySource f g w x.headers
  let cls := if f.src == 0 then s.classOf g f.port w x.headers x.inner else f.cls
  let fl := s.walkActions t x.flags
  let (bad, s) := s.graphEcc (x.headers.map Prod.fst) e
  let fl := if bad then { fl with drop := true } else fl
  let i := f.inst
  let s := s.count Obj.PARSED i
  let s := if x.flags.depthExceeded then s.count Obj.DEPTH_EXCEEDED i else s
  let s := if x.flags.lenConflict then s.count Obj.LEN_CONFLICTS i else s
  let s := if x.csumBad = 0 then s else s.countN Obj.L3_CSUM_ERRORS i x.csumBad
  let s := s.modFrame fid (fun f => { f with
    walked := true, walkFlags := fl, headers := x.headers, inner := x.inner, tags := x.tags, claim := x.claim, frag := x.frag
    parseTenant := t, tenant := t, cls := cls, graph := some g })
  if f.src == 0 && cls < 2 then s.registerSlab fid else s

/-- PARSE_WALK (R140): walks a frame once. A relay slab is judged first, and one that is accepted is registered (R65, R86). -/
def execParseWalk (fid : Nat) (e : Ecc) (s : State) : Host.Outcome State Fault Refusal :=
  match s.frame? fid with
  | none => .next s
  | some f =>
    if f.walked || f.baton = 0 || f.src == 1 then .next s
    else
      let s := s.judgeSlab fid
      match s.frame? fid with
      | none => .next s
      | some f => .next (if f.baton = 0 then s else s.walkFrame fid f e)

/-! ## Fragments (R150 to R154) -/

/-- The key of R151 of a frame with a fragmented header. -/
def Frame.fragKey? (f : Frame) : Option Blob :=
  f.frag.map (fun (e : Nat × Nat) => fragKey (f.graph.getD []) (windowBytes f.bytes f.phys) f.headers f.parseTenant e.1)

/-- The four entries where a key may lie. -/
def State.fragWays (s : State) (t : Nat) (key : Blob) : List Nat :=
  (List.range 4).map (4 * (s.hash 4 t key % 1024) + ·)

/-- The entry that holds a key. -/
def State.findFrag (s : State) (t : Nat) (key : Blob) : Option (Nat × FragEntry) :=
  (s.fragWays t key).findSome? (fun n => match tabGet? s.parser.frags n with
    | some e => if e.key = key then some (n, e) else none
    | none => none)

/-- Replaces a fragment entry. -/
def State.setFrag (s : State) (n : Nat) (e : FragEntry) : State := { s with parser.frags := tabSet s.parser.frags n e }

/-- The cells the hold pool holds (R153). -/
def State.holdUse (s : State) : Nat := (s.frames.map (fun e => if e.2.heldAt.isSome then queueCells e.2.baton else 0)).sum

/-! ## The card (R135, R145 to R148) -/

/-- SOURCE bit of a mask set for a frame (Table 5.6). -/
def Frame.sourceBit (f : Frame) : Nat := if f.src == 0 then f.port else if f.src == 2 then 16 else 17

/-- The card of a frame before rules and fragments. TAGS is 15 for a frame with sixteen (DESIGN CHOICE, log 137). -/
def Frame.baseCard (f : Frame) : Card :=
  { source := f.src, port := f.port, sub := f.sub, cls := f.cls, tenant := f.parseTenant, od := 0, baton := f.baton
    frameLen := if f.walkFlags.lenPending then 0 else f.phys, depth := f.headers.length, inner := f.inner, flags := f.walkFlags
    stamp := f.tf / ns % 2 ^ 32, program := 0, edit := 0, tags := min 15 f.tags, fragEntry := 0x1FFF
    results := [none, none, none, none], metaW := [0, 0, 0, 0], headers := f.headers }

/-- The flow key of a frame (R164), its tenant and class as its card has them (DEDUCED, log 139). -/
def State.frameKey (s : State) (f : Frame) (c : Card) : Blob :=
  let w := windowBytes f.bytes f.phys
  let fabric := (f.src == 0 && isPsiot f.port) || f.src == 3
  flowKey w f.headers (tagTci (s.graphOf f) w f.headers) c.tenant c.cls fabric

/-- The order domain of rule 5 of R148: the hash is keyed with the parse tenant (Table 6.1), the block is the card's tenant's. -/
def State.flowOd (s : State) (f : Frame) (c : Card) : Nat :=
  s.odIn c.tenant (s.hash 1 f.parseTenant (s.frameKey f c) % 2 ^ 32)

/-- A card with a rule lookup of its own (R148 rule 1 and 5, R158). -/
def State.ruleCard (s : State) (f : Frame) (c : Card) : Card × State :=
  let (m, s) := s.ruleLookup f.sourceBit f.parseTenant (windowBytes f.bytes f.phys) c.bytes f.headers f.inner
  let c := { c with
    cls := m.cls.getD c.cls, tenant := m.tenant.getD c.tenant, program := m.program.getD 0, edit := m.edit.getD 0
    results := m.results, metaW := m.metaW
    flags := { c.flags with drop := c.flags.drop || m.drop, slow := c.flags.slow || m.slow } }
  let od := match m.od with
    | some (v, true) => v
    | some (v, false) => s.odIn c.tenant v
    | none => s.flowOd f c
  ({ c with od := od }, s)

/-- Writes the card and sends it to the distributor; a parser drop is counted once (R143, R158). -/
def State.sendCard (s : State) (fid : Nat) (c : Card) (countDrop : Bool) : State :=
  let i := ((s.frame? fid).map Frame.inst).getD 16
  let s := if c.flags.drop && countDrop then s.count Obj.PARSER_DROPS i else s
  let s := s.modFrame fid (fun f => { f with card := some c, tenant := c.tenant })
  s.dispatch fid

/-- A held fragment leaves the hold pool (R153). -/
def State.unholdFrag (s : State) (fid : Nat) : State :=
  match s.frame? fid with
  | some f => if f.heldAt.isSome then (s.modFrame fid (fun f => { f with heldAt := none })).release f.baton else s
  | none => s

/-- The expiry action of R153 for a later fragment. -/
def State.fragExpire (s : State) (fid : Nat) (f : Frame) (c : Card) : State :=
  match s.cfg Obj.FRAG_ACTION f.parseTenant with
  | 0 => let c := { c with flags := { c.flags with drop := true } }
    s.sendCard fid { c with od := s.flowOd f c } true
  | a =>
    let c := { c with flags := { c.flags with fragNoEntry := true, slow := c.flags.slow || a == 1 } }
    let (c, s) := s.ruleCard f c
    s.sendCard fid c true

/-- Holds a fragment with its card. -/
def State.holdFrag (s : State) (fid : Nat) (f : Frame) (c : Card) : State :=
  if s.holdUse + queueCells f.baton > 256 then (s.count Obj.HOLD_OVERFLOWS).fragExpire fid f c
  else
    let (_, s) := s.incRef f.baton
    s.modFrame fid (fun f => { f with card := some { c with source := 4 }, heldAt := some s.time.gun })

/-- R152 for a later fragment: dispatched by its entry, held, or expired at once where the hold pool is full. -/
def State.laterFragment (s : State) (fid : Nat) (f : Frame) (c : Card) (e : Option (Nat × FragEntry)) : State :=
  let c := { c with flags := { c.flags with fragLater := true } }
  match e with
  | some (n, e) =>
    if e.st = .decided then
      s.sendCard fid { c with od := e.od, program := e.program, edit := e.edit, metaW := e.metaW, results := e.results, fragEntry := n } true
    else if e.st = .dropped then
      let c := { c with flags := { c.flags with drop := true }, fragEntry := n }
      (s.count Obj.FRAGS_DROPPED).sendCard fid { c with od := s.flowOd f c } false
    else s.holdFrag fid f c
  | none => s.holdFrag fid f c
/-- R152 for a first fragment. -/
def State.firstFragment (s : State) (fid : Nat) (f : Frame) (c : Card) (key : Blob) : State :=
  match s.findFrag f.parseTenant key with
  | some e => s.laterFragment fid f c (some e)
  | none =>
    let c := { c with flags := { c.flags with fragFirst := true } }
    let (c, s) := s.ruleCard f c
    match (s.fragWays f.parseTenant key).find? (fun n => (tabGet? s.parser.frags n).isNone) with
    | none => (s.count Obj.FRAG_TABLE_FULL).sendCard fid c true
    | some n =>
      let s := s.setFrag n
        { key := key, tenant := f.parseTenant, st := .pending, od := c.od, program := c.program, edit := c.edit
          metaW := c.metaW, results := c.results, verdict := 0, created := s.time.gun, first := fid }
      s.sendCard fid { c with fragEntry := n } true

/-- R141: the deferred comparison, made before the card is written where the frame has ended. A frame that is in conflict already is not
counted again. -/
def State.resolvePending (s : State) (fid : Nat) (f : Frame) : State :=
  if !f.walkFlags.lenPending || !f.whole then s
  else
    let claim := f.claim.getD f.phys
    let fl := { f.walkFlags with lenPending := false, trailer := f.walkFlags.trailer || claim < f.phys }
    if f.phys < claim && !fl.lenConflict then
      let fl := s.walkActions f.parseTenant { fl with lenConflict := true }
      (s.count Obj.LEN_CONFLICTS f.inst).modFrame fid (fun f => { f with walkFlags := fl })
    else s.modFrame fid (fun f => { f with walkFlags := fl })

/-- Whether an earlier frame of the same engine and port still waits for its card (R135). -/
def State.cardBehind (s : State) (fid : Nat) (f : Frame) : Bool :=
  s.frames.any (fun e => e.1 < fid && e.2.src != 1 && e.2.inst == f.inst && e.2.baton != 0 && e.2.card.isNone)

/-- CARD_WRITE (R135): once the window is filled or the frame has ended, and the walk is done. -/
def execCardWrite (fid : Nat) (s : State) : Host.Outcome State Fault Refusal :=
  match s.frame? fid with
  | none => .next s
  | some f =>
    if !f.walked || f.card.isSome || f.baton = 0 || f.src == 1 || !(f.whole || f.phys ≥ 256) || s.cardBehind fid f then .next s
    else
      let s := s.resolvePending fid f
      let f := (s.frame? fid).getD f
      let c := f.baseCard
      if f.src == 0 && f.cls < 2 then .next (s.sendCard fid { c with od := s.odIn c.tenant f.port } true)
      else
        match f.frag, f.fragKey? with
        | some (_, 0), some key => .next (s.firstFragment fid f c key)
        | some _, some key => .next (s.laterFragment fid f c (s.findFrag f.parseTenant key))
        | _, _ =>
          let (c, s) := s.ruleCard f c
          .next (s.sendCard fid c true)

/-- FRAGMENT_DECIDE (R152): the release of a first fragment decides its entry and releases the fragments held for it. -/
def State.decideFrag (s : State) (fid : Nat) (dropped : Bool) : State :=
  match s.parser.frags.find? (fun e => e.2.first == fid && e.2.st == .pending) with
  | none => s
  | some (n, e) =>
    let e := { e with st := if dropped then .dropped else .decided }
    let s := s.setFrag n e
    let held := s.frames.filter (fun x => x.2.heldAt.isSome && x.2.parseTenant == e.tenant && x.2.fragKey? == some e.key)
    held.foldl (fun s x => match s.frame? x.1 with
      | some f => match f.card with
        | some c => (s.unholdFrag x.1).laterFragment x.1 f c (some (n, e))
        | none => s
      | none => s) s

/-- FRAG_HOLD_EXPIRY (R153): HOLD_TIME after the arrival of a held fragment. -/
def execFragHoldExpiry (fid : Nat) (s : State) : Host.Outcome State Fault Refusal :=
  match s.frame? fid with
  | none => .next s
  | some f => match f.heldAt, f.card with
    | some _, some c =>
      if f.tf + s.cfg Obj.HOLD_TIME * 1000 * ns ≤ s.time.gun then
        .next (((s.unholdFrag fid).count Obj.HOLD_TIMEOUTS).fragExpire fid f c)
      else .next s
    | _, _ => .next s

/-- FRAG_ENTRY_EXPIRY (R151): FRAG_LIFETIME after an entry was created. -/
def execFragEntryExpiry (n : Nat) (s : State) : Host.Outcome State Fault Refusal :=
  match tabGet? s.parser.frags n with
  | none => .next s
  | some e =>
    if e.created + s.cfg Obj.FRAG_LIFETIME * 1000 * ns ≤ s.time.gun then
      .next { s with parser.frags := tabDel s.parser.frags n }
    else .next s

/-! ## The parse graph (R138, R139) -/

/-- The start types of 3003h. -/
def State.startTypes (s : State) : List Nat := (List.range 17).map (s.cfg Obj.START_TYPE ·)

/-- A write of 3001h (R138). -/
def applyParseGraphPending (b : Blob) (s : State) : State × Result :=
  if graphOk b s.startTypes then (s.writeBlob Obj.PARSE_GRAPH_PENDING 0 b, .ok) else (s, .range)

/-- PARSE_GRAPH_PENDING: a write of 3001h. -/
def execParseGraphPending (p : Principal) (b : Blob) (s : State) : Host.Outcome State Fault Refusal :=
  .next (s.writeBlobCmd p Obj.PARSE_GRAPH_PENDING 0 b applyParseGraphPending)

/-- A write of 3002h (R139): frames that arrived before it keep the former graph. -/
def applyGraphCommit (v : Nat) (s : State) : State × Result :=
  if 1 < v then (s, .range)
  else if v = 0 then (s, .ok)
  else
    let old := s.blb Obj.PARSE_GRAPH
    let s := { s with frames := s.frames.map (fun (e : Nat × Frame) => (e.1, { e.2 with graph := e.2.graph <|> some old })) }
    (s.setBlb Obj.PARSE_GRAPH 0 (s.blb Obj.PARSE_GRAPH_PENDING), .ok)

/-- GRAPH_COMMIT: a write of 3002h. -/
def execGraphCommit (p : Principal) (v : Nat) (s : State) : Host.Outcome State Fault Refusal :=
  .next (s.writeNumCmd p Obj.GRAPH_COMMIT 0 v applyGraphCommit)

/-- A write of 3003h[p]: the start types of 3003h name valid types (R138; for a write of 3003h DEDUCED, log 24). Frames keep the start
type in force when their first byte arrived (R139). -/
def applyStartType (i v : Nat) (s : State) : State × Result :=
  if 63 < v || !(graphType (s.blb Obj.PARSE_GRAPH) v).valid then (s, .range) else (s.writeNum Obj.START_TYPE i v, .ok)

/-- START_TYPE: a write of 3003h[p]. -/
def execStartType (p : Principal) (i v : Nat) (s : State) : Host.Outcome State Fault Refusal :=
  .next (s.writeNumCmd p Obj.START_TYPE i v (applyStartType i))

/-- A write of 3009h[t] (R148). -/
def applyOdBlock (t v : Nat) (s : State) : State × Result :=
  if 16 < bits v 4 0 || 65536 < bits v 31 16 + 2 ^ bits v 4 0 then (s, .range)
  else if (s.tenant t).st != .idle then (s, .state)
  else (s.writeNum Obj.OD_BLOCK t v, .ok)

/-- OD_BLOCK: a write of 3009h[t]. -/
def execOdBlock (p : Principal) (i v : Nat) (s : State) : Host.Outcome State Fault Refusal :=
  .next (s.writeNumCmd p Obj.OD_BLOCK i v (applyOdBlock i))

/-! ## Mask sets (R155) -/

/-- The rule entries a mask set holds (3103h). -/
def State.setRules (s : State) (m : Nat) : List (Nat × Rule) :=
  let a := s.setBase m
  s.parser.rules.filter (fun e => a ≤ e.1 && e.1 < a + setSize (s.blb Obj.MASK_SET m))

/-- Whether a mask-set blob keeps R155 beside the other sets. -/
def State.maskSetOk (s : State) (m : Nat) (b : Blob) : Bool :=
  let others := ((List.range 16).filter (· != m)).map (s.blb Obj.MASK_SET ·)
  let n := beAt b 1 1
  b.length == 96 && (n == 0xFF || (2 ≤ n && n ≤ 16)) &&
  (List.range 8).all (fun i => bits (setField b i) 15 11 ≤ 16) &&
  ((List.range 8).map (fun i => bits (setField b i) 15 11)).sum ≤ 40 &&
  setSize b + (others.map setSize).sum ≤ 65536 &&
  !(setOn b && others.any (fun o => setOn o && setGroup o == setGroup b && setPrio o == setPrio b))

/-- A mask-set blob as it is stored, its reserved fields zero (R4, Tables 5.6 and 5.7). -/
def maskSetStored (b : Blob) : Blob :=
  beBytes 1 (beAt b 0 1 % 64 + beAt b 0 1 / 128 * 128) ++ (b.drop 1).take 5 ++ [0, 0] ++
  (List.range 8).flatMap (fun i => beBytes 4 (setField b i / 2 ^ 11 * 2 ^ 11)) ++ setMask b ++ List.replicate 15 0

/-- A write of 3100h[m]: the sets above it move with its size. -/
def applyMaskSet (m : Nat) (b : Blob) (s : State) : State × Result :=
  if !s.maskSetOk m b then (s, .range)
  else if !(s.setRules m).isEmpty then (s, .state)
  else
    let old := setSize (s.blb Obj.MASK_SET m)
    let top := s.setBase m + old
    let move := fun (k : Nat) => if top ≤ k then k + setSize b - old else k
    let s : State := { s with
      parser.rules := s.parser.rules.map (fun (e : Nat × Rule) => (move e.1, e.2))
      tables.invalid := s.tables.invalid.map (fun (e : Nat × Nat) => if e.1 = 6 then (6, move e.2) else e) }
    (s.writeBlob Obj.MASK_SET m (maskSetStored b), .ok)

/-- MASK_SET: a write of 3100h[m]. -/
def execMaskSet (p : Principal) (i : Nat) (b : Blob) (s : State) : Host.Outcome State Fault Refusal :=
  .next (s.writeBlobCmd p Obj.MASK_SET i b (applyMaskSet i))

/-! ## Rules (R157) -/

/-- A rule record (Table 5.8). -/
structure RuleRec where
  op : Nat
  set : Nat
  rule : Rule
deriving DecidableEq, Repr

/-- A rule record from its 64 bytes; the reserved bits [9:5] of its action are zero (R4). -/
def ruleRecOf (b : Blob) : RuleRec :=
  let a := beAt b 8 8
  ⟨beAt b 0 1, beAt b 1 1, ⟨beAt b 2 1, a - bits a 9 5 * 2 ^ 5, beAt b 16 1, (b.drop 24).take 40⟩⟩

/-- The key of a rule with its presence byte. -/
def Rule.fullKey (r : Rule) : Blob := beBytes 1 r.presence ++ r.key

/-- Whether the fields of a record are in order (R157, Table 5.9, R147). Table 5.9 has no bit for an absolute SET_OD, which R148 makes
absolute by the set it stands in, so no SET_OD of a set without SYSTEM is one (DEDUCED, log 140). -/
def State.ruleRecOk (s : State) (r : RuleRec) : Bool :=
  let b := s.blb Obj.MASK_SET r.set
  let a := r.rule.action
  (r.op == 1 || r.op == 2) && r.set < 16 && setOn b && (!setSystem b || r.rule.tenant == 0) &&
  maskKey b r.rule.fullKey == r.rule.fullKey &&
  (r.op == 2 || ((!bit a 61 || bits a 60 58 ≥ 2) && (!bit a 57 || setSystem b) && (!bit a 22 || bits a 21 10 != 0)))

/-- Stores a rule in an entry; an entry that had been invalidated is good again (R189). -/
def State.putRule (s : State) (k : Nat) (r : Rule) : State :=
  { s with parser.rules := tabSet s.parser.rules k r, tables.invalid := s.tables.invalid.filter (· != (6, k)) }

/-- Removes the rule of an entry. -/
def State.dropRule (s : State) (k : Nat) : State :=
  { s with parser.rules := tabDel s.parser.rules k, tables.invalid := s.tables.invalid.filter (· != (6, k)) }

/-- The first free entry of a bucket. -/
def State.ruleWay (s : State) (c : Nat) : Option Nat :=
  ((List.range 4).map (c + ·)).find? (fun k => (tabGet? s.parser.rules k).isNone)

/-- Moves rules until a bucket has room, each to its other bucket and none twice (`seen` are the entries already moved): which of them
moves is a free value (R157 says only that at most 32 relocations are made, log 25). Answers the free entry. -/
def State.ruleRoom (s : State) (m : Nat) : Nat → List Nat → Nat → Option Nat × State
  | fuel, seen, c =>
    match s.ruleWay c with
    | some k => (some k, s)
    | none =>
      let ways := ((List.range 4).map (c + ·)).filter (fun k => !seen.contains k)
      match fuel with
      | 0 => (none, s)
      | fuel + 1 =>
        let (v, s) := s.draw
        match ways[v % max 1 ways.length]? with
        | none => (none, s)
        | some k => match tabGet? s.parser.rules k with
          | none => (some k, s)
          | some r =>
            let (x, y) := s.ruleBuckets m r.tenant r.fullKey
            match State.ruleRoom s m fuel (k :: seen) (if c = x then y else x) with
            | (none, s) => (none, s)
            | (some j, s) => (some k, (s.putRule j r).dropRule k)

/-- Applies one record that is in order; OVERCOMMIT where an insert finds no place. -/
def State.applyRule (s : State) (r : RuleRec) : State × Result :=
  match r.op, s.storedRule r.set r.rule.tenant r.rule.fullKey with
  | 1, some (k, _) => (s.putRule k r.rule, .ok)
  | 1, none =>
    let (a, b) := s.ruleBuckets r.set r.rule.tenant r.rule.fullKey
    match s.ruleWay a <|> s.ruleWay b with
    | some k => (s.putRule k r.rule, .ok)
    | none => match s.ruleRoom r.set 32 [] a with
      | (some k, s) => (s.putRule k r.rule, .ok)
      | (none, s) => (s, .overcommit)
  | _, some (k, _) => (s.dropRule k, .ok)
  | _, none => (s, .ok)

/-- Applies records in order until one is refused. -/
def State.applyRules (s : State) : List RuleRec → State × Result
  | [] => (s, .ok)
  | r :: rs => match s.applyRule r with
    | (s, .ok) => s.applyRules rs
    | x => x

/-- Whether two records are about one key. -/
def RuleRec.same (a b : RuleRec) : Bool := a.set == b.set && a.rule.tenant == b.rule.tenant && a.rule.fullKey == b.rule.fullKey

/-- Whether every delete of a batch finds its key, stored or inserted by a record before it (R157). -/
def State.deletesFind (s : State) : List RuleRec → List RuleRec → Bool
  | _, [] => true
  | before, r :: rs =>
    (r.op != 2 || (match before.find? (RuleRec.same r) with
      | some e => e.op == 1
      | none => (s.storedRule r.set r.rule.tenant r.rule.fullKey).isSome)) && s.deletesFind (r :: before) rs

/-- A write of 3101h (R157): all of the batch or none of it, RANGE before OVERCOMMIT (R388). -/
def applyRuleBatch (b : Blob) (s : State) : State × Result :=
  let n := beAt b 0 2
  if n = 0 || 256 < n || b.length != 8 + 64 * n then (s, .range)
  else
    let rs := (List.range n).map (fun k => ruleRecOf ((b.drop (8 + 64 * k)).take 64))
    if !rs.all s.ruleRecOk || !s.deletesFind [] rs then (s, .range)
    else match s.applyRules rs with
      | (x, .ok) => (x, .ok)
      | (x, r) => ({ s with free := x.free }, r)

/-- RULE_BATCH: a write of 3101h. -/
def execRuleBatch (p : Principal) (b : Blob) (s : State) : Host.Outcome State Fault Refusal :=
  .next (s.writeBlobCmd p Obj.RULE_BATCH 0 b applyRuleBatch)

/-! ## Edits (R159) -/

/-- A write of 3104h[e]. -/
def applyEditEntry (e : Nat) (b : Blob) (s : State) : State × Result :=
  if editOk b then (s.writeBlob Obj.EDIT e b, .ok) else (s, .range)

/-- EDIT: a write of 3104h[e]. -/
def execEdit (p : Principal) (i : Nat) (b : Blob) (s : State) : Host.Outcome State Fault Refusal :=
  .next (s.writeBlobCmd p Obj.EDIT i b (applyEditEntry i))

end Sys2Proof.Machine
end

