-- ==== Sys2Proof/Machine/Dram.lean ====
section
/-! DEFINITION. DRAM: interleave, address map, sectors and the poison map, refresh, sweeps, bandwidth, and host access through BAR2
(R326 to R341). Bytes stand under the addresses of R327; the channel of an address follows from R328. -/

namespace Sys2Proof.Machine

/-! ## Geometry (R326 to R328) -/

/-- One GiB. -/
abbrev giB : Nat := 2 ^ 30

/-- The configuration in force: what 7100h held at the last device reset. -/
def State.dramCfg (s : State) (off n : Nat) : Nat := beAt s.dram.config off n

/-- A channel. -/
def State.channel (s : State) (c : Nat) : Channel := tabGet s.dram.channels c .reset

/-- Changes a channel. -/
def State.modChannel (s : State) (c : Nat) (f : Channel → Channel) : State :=
  { s with dram.channels := tabUpd s.dram.channels c .reset f }

/-- C: the smallest capacity of the set, in bytes (R327). -/
def State.dramC (s : State) : Nat :=
  match (List.range s.dram.ways).map (fun c => (s.channel c).capacity) with
  | [] => 0
  | x :: xs => xs.foldl min x * giB

/-- W × C (7103h). -/
def State.dramSize (s : State) : Nat := s.dram.ways * s.dramC

/-- Folds the bits of a grain number above the channel into it (R328). -/
def hashChannel (ways : Nat) : Nat → Nat → Nat → Nat
  | 0, _, c => c
  | fuel + 1, v, c => if v = 0 then c else hashChannel ways fuel (v / ways) (c ^^^ v % ways)

/-- R328: the channel of an address and its offset there. -/
def State.dramMap (s : State) (a : Nat) : Nat × Nat :=
  let w := s.dram.ways
  let g := 2 ^ s.dramCfg 2 1
  let p := s.dramCfg 4 2 * giB
  let i := w * (s.dramC - p)
  if a < i then
    let u := a / g
    let c := u % w
    let c := if s.dramCfg 3 1 = 1 && w > 1 then hashChannel w 64 (u / w) c else c
    (c, u / w * g + a % g)
  else ((a - i) / p, s.dramC - p + (a - i) % p)

/-! ## Sectors and the poison map (R334 to R337) -/

/-- The 256-byte block of an address. -/
def blockOf (a : Nat) : Nat := a / 256 * 256

/-- The 64-byte sector of an address. -/
def sectorOf (a : Nat) : Nat := a / 64 * 64

/-- Whether a read of an address answers poisoned data: its block is in the poison map, or its sector is uncorrectable and found the map
full (R336). -/
def State.poisoned (s : State) (a : Nat) : Bool := s.dram.poison.contains (blockOf a) || s.dram.bad.contains (sectorOf a)

/-- POISON_ENTER (R336): an uncorrectable sector enters its block in the map; at a full map the event is counted instead, and the sector
alone reads poisoned. -/
def State.poisonEnter (s : State) (a : Nat) : State :=
  let b := blockOf a
  if s.dram.poison.contains b then s.logError 6 2 2 none Obj.ECC_UNCORRECTABLE (s.dramMap a).1 b
  else if s.dram.poison.length ≥ 4096 then
    let s : State := { s with dram.bad := if s.dram.bad.contains (sectorOf a) then s.dram.bad else s.dram.bad ++ [sectorOf a] }
    (s.count Obj.POISON_OVERFLOWS).logError 7 2 2 none Obj.POISON_OVERFLOWS 0 b
  else ({ s with dram.poison := s.dram.poison ++ [b] }).logError 6 2 2 none Obj.ECC_UNCORRECTABLE (s.dramMap a).1 b

/-- What a read finds in the sector of an address (R334). -/
def State.sectorRead (s : State) (a : Nat) : Ecc → State
  | .clean => s
  | .corrected =>
    let c := (s.dramMap a).1
    (s.count Obj.ECC_CORRECTED c).logError 5 0 0 none Obj.ECC_CORRECTED c (c * 2 ^ 62 + sectorOf a)
  | .uncorrectable => (s.count Obj.ECC_UNCORRECTABLE (s.dramMap a).1).poisonEnter a

/-- The addresses of the sectors of a span. -/
def sectorsOf (a len : Nat) : List Nat :=
  if len = 0 then [] else (List.range ((a + len - 1) / 64 - a / 64 + 1)).map (fun k => (a / 64 + k) * 64)

/-- One sector of a write (R337): a whole sector of a mapped block brings it nearer to leaving the map; part of one sets the other
bytes to zero. An uncorrectable sector that found the map full is good again once it is written whole (log 148). -/
def State.sectorWrite (s : State) (x a len : Nat) : State :=
  if !s.poisoned x then s
  else
    let b := blockOf x
    if a ≤ x && x + 64 ≤ a + len then
      let m := tabGet s.dram.whole b 0 ||| 2 ^ (x / 64 % 4)
      let s : State := { s with dram.bad := s.dram.bad.filter (· != x) }
      if !s.dram.poison.contains b then s
      else if m = 15 then { s with dram.poison := s.dram.poison.filter (· != b), dram.whole := tabDel s.dram.whole b }
      else { s with dram.whole := tabSet s.dram.whole b m }
    else { s with dram.data := (List.range 64).foldl (fun m k =>
        if a ≤ x + k && x + k < a + len then m else memWrite m (x + k) 0) s.dram.data }

/-- Bytes written to DRAM, R337 included. -/
def State.dramPut (s : State) (a : Nat) (b : Blob) : State :=
  let s := (sectorsOf a b.length).foldl (fun s x => s.sectorWrite x a b.length) s
  { s with dram.data := memWriteN s.dram.data a b }

/-- Bytes of DRAM. -/
def State.dramGet (s : State) (a n : Nat) : Blob := memReadN s.dram.data a n

/-- Whether any byte of a span is poisoned. -/
def State.spanPoisoned (s : State) (a len : Nat) : Bool := (sectorsOf a len).any s.poisoned

/-! ## Bandwidth (R338 to R341) -/

/-- tREFI in ns under a refresh mode. -/
def tREFI (doubled : Bool) : Nat := if doubled then 1950 else 3900

/-- The usable bandwidth of a channel in MB/s, rounded (R338). -/
def State.usable_ (s : State) (c : Nat) (doubled : Bool) : Nat :=
  let r := tREFI doubled
  let d := 100 * r
  (s.dramCfg 0 2 * 8 * 82 * (r - (s.channel c).tRFC) + d / 2) / d

/-- W times the usable bandwidth of the slowest channel of the set under each channel's refresh. -/
def State.setBandwidth (s : State) (mode : Nat → Bool) : Nat :=
  match (List.range s.dram.ways).map (fun c => s.usable_ c (mode c)) with
  | [] => 0
  | x :: xs => s.dram.ways * xs.foldl min x

/-- The derated bandwidth (7111h). -/
def State.derated (s : State) : Nat := s.setBandwidth (fun _ => s.dramCfg 6 1 == 1)

/-- The reserved bandwidth (7112h). -/
def State.reservedBw (s : State) : Nat :=
  ((List.range 255).map (fun k => beAt (s.blb Obj.TRACE_RING (k + 1)) 36 4 + beAt (s.blb Obj.SNAP_AREA (k + 1)) 16 4)).sum +
    s.cfg Obj.STARTER_BW + s.cfg Obj.HOST_BW_RESERVE

/-- Whether the reserved bandwidth may grow by a write that replaces `old` by `new` (R339). -/
def State.bwFits (s : State) (old new : Nat) : Bool := (s.reservedBw - old + new) * 10 ≤ s.derated * 8 || new ≤ old

/-- The bytes that the channels can move in 1.0 µs under the refresh in force (R338), in MB/s. -/
def State.bandwidthNow (s : State) : Nat := s.setBandwidth (fun c => (s.channel c).doubled)

/-- BW_SHORTFALL (R341): at a change of refresh mode. -/
def State.bwShortfall (s : State) : State :=
  if s.reservedBw * 10 > s.bandwidthNow * 8 then
    (s.count Obj.BW_SHORTFALLS).raise 2 none Obj.BW_SHORTFALLS
  else s

/-- Writes of 7113h and 7114h (R339). -/
def applyBw (o v : Nat) (s : State) : State × Result :=
  if o == Obj.STARTER_BW && (v < 1000 || 16000 < v) then (s, .range)
  else if !s.bwFits (s.cfg o) v then (s, .overcommit)
  else (s.writeNum o 0 v, .ok)

/-- The reservation of a requestor in MB/s, and its bucket's key (R340). -/
def State.reservation (s : State) : DramLevel → Nat × Nat
  | .starter => (s.cfg Obj.STARTER_BW, 0)
  | .host | .upload => (s.cfg Obj.HOST_BW_RESERVE, 1)
  | .scrub => (0, 2)
  | .snapshot t => (beAt (s.blb Obj.SNAP_AREA t) 16 4, 256 + t)
  | .trace t => (beAt (s.blb Obj.TRACE_RING t) 36 4, 512 + t)

/-- The tokens of a requestor in bytes; a bucket starts full, with 4 µs of its rate. -/
def State.bwTokens (s : State) (r : DramLevel) : Nat :=
  let (rate, k) := s.reservation r
  min (4 * rate) (tabGet s.dram.buckets k (4 * rate))

/-- The level at which a request of `n` bytes is served (Table 11.2): its own within its reservation, a later one beyond. -/
def State.levelOf (s : State) (r : DramLevel) (n : Nat) : Nat :=
  let within := n ≤ s.bwTokens r
  match r with
  | .starter => if within then 1 else 4
  | .snapshot _ => if within then 2 else 4
  | .trace _ => if within then 3 else 5
  | .host | .upload => 4
  | .scrub => 6

/-- An access of `n` bytes is served: within its reservation it takes its tokens, beyond it none, and it takes its part of the
bandwidth of the µs (R340). -/
def State.takeTokens (s : State) (r : DramLevel) (n : Nat) : State :=
  let (_, k) := s.reservation r
  { s with
    dram.spent := s.dram.spent + n
    dram.buckets := if n ≤ s.bwTokens r then tabSet s.dram.buckets k (s.bwTokens r - n) else s.dram.buckets }

/-- The requestor of a bucket's key. -/
def requestorOf (k : Nat) : DramLevel :=
  if k = 0 then .starter else if k = 1 then .host else if k = 2 then .scrub else if k < 512 then .snapshot (k - 256) else .trace (k - 512)

/-- Every 1.0 µs each bucket gains 1 µs of its rate, up to 4 µs (R340). -/
def State.refill (s : State) : State :=
  { s with
    dram.spent := 0
    dram.buckets := s.dram.buckets.map (fun (e : Nat × Nat) =>
      let rate := (s.reservation (requestorOf e.1)).1
      (e.1, min (4 * rate) (e.2 + rate))) }

/-! ## Accesses (R331, R334, R336) -/

/-- The parts of a span, grain by grain, that lie each in one channel (R328). -/
def State.channelSpans (s : State) (a len : Nat) : List (Nat × Nat) :=
  let g := 2 ^ s.dramCfg 2 1
  if len = 0 then []
  else (List.range ((a + len - 1) / g - a / g + 1)).map (fun k =>
    let lo := max a ((a / g + k) * g)
    (lo, min (a + len) ((a / g + k + 1) * g) - lo))

/-- An access opens its rows: each stays open until another row of its bank is needed or a refresh falls due (R331). -/
def State.openRows (s : State) (a len : Nat) : State :=
  (s.channelSpans a len).foldl (fun s e =>
    let (c, o) := s.dramMap e.1
    s.modChannel c (fun x => { x with rows := tabSet x.rows (Config.dramBank o) (Config.dramRow o) })) s

/-- Whether a requestor reaches a span: below 1 GiB only the Starter does, and the scrubber for its sectors (R329, R335). -/
def State.reaches (s : State) (r : DramLevel) (a len : Nat) : Bool :=
  len != 0 && a + len ≤ s.dramSize && (giB ≤ a || r == .starter || r == .scrub)

/-- DRAM_READ (R329, R334, R336): the sector the read names is judged by what ECC found; a mapped block answers poisoned data. -/
def execDramRead (r : DramLevel) (a len : Nat) (e : Ecc) (s : State) : Host.Outcome State Fault Refusal :=
  if !s.reaches r a len then .next s
  else
    let s := ((s.takeTokens r len).openRows a len).sectorRead a e
    let bad := e == .uncorrectable || s.spanPoisoned a len
    .next (s.emit (.dramData (s.dramGet a len) bad))

/-- A write in the write queues of its channels: each is drained down to 32 entries once 96 wait (R331). -/
def State.queueWrite (s : State) (a len : Nat) : State :=
  (s.channelSpans a len).foldl (fun s e => s.modChannel (s.dramMap e.1).1 (fun c =>
    let q := c.writeQ ++ [e]
    if q.length ≥ 96 then { c with writeQ := q.drop (q.length - 32) } else { c with writeQ := q })) s

/-- A write of a requestor reaches its channels; a later read returns its data (R331, R337, R340). -/
def State.dramWrite (s : State) (r : DramLevel) (a : Nat) (b : Blob) : State :=
  (((s.takeTokens r b.length).openRows a b.length).queueWrite a b.length).dramPut a b

/-- DRAM_WRITE (R329, R331, R337): a write enters its channels' queues. -/
def execDramWrite (r : DramLevel) (a : Nat) (b : Blob) (s : State) : Host.Outcome State Fault Refusal :=
  if s.reaches r a b.length then .next (s.dramWrite r a b) else .next s

/-- REFRESH (R331, R332): an all-bank refresh of a channel; no row stays open. -/
def execRefresh (ch : Nat) (s : State) : Host.Outcome State Fault Refusal :=
  .next (if s.dram.selfRefresh then s else s.modChannel ch (fun c => { c with refreshes := c.refreshes + 1, rows := [] }))

/-- DIMM_TEMP_READ (R332, R341): above 85.0 °C the refresh doubles, below 83.0 °C it returns to normal. -/
def execDimmTempRead (ch : Nat) (mC : Int) (s : State) : Host.Outcome State Fault Refusal :=
  let was := (s.channel ch).doubled
  let now := if mC > 85000 then true else if mC < 83000 then false else was
  let s := s.modChannel ch (fun c => { c with temp := mC, doubled := now })
  .next (if was == now then s else s.bwShortfall)

/-- SCRUB_READ (R335): the scrubber reads a sector and writes back what it can correct. -/
def execScrubRead (a : Nat) (e : Ecc) (s : State) : Host.Outcome State Fault Refusal :=
  if a < s.dramSize then .next (s.sectorRead (a / 64 * 64) e) else .next s

/-- SCRUB_PASS_END (R335): the pass's length is reported, and one over its period counted. -/
def execScrubPassEnd (_ch secs : Nat) (s : State) : Host.Outcome State Fault Refusal :=
  let s := s.setCfg Obj.SCRUB_PASS_TIME 0 secs
  .next (if secs > s.cfg Obj.SCRUB_PERIOD * 3600 then s.count Obj.SCRUB_LATE else s)

/-- A write of 7106h[c] (R333): an online channel, in the set or unused, is refused, and so is an empty one (log 149). -/
def applyDramSweep (c v : Nat) (s : State) : State × Result :=
  if 1 < v then (s, .range)
  else if v = 0 then (s, .ok)
  else if (s.channel c).state != 2 then (s, .state)
  else (s.modChannel c (fun x => { x with sweeping := true }), .ok)

/-- DRAM_SWEEP: a write of 7106h[i]. -/
def execDramSweep (p : Principal) (i v : Nat) (s : State) : Host.Outcome State Fault Refusal :=
  .next (s.writeNumCmd p Obj.DRAM_SWEEP i v (applyDramSweep i))

/-- SWEEP_COMPLETE (R333): the delays found stand in 7107h. -/
def execSweepComplete (ch : Nat) (delays : Blob) (s : State) : Host.Outcome State Fault Refusal :=
  if (s.channel ch).sweeping then
    .next { s.modChannel ch (fun x => { x with sweeping := false }) with dram.sweep := tabSet s.dram.sweep ch delays }
  else .next s

/-- BAR2_ACCESS (R330): the PF's window onto DRAM from address 0, of the size in force (Table 4.12). -/
def execBar2Access (off len : Nat) (wr : Option Blob) (s : State) : Host.Outcome State Fault Refusal :=
  let n := match wr with
    | some b => b.length
    | none => len
  if n = 0 || 2 ^ s.rel.boot.bar2 < off + n then .next s
  else if off < giB || s.dramSize < off + n then
    let s := s.count Obj.BAR2_ERRORS
    match wr with
    | some _ => .next s
    | none => .next (s.emit (.bar2 (List.replicate len 0) false))
  else match wr with
    | some b => .next (s.dramWrite .host off b)
    | none => .next (((s.takeTokens .host n).openRows off n).emit (.bar2 (s.dramGet off len) (s.spanPoisoned off len)))

/-- A write of 7100h: stored; it takes effect at the next device reset. RANGE outside the values of Table 11.6, and for a P that is not
below C (R328). -/
def applyDramConfig (b : Blob) (s : State) : State × Result :=
  if b.length != 8 || !([4800, 5600, 6400, 7200, 8000].contains (beAt b 0 2)) || beAt b 2 1 < 8 || 16 < beAt b 2 1 ||
      1 < beAt b 3 1 || 127 < beAt b 4 2 || (s.dram.ways != 0 && s.dramC ≤ beAt b 4 2 * giB) || 1 < beAt b 6 1 then (s, .range)
  else (s.writeBlob Obj.DRAM_CONFIG 0 (b.set 7 0), .ok)

/-! ## Initialisation (R327, R333) -/

/-- The interleave set of R327 under the channels' states: its ways. -/
def waysOf (online : Nat → Bool) : Nat :=
  if online 0 && online 1 && online 2 && online 3 then 4 else if online 0 && online 1 then 2 else if online 0 then 1 else 0

/-- DRAM_INIT (R327, R333): `pass` says of each channel whether its check pattern passes and its serial is the stored one, which brings it
online under the delays of the calibration block `cal`; its capacity, its tRFC and another serial come from its SPD and are free values within
R326 (log 22). -/
def State.dramInit (s : State) (cal : Blob) (pass : List Bool) : State :=
  let s := { s with dram.config := s.blb Obj.DRAM_CONFIG, dram.data := [], dram.poison := [], dram.bad := [], dram.whole := [], dram.spent := 0, dram.buckets := [], dram.delays := [] }
  let s := (List.range 4).foldl (fun s c =>
    match pass[c]? with
    | none => s.modChannel c (fun _ => Channel.reset)
    | some ok =>
      let (v, s) := s.draw
      let record := (cal.drop (8800 + 512 * c)).take 512
      let s := if ok then { s with dram.delays := tabSet s.dram.delays c (record.drop 10) } else s
      s.modChannel c (fun _ => { Channel.reset with
        state := if ok then 1 else 2, capacity := 16 + v % 113, tRFC := v / 128 % 1024, serial := if ok then beAt record 0 8 else v / 2 ^ 17 })) s
  let w := waysOf (fun c => (s.channel c).state == 1)
  let s := { s with dram.ways := w }
  let s := (List.range 4).foldl (fun s c =>
    if w ≤ c && (s.channel c).state == 1 then s.modChannel c (fun x => { x with state := 3 }) else s) s
  if w = 0 then s.raise 5 none Obj.WAYS
  else if w < (pass.take 4).length then s.raise 2 none Obj.WAYS
  else s

end Sys2Proof.Machine
end

