-- ==== Sys2Proof/Machine/Flags.lean ====
section
/-! DEFINITION. The 40-bit results and flags of R245, R246 and R248: each operation as a function of its sources, with the flags
it names. -/

namespace Sys2Proof.Machine

/-- A flag write: the flags named and their values. -/
structure FlagSet where
  x : Option Bool := none
  v : Option Bool := none
  c : Option Bool := none
  n : Option Bool := none
  z : Option Bool := none
deriving DecidableEq, Repr

/-- A flag write as the value of a pending write: bit 8 + k set where flag k of CR0 is named, bit k its value. -/
def FlagSet.code (f : FlagSet) : W40 :=
  let one := fun (o : Option Bool) (k : Nat) => match o with
    | some b => 2 ^ (8 + k) + nat1 b * 2 ^ k
    | none => 0
  BitVec.ofNat 40 (one f.x 4 + one f.v 3 + one f.c 2 + one f.n 1 + one f.z 0)
where nat1 (b : Bool) : Nat := if b then 1 else 0

/-- Applies a coded flag write. -/
def Flags.apply (f : Flags) (w : W40) : Flags :=
  let g := fun (old : Bool) (k : Nat) => if w.getLsbD (8 + k) then w.getLsbD k else old
  ⟨g f.x 4, g f.v 3, g f.c 2, g f.n 1, g f.z 0⟩

/-- The flags as CR0 reads (Table 8.3). -/
def Flags.toNat (f : Flags) : Nat :=
  [f.x, f.v, f.c, f.n, f.z].foldl (fun v b => v * 2 + (if b then 1 else 0)) 0

/-- Z and N of a result. -/
def zn (r : W40) : FlagSet := { z := some (r == 0), n := some r.msb }

/-- Z of a result. -/
def zOnly (r : W40) : FlagSet := { z := some (r == 0) }

/-- a + b + carry: result and Z N C V. -/
def addFlags (a b : W40) (cin : Bool) : W40 × FlagSet :=
  let r := a + b + (if cin then 1 else 0)
  let c := decide (2 ^ 40 ≤ a.toNat + b.toNat + (if cin then 1 else 0))
  (r, { zn r with c := some c, v := some (a.msb == b.msb && r.msb != a.msb) })

/-- a − b − borrow, where C = 1 means no borrow: result and Z N C V. -/
def subFlags (a b : W40) (cin : Bool) : W40 × FlagSet :=
  let r := a - b - (if cin then 0 else 1)
  let c := decide (b.toNat + (if cin then 0 else 1) ≤ a.toNat)
  (r, { zn r with c := some c, v := some (a.msb != b.msb && r.msb != a.msb) })

/-- A bitwise result with Z N. -/
def logicFlags (r : W40) : W40 × FlagSet := (r, zn r)

/-- A shift's C: the last bit shifted out, unchanged by a shift of 0. -/
def shiftC (n : Nat) (out : Bool) : Option Bool := if n = 0 then none else some out

/-- Shift left by n: 40 or more gives 0. -/
def shlFlags (a : W40) (n : Nat) : W40 × FlagSet :=
  let r := a <<< n
  (r, { zn r with c := shiftC n (n ≤ 40 && a.getLsbD (40 - n)) })

/-- Logical shift right by n: 40 or more gives 0. -/
def shrFlags (a : W40) (n : Nat) : W40 × FlagSet :=
  let r := a >>> n
  (r, { zn r with c := shiftC n (a.getLsbD (n - 1)) })

/-- Arithmetic shift right by n: 40 or more gives 40 copies of bit 39. -/
def sarFlags (a : W40) (n : Nat) : W40 × FlagSet :=
  let r := a.sshiftRight n
  (r, { zn r with c := shiftC n (if n ≤ 40 then a.getLsbD (n - 1) else a.msb) })

/-- Rotate left by n mod 40: Z N. -/
def rolFlags (a : W40) (n : Nat) : W40 × FlagSet := logicFlags (a.rotateLeft (n % 40))

/-- The low 40 bits of the unsigned product. -/
def mulFlags (a b : W40) : W40 × FlagSet := logicFlags (a * b)

/-- Bits [79:40] of the unsigned product. -/
def mulhuFlags (a b : W40) : W40 × FlagSet := logicFlags (BitVec.ofNat 40 (a.toNat * b.toNat / 2 ^ 40))

/-- The ones of a value. -/
def popCount (a : W40) : Nat := ((List.range 40).filter (fun k => a.getLsbD k)).length

/-- The leading zeros of a value, 0 to 40. -/
def leadingZeros (a : W40) : Nat := ((List.range 40).takeWhile (fun k => !a.getLsbD (39 - k))).length

/-- Bits [79−n:40−n] of the pair a:b. -/
def funnel (a b : W40) (n : Nat) : W40 := BitVec.ofNat 40 ((a.toNat * 2 ^ 40 + b.toNat) / 2 ^ (40 - n))

/-- The field [pos+len−1:pos], zero-extended. -/
def extract (a : W40) (pos len : Nat) : W40 := BitVec.ofNat 40 (a.toNat / 2 ^ pos % 2 ^ len)

/-- The same field, sign-extended from its top bit. -/
def extractS (a : W40) (pos len : Nat) : W40 :=
  let v := extract a pos len
  if a.getLsbD (pos + len - 1) then v - BitVec.ofNat 40 (2 ^ len) else v

/-- d with field [pos+len−1:pos] replaced by the low bits of a. -/
def deposit (d a : W40) (pos len : Nat) : W40 :=
  let m := BitVec.ofNat 40 ((2 ^ len - 1) * 2 ^ pos)
  (d &&& ~~~m) ||| ((a <<< pos) &&& m)

/-- A value sign-extended from its low `w` bits. -/
def signFrom (w : Nat) (v : Nat) : W40 :=
  let x := v % 2 ^ w
  BitVec.ofInt 40 (if x < 2 ^ (w - 1) then (x : Int) else (x : Int) - 2 ^ w)

/-- The conditions of Table 8.13; none for the reserved values. -/
def condHolds (f : Flags) : Nat → Option Bool
  | 0 => some f.z | 1 => some !f.z | 2 => some f.c | 3 => some !f.c | 4 => some f.n | 5 => some !f.n
  | 6 => some f.v | 7 => some !f.v | 8 => some (f.n != f.v) | 9 => some (f.n == f.v) | 10 => some f.x | 11 => some !f.x
  | _ => none

/-! ## Four-state digits (R6, R248): 0 and 1 as themselves, Z = 10b, X = 11b -/

/-- Digit k of a register. -/
def digit (a : W40) (k : Nat) : Nat := a.toNat / 4 ^ k % 4

/-- A register from its digits. -/
def ofDigits (f : Nat → Nat) (n : Nat := 20) : W40 :=
  BitVec.ofNat 40 (((List.range n).map (fun k => f k * 4 ^ k)).sum)

/-- AND of two digits. -/
def digitAnd (a b : Nat) : Nat := if a = 0 || b = 0 then 0 else if a = 1 && b = 1 then 1 else 3
/-- OR of two digits. -/
def digitOr (a b : Nat) : Nat := if a = 1 || b = 1 then 1 else if a = 0 && b = 0 then 0 else 3
/-- XOR of two digits. -/
def digitXor (a b : Nat) : Nat := if a ≥ 2 || b ≥ 2 then 3 else (a + b) % 2
/-- NOT of a digit. -/
def digitNot (a : Nat) : Nat := if a = 0 then 1 else if a = 1 then 0 else 3
/-- Driver resolve: Z yields the other, equal values stand, else X. -/
def digitRes (a b : Nat) : Nat := if a = 2 then b else if b = 2 then a else if a = b then a else 3

/-- Whether any of the first n digits is X or Z. -/
def anyXZ (a : W40) (n : Nat := 20) : Bool := (List.range n).any (fun k => digit a k ≥ 2)

/-- A digit-wise result of two sources with Z X. -/
def digitFlags (f : Nat → Nat → Nat) (a b : W40) : W40 × FlagSet :=
  let r := ofDigits (fun k => f (digit a k) (digit b k))
  (r, { zOnly r with x := some (anyXZ a || anyXZ b) })

/-- A digit-wise result of one source with Z X. -/
def digitFlags1 (f : Nat → Nat) (a : W40) : W40 × FlagSet :=
  let r := ofDigits (fun k => f (digit a k))
  (r, { zOnly r with x := some (anyXZ a) })

/-- The digits that are X or Z, with Z X. -/
def xcntFlags (a : W40) : W40 × FlagSet :=
  let r := BitVec.ofNat 40 ((List.range 20).filter (fun k => digit a k ≥ 2)).length
  (r, { zOnly r with x := some (anyXZ a) })

/-- dadj: X where a source digit is X or Z, else bit 0 of the destination's digit. -/
def dadjFlags (d a b : W40) : W40 × FlagSet :=
  let r := ofDigits (fun k => if digit a k ≥ 2 || digit b k ≥ 2 then 3 else digit d k % 2)
  (r, { zOnly r with x := some (anyXZ a || anyXZ b) })

/-! ## Tens (R8, Table 8.18) -/

/-- Ten k of a register. -/
def ten (a : W40) (k : Nat) : Nat := a.toNat / 2 ^ (10 * k) % 2 ^ 10

/-- A register with ten k replaced. -/
def setTen (d : W40) (k v : Nat) : W40 := deposit d (BitVec.ofNat 40 v) (10 * k) 10

/-- texp: digit i is bit i of ten k. -/
def expandTen (a : W40) (k : Nat) : W40 := ofDigits (fun i => ten a k / 2 ^ i % 2) 10

/-- tcmp: bit i from digit i, X and Z give 0. -/
def compressTen (a : W40) : Nat := ((List.range 10).map (fun i => if digit a i = 1 then 2 ^ i else 0)).sum

end Sys2Proof.Machine
end

