-- ==== Sys2Proof/Machine/Operands.lean ====
section
/-! DEFINITION. Registers of a context, the addressing modes of Table 8.9 with the ring rule of R238, and the writes under way of
R233 and R234. -/

namespace Sys2Proof.Machine

/-- A general register; W0 reads zero (R227). -/
def Ctx.rw (c : Ctx) (n : Nat) : W40 := if n = 0 then 0 else tabGet c.w n 0

/-- A general register named by an instruction field. -/
def Ctx.r (c : Ctx) (n : BitVec 5) : W40 := c.rw n.toNat

/-- An address register. -/
def Ctx.ra (c : Ctx) (n : Nat) : Addr := tabGet c.a n 0

/-- An M register. -/
def Ctx.rm (c : Ctx) (n : Nat) : Addr := tabGet c.m n 0

/-- A helper register. -/
def Ctx.rh (c : Ctx) (n : Nat) : W40 := tabGet c.h n 0

/-- Writes a general register; a write to W0 is discarded. -/
def Ctx.setW (c : Ctx) (n : Nat) (v : W40) : Ctx := if n = 0 then c else { c with w := tabPut c.w n 0 v }

/-- Writes a helper register. -/
def Ctx.setH (c : Ctx) (n : Nat) (v : W40) : Ctx := { c with h := tabPut c.h n 0 v }

/-- The low 32 bits of a register, as an address. -/
def addrOf (w : W40) : Addr := w.setWidth 32

/-- A 32-bit value in a general register. -/
def wordOf (a : Addr) : W40 := a.setWidth 40

/-- One destination takes its value. Reserved bits of an M register are discarded (R4). -/
def Ctx.take (c : Ctx) : Dest → W40 → Ctx
  | .w n, v => c.setW n v
  | .a n, v => { c with a := tabPut c.a n 0 (addrOf v) }
  | .m n, v => { c with m := tabPut c.m n 0 (addrOf v &&& 0x8001FFFF) }
  | .ls n, v => { c with ls := tabPut c.ls n 0 (addrOf v) }
  | .le n, v => { c with le := tabPut c.le n 0 (addrOf v) }
  | .lc n, v => { c with lc := tabPut c.lc n 0 (v.toNat % 2 ^ 24) }
  | .flags, v => { c with flags := c.flags.apply v }
  | .lsmem, v => { c with lsmem := v.toNat % 2 ^ 16 }

/-- Takes the writes that the instruction after the one counted `n` sees; of two at one boundary the later-issued stands, since
writes are kept in issue order (R234). -/
def Ctx.land (c : Ctx) (n : Nat) : Ctx :=
  let ripe := c.writes.filter (fun p => p.due ≤ n + 1)
  ripe.foldl (fun c p => c.take p.dst p.value) { c with writes := c.writes.filter (fun p => n + 1 < p.due) }

/-- Adds an instruction's writes, each with its distance, to those under way: `n` is the instruction's count, and on a Starter
core, which interlocks, every distance is 1 (R354). -/
def Ctx.addWrites (c : Ctx) (n : Nat) (interlock : Bool) (ws : List (Dest × W40 × Nat)) : Ctx :=
  { c with writes := c.writes ++ ws.map (fun (e : Dest × W40 × Nat) => ⟨e.1, e.2.1, n + (if interlock then 1 else e.2.2)⟩) }

/-! ## Addressing (R237, R238) -/

/-- The bits of the smallest power of two at or above l, at most 17. -/
def ringBits (l : Nat) : Nat := ((List.range 17).find? (fun k => l ≤ 2 ^ k)).getD 17

/-- The low k bits of a value, reversed. -/
def revBits (k v : Nat) : Nat := ((List.range k).map (fun i => v / 2 ^ i % 2 * 2 ^ (k - 1 - i))).sum

/-- The post-modification of R238. -/
def postMod (a m step : Addr) : Addr :=
  let l := m.toNat % 2 ^ 17
  if l = 0 then a + step
  else
    let k := ringBits l
    let base := a.toNat / 2 ^ k * 2 ^ k
    let off := a.toNat % 2 ^ k
    let r := if m.toNat / 2 ^ 31 = 0 then (((off : Int) + step.toInt) % (l : Int)).toNat
      else revBits k (((revBits k off : Int) + step.toInt) % ((2 ^ k : Nat) : Int)).toNat
    BitVec.ofNat 32 (base + r)

/-- The address of a mode, and the A register it leaves, if any (Table 8.9). -/
def Ctx.address (c : Ctx) : AMode → Addr × List (Dest × W40 × Nat)
  | .disp an d => (c.ra an.toNat + d, [])
  | .post an d => (c.ra an.toNat, [(.a an.toNat, wordOf (postMod (c.ra an.toNat) (c.rm an.toNat) d), 1)])
  | .index an wi => (c.ra an.toNat + addrOf (c.r wi), [])
  | .postIndex an wi =>
    (c.ra an.toNat, [(.a an.toNat, wordOf (postMod (c.ra an.toNat) (c.rm an.toNat) (addrOf (c.r wi))), 1)])

/-! ## Loop registers and control registers -/

/-- A loop register, zero-extended (Table 8.15). -/
def Ctx.loopReg (c : Ctx) : LReg → W40
  | .ls n => wordOf (tabGet c.ls n.toNat 0)
  | .le n => wordOf (tabGet c.le n.toNat 0)
  | .lc n => BitVec.ofNat 40 (tabGet c.lc n.toNat 0)

/-- Where a loop register's writes go; level 3 has no register. -/
def lregDest : LReg → Option Dest
  | .ls n => if n.toNat < 3 then some (.ls n.toNat) else none
  | .le n => if n.toNat < 3 then some (.le n.toNat) else none
  | .lc n => if n.toNat < 3 then some (.lc n.toNat) else none

/-- The entries of the link stack, the reserved one included (CR3). -/
def Ctx.depth (c : Ctx) : Nat := c.link.length + nat01 c.reserved.isSome

/-- The test of R240 after the instruction at `pc`, from level 2 down: the context and the next address. -/
def Ctx.loopTest (c : Ctx) (pc next : Addr) : Ctx × Addr :=
  let rec go : List Nat → Ctx → Ctx × Addr
    | [], c => (c, next)
    | lv :: r, c =>
      let n := tabGet c.lc lv 0
      if n != 0 && tabGet c.le lv 0 == pc then
        if n > 1 then ({ c with lc := tabPut c.lc lv 0 (n - 1) }, tabGet c.ls lv 0)
        else go r { c with lc := tabPut c.lc lv 0 0 }
      else go r c
  go [2, 1, 0] c

/-- Whether an active loop level ends at an address. -/
def Ctx.endsAt (c : Ctx) (pc : Addr) : Bool := [2, 1, 0].any (fun lv => tabGet c.lc lv 0 != 0 && tabGet c.le lv 0 == pc)

end Sys2Proof.Machine
end

