-- ==== Sys2Proof/Machine/Issue.lean ====
section
/-! DEFINITION. The issue of one instruction by a Strider thread or a Starter core: fetch checks, memory, faults and exceptions,
link-stack traps, slots and loops (R193, R200, R215, R216, R229 to R244, R352 to R354, R357 to R359, R362, R363, R370). -/

namespace Sys2Proof.Machine

/-! ## Starter cores -/

/-- A Starter core. -/
def State.core (s : State) (k : Nat) : Core := tabGet s.starter.cores k .reset

/-- Changes a Starter core. -/
def State.modCore (s : State) (k : Nat) (f : Core → Core) : State :=
  { s with starter.cores := tabUpd s.starter.cores k .reset f }

/-- The context of who executes. -/
def State.ctx (s : State) : CoreRef → Ctx
  | .strider x => (s.thread x).ctx
  | .starter k => (s.core k).ctx

/-- Replaces the context of who executes. -/
def State.setCtx (s : State) (r : CoreRef) (c : Ctx) : State :=
  match r with
  | .strider x => s.modThread x (fun t => { t with ctx := c })
  | .starter k => s.modCore k (fun t => { t with ctx := c })

/-- Where an address of Table 12.1 lies. -/
inductive Place where
  | rom (a : Nat) | store (a : Nat) | dram (a : Nat) | device
deriving DecidableEq, Repr

/-- The kinds of access. -/
inductive Acc where
  | fetch | load | store
deriving DecidableEq, Repr

/-- Table 12.1 and R357: where an access of a core goes; none where it faults ADDRESS. -/
def Core.place (c : Core) (kind : Acc) (a : Nat) : Option Place :=
  if c.u && !(c.ubase.toNat ≤ a && a < c.ulimit.toNat) then none
  else if a < 0x10000 then (if kind == .store then none else some (.rom a))
  else if 0x100000 ≤ a && a < 0x4BC000 then (if c.u then none else some (.store a))
  else if 0x4BC000 ≤ a && a < 0x4FC000 then some (.store a)
  else if 0x4FC000 ≤ a && a < 0x500000 then (if c.u || kind == .fetch then none else some (.store a))
  else if 0x10000000 ≤ a && a < 0x20000000 then (if c.u || kind == .fetch then none else some .device)
  else if 0x40000000 ≤ a && a < 0x80000000 then (if c.u then none else some (.dram (a - 0x40000000)))
  else if 0x80000000 ≤ a && a < 0xC0000000 then
    (if c.u || kind == .fetch || c.dwin = 0 then none else some (.dram (c.dwin * 2 ^ 30 + (a - 0x80000000))))
  else none

/-- The copy of a DRAM line that another core has written and holds in its data cache, if one has. -/
def State.dirtyElsewhere (s : State) (k l : Nat) : Option Blob :=
  (List.range 4).findSome? (fun j => match tabGet? (s.core j).lines l with
    | some x => if j != k && x.dirty then some x.bytes else none
    | none => none)

/-- Whether a core finds a DRAM line poisoned: it stands in no data cache, and DRAM answers it so (R336). -/
def State.linePoisoned (s : State) (k l : Nat) : Bool :=
  (tabGet? (s.core k).lines l).isNone && (s.dirtyElsewhere k l).isNone && s.poisoned (64 * l)

/-- The 64 bytes of a DRAM line as a core sees it: its cached copy, else what another core has written, since the data caches are
coherent with one another, else DRAM (R353); of a poisoned line the bytes that a store does not write are zero (R337, log 152). -/
def State.coreLine (s : State) (k l : Nat) : Line :=
  (tabGet? (s.core k).lines l).getD ⟨(s.dirtyElsewhere k l).getD
    (if s.linePoisoned k l then List.replicate 64 0 else s.dramGet (64 * l) 64), false⟩

/-- Whether a core's read of n bytes meets poisoned data: an uncorrectable error to it (R336, log 152). -/
def State.readPoisoned (s : State) (r : CoreRef) (kind : Acc) (a n : Nat) : Bool :=
  match r with
  | .strider _ => false
  | .starter k => (List.range n).any (fun i => match (s.core k).place kind (a + i) with
    | some (.dram d) => s.linePoisoned k (d / 64)
    | _ => false)

/-- A core writes a line: no other core holds it any more (R353). -/
def State.ownLine (s : State) (k l : Nat) (x : Line) : State :=
  (List.range 4).foldl (fun s j =>
    if j = k then s.modCore j (fun c => { c with lines := tabSet c.lines l x })
    else if (tabGet? (s.core j).lines l).isSome then s.modCore j (fun c => { c with lines := tabDel c.lines l })
    else s) s

/-- One byte as a core reads it; a DRAM line comes into its cache. -/
def State.coreRead (s : State) (k : Nat) : Place → Byte × State
  | .rom a => (memRead s.starter.rom a, s)
  | .store a => (memRead s.starter.store a, s)
  | .dram a =>
    let l := s.coreLine k (a / 64)
    (l.bytes.getD (a % 64) 0, s.modCore k (fun c => { c with lines := tabSet c.lines (a / 64) l }))
  | .device => (0, s)

/-- One byte as a core writes it; a DRAM line becomes dirty in its cache. -/
def State.coreWrite (s : State) (k : Nat) (b : Byte) : Place → State
  | .store a => { s with starter.store := memWrite s.starter.store a b }
  | .dram a =>
    let l := s.coreLine k (a / 64)
    s.ownLine k (a / 64) ⟨l.bytes.set (a % 64) b, true⟩
  | _ => s

/-- Bytes that a core reads from an address on, with no check. -/
def State.coreBytes (s : State) (k a n : Nat) : Blob :=
  (List.range n).map (fun i => match ({ s.core k with u := false } : Core).place .load (a + i) with
    | some p => (s.coreRead k p).1
    | none => 0)

/-- Writes bytes of a core, with no check. -/
def State.coreStore (s : State) (k a : Nat) (b : Blob) : State :=
  (List.range b.length).foldl (fun s i => match ({ s.core k with u := false } : Core).place .store (a + i) with
    | some p => s.coreWrite k (b.getD i 0) p
    | none => s) s

/-- STATUS of a core (Table 12.3). -/
def Core.status (c : Core) : Nat :=
  c.il * 2 ^ 12 + nat01 c.ie * 2 ^ 8 + nat01 c.u * 2 ^ 7 + nat01 c.fstk * 2 ^ 6 + c.ctx.flags.toNat

/-- Sets STATUS of a core. -/
def Core.setStatus (c : Core) (v : Nat) : Core :=
  { c with
    il := bits v 15 12, ie := bit v 8, u := bit v 7, fstk := bit v 6
    ctx := { c.ctx with flags := ⟨bit v 4, bit v 3, bit v 2, bit v 1, bit v 0⟩ } }

/-! ## DNF (R362, R363) -/

/-- The minder of a core: the first running one of the next three. -/
def State.minder (s : State) (k : Nat) : Option Nat :=
  ([1, 2, 3].map (fun d => (k + d) % 4)).find? (fun j => (s.core j).st == .running)

/-- Enters DNF with a cause: 1 STACK, 2 VECTOR, 3 WATCHDOG. -/
def State.enterDnf (s : State) (k cause : Nat) : State :=
  let c := s.core k
  let rec_ := beBytes 1 cause ++ [0, 0, 0] ++ beBytes 4 c.ctx.pc.toNat ++ beBytes 5 c.status ++ beBytes 4 (c.ctx.rw 31).toNat ++
    beBytes 4 c.faddr ++ [0] ++ beBytes 10 s.time.gun
  let s := s.modCore k (fun c => { c with st := .dnf, dnfAt := s.time.gun, waiting := false })
  let s := ((s.setBlb Obj.DNF_RECORD k rec_).count Obj.DNF_COUNT k).logError 0x0D 3 5 none Obj.DNF_COUNT k (k + cause * 256)
  match s.minder k with
  | some j => s.irqCore j 26
  | none => s

/-! ## Exceptions (R358, R359) -/

/-- The handler address and priority of a vector. -/
def State.vectorOf (s : State) (k v : Nat) : Nat × Nat :=
  let b := s.coreBytes k ((s.core k).vbar.toNat + 8 * v) 8
  (beAt b 0 4, beAt b 4 1 % 16)

/-- Whether a core may fetch its next instruction at an address. -/
def Core.fetchable (c : Core) (a : Nat) : Bool :=
  a % 2 == 0 && match c.place .fetch a with
    | some .device | none => false
    | some _ => true

/-- The exception frame of Table 12.6. -/
def frameBytes (c : Core) (pc status : Nat) : Blob :=
  (beBytes 5 pc ++ [0, 0, 0]) ++ (beBytes 5 status ++ [0, 0, 0]) ++
    (List.range 6).flatMap (fun i => beBytes 5 (c.ctx.rw (i + 1)).toNat ++ [0, 0, 0])

/-- R370: a fault of the extension module stops it. -/
def State.stopModule (s : State) (cause pc faddr : Nat) : State :=
  let r := beBytes 4 cause ++ beBytes 4 pc ++ beBytes 4 faddr ++ beBytes 4 0
  let s := { s with
    starter.extState := 3, starter.running := false, starter.extBy := none, starter.extCalls := []
    starter.extLog := (r :: s.starter.extLog).take 64 }
  (s.count Obj.EXT_FAULTS).raise 2 none Obj.EXT_FAULTS

/-- The vectors that stop the module in user mode (R370). -/
def stopsModule (v : Nat) : Bool := [2, 3, 4, 5, 8, 10, 11].contains v

/-- R359: core k takes an exception of a vector, with the cause's detail, the address it stacks and, where the fault has one, its
faulting address; `e` is what ECC finds as the frame is written (log 155). -/
def State.takeException (s : State) (k v detail pc : Nat) (faddr : Option Nat) (prio : Option Nat) (e : Ecc) : State :=
  let c := s.core k
  let status := c.status
  let wasUser := c.u
  let s := match faddr with
    | some a => s.modCore k (fun c => { c with faddr := a })
    | none => s
  let s := if wasUser then s.modCore k (fun c =>
      { c with usp := c.ctx.rw 31, ctx := c.ctx.setW 31 c.ksp }) else s
  let sp := (((s.core k).ctx.rw 31).toNat) % 2 ^ 32
  let base := 0x4FC000 + 0x1000 * k
  let lo := if c.fstk then base else max c.splim.toNat 0x100000
  let hi := if c.fstk then base + 0x1000 else 0x4FC000
  let out := sp % 8 != 0 || sp < lo + 64 || hi < sp
  let s := if out && c.fstk then s else s.sramEvent 30 (if out then base + 0x1000 - 64 else sp - 64) e
  let failed := e == .uncorrectable
  let bad := out || failed
  if (bad && c.fstk) || (out && failed) then (s.modCore k (fun c => if out && !c.fstk then { c with faddr := sp, fstk := true } else c)).enterDnf k 1
  else
    let s := if bad then s.modCore k (fun c => { c with faddr := sp, fstk := true }) else s
    let vec := if bad then 1 else v
    let prio := if bad then none else prio
    let sp := if bad then base + 0x1000 else sp
    let s := s.coreStore k (sp - 64) (frameBytes (s.core k) pc status)
    let (handler, _) := s.vectorOf k vec
    let s := s.modCore k (fun c => { c with
      cause := vec * 256 + detail, u := false, ie := false, il := prio.getD c.il
      ctx := { c.ctx.setW 31 (BitVec.ofNat 40 (sp - 64)) with pc := BitVec.ofNat 32 handler, slot := .none, undo := none } })
    let s := if wasUser && stopsModule v then s.stopModule (v * 256 + detail) pc (faddr.getD 0) else s
    if (s.core k).fetchable handler then s else s.enterDnf k 2

/-- The vector of a fault cause of Table 7.6 (Table 12.5). -/
def vectorOfCause : Nat → Nat
  | 1 => 2 | 2 => 3 | 3 => 4 | 4 => 8 | 5 => 11 | 6 => 10 | _ => 5

/-- The slot's owner, if the next instruction stands in a slot. -/
def Slot.owner? : Slot → Option Addr
  | .none => Option.none
  | .taken _ o | .notTaken o | .setup o _ => some o

/-- A fault of who executes: a thread fault, or the core's exception, taken before the transfer whose slot raised it, with the
transfer's effects discarded (R354). -/
def State.faultAt (s : State) (r : CoreRef) (cause : Nat) (operand : Nat) (e : Ecc) : State :=
  match r with
  | .strider x => s.stopThread x cause operand
  | .starter k =>
    let c := (s.core k).ctx
    let pc := (c.slot.owner?).getD c.pc
    let s := match c.undo with
      | some u => s.setCtx r { c with
          link := u.link, reserved := u.reserved, trapFill := u.trapFill, ls := u.ls, le := u.le, lc := u.lc
          slot := .none, undo := none, pc := pc }
      | none => s
    s.takeException k (vectorOfCause cause) cause pc.toNat (if cause = 3 then some operand else none) none e

/-! ## Loads and stores (R193, R236, R352) -/

/-- Where a byte of a Strider's address space lies; none where the access faults (Table 7.2). -/
inductive SPlace where
  | pinned (a : Nat) | lstore (a : Nat) | window (a : Nat)
deriving DecidableEq, Repr

/-- Table 7.2, with R196: a window store after release faults. -/
def striderPlace (x : Nat) (released : Bool) (kind : Acc) (a : Nat) : Option SPlace :=
  if a < 0x2000 then (if kind == .store then none else some (.pinned a))
  else if a < 0x10000 then some (.lstore (x / 8 * 65536 + a))
  else if a < 0x10100 then (if kind == .fetch || (kind == .store && released) then none else some (.window (windowBase x + (a - 0x10000))))
  else if a < 0x10140 then (if kind == .load then some (.window (windowBase x + (a - 0x10000))) else none)
  else none

/-- What an access answers: the bytes and the state, a fault, or the device space of a core. -/
inductive Access where
  | ok (b : Blob) (s : State)
  | fault
  | device (a : Nat)

/-- Whether an access crosses an 8-byte boundary. -/
def crosses8 (a n : Nat) : Bool := 8 < a % 8 + n

/-- A load or store of the local store takes its port (R195). -/
def State.takePort (s : State) (x : Nat) (ps : List (Option SPlace)) : State :=
  let busy : Bool := ps.any (fun p => match p with
    | some (.pinned _) | some (.lstore _) => true
    | _ => false)
  if busy then { s with strider.portBusy := x / 8 :: s.strider.portBusy } else s

/-- A load of n bytes. -/
def State.load (s : State) (r : CoreRef) (a : Addr) (n : Nat) : Access :=
  let as := (List.range n).map (fun i => (a + BitVec.ofNat 32 i).toNat)
  if n = 5 && crosses8 a.toNat 5 then .fault
  else match r with
  | .strider x =>
    let ps := as.map (striderPlace x (s.thread x).released .load)
    if ps.any Option.isNone then .fault
    else .ok (ps.map (fun p => match p with
      | some (.pinned a) => memRead s.strider.pinned a
      | some (.lstore a) => memRead s.strider.lstore a
      | some (.window a) => memRead s.strider.windows a
      | none => 0)) (s.takePort x ps)
  | .starter k =>
    let ps := as.map ((s.core k).place .load)
    if ps.any Option.isNone then .fault
    else if ps.contains (some .device) then .device a.toNat
    else
      let (b, s) := ps.foldl (fun (x : Blob × State) p => match p with
        | some p => let (v, s) := x.2.coreRead k p
          (x.1 ++ [v], s)
        | none => x) ([], s)
      .ok b s

/-- A store of bytes. -/
def State.store (s : State) (r : CoreRef) (a : Addr) (b : Blob) : Access :=
  let as := (List.range b.length).map (fun i => (a + BitVec.ofNat 32 i).toNat)
  if b.length = 5 && crosses8 a.toNat 5 then .fault
  else match r with
  | .strider x =>
    let ps := as.map (striderPlace x (s.thread x).released .store)
    if ps.any Option.isNone then .fault
    else .ok [] ((List.range b.length).foldl (fun s i => match ps.getD i none with
      | some (.lstore a) => { s with strider.lstore := memWrite s.strider.lstore a (b.getD i 0) }
      | some (.window w) =>
        let s := { s with strider.windows := memWrite s.strider.windows w (b.getD i 0) }
        s.modThread x (fun t =>
          let k := (w - windowBase x) / 32
          { t with storedBlocks := if t.storedBlocks.contains k then t.storedBlocks else t.storedBlocks ++ [k] })
      | _ => s) (s.takePort x ps))
  | .starter k =>
    let ps := as.map ((s.core k).place .store)
    if ps.any Option.isNone then .fault
    else if ps.contains (some .device) then .device a.toNat
    else .ok [] ((List.range b.length).foldl (fun s i => match ps.getD i none with
      | some p => s.coreWrite k (b.getD i 0) p
      | none => s) s)

/-! ## One instruction -/

/-- What an instruction does once it issues. `ok` goes on to the next instruction with writes under way; `xfer` is a control
transfer; `loop` a loop or loopi, with where a count of 0 goes on; `fault` a cause of Table 7.6 with its operand, `faultIn` the same with what happened
before it, `unissued` a cause that keeps it from issuing; `wait` leaves it unissued; `trap` is a link-stack trap; `stop` an access to device space; `whole` sets the pc and the registers itself. -/
inductive Did where
  | ok (s : State) (ws : List (Dest × W40 × Nat))
  | xfer (s : State) (taken : Bool) (target : Addr)
  | loop (s : State) (ws : List (Dest × W40 × Nat)) (skip : Option Addr)
  | fault (cause operand : Nat)
  | unissued (cause : Nat)
  | faultIn (s : State) (cause operand : Nat)
  | wait (w : Wait)
  | trap (fill : Bool)
  | stop (a : Nat)
  | whole (s : State)

/-- Whether an instruction is ILLEGAL by its fields (R228, R232). -/
def Did.illegal : Did → Bool
  | .fault 1 _ => true
  | _ => false

/-- Whether an instruction may stand in a slot (R235). -/
inductive Kind where
  | plain | control
deriving DecidableEq, Repr

/-- The address of a link-stack trap's handler: entries 254 and 255 of the image, the pinned program's own (a free value, log 14),
or vectors 6 and 7 of a core; none where the entry is not VALID. -/
def State.trapHandler (s : State) (r : CoreRef) (fill : Bool) : Option (Addr × State) :=
  match r with
  | .strider x =>
    if (s.thread x).kind == .relay then
      let (n, s) := s.draw
      some (BitVec.ofNat 32 (n % 0x2000 / 2 * 2), s)
    else ((s.squad (squadOf x)).entry? (if fill then 255 else 254)).map (fun (e : Nat × Nat) => (BitVec.ofNat 32 e.1, s))
  | .starter k => some (BitVec.ofNat 32 (s.vectorOf k (if fill then 7 else 6)).1, s)

/-- Finishes an issued instruction at `pc` of `size` bytes, counted `n`: its writes, the slot it stands in or opens, the loop test
(R235, R240), and what is left of it in the fetch buffer, which a taken transfer empties after its delay slot, and so does the skip of a loop's
body (R195). -/
def finish (c : Ctx) (n size : Nat) (interlock : Bool) (ws : List (Dest × W40 × Nat)) (opens : Option Slot) : Ctx :=
  let pc := c.pc
  let next := pc + BitVec.ofNat 32 size
  let c := { (c.addWrites n interlock ws).land n with fetched := c.fetched - size }
  match opens with
  | some sl => { c with pc := next, slot := sl }
  | none =>
    let (c, to_) := match c.slot with
      | .taken t _ => ({ c with fetched := 0 }, t)
      | .none => c.loopTest pc next
      | .notTaken o | .setup o .none => c.loopTest (if c.endsAt o then o else pc) next
      | .setup o (some a) => { c with fetched := 0 }.loopTest (if c.endsAt o then o else pc) a
    { c with pc := to_, slot := .none, undo := none }

/-- Whether an instruction of `size` bytes at a thread's or core's pc may be fetched (R229, R352, R357). -/
def State.fetchOk (s : State) (r : CoreRef) (pc : Addr) (size : Nat) : Bool :=
  match r with
  | .strider _ => pc.toNat % 2 == 0 && pc.toNat + size ≤ 0x10000
  | .starter k => (s.core k).fetchable pc.toNat && (s.core k).fetchable ((pc + BitVec.ofNat 32 (size - 2)).toNat)

/-- The fault an instruction meets before it does anything: its encoding, a control instruction in a slot, the budget (R215, R216,
R232, R235, R250, R370); the lowest cause of those that hold. -/
def State.preFault (s : State) (h : Hdr) (kind : Kind) (c : Ctx) : Option Nat :=
  let spent : Bool := match h.core with
    | .strider x => (s.thread x).budget != 0 && (s.thread x).budget ≤ c.issued
    | .starter k => (s.core k).u && s.cfg Obj.EXT_BUDGET ≤ (s.core k).userCount
  if h.fetch == .uncorrectable || s.readPoisoned h.core .fetch c.pc.toNat (if h.short then 2 else 4) then some (if spent then 5 else 0x0C)
  else if h.enc == .illegal || (kind == .control && c.slot != .none) then some 1
  else if h.enc == .privileged then some 2
  else if spent then some 5
  else if h.enc == .helper then some 6
  else none

/-- Whether a squad's logic has power (R224). -/
def SquadState.powered : SquadState → Bool
  | .gated | .waking => false
  | _ => true

/-- The turn of who executes: a thread that R199 chooses, with its instruction in its fetch buffer; a running core that does not wait. -/
def State.turn (s : State) : CoreRef → Option State
  | .strider x => match s.issuer x with
    | (some y, s') => if y = x && (s.squad (squadOf x)).st.powered then some (s'.supply x) else none
    | (none, _) => none
  | .starter k => let c := s.core k
    if k < 4 && c.st == .running && !c.waiting then some s else none

/-- The unit of R416 from which an instruction is fetched and a load reads: the squad's stores, the Starter's. -/
def sramUnit : CoreRef → Nat
  | .strider x => squadOf x
  | .starter _ => 30

/-- An instruction is fetched on the turn of who executes; a corrected error of its word is recorded (R219). -/
def State.fetched (s : State) (h : Hdr) : Option State :=
  (s.turn h.core).map (fun u => if h.fetch == .corrected then u.sramEvent (sramUnit h.core) (u.ctx h.core).pc.toNat .corrected else u)

/-- One more issue slot used at a time; what is older than 1.0 ms goes (400Ah). -/
def addSlot (now : Time) : List (Time × Nat) → List (Time × Nat)
  | (t, n) :: r => if t = now then (t, n + 1) :: r
    else (now, 1) :: ((t, n) :: r).filter (fun (e : Time × Nat) => now < e.1 + 1000000 * ns)
  | [] => [(now, 1)]

/-- Counts an issued instruction (R215, R370) and the issue slot it uses (400Ah). -/
def State.countIssue (s : State) (r : CoreRef) : State :=
  match r with
  | .strider x => (s.modThread x (fun t => { t with ctx := { t.ctx with issued := t.ctx.issued + 1 } })).modSquad (squadOf x)
      (fun q => { q with slots := addSlot s.time.gun q.slots })
  | .starter k => s.modCore k (fun c => { c with
      userCount := if c.u then c.userCount + 1 else c.userCount
      ctx := { c.ctx with issued := c.ctx.issued + 1 } })

/-- A long stall: a thread becomes WAITING, its slot is lost (R200); a core stalls. -/
def State.stall (s : State) (r : CoreRef) (w : Wait) : State :=
  match r with
  | .strider x => (s.modThread x (fun t => { t with st := .waiting, wait := w })).count Obj.LOST_SLOTS (squadOf x)
  | .starter _ => s

/-- Takes a link-stack trap (R242, R243): the transfer has not issued. -/
def State.linkTrap (s : State) (r : CoreRef) (fill : Bool) (e : Ecc) : State :=
  match s.trapHandler r fill with
  | none => s.faultAt r 4 0 e
  | some (a, s) =>
    let c := s.ctx r
    s.setCtx r { c with reserved := some c.pc, trapFill := fill, pc := a, fetched := 0 }

/-- The fault of an instruction before its body, `bad` where its fields are ILLEGAL, which is the lowest cause (R216). A spent budget and an
uncorrectable fetch keep it from issuing; the others are found when it issues, and count (R215, R235). -/
def State.faultEarly (s : State) (h : Hdr) (cause : Nat) (bad : Bool) (helper : Nat) : State :=
  let r := h.core
  if h.fetch == .uncorrectable || cause = 0x0C then
    let a := (s.ctx r).pc.toNat
    let s := if h.fetch == .uncorrectable then s.sramEvent (sramUnit r) a .uncorrectable else s
    s.faultAt r cause (if cause = 5 then 0 else a) h.frame
  else
    let cause := if bad then 1 else cause
    (if cause = 5 then s else s.countIssue r).faultAt r cause (if cause = 6 then helper else 0) h.frame

/-- One instruction of a thread or core: `body` is what it does with the context as it sees it; `helper` is the operand that a
HELPER fault reports (Table 7.7). -/
def State.runInstr (s : State) (h : Hdr) (kind : Kind) (body : State → Ctx → Did) (helper : Nat := 0) :
    Host.Outcome State Fault Refusal :=
  match s.fetched h with
  | none => .next s
  | some s =>
    let r := h.core
    let size := if h.short then 2 else 4
    let c := s.ctx r
    let interlock : Bool := match r with | .starter _ => true | .strider _ => false
    if !s.fetchOk r c.pc size then .next (s.faultAt r 3 c.pc.toNat h.frame)
    else
      let s1 := s.countIssue r
      match s.preFault h kind c with
    | some cause => .next (s.faultEarly h cause (body s1 (s1.ctx r)).illegal helper)
    | none =>
      let n := c.issued + 1
      let undo : Undo := ⟨c.link, c.reserved, c.trapFill, c.ls, c.le, c.lc⟩
      match body s1 (s1.ctx r) with
      | .ok s ws => .next (s.setCtx r (finish (s.ctx r) n size interlock ws none))
      | .xfer s taken target =>
        let c' := finish (s.ctx r) n size interlock [] (some (if taken then .taken target c.pc else .notTaken c.pc))
        .next (s.setCtx r { c' with undo := some undo })
      | .loop s ws skip =>
        let c' := finish (s.ctx r) n size interlock ws (some (.setup c.pc skip))
        .next (s.setCtx r { c' with undo := some undo })
      | .fault cause operand => .next (s1.faultAt r cause operand h.frame)
      | .faultIn s cause operand => .next (s.faultAt r cause operand h.frame)
      | .unissued cause => .next (s.faultAt r cause 0 h.frame)
      | .wait w => .next (s.stall r w)
      | .trap fill => .next (s.linkTrap r fill h.frame)
      | .stop a => .fault (.starterDevice a)
      | .whole s => .next s

/-- An instruction that computes a result from its registers: no memory, no transfer. -/
def State.alu (s : State) (h : Hdr) (f : Ctx → List (Dest × W40 × Nat)) : Host.Outcome State Fault Refusal :=
  s.runInstr h .plain (fun s c => .ok s (f c))

/-- The writes of a result and its flags, at a distance. -/
def resultAt (d : Nat) (rd : BitVec 5) (x : W40 × FlagSet) : List (Dest × W40 × Nat) :=
  [(.w rd.toNat, x.1, d), (.flags, x.2.code, d)]

/-- The same at distance 1. -/
def result (rd : BitVec 5) (x : W40 × FlagSet) : List (Dest × W40 × Nat) := resultAt 1 rd x

/-- A result without flags. -/
def plainResult (rd : BitVec 5) (v : W40) : List (Dest × W40 × Nat) := [(.w rd.toNat, v, 1)]

end Sys2Proof.Machine
end

