-- ==== Sys2Proof/Machine/StriderFlow.lean ====
section
/-! DEFINITION. Control transfers, loops, the link stack, control registers, thread waits and ends (R200 to R203, R212, R235, R239 to R247). -/

namespace Sys2Proof.Machine

/-- The parcel at an address, as the fetch unit reads it. -/
def State.parcel (s : State) (r : CoreRef) (a : Addr) : Nat :=
  match r with
  | .strider x => (s.localByte (x / 8) (a.toNat % 65536)).toNat * 256 + (s.localByte (x / 8) ((a.toNat + 1) % 65536)).toNat
  | .starter k => beNat (s.coreBytes k a.toNat 2)

/-- The address that follows the instruction at an address: a first parcel whose bits [15:14] are 11b makes it 32 bits long (R229). -/
def State.afterInsn (s : State) (r : CoreRef) (a : Addr) : Addr := a + (if s.parcel r a / 2 ^ 14 = 3 then 4 else 2)

/-- The address that follows the slot of an instruction of `size` bytes at `pc`. -/
def State.afterSlot (s : State) (r : CoreRef) (pc : Addr) (size : Nat) : Addr := s.afterInsn r (pc + BitVec.ofNat 32 size)

/-- The size of an instruction. -/
def hdrSize (h : Hdr) : Nat := if h.short then 2 else 4

/-- A branch by `d` bytes if a condition holds (R231, R235). -/
def State.branch (s : State) (h : Hdr) (d : Addr) (cond : Ctx → Option Bool) : Host.Outcome State Fault Refusal :=
  s.runInstr h .control (fun s c => match cond c with
    | none => .fault 1 0
    | some t => .xfer s t (c.pc + d))

/-- A call: LINK_STACK inside a trap, the spill trap at 8 entries, else push and branch (R241, R242, R244). -/
def State.callTo (s : State) (h : Hdr) (target : Ctx → Addr) : Host.Outcome State Fault Refusal :=
  s.runInstr h .control (fun s c =>
    if c.reserved.isSome then .fault 4 0
    else if c.link.length ≥ 8 then .trap false
    else .xfer (s.setCtx h.core { c with link := s.afterSlot h.core c.pc (hdrSize h) :: c.link }) true (target c))

/-- beq: branches if equal, with a delay slot (R235). -/
def execOpBeq (h : Hdr) (ra rb : BitVec 5) (d : Addr) (s : State) : Host.Outcome State Fault Refusal :=
  s.branch h d (fun c => some (c.r ra == c.r rb))

/-- bne: branches if different, with a delay slot (R235). -/
def execOpBne (h : Hdr) (ra rb : BitVec 5) (d : Addr) (s : State) : Host.Outcome State Fault Refusal :=
  s.branch h d (fun c => some (c.r ra != c.r rb))

/-- blt: branches if signed less, with a delay slot (R235). -/
def execOpBlt (h : Hdr) (ra rb : BitVec 5) (d : Addr) (s : State) : Host.Outcome State Fault Refusal :=
  s.branch h d (fun c => some ((c.r ra).slt (c.r rb)))

/-- bge: branches if signed not less, with a delay slot (R235). -/
def execOpBge (h : Hdr) (ra rb : BitVec 5) (d : Addr) (s : State) : Host.Outcome State Fault Refusal :=
  s.branch h d (fun c => some (!(c.r ra).slt (c.r rb)))

/-- bltu: branches if unsigned less, with a delay slot (R235). -/
def execOpBltu (h : Hdr) (ra rb : BitVec 5) (d : Addr) (s : State) : Host.Outcome State Fault Refusal :=
  s.branch h d (fun c => some ((c.r ra).ult (c.r rb)))

/-- bgeu: branches if unsigned not less, with a delay slot (R235). -/
def execOpBgeu (h : Hdr) (ra rb : BitVec 5) (d : Addr) (s : State) : Host.Outcome State Fault Refusal :=
  s.branch h d (fun c => some (!(c.r ra).ult (c.r rb)))

/-- beqz: branches if a register is zero (R235). -/
def execOpBeqz (h : Hdr) (ra : BitVec 5) (d : Addr) (s : State) : Host.Outcome State Fault Refusal :=
  s.branch h d (fun c => some (c.r ra == 0))

/-- bnez: branches if a register is not zero (R235). -/
def execOpBnez (h : Hdr) (ra : BitVec 5) (d : Addr) (s : State) : Host.Outcome State Fault Refusal :=
  s.branch h d (fun c => some (c.r ra != 0))

/-- bbs: branches if a bit 0 to 39 is set (R235). -/
def execOpBbs (h : Hdr) (ra : BitVec 5) (bit : BitVec 6) (d : Addr) (s : State) : Host.Outcome State Fault Refusal :=
  s.branch h d (fun c => if bit.toNat < 40 then some ((c.r ra).getLsbD bit.toNat) else none)

/-- bbc: branches if a bit 0 to 39 is clear (R235). -/
def execOpBbc (h : Hdr) (ra : BitVec 5) (bit : BitVec 6) (d : Addr) (s : State) : Host.Outcome State Fault Refusal :=
  s.branch h d (fun c => if bit.toNat < 40 then some (!(c.r ra).getLsbD bit.toNat) else none)

/-- bcc: branches if a condition of Table 8.13 holds (R235). -/
def execOpBcc (h : Hdr) (cond : BitVec 5) (d : Addr) (s : State) : Host.Outcome State Fault Refusal :=
  s.branch h d (fun c => condHolds c.flags cond.toNat)

/-- br: branches (R235). -/
def execOpBr (h : Hdr) (d : Addr) (s : State) : Host.Outcome State Fault Refusal :=
  s.branch h d (fun _ => some true)

/-- call: pushes the address after the delay slot and branches (R241). -/
def execOpCall (h : Hdr) (d : Addr) (s : State) : Host.Outcome State Fault Refusal :=
  s.callTo h (fun c => c.pc + d)

/-- jr: branches to a register's address (R235). -/
def execOpJr (h : Hdr) (ra : BitVec 5) (s : State) : Host.Outcome State Fault Refusal :=
  s.runInstr h .control (fun s c => .xfer s true (addrOf (c.r ra)))

/-- callr: pushes and branches to a register's address (R241). -/
def execOpCallr (h : Hdr) (ra : BitVec 5) (s : State) : Host.Outcome State Fault Refusal :=
  s.callTo h (fun c => addrOf (c.r ra))

/-- ret: pops a return address and branches to it; with none, the fill trap if LSMEM is not 0, else LINK_STACK (R243, R244). -/
def execOpRet (h : Hdr) (s : State) : Host.Outcome State Fault Refusal :=
  s.runInstr h .control (fun s c =>
    if c.reserved.isSome then .fault 4 0
    else match c.link with
      | a :: r => .xfer (s.setCtx h.core { c with link := r }) true a
      | [] => if c.lsmem != 0 then .trap true else .unissued 4)

/-- rett: returns from a link-stack trap to the reserved entry; without a trap, ILLEGAL (R242, R244). -/
def execOpRett (h : Hdr) (s : State) : Host.Outcome State Fault Refusal :=
  s.runInstr h .control (fun s c => match c.reserved with
    | none => .fault 1 0
    | some a => .xfer (s.setCtx h.core { c with reserved := none, trapFill := false }) true a)

/-- The writes of a loop at `pc` whose body starts at `start`, skipped by a count of 0; ILLEGAL for level 3 or an end before the start
(R239). -/
def State.loopTo (s : State) (h : Hdr) (lv : BitVec 2) (last : Nat) (count : Ctx → Nat) : Host.Outcome State Fault Refusal :=
  s.runInstr h .control (fun s c =>
    let start := s.afterSlot h.core c.pc (hdrSize h)
    let stop := c.pc + BitVec.ofNat 32 (2 * last)
    if lv.toNat = 3 || stop.toNat < start.toNat then .fault 1 0
    else .loop s [(.ls lv.toNat, wordOf start, 2), (.le lv.toNat, wordOf stop, 2), (.lc lv.toNat, BitVec.ofNat 40 (count c), 2)]
      (if count c = 0 then some (s.afterInsn h.core stop) else none))

/-- loop: sets up a loop with a count from a register (R239). -/
def execOpLoop (h : Hdr) (lv : BitVec 2) (rs : BitVec 5) (last : BitVec 17) (s : State) : Host.Outcome State Fault Refusal :=
  s.loopTo h lv last.toNat (fun c => (c.r rs).toNat % 2 ^ 24)

/-- loopi: sets up a loop with an immediate count (R239). -/
def execOpLoopi (h : Hdr) (lv : BitVec 2) (count : BitVec 10) (last : BitVec 12) (s : State) : Host.Outcome State Fault Refusal :=
  s.loopTo h lv last.toNat (fun _ => count.toNat)

/-- Squad time in units of 2⁻¹⁶ ns: gun time less a free lag of 2.1 to 4.3 ns, in steps of 1.25 ns; two reads never go backwards while gun
time does not (R24, log 15). -/
def State.squadTime (s : State) (k : Nat) : Nat × State :=
  let (n, s) := s.draw
  let t := (s.time.gun - (137626 + n % 144180)) / 81920 * 81920
  let seen := (s.squad k).seen
  let t := if seen ≤ s.time.gun then max t seen else t
  (t, s.modSquad k (fun q => { q with seen := t }))

/-- NS[39:0] of the time that an instruction reads: squad time on a Strider, gun time on a Starter core (R247, R354). -/
def State.readTime (s : State) (r : CoreRef) : W40 × State :=
  match r with
  | .strider x => let (t, s) := s.squadTime (squadOf x)
    (BitVec.ofNat 40 (t / ns), s)
  | .starter _ => (BitVec.ofNat 40 (s.time.gun / ns), s)

/-- How far a stopwatch value lies ahead, 0 once it is reached (R247). -/
def stopwatchAhead (c now : W40) : Nat := let d := (c - now).toNat
  if d ≥ 2 ^ 39 then 0 else d

/-- Whether a user-mode core executes (R357). -/
def State.inUser (s : State) (r : CoreRef) : Bool :=
  match r with
  | .strider _ => false
  | .starter k => (s.core k).u

/-- yield: the thread is READY behind the others of its priority (R200); a core only goes on. -/
def execOpYield (h : Hdr) (s : State) : Host.Outcome State Fault Refusal :=
  s.runInstr h .plain (fun s _ => match h.core with
    | .strider x => .ok (s.stampReady x) []
    | .starter _ => .ok s [])

/-- swait: waits until the time reaches a value; too far ahead faults STOPWATCH on a Strider (R201, R247, R354). -/
def execOpSwait (h : Hdr) (ra : BitVec 5) (s : State) : Host.Outcome State Fault Refusal :=
  s.runInstr h .plain (fun s c =>
    let (now, s) := s.readTime h.core
    let d := stopwatchAhead (c.r ra) now
    match h.core with
    | .strider x =>
      if d = 0 then .ok s []
      else if s.cfg Obj.STOPWATCH_LIMIT < d then .faultIn s 9 0
      else .ok (s.modThread x (fun t => { t with st := .waiting, wait := .stopwatch (c.r ra) })) []
    | .starter k =>
      if (s.core k).u then .fault 2 0 else if d = 0 then .ok s [] else .wait .none)

/-- wfe: clears a set event latch, or waits for the event; WFE in a RUNNING squad (R202, R354, R357). -/
def execOpWfe (h : Hdr) (s : State) : Host.Outcome State Fault Refusal :=
  s.runInstr h .plain (fun s _ => match h.core with
    | .strider x =>
      let st := (s.squad (squadOf x)).st
      if st != .loading && st != .test then .fault 0x0A 0
      else if (s.thread x).latch then .ok (s.modThread x (fun t => { t with latch := false })) []
      else .ok (s.modThread x (fun t => { t with st := .waiting, wait := .event })) []
    | .starter k =>
      if (s.core k).u then .fault 2 0
      else if (s.core k).eventLatch then .ok (s.modCore k (fun c => { c with eventLatch := false })) []
      else .ok (s.modCore k (fun c => { c with waiting := true })) [])

/-- prio: sets the thread's priority, clamped to its dispatch priority (R203). -/
def execOpPrio (h : Hdr) (n : BitVec 2) (s : State) : Host.Outcome State Fault Refusal :=
  s.runInstr h .plain (fun s _ => match h.core with
    | .strider x => .ok (s.modThread x (fun t => { t with prio := min n.toNat t.dispPrio })) []
    | .starter _ => .ok s [])

/-- end: ends the run; a frame not yet released faults NO_RELEASE (R205, R212). -/
def execOpEnd (h : Hdr) (s : State) : Host.Outcome State Fault Refusal :=
  s.runInstr h .control (fun s _ => match h.core with
    | .strider x =>
      let t := s.thread x
      if t.fid.isSome && !t.released then .fault 7 0
      else .ok (s.modThread x (fun t => { t with st := .ending })) []
    | .starter _ => .ok s [])

/-- rdtime: NS[39:0] of squad time, of gun time on a Starter core (R247). -/
def execOpRdtime (h : Hdr) (rd : BitVec 5) (s : State) : Host.Outcome State Fault Refusal :=
  s.runInstr h .plain (fun s _ =>
    let (t, s) := s.readTime h.core
    .ok s (plainResult rd t))

/-- nop: does nothing (R246). -/
def execOpNop (h : Hdr) (s : State) : Host.Outcome State Fault Refusal :=
  s.alu h (fun _ => [])

/-- A control register of Table 8.3; none for an undefined number. PRIO and SELF of a Starter core are free values (log 16). -/
def State.readCr (s : State) (r : CoreRef) (c : Ctx) : Nat → Option (W40 × State)
  | 0 => some (BitVec.ofNat 40 c.flags.toNat, s)
  | 1 => some (BitVec.ofNat 40 (2 * nat01 c.reserved.isSome + nat01 c.trapFill), s)
  | 2 => some (BitVec.ofNat 40 c.lsmem, s)
  | 3 => some (BitVec.ofNat 40 c.depth, s)
  | 4 => some (BitVec.ofNat 40 (min c.issued 0xFFFFFFFF), s)
  | 5 => match r with
    | .strider x => some (BitVec.ofNat 40 (s.thread x).prio, s)
    | .starter _ => let (n, s) := s.draw
      some (BitVec.ofNat 40 (n % 4), s)
  | 6 => match r with
    | .strider x => some (BitVec.ofNat 40 (x / 128 * 256 + x / 8 % 16 * 16 + x % 8), s)
    | .starter _ => let (n, s) := s.draw
      some (BitVec.ofNat 40 (n % 2 ^ 12), s)
  | _ => none

/-- rdcr: reads a control register; an undefined number faults ILLEGAL (R228). -/
def execOpRdcr (h : Hdr) (rd n : BitVec 5) (s : State) : Host.Outcome State Fault Refusal :=
  s.runInstr h .plain (fun s c => match s.readCr h.core c n.toNat with
    | some (v, s) => .ok s (plainResult rd v)
    | none => .fault 1 0)

/-- wrcr: writes FLAGS or LSMEM, at distance 3; any other number faults ILLEGAL (R228, R233). -/
def execOpWrcr (h : Hdr) (n ra : BitVec 5) (s : State) : Host.Outcome State Fault Refusal :=
  s.runInstr h .plain (fun s c =>
    if n.toNat = 0 then .ok s [(.flags, 0x1F00#40 ||| (c.r ra &&& 0x1F#40), 3)]
    else if n.toNat = 2 then .ok s [(.lsmem, c.r ra, 3)]
    else .fault 1 0)

/-- lsbot: takes the oldest link-stack entry; with none, LINK_STACK (R244). -/
def execOpLsbot (h : Hdr) (rd : BitVec 5) (s : State) : Host.Outcome State Fault Refusal :=
  s.runInstr h .plain (fun s c => match c.link.getLast? with
    | some a => .ok (s.setCtx h.core { c with link := c.link.dropLast }) (plainResult rd (wordOf a))
    | none => .fault 4 0)

/-- lsins: inserts a value as the oldest entry; with eight, LINK_STACK (R244). -/
def execOpLsins (h : Hdr) (ra : BitVec 5) (s : State) : Host.Outcome State Fault Refusal :=
  s.runInstr h .plain (fun s c =>
    if c.link.length ≥ 8 then .fault 4 0
    else .ok (s.setCtx h.core { c with link := c.link ++ [addrOf (c.r ra)] }) [])

/-! ## Helper registers (R200, R246) -/

/-- Whether any of n helper registers from b on is pending. -/
def Ctx.pendingIn (c : Ctx) (b n : Nat) : Bool := (List.range n).any (fun k => c.pendH.contains (b + k))

/-- mth: moves into a helper register, stalling long while it is pending (R246). -/
def execOpMth (h : Hdr) (hn : BitVec 4) (ra : BitVec 5) (s : State) : Host.Outcome State Fault Refusal :=
  s.runInstr h .plain (fun s c =>
    if c.pendingIn hn.toNat 1 then .wait (.regs [hn.toNat])
    else .ok (s.setCtx h.core (c.setH hn.toNat (c.r ra))) [])

/-- mfh: reads a helper register, stalling long while it is pending (R246). -/
def execOpMfh (h : Hdr) (rd : BitVec 5) (hn : BitVec 4) (s : State) : Host.Outcome State Fault Refusal :=
  s.runInstr h .plain (fun s c =>
    if c.pendingIn hn.toNat 1 then .wait (.regs [hn.toNat])
    else .ok s (plainResult rd (c.rh hn.toNat)))

/-- hwait: stalls long until n helper registers are not pending (R246). -/
def execOpHwait (h : Hdr) (hb : BitVec 4) (n : BitVec 3) (s : State) : Host.Outcome State Fault Refusal :=
  s.runInstr h .plain (fun s c =>
    if hb.toNat + n.toNat > 16 then .fault 1 0
    else if c.pendingIn hb.toNat n.toNat then .wait (.regs ((List.range n.toNat).map (hb.toNat + ·)))
    else .ok s [])

/-! ## Waits that end (R201, R202, R205) -/

/-- STOPWATCH_EXPIRY (R201): squad time has reached C: the thread is READY. -/
def execStopwatchExpiry (tid : Nat) (s : State) : Host.Outcome State Fault Refusal :=
  match (s.thread tid).st, (s.thread tid).wait with
  | .waiting, .stopwatch c =>
    let (now, s) := s.readTime (.strider tid)
    .next (if stopwatchAhead c now = 0 then s.stampReady tid else s)
  | _, _ => .next s

/-- A write of 4014h[s] (R202, R354): 1 sets every event latch of the squad, wakes its waiters, and ends the waits of the
Starter cores. -/
def applySquadEvent (i v : Nat) (s : State) : State × Result :=
  if v = 0 then (s, .ok)
  else
    let s := (List.range 128).foldl (fun s k =>
      let x := 128 * i + k
      match (s.thread x).st, (s.thread x).wait with
      | .waiting, .event => s.stampReady x
      | _, _ => s.modThread x (fun t => { t with latch := true })) s
    ((List.range 4).foldl State.eventCore s, .ok)

/-- SQUAD_EVENT: a write of 4014h[s]. -/
def execSquadEvent (p : Principal) (i v : Nat) (s : State) : Host.Outcome State Fault Refusal :=
  .next (s.writeNumCmd p Obj.SQUAD_EVENT i v (applySquadEvent i))

end Sys2Proof.Machine
end

