-- ==== Sys2Proof/Machine/Tries.lean ====
section
/-! DEFINITION. The route tries (R166 to R174), the audit and the restoring of table entries (R188, R189). The entries of a trie
follow from its prefix set and stride plan under R170, so a trie is held as these. -/

namespace Sys2Proof.Machine

/-! ## The content of a trie (R167, R170) -/

/-- The key width of a trie. -/
def Trie.width (t : Trie) : Nat := if t.wide then 128 else 32

/-- S(d): the bits consumed before level d. -/
def Trie.before (t : Trie) (d : Nat) : Nat := (t.strides.take d).sum

/-- The level a prefix is held at: S(d) < L ≤ S(d + 1), and level 0 for length 0. -/
def Trie.levelOf (t : Trie) (plen : Nat) : Nat :=
  ((List.range t.strides.length).find? (fun d => plen ≤ t.before (d + 1))).getD t.strides.length

/-- The first n bits of a key or of prefix bits of width w. -/
def topBits (w n v : Nat) : Nat := v / 2 ^ (w - n)

/-- Whether a prefix covers a key. -/
def covers (w : Nat) (p : TriePrefix) (key : Nat) : Bool := topBits w p.plen p.bits == topBits w p.plen key

/-- The longest of some prefixes. -/
def longest (ps : List TriePrefix) : Option TriePrefix := leastBy (fun p => 128 - p.plen) ps

/-- The nodes of a trie, as level and path. -/
def Trie.nodes (t : Trie) : List (Nat × Nat) :=
  (List.range t.strides.length).flatMap (fun d =>
    let b := t.before d
    if d = 0 then [(0, 0)]
    else ((t.prefixes.filter (fun p => b < p.plen)).map (fun p => (d, topBits t.width b p.bits))).eraseDups)

/-- The entries a list of nodes takes in a stage. -/
def Trie.entriesIn (t : Trie) (ns : List (Nat × Nat)) (stage : Nat) : Nat :=
  (ns.filter (fun (e : Nat × Nat) => e.1 == stage)).length * 2 ^ (t.strides.getD stage 0)

/-- The cost of a trie (R171). -/
def Trie.cost (t : Trie) : Nat := ((List.range 12).map (t.entriesIn t.nodes)).sum

/-- The number of a node in `places`. -/
def nodeKey (n : Nat × Nat) : Nat := n.2 * 16 + n.1

/-- ROOT: the first entry of the root node in stage 0. -/
def Trie.root (t : Trie) : Nat := tabGet t.places 0 0

/-- Entry i of the node of level d with a path, as Table 6.3 lays it out and R170 fills it: what it covers are the keys that begin with
the path and i. -/
def Trie.entryOf (t : Trie) (d path i : Nat) : Nat :=
  let v := path * 2 ^ (t.strides.getD d 0) + i
  let next := t.before (d + 1)
  let here := longest (t.prefixes.filter (fun p => t.levelOf p.plen == d && topBits t.width p.plen p.bits == v / 2 ^ (next - p.plen)))
  let child := t.prefixes.any (fun p => next < p.plen && topBits t.width next p.bits == v)
  packFields ([(1, nat01 child)] ++ (match here with
    | some p => [(1, 1), (8, p.plen)]
    | none => [(1, 0), (8, 0)]) ++ [(22, if child then tabGet t.places (nodeKey (d + 1, v)) 0 else 0),
      (32, (here.map TriePrefix.value).getD 0)])

/-- The entry that a trie has written at a number of stage d; 0 where no node of it lies. -/
def Trie.entryAt (t : Trie) (d n : Nat) : Nat :=
  match t.places.find? (fun e => e.1 % 16 == d && e.2 ≤ n && n < e.2 + 2 ^ (t.strides.getD d 0)) with
  | some (k, first) => t.entryOf d (k / 16) (n - first)
  | none => 0

/-- The entries that a lookup of a key reads from level d on (R169): stage, number and value of each. -/
def Trie.reads (t : Trie) (key : Nat) : Nat → Nat → Nat → List (Nat × Nat × Nat)
  | 0, _, _ => []
  | fuel + 1, d, node =>
    let a := node + topBits t.width (t.before (d + 1)) key % 2 ^ (t.strides.getD d 0)
    let e := t.entryAt d a
    (d, a, e) :: (if bit e 63 then t.reads key fuel (d + 1) (bits e 53 32) else [])

/-- The result of a lookup, PLEN and VALUE: that of the last entry read that carries one, or a miss. -/
def Trie.lookup (t : Trie) (key : Nat) : Option (Nat × Nat) :=
  ((t.reads key t.strides.length 0 t.root).reverse.find? (fun e => bit e.2.2 62)).map (fun e => (bits e.2.2 61 54, bits e.2.2 31 0))

/-- The descriptor of a trie (Table 6.2). -/
def Trie.desc (t : Trie) : Nat :=
  packFields ([(1, 1), (1, nat01 t.wide), (2, 0), (4, t.strides.length), (8, t.owner), (26, 0), (22, t.root), (16, 0)] ++
    (List.range 12).map (fun d => (4, t.strides.getD d 1 - 1)))

/-! ## Updates (R170 to R174) -/

/-- The nodes that a change from one prefix set to another touches: those that hold a changed prefix, and their parents where a
node comes or goes. -/
def touched (old new : Trie) : List (Nat × Nat) :=
  let ps := old.prefixes.filter (fun p => !new.prefixes.contains p) ++ new.prefixes.filter (fun p => !old.prefixes.contains p)
  let held := ps.map (fun p => let d := new.levelOf p.plen
    (d, topBits new.width (new.before d) p.bits))
  let gone := (old.nodes.filter (fun n => !new.nodes.contains n) ++ new.nodes.filter (fun n => !old.nodes.contains n)).filterMap
    (fun (n : Nat × Nat) => if n.1 = 0 then none else some (n.1 - 1, n.2 / 2 ^ (new.strides.getD (n.1 - 1) 0)))
  held ++ gone

/-- Whether node n lies on the path of node m. -/
def Trie.onPath (t : Trie) (n m : Nat × Nat) : Bool :=
  n.1 ≤ m.1 && m.2 / 2 ^ (t.before m.1 - t.before n.1) == n.2

/-- The nodes that copy-on-write replaces of a trie: from the lowest node on the path of every changed entry down (R173). -/
def copied (t : Trie) (ch : List (Nat × Nat)) : List (Nat × Nat) :=
  let common := t.nodes.filter (fun n => ch.all (t.onPath n))
  let low := (common.map Prod.fst).foldl max 0
  t.nodes.filter (fun n => low ≤ n.1 && ch.any (t.onPath n))

/-- The trie that stands once every accepted job has completed. -/
def State.trieAfter (s : State) (n : Nat) : Option Trie :=
  match (s.tables.jobs.filter (fun (e : Nat × TrieJob) => e.2.n == n)).getLast? with
  | some (_, j) => j.result
  | none => tabGet? s.tables.tries n

/-- The nodes a job builds, and those it will replace. -/
def jobNodes (load : Bool) (old new : Option Trie) : List (Nat × Nat) × List (Nat × Nat) :=
  match load, old, new with
  | false, some o, some n => let ch := touched o n
    if ch.isEmpty then ([], []) else (copied n ch, copied o ch)
  | _, o, n => ((n.map Trie.nodes).getD [], (o.map Trie.nodes).getD [])

/-- The entries of a stage (R166). -/
def State.stageSize (s : State) (d : Nat) : Nat :=
  32768 * ((s.blb Obj.BANK_MAP).filter (fun b => b.toNat == d)).length

/-- The entries of a trie's nodes in a stage, each as first entry and size. -/
def Trie.ranges (t : Trie) (d : Nat) : List (Nat × Nat) :=
  (t.places.filter (fun e => e.1 % 16 == d)).map (fun e => (e.2, 2 ^ (t.strides.getD d 0)))

/-- What of a stage is in use: nodes of the tries, nodes that jobs have built, and nodes not yet free. -/
def State.stageUse (s : State) (d : Nat) : List (Nat × Nat) :=
  s.tables.tries.flatMap (fun e => e.2.ranges d) ++
  s.tables.jobs.flatMap (fun e => match e.2.result with
    | some t => t.ranges d
    | none => []) ++
  (s.tables.freeing.filter (fun x => x.stage == d)).map (fun x => (x.first, x.size))

/-- The entries of a stage that a job has built and not yet flipped to. -/
def TrieJob.entriesIn (j : TrieJob) (d : Nat) : Nat := match j.result with
  | some t => t.entriesIn j.built d
  | none => 0

/-- The free entries of a stage (3202h). -/
def State.stageFree (s : State) (d : Nat) : Nat :=
  s.stageSize d - (s.tables.tries.map (fun e => e.2.entriesIn e.2.nodes d)).sum -
    (s.tables.jobs.map (fun e => e.2.entriesIn d)).sum - ((s.tables.freeing.filter (fun x => x.stage == d)).map OldNode.size).sum

/-- 3212h: the cost of a trie, with the nodes that its batches have built and those not yet free (R171). -/
def State.trieCost (s : State) (n : Nat) : Nat :=
  ((tabGet? s.tables.tries n).map Trie.cost).getD 0 +
  ((s.tables.jobs.filter (fun e => e.2.n == n)).map (fun e => ((List.range 12).map e.2.entriesIn).sum)).sum +
  ((s.tables.freeing.filter (fun x => x.n == n)).map OldNode.size).sum

/-- The first place from slot k on, a multiple of a node's size, that meets nothing in use. -/
def seekSlot (used : List (Nat × Nat)) (size slots : Nat) : Nat → Nat → Option Nat
  | 0, _ => none
  | fuel + 1, k =>
    let a := k % slots * size
    if used.any (fun e => decide (a < e.1 + e.2) && decide (e.1 < a + size)) then seekSlot used size slots fuel (k + 1) else some a

/-- Places the nodes that a job builds: which free entries of its stage a node takes is a free value (log 141). -/
def State.placeNodes (s : State) (t : Trie) (ns : List (Nat × Nat)) : Tab Nat × State :=
  ns.foldl (fun (y : Tab Nat × State) n =>
    let size := 2 ^ (t.strides.getD n.1 0)
    let used := s.stageUse n.1 ++ ({ t with places := y.1 } : Trie).ranges n.1
    let slots := s.stageSize n.1 / size
    let (r, s) := y.2.draw
    (tabSet y.1 (nodeKey n) ((seekSlot used size slots slots r).getD (r % max 1 (s.stageSize n.1))), s)) ([], s)

/-- A trie with its nodes where they are: those built anew, and those it shares with the trie before it. -/
def Trie.placed (t : Trie) (old new : Tab Nat) : Trie :=
  { t with places := t.nodes.foldl (fun m n => match tabGet? new (nodeKey n) <|> tabGet? old (nodeKey n) with
      | some a => tabSet m (nodeKey n) a
      | none => m) [] }

/-- A prefix record of Table 6.4: OP and prefix; none for a bad field. Its reserved bytes are ignored (R4). -/
def prefixOf (wide : Bool) (b : Blob) : Option (Nat × TriePrefix) :=
  let w := if wide then 128 else 32
  let op := beAt b 0 1
  let plen := beAt b 1 1
  let v := if wide then beAt b 8 16 else beAt b 20 4
  if (op = 1 || op = 2) && plen ≤ w && (wide || beAt b 8 12 = 0) && v % 2 ^ (w - plen) = 0 then
    some (op, ⟨plen, v, beAt b 4 4⟩)
  else none

/-- The records of a load or batch from byte `off` on; none where one is bad or two name one prefix. -/
def prefixesOf (wide : Bool) (b : Blob) (off n : Nat) : Option (List (Nat × TriePrefix)) :=
  let rs := (List.range n).map (fun k => prefixOf wide ((b.drop (off + 24 * k)).take 24))
  let ps := rs.filterMap id
  let names := ps.map (fun (e : Nat × TriePrefix) => (e.2.plen, e.2.bits))
  if ps.length = n && names.eraseDups.length = n then some ps else none

/-- Accepts a job if its new nodes fit, and builds them (R171, R173, R174). -/
def State.acceptJob (s : State) (n : Nat) (load : Bool) (result : Option Trie) : State × Result :=
  let old := s.trieAfter n
  let built := (jobNodes load old result).1
  let fits := match result with
    | some t => (List.range 12).all (fun d => t.entriesIn built d ≤ s.stageFree d)
    | none => true
  if !fits then (s, .overcommit)
  else if s.tables.jobs.length ≥ 4 then (s, .busy)
  else
    let add := fun (s : State) (r : Option Trie) =>
      { s with tables.jobs := s.tables.jobs ++ [(n, ⟨s.tables.jobNo, n, r, load, built⟩)], tables.jobNo := s.tables.jobNo + 1 }
    match result with
    | none => (add s none, .ok)
    | some t =>
      let (new, s) := s.placeNodes t built
      (add s (some (t.placed ((old.map Trie.places).getD []) new)), .ok)

/-- A load of 3211h[n] (R172), ROOT and reserved bits ignored. -/
def applyTrieLoad (n : Nat) (b : Blob) (s : State) : State × Result :=
  let d := beAt b 0 16
  let cnt := beAt b 16 4
  if b.length < 20 || b.length != 20 + 24 * cnt then (s, .range)
  else if !bit d 127 then (if cnt = 0 then s.acceptJob n true none else (s, .range))
  else
    let wide := bit d 126
    let levels := bits d 123 120
    let strides := (List.range levels).map (fun k => bits d (47 - 4 * k) (44 - 4 * k) + 1)
    let clean := (List.range 12).all (fun k => k < levels || bits d (47 - 4 * k) (44 - 4 * k) == 0)
    if !clean || levels = 0 || 12 < levels || (if wide then 128 else 32) < strides.sum then (s, .range)
    else match prefixesOf wide b 20 cnt with
      | none => (s, .range)
      | some ps =>
        if ps.any (fun (e : Nat × TriePrefix) => e.1 != 1 || strides.sum < e.2.plen) then (s, .range)
        else s.acceptJob n true (some ⟨wide, bits d 119 112, strides, [], ps.map Prod.snd⟩)

/-- A batch of 3210h (R172). -/
def applyTrieBatch (b : Blob) (s : State) : State × Result :=
  let n := beAt b 0 1
  let cnt := beAt b 2 2
  match s.trieAfter n with
  | none => (s, .range)
  | some t =>
    if 64 ≤ n || cnt = 0 || 4096 < cnt || b.length != 8 + 24 * cnt then (s, .range)
    else match prefixesOf t.wide b 8 cnt with
      | none => (s, .range)
      | some ps =>
        let has := fun (p : TriePrefix) => t.prefixes.any (fun q => q.plen == p.plen && q.bits == p.bits)
        if ps.any (fun (e : Nat × TriePrefix) => t.strides.sum < e.2.plen || (e.1 == 2 && !has e.2)) then (s, .range)
        else
          let kept := t.prefixes.filter (fun q => !ps.any (fun (e : Nat × TriePrefix) => e.2.plen == q.plen && e.2.bits == q.bits))
          let new := { t with prefixes := kept ++ (ps.filter (fun (e : Nat × TriePrefix) => e.1 == 1)).map Prod.snd }
          s.acceptJob n false (some new)

/-- Keeps the former reply where a write has been accepted as a load or batch: its reply is sent after the flip (R173). -/
def State.deferFlip (s t : State) : State := if s.tables.jobNo < t.tables.jobNo then { t with reply := s.reply } else t

/-- TRIE_LOAD: a write of 3211h[n]. -/
def execTrieLoad (p : Principal) (i : Nat) (b : Blob) (s : State) : Host.Outcome State Fault Refusal :=
  .next (s.deferFlip (s.writeBlobCmd p Obj.TRIE_LOAD i b (applyTrieLoad i)))

/-- TRIE_BATCH: a write of 3210h. -/
def execTrieBatch (p : Principal) (b : Blob) (s : State) : Host.Outcome State Fault Refusal :=
  .next (s.deferFlip (s.writeBlobCmd p Obj.TRIE_BATCH 0 b applyTrieBatch))

/-- The flip of the oldest accepted load or batch (R173): the new nodes stand, and those they replace are freed later. -/
def State.flip (s : State) (n : Nat) (j : TrieJob) (rest : List (Nat × TrieJob)) : State :=
  let old := tabGet? s.tables.tries n
  let freed := match old with
    | some t => (jobNodes j.load old j.result).2.map (fun x =>
        (⟨s.time.gun, n, x.1, tabGet t.places (nodeKey x) 0, 2 ^ (t.strides.getD x.1 0)⟩ : OldNode))
    | none => []
  let s : State := { s with
    tables.jobs := rest
    tables.freeing := s.tables.freeing ++ freed
    tables.tries := match j.result with
      | some t => tabSet s.tables.tries n t
      | none => tabDel s.tables.tries n }
  s.setCfg Obj.TRIE_FLIPS n ((s.cfg Obj.TRIE_FLIPS n + 1) % 2 ^ 32)

/-- NODE_FREE (R173): nodes replaced at least 64 table cycles ago are freed. -/
def execNodeFree (s : State) : Host.Outcome State Fault Refusal :=
  .next { s with tables.freeing := s.tables.freeing.filter (fun x => s.time.gun * 9 < x.since * 9 + 320 * ns) }

/-- A write of 3201h (R166). -/
def applyBankMap (b : Blob) (s : State) : State × Result :=
  if b.length != 128 || b.any (fun x => x.toNat > 11) then (s, .range)
  else if !s.tables.tries.isEmpty || !s.tables.jobs.isEmpty then (s, .state)
  else (s.writeBlob Obj.BANK_MAP 0 b, .ok)

/-- BANK_MAP: a write of 3201h. -/
def execBankMap (p : Principal) (b : Blob) (s : State) : Host.Outcome State Fault Refusal :=
  .next (s.writeBlobCmd p Obj.BANK_MAP 0 b applyBankMap)

/-! ## Shadows and the audit (R188, R189) -/

/-- The code of a shadowed table, in the audit's order. -/
def ShadowTable.code : ShadowTable → Nat
  | .trieDesc => 0 | .trieEntry => 1 | .slabTable => 2 | .signalMap => 3 | .moveList => 4 | .maskSet => 5 | .ruleEntry => 6
  | .parseGraph => 7 | .edit => 8 | .member => 9

/-- The audit's number of trie entry n of stage d (log 142). -/
def trieEntryNo (d n : Nat) : Nat := d * 2 ^ 22 + n

/-- LKP TRIE (R169, R252): the two result registers. The entry that a lookup finds uncorrectable is one of those it reads, a free value;
it is invalidated, and a lookup that reaches an invalid entry misses (R189). -/
def State.lkpTrie (s : State) (tenant n key : Nat) (narrow : Bool) (e : Ecc) : List Nat × State :=
  let s := s.count Obj.TRIE_LOOKUPS n
  match tabGet? s.tables.tries n with
  | none => ([0, 0], s)
  | some t =>
    let rs := t.reads key t.strides.length 0 t.root
    if s.tables.invalid.contains (0, n) then ([0, 0], s)
    else if tenant != 0 && t.owner != 0 && t.owner != tenant then ([2 ^ 38, 0], s.count Obj.TRIE_VIOLATIONS n)
    else if t.wide == narrow then ([2 ^ 36, 0], s)
    else if e == .uncorrectable then
      let (r, s) := s.draw
      let x := rs.getD (r % max 1 rs.length) (0, 0, 0)
      ([2 ^ 37, 0], (s.sramEvent 24 (trieEntryNo x.1 x.2.1) e).invalidate 1 (trieEntryNo x.1 x.2.1))
    else
      let s := s.sramEvent 24 n e
      if rs.any (fun x => s.tables.invalid.contains (1, trieEntryNo x.1 x.2.1)) then ([0, 0], s)
      else match t.lookup key with
        | some p => ([2 ^ 39 + p.1 * 2 ^ 28, p.2], s)
        | none => ([0, 0], s)

/-- DETAIL of an audit record (Table 14.6). -/
def auditDetail (k n : Nat) : Nat := k * 2 ^ 56 + n

/-- The end of the audit's pass over a table: if it met no mismatch, the table's poisoned shadows are rebuilt from the live entries, and
those left invalid for their sake are valid again. -/
def State.auditLeaves (s : State) : State :=
  let k := s.tables.audit.table
  if s.tables.audit.mismatch then s
  else { s with
    tables.invalid := s.tables.invalid.filter (fun e => !(e.1 == k && s.tables.shadowBad.contains e))
    tables.shadowBad := s.tables.shadowBad.filter (fun e => e.1 != k) }

/-- The audit moves to an entry: to another table once it is through with the one before. -/
def State.auditAt (s : State) (k n : Nat) : State :=
  let s := if s.tables.audit.table = k then s else { s.auditLeaves with tables.audit := { s.tables.audit with table := k, mismatch := false } }
  { s with tables.audit.entry := n + 1 }

/-- The last member word ends a pass over every table (3241h), which a restarted Starter waits for (R432). -/
def State.auditDone (s : State) (k n : Nat) : State :=
  if k = 9 && n = 65535 then
    let s := s.auditLeaves
    { s with
      starter.rebuilding := false
      tables.audit := ⟨9, 65536, false, s.time.gun, (s.time.gun - s.tables.audit.since) / (1000 * ns) % 2 ^ 32⟩ }
  else s

/-- The SRAM unit that holds a shadowed table (R416); member words are with the rule tables (log 161). -/
def auditUnit (k : Nat) : Nat := if k < 2 then 24 else if k < 5 then 27 else 26

/-- What the audit makes of one entry (Table 6.8). -/
def State.auditEntry (s : State) (k n : Nat) (e : Ecc) (differs poisoned : Bool) : State :=
  let s := s.sramEvent (auditUnit k) n e
  if e == .uncorrectable then s.invalidate k n
  else if poisoned || s.tables.shadowBad.contains (k, n) then
    { s with tables.shadowBad := if s.tables.shadowBad.contains (k, n) then s.tables.shadowBad else (k, n) :: s.tables.shadowBad }.count
      Obj.AUDIT_POISON_SKIPS
  else if differs then
    ({ s with tables.audit.mismatch := true }.count Obj.AUDIT_MISMATCHES).logError 3 1 2 none Obj.AUDIT_MISMATCHES 0 (auditDetail k n)
  else s

/-- Whether an entry follows where the audit stands, in the order of R188; after the last table it starts again. -/
def Audit.follows (a : Audit) (k n : Nat) : Bool := a.table < k || (a.table == k && a.entry ≤ n) || a.table == 9

/-- AUDIT_COMPARE (Table 6.8): a live entry is compared with its shadow. The model's tables hold the shadow's values (log 55). A trie table
with a load or batch in progress is skipped; without DRAM the audit is stopped (R431). -/
def execAuditCompare (tbl : ShadowTable) (n : Nat) (e : Ecc) (differs poisoned : Bool) (s : State) :
    Host.Outcome State Fault Refusal :=
  let k := ShadowTable.code tbl
  if s.noDram || !s.tables.audit.follows k n || ((k = 0 || k = 1) && !s.tables.jobs.isEmpty) then .next s
  else .next (((s.auditAt k n).auditEntry k n e differs poisoned).auditDone k n)

/-- TABLE_ENTRY_RESTORE (Table 6.8): an invalidated entry is restored from its shadow, or left invalid where that is poisoned, until its
table's shadows are rebuilt. -/
def execTableEntryRestore (tbl : ShadowTable) (n : Nat) (poisoned : Bool) (s : State) : Host.Outcome State Fault Refusal :=
  let k := ShadowTable.code tbl
  if !s.tables.invalid.contains (k, n) || s.tables.shadowBad.contains (k, n) then .next s
  else if poisoned then
    let s := { s with tables.shadowBad := (k, n) :: s.tables.shadowBad }
    .next ((s.count Obj.TABLE_ENTRIES_LOST).logError 4 2 2 none Obj.TABLE_ENTRIES_LOST 0 (auditDetail k n))
  else
    let s := { s with tables.invalid := s.tables.invalid.filter (· != (k, n)) }
    .next ((s.count Obj.TABLE_ECC_REPAIRS).logError 2 1 0 none Obj.TABLE_ECC_REPAIRS 0 (auditDetail k n))

end Sys2Proof.Machine
end

