-- ==== Sys2Proof/Machine/Helpers.lean ====
section
/-! DEFINITION. The helper commands (R204, R205, R212 to R214, R219, R249 to R260, R306). A command takes its effect when it
issues; its result registers are filled when the result returns. Helpers by their codes: 0 LKP, 1 XCH, 2 BUF, 3 ORD, 4 CRC, 5 ATM,
6 SQD. -/

namespace Sys2Proof.Machine

/-! ## Issue of a command -/

/-- Whether who executes reaches a helper: init and test runs have no ORD (R222, R367), a core has ATM, BUF and CRC (R354). -/
def State.helperReach (s : State) (helper : Nat) : CoreRef → Bool
  | .strider x => helper != 3 || (match (s.thread x).kind with
    | .init | .test _ => false
    | _ => true)
  | .starter _ => [2, 4, 5].contains helper

/-- The decoder's answer with the checks of R250 and R357. -/
def State.helperEnc (s : State) (h : Hdr) (x : HArgs) (helper : Nat) (nops nrs : List Nat) : Enc :=
  if h.enc != .ok then h.enc
  else if x.hb.toNat + x.nop.toNat > 16 || x.hd.toNat + x.nr.toNat > 16 then .illegal
  else if s.inUser h.core && helper != 4 then .privileged
  else if !nops.contains x.nop.toNat || !nrs.contains x.nr.toNat || !s.helperReach helper h.core then .helper
  else .ok

/-- Whether the command queue of a Strider for a helper holds 8 commands (R204). -/
def State.helperFull (s : State) (helper : Nat) : CoreRef → Bool
  | .strider x => 8 ≤ ((striderThreads x).map (fun y =>
      ((s.thread y).ctx.results.filter (fun r => r.helper == helper)).length)).sum
  | .starter _ => false

/-- Registers b to b + n − 1. -/
def hregs (b n : Nat) : List Nat := (List.range n).map (b + ·)

/-- Marks result registers pending and notes the result that is due (R204, R251). -/
def Ctx.expect (c : Ctx) (helper hd nr : Nat) (vs : List Nat) (token : Bool) (now : Time) : Ctx :=
  if nr = 0 then c
  else { c with
    pendH := c.pendH ++ hregs hd nr
    results := c.results ++ [⟨hd, helper, hd, (List.range nr).map (fun k => BitVec.ofNat 40 (vs.getD k 0)), token, now⟩] }

/-- What a helper command does once its registers are not pending and its queue has room (R204): `cmd` from the operands. -/
def State.issueCmd (s : State) (h : Hdr) (x : HArgs) (helper : Nat) (c : Ctx) (cmd : State → List Nat → Did) : Did :=
  let ops := hregs x.hb.toNat x.nop.toNat
  let res := hregs x.hd.toNat x.nr.toNat
  if (ops ++ res).any c.pendH.contains then .wait (.regs (ops ++ res))
  else if s.helperFull helper h.core then .wait (.queue helper)
  else cmd s (ops.map (fun n => (c.rh n).toNat))

/-- The result registers of an issued command are pending. -/
def State.awaits (s : State) (h : Hdr) (x : HArgs) (helper : Nat) (vs : List Nat) (token : Bool := false) : Did :=
  .ok (s.setCtx h.core ((s.ctx h.core).expect helper x.hd.toNat x.nr.toNat vs token s.time.gun)) []

/-- A helper command with its allowed operand and result counts; `cmd` answers the result values from the operands, none where the
thread has released its frame before. -/
def State.helperInstr (s : State) (h : Hdr) (x : HArgs) (helper : Nat) (nops nrs : List Nat)
    (cmd : State → List Nat → Option (List Nat × State)) (token : Bool := false) : Host.Outcome State Fault Refusal :=
  s.runInstr { h with enc := s.helperEnc h x helper nops nrs } .plain (fun s c =>
    s.issueCmd h x helper c (fun s v => match cmd s v with
      | none => .fault 8 0
      | some (vs, s) => s.awaits h x helper vs token)) helper

/-- An operand. -/
def op (xs : List Nat) (k : Nat) : Nat := xs.getD k 0

/-! ## Results that return -/

/-- Whether who executes is ENDING, so that its results are discarded (R205). -/
def State.discards (s : State) : CoreRef → Bool
  | .strider x => (s.thread x).st == .ending
  | .starter _ => false

/-- Fills and clears the result registers of one command (R251). -/
def Ctx.fill (c : Ctx) (r : InFlight) : Ctx :=
  let c := { c with
    pendH := c.pendH.filter (fun n => !(hregs r.hd r.values.length).contains n)
    results := c.results.erase r }
  (List.range r.values.length).foldl (fun c k => c.setH (r.hd + k) (r.values.getD k 0)) c

/-- A result returns. -/
def State.giveResult (s : State) (core : CoreRef) (r : InFlight) : State :=
  let c := s.ctx core
  let s := s.setCtx core (if s.discards core then { c with results := c.results.erase r } else c.fill r)
  match core with
  | .strider x => s.wakeHelpers x r.helper
  | .starter _ => s

/-- Whether every earlier frame of the thread's order domain has been handed over or dropped (R214). -/
def State.tokenDue (s : State) : CoreRef → Bool
  | .strider x => match (s.thread x).fid with
    | none => true
    | some f => match s.cardOf? f, (s.frame? f).bind Frame.seqNo with
      | some c, some n => n ≤ (s.od c.od).hand
      | _, _ => true
  | .starter _ => true

/-- HELPER_RESULT (R204): the result with a tag returns; a token's only once it is due. -/
def execHelperResult (core : CoreRef) (tag : Nat) (s : State) : Host.Outcome State Fault Refusal :=
  match (s.ctx core).results.find? (fun r => r.tag == tag) with
  | none => .next s
  | some r => .next (if r.token && !s.tokenDue core then s else s.giveResult core r)

/-- A token whose result has not come within 4022h (R214). -/
def State.tokenLate (s : State) (tid : Nat) (r : InFlight) : Bool :=
  r.token && !s.tokenDue (.strider tid) && r.since + s.cfg Obj.TOKEN_LIMIT * 1000 * ns ≤ s.time.gun

/-- TOKEN_TIMEOUT (R214): 4022h has passed: the token returns with TIMEOUT, which 401Ah counts. -/
def execTokenTimeout (tid : Nat) (s : State) : Host.Outcome State Fault Refusal :=
  match (s.thread tid).ctx.results.find? (s.tokenLate tid) with
  | none => .next s
  | some r =>
    let late : InFlight := { r with values := r.values.map (fun _ => BitVec.ofNat 40 (2 ^ 39)) }
    let s := s.modThread tid (fun t => { t with ctx := { t.ctx with
      results := t.ctx.results.map (fun q => if q == r then late else q) } })
    .next ((s.count Obj.TOKEN_TIMEOUTS).giveResult (.strider tid) late)

/-- LOCAL_STORE_REWRITE (R219): a word of a local store after an uncorrectable error: the image's text from the Starter's copy, the
pinned region from its own, which leaves the contents that every local store shares, zero elsewhere. -/
def execLocalStoreRewrite (sq idx addr : Nat) (s : State) : Host.Outcome State Fault Refusal :=
  let a := addr / 8 * 8
  if a < 0x2000 || 0x10000 ≤ a then .next s
  else
    let base := (16 * sq + idx) * 65536
    let byte (k : Nat) : Byte := match (s.squad sq).image with
      | some i => if i.base ≤ k then i.text.getD (k - i.base) 0 else 0
      | none => 0
    .next { s with strider.lstore := memWriteN s.strider.lstore (base + a) ((List.range 8).map (fun k => byte (a + k))) }

/-! ## LKP (Table 8.20, R252) -/

/-- The tenant of the frame a thread runs; none in LOADING, in TEST and on a core. -/
def State.runTenant (s : State) : CoreRef → Option Nat
  | .strider x => ((s.thread x).fid.bind s.cardOf?).map Card.tenant
  | .starter _ => none

/-- The same, 0 where there is no frame. -/
def State.lkpTenant (s : State) (r : CoreRef) : Nat := (s.runTenant r).getD 0

/-- The frame of who executes. -/
def State.runFid (s : State) : CoreRef → Option Nat
  | .strider x => (s.thread x).fid
  | .starter _ => none

/-- LKP TRIE. -/
def execOpLkpTrie (h : Hdr) (x : HArgs) (e : Ecc) (s : State) : Host.Outcome State Fault Refusal :=
  s.helperInstr h x 0 [1, 4] [2] (fun s v =>
    let narrow := x.nop.toNat == 1
    let key := if narrow then bits (op v 0) 31 0
      else bits (op v 0) 31 0 * 2 ^ 96 + bits (op v 1) 31 0 * 2 ^ 64 + bits (op v 2) 31 0 * 2 ^ 32 + bits (op v 3) 31 0
    some (s.lkpTrie (s.lkpTenant h.core) (bits (op v 0) 37 32) key narrow e))

/-- The key of operands Hb and Hb+1; TENANT is replaced by the frame's except in frames of tenant 0. -/
def State.learnKeyOf (s : State) (r : CoreRef) (v : List Nat) : LearnKey :=
  let t := s.lkpTenant r
  { ktype := bits (op v 0) 39 36, tenant := if t = 0 then bits (op v 0) 35 28 else t, fid := bits (op v 0) 27 16
    address := bits (op v 0) 15 0 * 2 ^ 32 + bits (op v 1) 31 0 }

/-- LKP LEARN_LOOKUP. -/
def execOpLkpLearnLookup (h : Hdr) (x : HArgs) (e : Ecc) (s : State) : Host.Outcome State Fault Refusal :=
  s.helperInstr h x 0 [2] [1] (fun s v =>
    let (r, s) := s.lkpLookup (s.learnKeyOf h.core v) e
    some ([r], s))

/-- LKP LEARN (R177). -/
def execOpLkpLearn (h : Hdr) (x : HArgs) (e : Ecc) (s : State) : Host.Outcome State Fault Refusal :=
  s.helperInstr h x 0 [3] [0, 1] (fun s v =>
    let (r, s) := s.lkpLearn (s.learnKeyOf h.core v) (bits (op v 2) 23 16) (bits (op v 2) 15 0) e
    some ([r], s))

/-- LKP GROUP: it selects over the frame's flow key; a run with no frame has none, a free value. -/
def execOpLkpGroup (h : Hdr) (x : HArgs) (s : State) : Host.Outcome State Fault Refusal :=
  s.helperInstr h x 0 [1] [1] (fun s v =>
    let f := s.runFid h.core
    let (key, s) := match f.bind s.frame?, f.bind s.cardOf? with
      | some fr, some c => (s.frameKey fr c, s)
      | _, _ => s.drawBytes
    let (r, s) := s.lkpGroup f (bits (op v 0) 11 0) (s.lkpTenant h.core) key
    some ([r], s))

/-- The entry that the card's FRAG_ENTRY names. -/
def State.cardFrag (s : State) (r : CoreRef) : Option (Nat × FragEntry) :=
  match (s.runFid r).bind s.cardOf? with
  | some c => if c.flags.fragFirst || (c.flags.fragLater && !c.flags.fragNoEntry) then
      (tabGet? s.parser.frags c.fragEntry).map (fun e => (c.fragEntry, e))
    else none
  | none => none

/-- LKP FRAG_READ. -/
def execOpLkpFragRead (h : Hdr) (x : HArgs) (s : State) : Host.Outcome State Fault Refusal :=
  s.helperInstr h x 0 [0] [2] (fun s _ =>
    match s.cardFrag h.core with
    | none => some ([0, 0], s)
    | some (_, e) =>
      let st := match e.st with
        | .pending => 0 | .decided => 1 | .dropped => 2
      some ([2 ^ 39 + st * 2 ^ 37, e.verdict.toNat], s))

/-- LKP FRAG_WRITE: only from the thread of the first fragment, while its entry is PENDING and before its release. -/
def execOpLkpFragWrite (h : Hdr) (x : HArgs) (s : State) : Host.Outcome State Fault Refusal :=
  s.helperInstr h x 0 [1] [0, 1] (fun s v =>
    let released : Bool := match h.core with
      | .strider t => (s.thread t).released
      | .starter _ => true
    match s.cardFrag h.core with
    | some (n, e) =>
      if e.st == .pending && s.runFid h.core == some e.first && !released then
        some ([2 ^ 39], s.setFrag n { e with verdict := BitVec.ofNat 40 (op v 0) })
      else some ([0], s)
    | none => some ([0], s))

/-! ## XCH (Table 8.21, R253) -/

/-- XCH QUERY. -/
def execOpXchQuery (h : Hdr) (x : HArgs) (s : State) : Host.Outcome State Fault Refusal :=
  s.helperInstr h x 1 [0] [1] (fun s _ =>
    let (r, s) := s.xchQuery (s.runFid h.core)
    some ([r], s))

/-- XCH STATE. -/
def execOpXchState (h : Hdr) (x : HArgs) (s : State) : Host.Outcome State Fault Refusal :=
  s.helperInstr h x 1 [1] [1] (fun s v => some ([s.xchState (s.lkpTenant h.core) (op v 0)], s))

/-! ## BUF (Table 8.22, R254, R266, R267, R271) -/

/-- Notes what batons who executes holds by BUF ALLOC. -/
def State.modBatons (s : State) (r : CoreRef) (f : List Nat → List Nat) : State :=
  match r with
  | .strider x => s.modThread x (fun t => { t with batons := f t.batons })
  | .starter k => s.modCore k (fun c => { c with batons := f c.batons })

/-- BUF ALLOC: never waits; it draws on the shared region. -/
def execOpBufAlloc (h : Hdr) (x : HArgs) (s : State) : Host.Outcome State Fault Refusal :=
  s.helperInstr h x 2 [1] [1] (fun s v =>
    let k := bits (op v 0) 33 32
    let n := bits (op v 0) 13 0
    if n = 0 then some ([0], s)
    else match (if s.sharedFits k (cellsFor n) then s.allocCells k (cellsFor n) else none) with
      | none => some ([0], s.count Obj.ALLOC_FAILS k)
      | some (b, s) =>
        let s := { s with buf.pool.allocs := tabSet s.buf.pool.allocs (bCell b) (k, cellsFor n) }
        some ([2 ^ 39 + b], s.modBatons h.core (· ++ [b])))

/-- BUF FREE: releases one reference. -/
def execOpBufFree (h : Hdr) (x : HArgs) (s : State) : Host.Outcome State Fault Refusal :=
  s.helperInstr h x 2 [1] [0, 1] (fun s v =>
    let b := bits (op v 0) 31 0
    let (ok, s) := s.decRef b
    some ([nat01 ok * 2 ^ 39], if ok then s.modBatons h.core (fun l => l.erase b) else s))

/-- BUF REF: adds n references, or none where the count would pass 255; n of 0 is no operand of the command. -/
def execOpBufRef (h : Hdr) (x : HArgs) (s : State) : Host.Outcome State Fault Refusal :=
  s.helperInstr h x 2 [1] [1] (fun s v =>
    let b := bits (op v 0) 31 0
    let n := bits (op v 0) 39 32
    if n = 0 then some ([0], s)
    else
      let good := s.batonOk b
      let (ok, s) := s.incRef b n
      if good then some ([nat01 ok * 2 ^ 39 + nat01 (!ok) * 2 ^ 38 + (s.cell (bCell b)).refs], s) else some ([0], s))

/-- BUF READ: 5 bytes a register, zero beyond the chain; after a refusal of R267 the values are free. -/
def execOpBufRead (h : Hdr) (x : HArgs) (s : State) : Host.Outcome State Fault Refusal :=
  s.helperInstr h x 2 [2] [1, 2, 3, 4, 5, 6, 7] (fun s v =>
    let b := bits (op v 0) 31 0
    let off := bits (op v 1) 13 0
    let n := 5 * x.nr.toNat
    if s.batonOk b then
      let got := s.readBaton b off (min n (s.batonSpan b - off))
      let bytes := got ++ List.replicate (n - got.length) 0
      some ((List.range x.nr.toNat).map (fun k => beAt bytes (5 * k) 5), s)
    else
      let (bytes, s) := (s.refuseBaton b).drawBytes
      some ((List.range x.nr.toNat).map (fun k => beAt bytes (5 * k) 5), s))

/-- BUF WRITE: bytes beyond the chain are discarded and give OK = 0. -/
def execOpBufWrite (h : Hdr) (x : HArgs) (s : State) : Host.Outcome State Fault Refusal :=
  s.helperInstr h x 2 [3, 4, 5, 6, 7] [0, 1] (fun s v =>
    let b := bits (op v 0) 31 0
    let off := bits (op v 1) 13 0
    let bytes := (v.drop 2).flatMap (beBytes 5)
    if s.batonOk b then
      let fits := bytes.take (s.batonSpan b - off)
      some ([nat01 (fits.length == bytes.length) * 2 ^ 39], s.writeBaton b off fits)
    else some ([0], s.refuseBaton b))

/-! ## ORD (Table 8.23, R212 to R214, R255) -/

/-- The first release of a thread's frame: the window's blocks go back to the cells, the release is posted; none where the thread has
released before. -/
def State.releaseRun (s : State) (r : CoreRef) (x : Release) : Option State :=
  match r with
  | .starter _ => some s
  | .strider t =>
    if (s.thread t).released then none
    else
      let s := s.writeBack t
      let s := s.modThread t (fun y => { y with released := true })
      match (s.thread t).fid with
      | some f => some (s.postRelease f x)
      | none => some s

/-- ORD RELEASE: to 1 to 6 queues, with the card's EDIT or its own. -/
def execOpOrdRelease (h : Hdr) (x : HArgs) (s : State) : Host.Outcome State Fault Refusal :=
  s.helperInstr h x 3 [2, 3, 4, 5, 6, 7] [0] (fun s v =>
    (s.releaseRun h.core (.toQueues ((v.drop 1).map (fun q => bits q 13 0)) (bits (op v 0) 38 27) (bit (op v 0) 39))).map
      (fun s => ([], s)))

/-- ORD DROP: the frame ends as a drop, which 400Fh counts. -/
def execOpOrdDrop (h : Hdr) (x : HArgs) (s : State) : Host.Outcome State Fault Refusal :=
  s.helperInstr h x 3 [0] [0] (fun s _ =>
    (s.releaseRun h.core .drop).map (fun s => match h.core with
      | .strider t => ([], s.count Obj.PROGRAM_DROPS (squadOf t))
      | .starter _ => ([], s)))

/-- ORD TOKEN: its result returns when every earlier frame of the domain has gone. -/
def execOpOrdToken (h : Hdr) (x : HArgs) (s : State) : Host.Outcome State Fault Refusal :=
  s.helperInstr h x 3 [0] [1] (fun s _ => some ([0], s)) true

/-! ## CRC (Table 8.24, R256) -/

/-- The running value of a check after some bytes, and its complement where FINAL asks for it. -/
def checkRun (kind : Nat) (final : Bool) (seed : Nat) (b : Blob) : Nat :=
  if kind = 0 then (crc32Run seed b) ^^^ (if final then 0xFFFFFFFF else 0)
  else if kind = 1 then crc16Run (seed % 65536) b
  else (inetRun (seed % 65536) b) ^^^ (if final then 0xFFFF else 0)

/-- CRC WIN: over header bytes of the window as they stand; an uncorrectable word faults with ECC (R219). -/
def execOpCrcWin (h : Hdr) (x : HArgs) (e : Ecc) (s : State) : Host.Outcome State Fault Refusal :=
  let nops := match h.core with
    | .strider _ => [2]
    | .starter _ => []
  s.runInstr { h with enc := s.helperEnc h x 4 nops [1] } .plain (fun s c => s.issueCmd h x 4 c (fun s v =>
    let kind := bits (op v 0) 39 38
    let len := bits (op v 0) 16 8
    let off := bits (op v 0) 7 0
    let bytes := match h.core with
      | .strider t => memReadN s.strider.windows (windowBase t + off) len
      | .starter _ => []
    if kind = 3 || off + len > 256 then s.awaits h x 4 [2 ^ 39]
    else
      let s := s.sramEvent (sramUnit h.core) (0x10000 + off) e
      if e == .uncorrectable then .faultIn s 0x0C (0x10000 + off)
      else s.awaits h x 4 [checkRun kind (bit (op v 0) 37) (bits (op v 1) 31 0) bytes])) 4

/-- CRC REG: over bytes of the operand registers. -/
def execOpCrcReg (h : Hdr) (x : HArgs) (s : State) : Host.Outcome State Fault Refusal :=
  s.helperInstr h x 4 [2, 3, 4, 5, 6, 7] [1] (fun s v =>
    let kind := bits (op v 0) 39 38
    let count := bits (op v 0) 36 32
    if kind = 3 || count = 0 || count > 5 * (x.nop.toNat - 1) then some ([2 ^ 39], s)
    else some ([checkRun kind (bit (op v 0) 37) (bits (op v 0) 31 0) (((v.drop 1).flatMap (beBytes 5)).take count)], s))

/-! ## ATM (Table 8.25, R257, R259, R302, R306) -/

/-- The master ID of who executes (Table 10.5). -/
def midOf : CoreRef → Nat
  | .strider x => midThread x
  | .starter k => midCore k

/-- ATM LOCK: never waits. -/
def execOpAtmLock (h : Hdr) (x : HArgs) (s : State) : Host.Outcome State Fault Refusal :=
  s.helperInstr h x 5 [1] [1] (fun s v =>
    let l := bits (op v 0) 5 0
    let may := match h.core with
      | .strider _ => s.mayLockThread (s.runTenant h.core) l
      | .starter _ => s.mayLock (midOf h.core) l
    let (ok, ab, s) := s.attempt (midOf h.core) l may
    some ([nat01 ok * 2 ^ 39 + nat01 ab * 2 ^ 38], s))

/-- ATM UNLOCK. -/
def execOpAtmUnlock (h : Hdr) (x : HArgs) (s : State) : Host.Outcome State Fault Refusal :=
  s.helperInstr h x 5 [1] [0, 1] (fun s v =>
    let (ok, s) := s.unlockBy (midOf h.core) (bits (op v 0) 5 0)
    some ([nat01 ok * 2 ^ 39], s))

/-- An atomic operation on a word: the old value, 0 where the index lies outside the tenant's block (R306). -/
def State.atomic (s : State) (r : CoreRef) (i : Nat) (f : Nat → Option Nat) : List Nat × State :=
  match s.atomIndex (s.runTenant r) i with
  | none => ([0], s.count Obj.ATOMIC_RANGE_ERRORS)
  | some w =>
    let old := s.atom w
    ([old], match f old with
      | some v => s.setAtom w v
      | none => s)

/-- ATM ADD. -/
def execOpAtmAdd (h : Hdr) (x : HArgs) (s : State) : Host.Outcome State Fault Refusal :=
  s.helperInstr h x 5 [2] [1] (fun s v => some (s.atomic h.core (bits (op v 0) 15 0) (fun o => some (o + op v 1))))

/-- ATM SWAP. -/
def execOpAtmSwap (h : Hdr) (x : HArgs) (s : State) : Host.Outcome State Fault Refusal :=
  s.helperInstr h x 5 [2] [1] (fun s v => some (s.atomic h.core (bits (op v 0) 15 0) (fun _ => some (op v 1))))

/-- ATM CAS. -/
def execOpAtmCas (h : Hdr) (x : HArgs) (s : State) : Host.Outcome State Fault Refusal :=
  s.helperInstr h x 5 [3] [1] (fun s v =>
    some (s.atomic h.core (bits (op v 0) 15 0) (fun o => if o = op v 1 then some (op v 2) else none)))

/-! ## SQD (Table 8.26, R197, R219, R258, R259) -/

/-- Bytes of an SQD access of a SIZE code. -/
def sqdSize (c : Nat) : Nat := [1, 2, 4, 5].getD c 1

/-- Bytes of a squad store; a byte past its end is a free value. -/
def State.sqdRead (s : State) (sq a n : Nat) : Blob × State :=
  let (past, s) := if a + n ≤ 2 ^ 21 then ([], s) else s.drawBytes
  ((List.range n).map (fun k => if a + k < 2 ^ 21 then memRead s.strider.sstore (sq * 2 ^ 21 + a + k) else past.getD k 0), s)

/-- Writes bytes of a squad store; none past its end. -/
def State.sqdWrite (s : State) (sq a : Nat) (b : Blob) : State :=
  { s with strider.sstore := memWriteN s.strider.sstore (sq * 2 ^ 21 + a) (b.take (2 ^ 21 - a)) }

/-- The 64-bit words of an access are rewritten as zero (R219). -/
def State.sqdZero (s : State) (sq a n : Nat) : State :=
  let lo := a / 8 * 8
  s.sqdWrite sq lo (List.replicate ((a + n - 1) / 8 * 8 + 8 - lo) 0)

/-- An SQD command: the value it answers and its status; `atomic` for ADD and CAS; `f` gives what is written, if anything. -/
def State.sqd (s : State) (h : Hdr) (w : Nat) (atomic : Bool) (e : Ecc) (f : Nat → Option Nat) : List Nat × State :=
  let size := bits w 39 38
  let n := sqdSize size
  let a := bits w 20 0
  let sq := match h.core with
    | .strider x => squadOf x
    | .starter _ => 0
  if bits w 37 21 != 0 || (n = 5 && crosses8 a 5) || (atomic && size < 2) then ([0, 2 ^ 38], s)
  else
    let s := s.sramEvent (12 + sq) a e
    if e == .uncorrectable then ([0, 2 ^ 39], s.sqdZero sq a n)
    else
      let (b, s) := s.sqdRead sq a n
      let old := beNat b
      ([old, 0], match f old with
        | some v => s.sqdWrite sq a (beBytes n v)
        | none => s)

/-- SQD LD. -/
def execOpSqdLd (h : Hdr) (x : HArgs) (e : Ecc) (s : State) : Host.Outcome State Fault Refusal :=
  s.helperInstr h x 6 [1] [1, 2] (fun s v => some (s.sqd h (op v 0) false e (fun _ => none)))

/-- SQD ST: its one result register is the status. -/
def execOpSqdSt (h : Hdr) (x : HArgs) (e : Ecc) (s : State) : Host.Outcome State Fault Refusal :=
  s.helperInstr h x 6 [2] [0, 1] (fun s v =>
    let (vs, s) := s.sqd h (op v 0) false e (fun _ => some (op v 1))
    some (vs.drop 1, s))

/-- SQD ADD: in the operation's width. -/
def execOpSqdAdd (h : Hdr) (x : HArgs) (e : Ecc) (s : State) : Host.Outcome State Fault Refusal :=
  s.helperInstr h x 6 [2] [1, 2] (fun s v => some (s.sqd h (op v 0) true e (fun o => some (o + op v 1))))

/-- SQD CAS: it compares and writes every bit of its width. -/
def execOpSqdCas (h : Hdr) (x : HArgs) (e : Ecc) (s : State) : Host.Outcome State Fault Refusal :=
  s.helperInstr h x 6 [3] [1, 2] (fun s v =>
    let w := 256 ^ sqdSize (bits (op v 0) 39 38)
    some (s.sqd h (op v 0) true e (fun o => if o = op v 1 % w then some (op v 2) else none)))

end Sys2Proof.Machine
end

