-- ==== Sys2Proof/Machine/Squads.lean ====
section
/-! DEFINITION. Images and swaps, clock, voltage and mode of the squads, and the end of runs (R205, R220 to R224, R430, R432, R448,
R449). -/

namespace Sys2Proof.Machine

/-! ## VDD_CORE (R448, R449) -/

/-- The highest clock asked of a squad in RUNNING or WAKING. -/
def State.highestFreq (s : State) : Nat :=
  (((List.range 12).filter (fun k => (s.squad k).st == .running || (s.squad k).st == .waking)).map (s.cfg Obj.SQUAD_FREQ ·)).foldl max 0

/-- The highest die temperature (1100h). -/
def State.hottest (s : State) : Int := ((List.range 5).map (fun d => signed 32 (s.cfg Obj.DIE_TEMP d))).foldl max (signed 32 (s.cfg Obj.DIE_TEMP 0))

/-- The AVS target between 700 and 800 mV (Table 14.3), a function of the fused part data, the temperature and the clock that the manual does
not give (log 158); 800 with AVS off. -/
def State.avsTarget (s : State) : Nat :=
  if s.cfg Obj.AVS_ENABLE = 0 then 800 else 700 + Config.avsAbove s.rel.boot.bib s.hottest s.highestFreq % 101

/-- The PMBus address of the VDD_CORE regulator: 1106h, or that of the straps (R424, R448). -/
def State.vcoreAddress (s : State) : Nat :=
  if s.cfg Obj.AVS_PMBUS_ADDR = 0 then 0x40 + (s.rel.boot.straps.toNat / 16) % 8 else s.cfg Obj.AVS_PMBUS_ADDR

/-- Writes a voltage to the VDD_CORE regulator through VOUT_COMMAND. -/
def State.voutCommand (s : State) (mv : Nat) : State := s.emit (.vout s.vcoreAddress mv)

/-- Writes a target to the regulator; 1105h reports it. -/
def State.writeVout (s : State) (mv : Nat) : State := (s.setCfg Obj.VDD_CORE_TARGET 0 mv).voutCommand mv

/-- Computes the target anew and writes it, unless three failures have stopped AVS (R450). -/
def State.recomputeAvs (s : State) : State :=
  if s.rel.railFail ≥ 3 then s
  else s.writeVout s.avsTarget

/-! ## Images (R220) -/

/-- An entry word of Table 7.9: address and budget where VALID. -/
def entryWord (v : Nat) : Option (Nat × Nat) := if bit v 63 then some (bits v 31 0, bits v 47 32) else none

/-- An image blob (Table 7.8), where R220 accepts it. -/
def imageOf (b : Blob) : Option Image :=
  let base := beAt b 8 4
  let size := beAt b 12 4
  let init := beAt b 16 4
  let words := (List.range 256).map (fun k => beAt b (24 + 8 * k) 8)
  let inText := fun a : Nat => base ≤ a && a < base + size && a % 2 == 0
  let wordOk := fun v : Nat => bits v 62 48 == 0 && (match entryWord v with
    | some e => inText e.1
    | none => true)
  let crc := beAt b (b.length - 4) 4
  if beAt b 4 2 = 1 && beAt b 6 2 = 0 && beAt b 20 4 = 0 && 0x2000 ≤ base && base % 2 = 0 && base + size ≤ 65536 &&
      b.length = 2076 + size && size % 2 = 0 && (init = 0xFFFFFFFF || inText init) && words.all wordOk &&
      crc = crc32 (b.take (b.length - 4)) then
    some {
      id := beAt b 0 4, base := base, text := (b.drop 2072).take size
      init := if init = 0xFFFFFFFF then none else some init
      entries := (List.range 256).foldl (fun t k => match entryWord (words.getD k 0) with
        | some e => tabSet t k e
        | none => t) []
      crc := crc }
  else none

/-- A write of 4101h[s] (R220): it stages the image. -/
def applyImagePending (i : Nat) (b : Blob) (s : State) : State × Result :=
  match imageOf b with
  | none => (s, .range)
  | some m => ((s.setBlb Obj.IMAGE_PENDING i b).modSquad i (fun q => { q with staged := some m }), .ok)

/-- IMAGE_PENDING: a write of 4101h[s]. -/
def execImagePending (p : Principal) (i : Nat) (b : Blob) (s : State) : Host.Outcome State Fault Refusal :=
  .next (s.writeBlobCmd p Obj.IMAGE_PENDING i b (applyImagePending i))

/-! ## Loading (R221, R222) -/

/-- The threads of a squad. -/
def squadThreads (k : Nat) : List Nat := (List.range 128).map (128 * k + ·)

/-- A squad takes cards again: its free threads are offered to waiting cards (R207). -/
def State.offerSquad (s : State) (k : Nat) : State := (squadThreads k).foldl State.offerThread s

/-- Sets a squad's state; one that becomes RUNNING takes cards. -/
def State.setSquad (s : State) (k : Nat) (st : SquadState) : State :=
  let s := s.modSquad k (fun q => { q with st := st })
  if st == .running then s.offerSquad k else s

/-- The local stores of a squad with an image's text, zero outside it from 2000h on. -/
def State.writeText (s : State) (k : Nat) (m : Image) : State :=
  let keep := s.strider.lstore.filter (fun (e : Nat × Byte) => !(e.1 / 65536 / 16 == k && 0x2000 ≤ e.1 % 65536))
  { s with strider.lstore := (List.range 16).foldl (fun l i => memWriteN l ((16 * k + i) * 65536 + m.base) m.text) keep }

/-- Empties the fetch buffers of a squad (R221). -/
def State.emptyBuffers (s : State) (k : Nat) : State :=
  (squadThreads k).foldl (fun s x => if (s.thread x).ctx.fetched = 0 then s
    else s.modThread x (fun t => { t with ctx := { t.ctx with fetched := 0 } })) s

/-- Starts the init entry of a squad's image, if it has one: true where the squad is LOADING. -/
def State.startInit (s : State) (k : Nat) : Bool × State :=
  match (s.squad k).image.bind Image.init with
  | none => (false, s)
  | some a =>
    let s := s.modSquad k (fun q => { q with st := .loading, loadFrom := s.time.gun })
    (true, s.startThread (128 * k) .init a 0 0)

/-- Writes the staged image of a squad and starts its init entry. -/
def State.install (s : State) (k : Nat) : Bool × State :=
  match (s.squad k).staged with
  | none => (false, s)
  | some m =>
    let s := ((s.writeText k m).emptyBuffers k).setBlb Obj.IMAGE k (s.blb Obj.IMAGE_PENDING k)
    (s.modSquad k (fun q => { q with image := some m })).startInit k

/-- The end of a squad's swap: its former state, nothing staged. -/
def State.swapped (s : State) (k : Nat) : State :=
  let s := s.setBlb Obj.IMAGE_PENDING k []
  (s.modSquad k (fun q => { q with staged := none })).setSquad k (s.squad k).was

/-- The squads of a mask behind one. -/
def behindIn (mask k : Nat) : List Nat := (List.range 12).filter (fun j => bit mask j && k < j)

/-- The state that a squad returns to once its image has been loaded: its own; where it changes, the state it is on the way to; and
RUNNING after LOAD_FAILED, which a load that succeeds ends (R221). -/
def Squad.settled (q : Squad) : SquadState :=
  match q.st, q.goal with
  | .draining, .gate => .gated
  | .draining, .test => .test
  | .draining, _ => q.was
  | .loading, _ => q.was
  | .loadFailed, _ => .running
  | st, _ => st

/-- R221: the squads still to swap, one at a time; it waits at a squad that drains or loads. -/
def State.swapFrom (s : State) (mask : Nat) : List Nat → State
  | [] => { s with strider.swap := none }
  | k :: ks =>
    let s := { s with strider.swap := some (mask, k) }
    let q := s.squad k
    let s := s.modSquad k (fun q => { q with was := q.settled })
    if q.st == .running then
      s.modSquad k (fun q => { q with st := .draining, goal := .swap, drainFrom := s.time.gun })
    else if q.st == .draining then s.modSquad k (fun q => { q with goal := .swap })
    else
      let (loading, s) := s.install k
      if loading then s else (s.swapped k).swapFrom mask ks

/-- A write of 4102h (R221). -/
def applyImageCommit (v : Nat) (s : State) : State × Result :=
  let named := (List.range 12).filter (bit v)
  if v ≥ 4096 then (s, .range)
  else if s.strider.swap.isSome || named.any (fun k => (s.squad k).staged.isNone) then (s, .state)
  else (s.swapFrom v named, .ok)

/-- IMAGE_COMMIT: a write of 4102h. -/
def execImageCommit (p : Principal) (v : Nat) (s : State) : Host.Outcome State Fault Refusal :=
  .next (s.writeNumCmd p Obj.IMAGE_COMMIT 0 v applyImageCommit)

/-- Goes on with a swap that waited at a squad. -/
def State.swapOn (s : State) (k : Nat) : State :=
  match s.strider.swap with
  | some (mask, j) => if j = k then s.swapFrom mask (behindIn mask k) else s
  | none => s

/-- A load of a squad ends: with its init entry's end, or by a fault or the limit (R221). -/
def State.endLoad (s : State) (k : Nat) (good : Bool) : State :=
  let swapping : Bool := match s.strider.swap with
    | some (_, j) => j == k
    | none => false
  if !good then
    ((s.modSquad k (fun q => { q with st := .loadFailed })).raise 2 none Obj.SQUAD_STATE k).swapOn k
  else if swapping then (s.swapped k).swapOn k
  else s.setSquad k (s.squad k).was

/-- Whether every thread of a squad is FREE. -/
def State.squadFree (s : State) (k : Nat) : Bool :=
  (squadThreads k).all (fun x => (s.thread x).st == .free && (s.thread x).fid.isNone)

/-- The end of a drain (R221, R224, R432): with every thread FREE the squad swaps, is gated, enters TEST or runs its init entry again. -/
def State.drained (s : State) (sq : Nat) : State :=
  if sq < 12 && (s.squad sq).st == .draining && s.squadFree sq then
    match (s.squad sq).goal with
    | .gate => s.setSquad sq .gated
    | .test => s.setSquad sq .test
    | .swap =>
      let (loading, s) := s.install sq
      if loading then s else (s.swapped sq).swapOn sq
    | .reset =>
      let (loading, s) := s.startInit sq
      if loading then s else s.setSquad sq (s.squad sq).was
  else s

/-- Stops every thread of a squad that runs or holds a card, cause DRAIN. -/
def State.stopSquad (s : State) (k : Nat) : State :=
  (squadThreads k).foldl (fun s x =>
    let t := s.thread x
    if t.st == .ending || (t.st == .free && t.fid.isNone) then s else s.stopThread x 0x0D 0) s

/-- DRAIN_LIMIT_EXPIRY (R221): 4016h has passed: threads still running stop. -/
def execDrainLimitExpiry (sq : Nat) (s : State) : Host.Outcome State Fault Refusal :=
  let q := s.squad sq
  if sq < 12 && q.st == .draining && q.drainFrom + s.cfg Obj.DRAIN_LIMIT * 1000 * ns ≤ s.time.gun then .next (s.stopSquad sq)
  else .next s

/-- The load of a squad whose init entry has not ended within 10 ms fails (R221). -/
def State.loadLate (s : State) (sq : Nat) : State :=
  let q := s.squad sq
  if sq < 12 && q.st == .loading && q.loadFrom + 10000000 * ns ≤ s.time.gun then s.endLoad sq false else s

/-- An ENDING thread with no result due becomes FREE; an init entry's end ends the load (R205, R217, R221). -/
def State.threadEnds (s : State) (tid : Nat) : State :=
  let t := s.thread tid
  if t.st == .ending && t.ctx.results.isEmpty then
    let s := match t.stopped with
      | some card => s.finishStop tid card
      | none => s
    let s := s.freeThread tid
    let k := squadOf tid
    if t.kind == .init && (s.squad k).st == .loading then s.endLoad k (!t.faulted) else s
  else s

/-! ## Clock (R3, R223, R449) -/

/-- The highest clock 4002h accepts (100Bh). -/
def State.freqMax (s : State) : Nat := if s.rel.boot.grade = 1 then 2000 else 2500

/-- Starts a clock change: a rise asks the limiter for its step, and raises VDD_CORE first where it raises the highest clock. -/
def State.startFreq (s : State) (k v highest : Nat) : State :=
  let q := s.squad k
  let s := s.modSquad k (fun q => { q with freqTarget := some v, freqNext := none })
  if q.freqActual < v && q.st != .gated then
    let now := s.time.gun
    let s := if highest < v then s.recomputeAvs else s
    { s with rel.wakes := s.rel.wakes ++ [⟨now, k, 1000, (v - q.freqActual) * 16 * ns / 10, none, now⟩] }
  else s

/-- A write of 4002h[s]. -/
def applySquadFreq (k v : Nat) (s : State) : State × Result :=
  if v < 1000 || s.freqMax < v || v % 25 != 0 then (s, .range)
  else
    let highest := s.highestFreq
    let s := s.writeNum Obj.SQUAD_FREQ k v
    if (s.squad k).freqTarget.isSome then (s.modSquad k (fun q => { q with freqNext := some v }), .ok)
    else if (s.squad k).freqActual = v then (s, .ok)
    else (s.startFreq k v highest, .ok)

/-- SQUAD_FREQ: a write of 4002h[s]. -/
def execSquadFreq (p : Principal) (i v : Nat) (s : State) : Host.Outcome State Fault Refusal :=
  .next (s.writeNumCmd p Obj.SQUAD_FREQ i v (applySquadFreq i))

/-- Whether a wake of a squad waits for its grant. -/
def State.wakePending (s : State) (k : Nat) : Bool := s.rel.wakes.any (fun w => w.key == k && w.ends.isNone)

/-- SQUAD_FREQ_CHANGE_COMPLETE (R223, R449): the new clock is in effect; a fall of the highest clock then lowers VDD_CORE, a
recomputation that fell due takes effect, and a write made meanwhile is taken. While another clock still changes, the lowering falls due when
that ends. -/
def execSquadFreqChangeComplete (sq : Nat) (s : State) : Host.Outcome State Fault Refusal :=
  let q := s.squad sq
  match q.freqTarget with
  | none => .next s
  | some v =>
    if s.wakePending sq then .next s
    else
      let s := s.modSquad sq (fun q => { q with freqActual := v, freqTarget := none, freqNext := none })
      let others := ((List.range 12).filter (fun k => k != sq && ((s.squad k).st == .running || (s.squad k).st == .waking))).map
        (s.cfg Obj.SQUAD_FREQ ·)
      let fell : Bool := v < q.freqActual && others.all (fun f => f < q.freqActual)
      let s := match q.freqNext with
        | some n => if n = v then s else s.startFreq sq n s.highestFreq
        | none => s
      let idle : Bool := (List.range 12).all (fun k => (s.squad k).freqTarget.isNone)
      let due : Bool := fell || s.rel.avsDue
      .next (if idle then { (if due then s.recomputeAvs else s) with rel.avsDue := false } else { s with rel.avsDue := due })

/-! ## Mode (R224) -/

/-- Asks the limiter to wake a gated squad. -/
def State.wakeSquad (s : State) (k : Nat) : State :=
  let now := s.time.gun
  let s := s.modSquad k (fun q => { q with st := .waking, wakeAt := none })
  { s with rel.wakes := s.rel.wakes ++ [⟨now, k, 1000, 4000 * ns, none, now⟩] }

/-- The state a mode selects. -/
def modeState : Nat → SquadState
  | 0 => .gated | 1 => .running | _ => .test

/-- What a mode makes of a squad. -/
def State.setMode (s : State) (k v : Nat) : State :=
  let q := s.squad k
  let drain (g : DrainGoal) : State := s.modSquad k (fun q => { q with st := .draining, goal := g, drainFrom := s.time.gun })
  match q.st with
  | .loading => s.modSquad k (fun q => { q with was := modeState v })
  | .draining =>
    if q.goal == .swap || q.goal == .reset then s.modSquad k (fun q => { q with was := modeState v })
    else if v = 0 then s.modSquad k (fun q => { q with goal := .gate })
    else if v = 1 then s.setSquad k .running
    else s.modSquad k (fun q => { q with goal := .test })
  | .gated => if v = 0 then s else s.wakeSquad k
  | .waking => if v = 0 then
      { s.setSquad k .gated with rel.wakes := s.rel.wakes.filter (fun w => w.key != k) }
    else s
  | .running => if v = 0 then drain .gate else if v = 1 then s else drain .test
  | .test => if v = 0 then drain .gate else if v = 1 then s.setSquad k .running else s
  | .loadFailed => if v = 0 then drain .gate else if v = 1 then s.setSquad k .running else drain .test

/-- A write of 4000h[s]. -/
def applySquadMode (k v : Nat) (s : State) : State × Result :=
  if v > 2 then (s, .range) else ((s.writeNum Obj.SQUAD_MODE k v).setMode k v, .ok)

/-- SQUAD_MODE: a write of 4000h[s]. -/
def execSquadMode (p : Principal) (i v : Nat) (s : State) : Host.Outcome State Fault Refusal :=
  .next (s.writeNumCmd p Obj.SQUAD_MODE i v (applySquadMode i))

/-- SQUAD_WAKE_COMPLETE (R224): 5.0 µs after its grant a WAKING squad runs, or is in TEST where its mode says so. -/
def execSquadWakeComplete (sq : Nat) (s : State) : Host.Outcome State Fault Refusal :=
  let q := s.squad sq
  match q.st, q.wakeAt with
  | .waking, some t =>
    if t + 5000 * ns ≤ s.time.gun then
      .next (s.setSquad sq (if s.cfg Obj.SQUAD_MODE sq = 2 then .test else .running))
    else .next s
  | _, _ => .next s

/-! ## Reset of a squad (R432, R434) -/

/-- Whether a squad drains or loads: a reset of it has not completed. -/
def Squad.busy (q : Squad) : Bool := q.st == .draining || q.st == .loading

/-- Zeroes a squad's stores and writes its image from the Starter's copy. -/
def State.clearStores (s : State) (k : Nat) : State :=
  let s := { s with
    strider.lstore := s.strider.lstore.filter (fun (e : Nat × Byte) => !(e.1 / 65536 / 16 == k && 0x2000 ≤ e.1 % 65536))
    strider.sstore := s.strider.sstore.filter (fun (e : Nat × Byte) => e.1 / 2 ^ 21 != k) }
  match (s.squad k).image with
  | some m => s.writeText k m
  | none => s

/-- A squad reset: its threads stop with cause DRAIN, its stores are cleared and rewritten, and its init entry runs again once every
thread is FREE (R217, R221). A drain for a swap goes on, since the swap runs the init entry; a gated squad stays gated. -/
def State.resetSquad (s : State) (k : Nat) : State :=
  let s := (s.stopSquad k).clearStores k
  let q := s.squad k
  if q.st == .gated || q.st == .waking || (q.st == .draining && q.goal == .swap) then s
  else
    let s := s.modSquad k (fun q => { q with was := q.settled })
    if s.squadFree k then
      let (loading, s) := s.startInit k
      if loading then s else s.setSquad k (s.squad k).was
    else if (q.image.bind Image.init).isSome || q.st == .draining then
      s.modSquad k (fun q => { q with st := .draining, goal := .reset, drainFrom := s.time.gun })
    else s.setSquad k q.settled

end Sys2Proof.Machine
end

