-- ==== Sys2Proof/Machine/Trace.lean ====
section
/-! DEFINITION. Trace rings and records, triggers, the snapshot store, and the upload engine (R342 to R349). -/

namespace Sys2Proof.Machine

/-! ## Records (R343) -/

/-- Bytes of a page. -/
abbrev page : Nat := 16384

/-- A record without its SEQ: header of Table 11.3, payload from byte 16, padded with zeros to whole units. -/
def record (typ flags part t age lap : Nat) (body : Blob) : Blob :=
  let units := (16 + body.length + 31) / 32
  beBytes 1 typ ++ beBytes 1 flags ++ beBytes 2 (part * 2 ^ 14 + units) ++ beBytes 1 t ++ beBytes 1 (age * 16) ++ beBytes 6 lap ++
    beBytes 4 0 ++ body ++ List.replicate (32 * units - 16 - body.length) 0

/-- A record with its SEQ. -/
def withSeq (r : Blob) (seq : Nat) : Blob := overwrite r 12 (beBytes 4 (seq % 2 ^ 32))

/-- The PAD that fills `n` bytes. -/
def padRecord (t lap n : Nat) : Blob := (record 4 0 0 t 0 lap []).take 16 |> fun h =>
  overwrite h 2 (beBytes 2 (n / 32)) ++ List.replicate (n - 16) 0

/-- Bytes left in the page of an offset. -/
def pageRest (off : Nat) : Nat := page - off % page

/-- Writes a record at an address of a ring or slot in whole sectors: with it what stands before it in its first sector, and zeros to
the end of its last (R345). -/
def State.recordPut (s : State) (r : DramLevel) (a : Nat) (b : Blob) : State :=
  let head := s.dramGet (sectorOf a) (a - sectorOf a)
  let fill := (64 - (a + b.length) % 64) % 64
  s.dramWrite r (sectorOf a) (head ++ b ++ List.replicate fill 0)

/-- Writes a record at a ring's WRITE. -/
def State.ringPut (s : State) (t : Nat) (r : Blob) : State :=
  let x := s.ring t
  let r := withSeq r x.seq
  let s := s.recordPut (.trace t) (s.ringBase t + x.write) r
  let next := x.write + r.length
  let s := s.modRing t (fun x => { x with
    write := next % s.ringSize t, wraps := x.wraps + (if next ≥ s.ringSize t then 1 else 0), seq := (x.seq + 1) % 2 ^ 32 })
  s.count Obj.TRACE_RECORDS t

/-- The bytes that a record of L bytes takes at WRITE, its PAD included. -/
def State.ringTakes (s : State) (t l : Nat) : Nat :=
  let rest := pageRest (s.ring t).write
  if l ≤ rest then l else l + rest

/-- F of R346. -/
def State.ringFree (s : State) (t : Nat) : Nat :=
  let n := s.ringSize t
  (s.cfg Obj.TRACE_READ t + 2 * n - (s.ring t).write - 1) % n + 1

/-- Whether stream mode finds the ring full for a record (R346). -/
def State.ringFull (s : State) (t l : Nat) (gap : Bool) : Bool :=
  s.ringMode t == 3 && (let n := s.ringTakes t l
    if gap then s.ringFree t ≤ n else s.ringFree t ≤ n + 32)

/-- Places a record: a PAD before it where the page is too short. -/
def State.ringPlace (s : State) (t lap : Nat) (r : Blob) : State :=
  let rest := pageRest (s.ring t).write
  let s := if r.length ≤ rest then s else s.ringPut t (padRecord t lap rest)
  s.ringPut t r

/-- Writes the GAP record of the losses so far, if it fits (R347). -/
def State.ringGap (s : State) (t : Nat) : State :=
  let x := s.ring t
  if x.lost = 0 then s
  else
    let r := record 3 0 0 t 0 x.lostLast (beBytes 6 x.lostFirst ++ beBytes 6 x.lostLast ++ beBytes 2 (min x.lost 65535) ++
      beBytes 1 x.lostCause ++ [0])
    if s.ringFull t r.length true then s
    else ((s.ringPlace t x.lostLast r).modRing t (fun x => { x with lost := 0 })).count Obj.TRACE_GAPS t

/-- RECORD_LOST (R347): counted, and coalesced with the losses before it. -/
def State.recordLost (s : State) (t lap cause : Nat) : State :=
  let s := s.count Obj.TRACE_LOST t
  s.modRing t (fun x => if x.lost = 0 then { x with lost := 1, lostFirst := lap, lostLast := lap, lostCause := cause }
    else { x with lost := x.lost + 1, lostLast := lap })

/-- A record reaches DRAM: a GAP first where records were lost; lost itself where a stream ring is full (cause 3). -/
def State.ringServe (s : State) (t lap : Nat) (r : Blob) : State :=
  let s := s.ringGap t
  if (s.ring t).lost != 0 || s.ringFull t r.length false then s.recordLost t lap 3
  else
    let x := s.ring t
    let r := if (x.st == .triggered || x.st == .stopped) && x.trigLap == lap then
      overwrite r 1 (beBytes 1 (beAt r 1 1 ||| 64)) else r
    s.ringPlace t lap r

/-- Serves the records in the write buffer, oldest first, of a level up to `level`, while the channels have bandwidth left in this µs;
at level 7 they are all written, as a ring stops (R340, log 150). -/
def State.serveWaiting (s : State) (t level : Nat) : State :=
  (s.ring t).waiting.foldl (fun s (e : Nat × Blob × Time) =>
    let n := e.2.1.length
    match (s.ring t).waiting with
    | w :: ws =>
      if w == e && (level = 7 || (s.levelOf (.trace t) n ≤ level && s.dram.spent + n ≤ s.bandwidthNow)) then
        (s.modRing t (fun x => { x with waiting := ws })).ringServe t e.1 e.2.1
      else s
    | [] => s) s

/-- RESERVATION_REFILL (R340): before the buckets gain their µs, what is left of the bandwidth of the last one serves the trace records
that wait, guaranteed trace first. -/
def execReservationRefill (s : State) : Host.Outcome State Fault Refusal :=
  let serve := fun (level : Nat) (s : State) => (s.trc.rings.map Prod.fst).foldl (fun s t => s.serveWaiting t level) s
  .next (serve 5 (serve 3 s)).refill

/-- The share of the 512 KiB write buffer a tenant may fill (R347). -/
def State.bufferShare (s : State) (t : Nat) : Nat :=
  let mine := fun t => beAt (s.blb Obj.TRACE_RING t) 36 4 * 10
  if mine t != 0 then mine t
  else 524288 - ((List.range 255).map (fun k => mine (k + 1))).sum -
    (s.trc.rings.map (fun (e : Nat × Ring) =>
      if mine e.1 = 0 && e.1 != t then (e.2.waiting.map (fun w => w.2.1.length)).sum else 0)).sum

/-- The trace engine hands a record to the write buffer; one that does not fit is lost (cause 2). -/
def State.ringWrite (s : State) (t lap : Nat) (r : Blob) : State :=
  let x := s.ring t
  if (x.waiting.map (fun w => w.2.1.length)).sum + r.length > s.bufferShare t then s.recordLost t lap 2
  else (s.modRing t (fun x => { x with waiting := x.waiting ++ [(lap, r, s.time.gun)] })).serveWaiting t 3

/-- TRACE_WRITE_TIMEOUT (R347): the oldest record that has waited 10 µs is lost (cause 2). -/
def execTraceWriteTimeout (t : Nat) (s : State) : Host.Outcome State Fault Refusal :=
  match (s.ring t).waiting with
  | (lap, _, since) :: ws =>
    if since + 10000 * ns ≤ s.time.gun then .next ((s.modRing t (fun x => { x with waiting := ws })).recordLost t lap 2)
    else .next s
  | [] => .next s

/-- Writes a ring's mirror (R345); one outside what a ring may reach is not written (R329, log 151). -/
def State.putMirror (s : State) (t : Nat) : State :=
  let x := s.ring t
  let a := s.ringMirror t
  if a = 0 || !s.reaches (.trace t) a 16 then s
  else (s.dramWrite (.trace t) a (beBytes 8 x.write ++ beBytes 4 x.wraps ++ beBytes 4 x.seq)).modRing t (fun x => { x with mirrored := s.time.gun })

/-- MIRROR_WRITE (R345): the mirror follows the records that have reached DRAM, at most once per 1.0 µs. -/
def execMirrorWrite (t : Nat) (s : State) : Host.Outcome State Fault Refusal :=
  let s := s.serveWaiting t 5
  if (s.ring t).mirrored = 0 || (s.ring t).mirrored + 1000 * ns ≤ s.time.gun then .next (s.putMirror t) else .next s

/-! ## Extraction (R342, R344) -/

/-- A signal-map entry (Table 3.3). -/
structure Signal where
  idx : Nat
  four : Bool
  trace : Bool
  slab : Nat
  off : Nat
  width : Nat
deriving DecidableEq, Repr

/-- The TRACE entries of a slab in ascending index. -/
def RelaySet.traced (r : RelaySet) (slab : Nat) : List Signal :=
  (List.range r.signals.length).filterMap (fun k =>
    let v := r.signals.getD k 0
    if bit v 53 && bits v 47 32 == slab then some ⟨k, bit v 54, true, slab, bits v 31 15, bits v 14 0⟩ else none)

/-- The value bits an entry gives. -/
def Signal.bitCount (x : Signal) : Nat := if x.four then 2 * x.width else x.width

/-- The value stream of an entry (R344): a two-state value one bit, a digit two, most significant first. -/
def Signal.stream (x : Signal) (ts : List Nat) : List Bool :=
  if x.four then (List.range x.width).flatMap (fun k => [valueBit ts (x.off + 2 * k + 1), valueBit ts (x.off + 2 * k)])
  else (List.range x.width).map (fun k => valueBit ts (x.off + k))

/-- Bytes of a bit stream, most significant bit of each byte first. -/
def packBits (bs : List Bool) : Blob :=
  let n := (bs.length + 7) / 8
  beBytes n (bs.foldl (fun v b => v * 2 + nat01 b) 0 * 2 ^ (8 * n - bs.length))

/-- Splits entries into parts whose value bits fit a record; no entry is split (R344). -/
def partsOf : List Signal → List Signal → Nat → List (List Signal)
  | [], cur, _ => if cur.isEmpty then [] else [cur]
  | x :: xs, cur, n =>
    if n + x.bitCount ≤ 127488 then partsOf xs (cur ++ [x]) (n + x.bitCount)
    else cur :: partsOf xs [x] x.bitCount

/-- The size in bytes of a slab's records. -/
def RelaySet.tracedBytes (r : RelaySet) (slab : Nat) : Nat :=
  ((partsOf (r.traced slab) [] 0).map (fun p => (48 + ((p.map Signal.bitCount).sum + 7) / 8 + 15) / 32 * 32)).sum

/-- The SIGNALS records of a slab (R343, R344). -/
def signalRecords (t lap age slab : Nat) (miss : Bool) (ts : List Nat) (xs : List Signal) : List Blob :=
  let ps := partsOf xs [] 0
  (List.range ps.length).map (fun k =>
    let p := ps.getD k []
    let bs := p.flatMap (fun x => x.stream ts)
    let flags := nat01 miss * 128 + (if k + 1 = ps.length then 32 else 0)
    record 1 flags (min k 3) t age lap (beBytes 2 slab ++ [0, 0] ++ beBytes 4 ((p.head?.map Signal.idx).getD 0) ++
      beBytes 4 p.length ++ beBytes 4 bs.length ++ packBits bs))

/-- Whether lap n of tenant t is traced (R342). -/
def State.tracedLap (s : State) (t n : Nat) : Bool :=
  s.ringMode t != 0 && s.activeLap t n && s.activeIndex t n % s.ringSample t == 0

/-! ## Triggers (R346) -/

/-- The 40-bit word a comparator sees (R346). -/
def comparatorWord (bs : List Bool) (first : Nat) (four : Bool) : Nat :=
  let at_ := if four then 2 * first else first
  (List.range 40).foldl (fun v j => v * 2 + nat01 (bs.getD (at_ + j) false)) 0

/-- Whether a digit under a mask is X or Z (mode 4). -/
def unknownDigit (d mask : Nat) : Bool :=
  (List.range 20).any (fun k => bits mask (2 * k + 1) (2 * k) != 0 && bit d (2 * k + 1))

/-- One comparator at the extraction of a slab. -/
def State.compare (s : State) (t n i : Nat) (ts : List Nat) (xs : List Signal) : State :=
  let b := (s.blb Obj.TRACE_TRIGGERS t).drop (24 * i)
  let mode := beAt b 4 1
  match (if mode = 0 then none else xs.find? (fun x => x.idx == beAt b 0 4)) with
  | none => s
  | some x =>
    let d := comparatorWord (x.stream ts) (beAt b 8 4) x.four
    let mask := beAt b 17 5
    let v := beAt b 12 5
    let last := tabGet? (s.ring t).lastWord i
    let hit : Bool := match mode with
      | 1 => d &&& mask == v
      | 2 => d &&& mask != v
      | 3 => (match last with
        | some l => l != d &&& mask
        | none => false)
      | _ => unknownDigit d mask
    let s := s.modRing t (fun y => { y with lastWord := tabSet y.lastWord i (d &&& mask) })
    if hit then s.fire t n i else s

/-- TRACE_EXTRACT (R342): a completed or missing traced input's records, once; its comparators fire. -/
def execTraceExtract (t lap slab : Nat) (s : State) : Host.Outcome State Fault Refusal :=
  let set := s.relaySetFor t lap
  let xs := set.traced slab
  let x := s.input t slab lap
  match set.slab? slab with
  | none => .next s
  | some e =>
    if xs.isEmpty || !s.tracedLap t lap || x.traced || !(x.st == .complete || x.st == .missing) || !s.ringTakesLap t lap then .next s
    else
      let there := x.st == .complete
      let ts := if there then s.inputTens t slab lap else List.replicate e.tens (substitute e.four)
      let s := s.setInput t slab lap { x with traced := true }
      let s := (signalRecords t lap x.age slab (!there || x.miss) ts xs).foldl (fun s r => s.ringWrite t lap r) s
      .next ((List.range 4).foldl (fun s i => s.compare t lap i ts xs) s)

/-- Whether an input has records that are still to be extracted. -/
def State.untraced (s : State) (e : Nat × Input) : Bool :=
  let t := keyTenant e.1
  let n := keyLap e.1
  !e.2.traced && s.ringMode t != 0 && s.activeIndex t n % s.ringSample t == 0 && !((s.relaySetFor t n).traced (keySlab e.1)).isEmpty

/-- Inputs whose extraction has not begun when the Exchanger's hold ends at the end of lap n (R347, cause 1). -/
def State.traceHoldEnd (s : State) (n : Nat) : State :=
  let old := s.relay.inputs.filter (fun e => keyLap e.1 != n && !lapFuture s (keyLap e.1) && s.lapMatches (keyTenant e.1) n)
  old.foldl (fun s e =>
    let t := keyTenant e.1
    let l := keyLap e.1
    if s.untraced e && s.ringTakesLap t l && (e.2.st == .complete || e.2.st == .missing) then
      (partsOf ((s.relaySetFor t l).traced (keySlab e.1)) [] 0).foldl (fun s _ => s.recordLost t l 1) s
    else s) s

/-- A ring stops; losses not yet marked become its final record (R347). -/
def State.ringStop (s : State) (t : Nat) : State := ((s.serveWaiting t 7).ringGap t).modRing t (fun x => { x with st := .stopped })

/-- The TRIGGER record, once every input of the trigger lap is extracted; the mirror follows it (R345, R346). -/
def State.ringTrigger (s : State) (t : Nat) : State :=
  let x := s.ring t
  if x.trigDue && !s.relay.inputs.any (fun e => keyTenant e.1 == t && keyLap e.1 == x.trigLap && s.untraced e) then
    let s := s.serveWaiting t 7
    let s := s.ringServe t x.trigLap (record 2 32 0 t 0 x.trigLap (beBytes 1 x.cause ++ List.replicate 15 0))
    (s.modRing t (fun x => { x with trigDue := false })).putMirror t
  else s

/-- What the end of lap n does to a ring in trigger mode: the TRIGGER record once the trigger lap is over, and the stop once the last of
the POST laps is over and extracted (R346). -/
def State.ringLapEnd (s : State) (t n : Nat) : State :=
  let x := s.ring t
  let s := if x.trigLap == n || s.lapOver x.trigLap then s.ringTrigger t else s
  let x := s.ring t
  if x.st == .triggered && !x.trigDue && x.stopAt ≤ s.tracedCount t (s.tenant t).activeIdx &&
      !s.relay.inputs.any (fun e => keyTenant e.1 == t && s.untraced e && s.ringTakesLap t (keyLap e.1)) then s.ringStop t
  else s

/-- A trigger on TRIGGER_LAP as lap n starts (Table 11.5). -/
def State.ringLapStart (s : State) (t n : Nat) : State :=
  if beAt (s.blb Obj.TRACE_TRIGGERS t) 96 6 == n then s.fire t n 4 else s

/-- A tenant leaves RUNNING: an armed or triggered ring stops (R346). -/
def State.ringLeave (s : State) (t : Nat) : State :=
  if s.ringMode t == 2 && ((s.ring t).st == .armed || (s.ring t).st == .triggered) then s.ringStop t else s

/-! ## Areas and writes -/

/-- The DRAM spans of rings and snapshot areas but one (R329): `o` and `t` name the one left out. -/
def State.areas (s : State) (o t : Nat) : List (Nat × Nat) :=
  (List.range 255).flatMap (fun k =>
    let u := k + 1
    (if o == Obj.TRACE_RING && u == t then [] else [(s.ringBase u, s.ringSize u)]) ++
    (if o == Obj.SNAP_AREA && u == t then [] else [(beAt (s.blb Obj.SNAP_AREA u) 0 8, beAt (s.blb Obj.SNAP_AREA u) 8 8)]))

/-- R329: whether a span may hold a ring or an area. -/
def State.areaOk (s : State) (o t base size : Nat) : Bool :=
  giB ≤ base && base + size ≤ s.dramSize && !(s.areas o t).any (fun e => blocksMeet (base, size) e)

/-- A write of 7000h[t] (R329, R339, R345 to R347); its reserved bytes read zero (R4). -/
def applyTraceRing (t : Nat) (b : Blob) (s : State) : State × Result :=
  let base := beAt b 0 8
  let size := beAt b 8 8
  let mode := beAt b 24 1
  if b.length != 48 || 3 < mode || beAt b 16 8 % 64 != 0 || (mode != 0 && beAt b 26 2 = 0) ||
      ((mode != 0 || size != 0) && (base % page != 0 || size % page != 0 || size < 32768 || 2 ^ 36 < size ||
        !s.areaOk Obj.TRACE_RING t base size)) then (s, .range)
  else if !s.bwFits (beAt (s.blb Obj.TRACE_RING t) 36 4) (beAt b 36 4) then (s, .overcommit)
  else
    let s := s.writeBlob Obj.TRACE_RING t (overwrite (overwrite b 25 [0]) 40 (List.replicate 8 0))
    (s.modRing t (fun _ => { Ring.reset with st := if mode = 0 then .off else .running }), .ok)

/-- TRACE_RING: a write of 7000h[i]. -/
def execTraceRing (p : Principal) (i : Nat) (b : Blob) (s : State) : Host.Outcome State Fault Refusal :=
  .next (s.writeBlobCmd p Obj.TRACE_RING i b (applyTraceRing i))

/-- The laps a ring holds, from the operational set's record sizes (R346): laps to a page, or pages to a lap. -/
def State.lapsHeld (s : State) (t : Nat) : Nat :=
  let set := tabGet s.relay.sets t .empty
  let l := ((List.range set.slabs.length).map set.tracedBytes).sum
  let pages := s.ringSize t / page
  if l = 0 then 2 ^ 32 - 1 else if l ≤ page then pages * (page / l) else pages / ((l + page - 1) / page)

/-- A write of 7004h[t] (R344, R346). -/
def applyTraceArm (t v : Nat) (s : State) : State × Result :=
  let set := tabGet s.relay.sets t .empty
  if 1 < v then (s, .range)
  else if v = 0 then (s, .ok)
  else if s.lapsHeld t < s.ringPre t + s.ringPost t + 2 ||
      (List.range set.slabs.length).any (fun k => (partsOf (set.traced k) [] 0).length > 4) then (s, .range)
  else if s.ringMode t != 2 then (s, .state)
  else (s.modRing t (fun _ => { Ring.reset with st := .armed }), .ok)

/-- TRACE_ARM: a write of 7004h[i]. -/
def execTraceArm (p : Principal) (i v : Nat) (s : State) : Host.Outcome State Fault Refusal :=
  .next (s.writeNumCmd p Obj.TRACE_ARM i v (applyTraceArm i))

/-- A write of 7005h[t] (Table 11.5). -/
def applyTraceTrigger (t v : Nat) (s : State) : State × Result :=
  if 1 < v then (s, .range) else if v = 0 then (s, .ok) else (s.fire t s.time.lap 5, .ok)

/-- TRACE_TRIGGER: a write of 7005h[i]. -/
def execTraceTrigger (p : Principal) (i v : Nat) (s : State) : Host.Outcome State Fault Refusal :=
  .next (s.writeNumCmd p Obj.TRACE_TRIGGER i v (applyTraceTrigger i))

/-- 7001h as it is stored, its reserved fields zero (R4). -/
def triggersStored (b : Blob) : Blob :=
  (List.range 4).flatMap (fun i => let c := b.drop (24 * i)
    c.take 5 ++ [0, 0, 0] ++ (c.drop 8).take 14 ++ [0, 0]) ++ (b.drop 96).take 6 ++ beBytes 1 (beAt b 102 1 % 2) ++ [0]

/-- A write of 7001h[t] (Table 11.6). -/
def applyTraceTriggers (t : Nat) (b : Blob) (s : State) : State × Result :=
  if b.length != 104 || (List.range 4).any (fun i => 4 < beAt b (24 * i + 4) 1) then (s, .range)
  else (s.writeBlob Obj.TRACE_TRIGGERS t (triggersStored b), .ok)

/-- A write of 7003h[t]: a multiple of 32 below SIZE. -/
def applyTraceRead (t v : Nat) (s : State) : State × Result :=
  if v % 32 != 0 || s.ringSize t ≤ v then (s, .range) else (s.writeNum Obj.TRACE_READ t v, .ok)

/-- A write of 7010h[t]; its reserved fields read zero (R4). -/
def applyUpload (t : Nat) (b : Blob) (s : State) : State × Result :=
  if b.length != 16 || 16383 < beAt b 0 2 || 4095 < beAt b 2 2 then (s, .range)
  else (s.writeBlob Obj.UPLOAD t (b.take 8 ++ beBytes 1 (beAt b 8 1 % 2) ++ List.replicate 7 0), .ok)

/-! ## The snapshot store (R348) -/

/-- Bytes of one slot of a tenant's area. -/
def State.slotSize (s : State) (t : Nat) : Nat := beAt (s.blb Obj.SNAP_AREA t) 8 8 / 2

/-- The first address of a slot. -/
def State.slotBase (s : State) (t k : Nat) : Nat := beAt (s.blb Obj.SNAP_AREA t) 0 8 + k * s.slotSize t

/-- A slot. -/
def State.slot (s : State) (t k : Nat) : SnapSlot := tabGet (tabGet s.trc.slots t []) k ⟨noLap, 0, 0, 0⟩

/-- Replaces a slot. -/
def State.setSlot (s : State) (t k : Nat) (x : SnapSlot) : State :=
  { s with trc.slots := tabUpd s.trc.slots t [] (fun m => tabSet m k x) }

/-- Marks a capture incomplete (R320, R348). -/
def State.photoShort (s : State) (t : Nat) : State :=
  s.modTenant t (fun x => { x with photo := x.photo.map (fun ph => { ph with incomplete := true }) })

/-- Writes a record of a capture into its slot; one that exceeds the slot makes the capture incomplete (R348). -/
def State.slotPut (s : State) (t k : Nat) (r : Blob) : State :=
  let x := s.slot t k
  let rest := pageRest x.used
  let pad := if r.length ≤ rest then 0 else rest
  if x.used + pad + r.length > s.slotSize t then s.photoShort t
  else
    let s := if pad = 0 then s else s.recordPut (.snapshot t) (s.slotBase t k + x.used) (withSeq (padRecord t x.lap pad) x.records)
    let n := x.records + (if pad = 0 then 0 else 1)
    let s := s.recordPut (.snapshot t) (s.slotBase t k + x.used + pad) (withSeq r n)
    s.setSlot t k { x with used := x.used + pad + r.length, records := n + 1 }

/-- Writes a capture record of a tenant's Photo finish, in parts where it exceeds one record: `head` are payload bytes 16 to 31. -/
def State.capture (s : State) (t typ age : Nat) (head body : Blob) : State :=
  match (s.tenant t).photo with
  | none => s
  | some ph =>
    let n := max 1 ((body.length + 15935) / 15936)
    (List.range n).foldl (fun s k =>
      s.slotPut t ph.slot (record typ (if k + 1 = n then 32 else 0) (min k 3) t age ph.lap (head ++ (body.drop (15936 * k)).take 15936))) s

/-- The stored bytes of a frame as the pool holds them. -/
def State.storedNow (s : State) (f : Frame) : Blob := s.readBaton f.baton 0 f.bytes.length

/-- Captures a slab (Table 11.4 type 06h). -/
def State.captureSlab (s : State) (t fid slab port kind age : Nat) : State :=
  match s.frame? fid with
  | none => s
  | some f => s.capture t 6 age (beBytes 2 slab ++ beBytes 1 port ++ beBytes 1 kind ++ List.replicate 12 0) (s.storedNow f)

/-- Captures a frame of a queue (type 07h). -/
def State.captureFrame (s : State) (t fid q : Nat) : State :=
  match s.frame? fid with
  | none => s
  | some f => s.capture t 7 0 (beBytes 2 q ++ List.replicate 14 0) (s.storedNow f)

/-- Whether tenant t's capture of lap n is in progress. -/
def State.capturing (s : State) (t n : Nat) : Bool :=
  match (s.tenant t).photo with
  | some ph => ph.lap == n && !ph.joined
  | none => false

/-- R86 at the end of a slab, with what a Photo finish of its lap captures (Table 10.11). -/
def State.endSlabCapture (s : State) (fid : Nat) (good mayNotice : Bool) : State :=
  match s.frame? fid with
  | none => s
  | some f =>
    let s := s.endSlab fid good mayNotice
    match f.relayLap with
    | none => s
    | some n =>
      let r := relayWordOf (fhWord f.bytes)
      let x := s.input f.parseTenant r.slab n
      if good && x.fid == fid && x.st == .complete && s.capturing f.parseTenant n then
        s.captureSlab f.parseTenant fid r.slab f.port 0 x.age
      else s

/-- A write of 7020h[t] (R329, R339, R348). -/
def applySnapArea (t : Nat) (b : Blob) (s : State) : State × Result :=
  let size := beAt b 8 8
  if b.length != 24 || (size != 0 && (beAt b 0 8 % page != 0 || size % 32768 != 0 || !s.areaOk Obj.SNAP_AREA t (beAt b 0 8) size)) then
    (s, .range)
  else if (s.tenant t).photo.isSome then (s, .state)
  else if !s.bwFits (beAt (s.blb Obj.SNAP_AREA t) 16 4) (beAt b 16 4) then (s, .overcommit)
  else ({ s with trc.slots := tabDel s.trc.slots t }.writeBlob Obj.SNAP_AREA t b, .ok)

/-- SNAP_AREA: a write of 7020h[i]. -/
def execSnapArea (p : Principal) (i : Nat) (b : Blob) (s : State) : Host.Outcome State Fault Refusal :=
  .next (s.writeBlobCmd p Obj.SNAP_AREA i b (applySnapArea i))

/-! ## Upload (R349) -/

/-- Follows record headers from an offset of a span of DRAM: the records that fit in `room` bytes, BAD records in place of poisoned
ones, and the offset after them. PAD records are passed over. The span is read modulo its size. -/
def State.uploadScan (s : State) (base size last t : Nat) : Nat → Nat → Nat → Nat → Blob → Nat × Nat × Blob
  | 0, off, bad, _, acc => (off, bad, acc)
  | fuel + 1, off, bad, room, acc =>
    if off == last then (off, bad, acc)
    else
      let a := base + off
      let rest := pageRest off
      let badRec := fun (n lap seq : Nat) => withSeq (record 5 0 0 t 0 lap (beBytes 4 n ++ beBytes 8 off ++ [0, 0, 0, 0])) seq
      if s.poisoned a then
        if room < 32 then (off, bad, acc)
        else s.uploadScan base size last t fuel ((off + rest) % size) (bad + 1) (room - 32) (acc ++ badRec rest 0 0)
      else
        let h := s.dramGet a 16
        let n := beAt h 2 2 % 1024 * 32
        if n = 0 then (off, bad, acc)
        else if beAt h 0 1 = 4 then s.uploadScan base size last t fuel ((off + n) % size) bad room acc
        else if s.spanPoisoned a n then
          if room < 32 then (off, bad, acc)
          else s.uploadScan base size last t fuel ((off + n) % size) (bad + 1) (room - 32) (acc ++ badRec n (beAt h 6 6) (beAt h 12 4))
        else if room < n then (off, bad, acc)
        else s.uploadScan base size last t fuel ((off + n) % size) bad (room - n) (acc ++ s.dramGet a n)

/-- The offset of the first record at or after an offset that is sent: a PAD is passed over (R349). -/
def State.uploadStart (s : State) (base size last off : Nat) : Nat :=
  let h := s.dramGet (base + off) 16
  let n := beAt h 2 2 % 1024 * 32
  if off == last || s.poisoned (base + off) || beAt h 0 1 != 4 || n = 0 then off else (off + n) % size

/-- An upload frame of records from an offset (R349). -/
def State.uploadFrame (s : State) (t kind off seq : Nat) (recs : Blob) : Blob :=
  let b := s.blb Obj.UPLOAD t
  let word := beAt b 2 2 % 4096 * 2 ^ 14 + beAt b 0 2 % 2 ^ 14
  let h : FabricHdr := ⟨beAt b 4 4, ownDevice (s.cfg Obj.DEVICE_ID) 0, 6, 0, if kind = 0 then 3 else 5, 16 + recs.length, 0, false, false, word⟩
  h.bytes ++ beBytes 1 kind ++ beBytes 1 t ++ [0, 0] ++ beBytes 4 (off % 2 ^ 32) ++ beBytes 4 seq ++ [0, 0, 0, 0] ++ recs

/-- The SEQ of the first record of an upload. -/
def firstSeq (recs : Blob) : Nat := beAt recs 12 4

/-- UPLOAD_SUBMIT (R349): the next frame of a snapshot upload under way, or of a stream-mode ring that drains. -/
def execUploadSubmit (t : Nat) (s : State) : Host.Outcome State Fault Refusal :=
  let send := fun (kind base size off last : Nat) (done : Nat → State → State) =>
    let off := s.uploadStart base size last off
    let (next, bad, recs) := s.uploadScan base size last t 1024 off 0 15984 []
    let s := s.takeTokens .upload recs.length
    if recs.isEmpty then done next s
    else match s.submitStarter (s.uploadFrame t kind off (firstSeq recs) recs) 6 16 0 with
      | none => s
      | some (_, s) => done next ((s.count Obj.UPLOAD_FRAMES).countN Obj.BAD_RECORDS 0 bad)
  match tabGet? s.trc.uploads t with
  | some (k, off) =>
    let x := s.slot t k
    .next (send 1 (s.slotBase t k) (s.slotSize t + 1) off x.used (fun next s =>
      if next == x.used then { s with trc.uploads := tabDel s.trc.uploads t }
      else { s with trc.uploads := tabSet s.trc.uploads t (k, next) }))
  | none =>
    if bit (beAt (s.blb Obj.UPLOAD t) 8 1) 0 && s.ringMode t == 3 && s.ringSize t != 0 then
      .next (send 0 (s.ringBase t) (s.ringSize t) (s.cfg Obj.TRACE_READ t) (s.ring t).write (fun next s => s.setCfg Obj.TRACE_READ t next))
    else .next s

/-- A write of 7011h[t] (R349): STATE if neither slot holds the lap. -/
def applySnapUpload (t v : Nat) (s : State) : State × Result :=
  if !lapOk v then (s, .range)
  else match (List.range 2).find? (fun k => (s.slot t k).lap == v && (s.slot t k).status ≥ 2) with
    | none => (s, .state)
    | some k => ({ s with trc.uploads := tabSet s.trc.uploads t (k, 0) }, .ok)

/-- SNAP_UPLOAD: a write of 7011h[i]. -/
def execSnapUpload (p : Principal) (i v : Nat) (s : State) : Host.Outcome State Fault Refusal :=
  .next (s.writeNumCmd p Obj.SNAP_UPLOAD i v (applySnapUpload i))

/-! ## The end of a Photo finish, and lost children (R313, R319, R322) -/

/-- The references of a Photo finish are given back. -/
def State.photoRelease (s : State) (ph : Photo) : State :=
  ph.frames.foldl (fun s e => match s.frame? e.2 with
    | some f => (s.release f.baton).forget e.2
    | none => s) s

/-- The capture ends with its result (R322): status, the slot, and for a complete one 6004h. -/
def State.photoEnd (s : State) (t : Nat) (ph : Photo) (short : Bool) : State :=
  let s := s.photoRelease ph
  let x := s.slot t ph.slot
  let s := s.setSlot t ph.slot { x with status := if short then 3 else 2 }
  let s := s.setCfg Obj.PHOTO_STATUS t (if short then 3 else 2)
  let s := if short then s else s.setCfg Obj.LAST_PHOTO t ph.lap
  s.modTenant t (fun x => { x with photo := none })

/-- The cells of which a capture holds references. -/
def State.photoCells (s : State) (ph : Photo) : Nat :=
  (ph.frames.map (fun e => ((s.frame? e.2).map (fun f => queueCells f.baton)).getD 0)).sum

/-- A capture takes a reference of a frame in a queue; beyond CELLS of 7020h, or where none can be taken, it is INCOMPLETE (R320, R348). -/
def State.photoRef (s : State) (t q fid baton : Nat) : State :=
  match (s.tenant t).photo with
  | none => s
  | some ph =>
    if s.photoCells ph + queueCells baton > beAt (s.blb Obj.SNAP_AREA t) 20 4 then s.photoShort t
    else match s.incRef baton with
      | (true, s) => s.modTenant t (fun x => { x with photo := x.photo.map (fun p => { p with frames := p.frames ++ [(q, fid)] }) })
      | (false, s) => s.photoShort t

/-- Joins the PHOTO_DONE wave once the device and every child have finished; the Anchor sends it down (R322). -/
def State.photoStep (s : State) (t : Nat) : State :=
  match (s.tenant t).photo with
  | none => s
  | some ph =>
    if !ph.joined || ph.sent || !s.fabricChildren.all ph.children.contains then s
    else
      let v := nat01 ph.incomplete * 2 ^ 63
      if s.time.role == .anchor then (s.waveDown t 6 (ph.lap % 65536) v).photoEnd t ph ph.incomplete
      else
        let s := s.modTenant t (fun x => { x with photo := some { ph with sent := true } })
        s.waveUp t 6 (ph.lap % 65536) v

/-- A Photo finish that loses a port that it waits for is INCOMPLETE and goes on without it (R319). -/
def State.photoLose (s : State) (t p : Nat) : State :=
  match (s.tenant t).photo with
  | none => s
  | some ph =>
    let lost := if isFabric p then !ph.children.contains p else (s.members t).contains p && !ph.endpoints.contains p
    if ph.sent || !lost then s
    else
      let ph := { ph with incomplete := true, endpoints := if isFabric p then ph.endpoints else ph.endpoints ++ [p] }
      (s.modTenant t (fun x => { x with photo := some ph })).photoStep t

/-- A port ceases to be a child (R313): a fabric port with a JOIN, or a target port. -/
def State.dropChild (s : State) (p : Nat) : State :=
  if isFabric p && !s.ten.children.contains p then s
  else
    let s := ({ s with ten.children := s.ten.children.filter (· != p) } : State).dropReporter p
    s.ten.tenants.foldl (fun s e => s.photoLose e.1 p) s

end Sys2Proof.Machine
end

