-- ==== Sys2Proof/Machine/Queues.lean ====
section
/-! DEFINITION. Handover and release (R143, R152, R160, R213, R276, R277, R287, R396), and the objects of queues, rings, pacers and
marshals (R273, R274, R279, R282, R288, R289). -/

namespace Sys2Proof.Machine

/-! ## Handover (R276) -/

/-- Where the message of an in-band request starts in a frame (R396): after the fabric header, or after the EtherType. -/
def State.inbandAt (s : State) (f : Frame) (w : Blob) : Option Nat :=
  if f.src != 0 then none
  else if isPsiot f.port then
    let dev := bits (fhDest w) 23 10
    if fhClass w == 3 && fhProto w == 2 && (dev == s.cfg Obj.DEVICE_ID || dev == 0) && fhDest w % 1024 == 0 then some 32 else none
  else
    let mac := s.cfg Obj.HOST_MGMT_MAC f.port
    if mac != 0 && beAt w 0 6 != mac then none
    else
      (f.headers.take f.inner).findSome? (fun (e : Nat × Nat) =>
        if e.1 == 1 && beAt w (e.2 + 12) 2 == 0x88B5 then some (e.2 + 14)
        else if (e.1 == 2 || e.1 == 3) && beAt w (e.2 + 2) 2 == 0x88B5 then some (e.2 + 4) else none)

/-- INBAND_REQUEST (R396): the message of a released request waits at the management front end. -/
def State.inbandRequest (s : State) (f : Frame) (w : Blob) (at_ : Nat) : State :=
  { s with mgmt.inbox := s.mgmt.inbox ++ [⟨.inband f.port f.sub f.parseTenant, w.drop at_, w⟩] }

/-- R321: whether a C4 or C5 frame belongs before the cut of a Photo finish. -/
def State.beforeCut (s : State) (ph : Photo) (f : Frame) : Bool :=
  f.src == 0 && (f.cls == 4 || f.cls == 5) && isPsiot f.port &&
  (if isFabric f.port then match tabGet? ph.markers (f.port * 8 + f.cls) with
      | some m => f.tf < m
      | none => true
    else (f.tf : Int) - ((tabGet s.time.exch f.port ⟨0, 0, 0, 0, 0, none, 0⟩).mean).getD 0 < ph.cut)

/-- Captures a transactor frame in flight that belongs before the cut, for each queue it entered, behind what the capture holds so far, within
CELLS of 7020h (Table 10.11, R323, R348). -/
def State.captureFlight (s : State) (fid : Nat) (f : Frame) (t : Nat) (qs : List Nat) : State :=
  match (s.tenant t).photo with
  | some ph =>
    if !ph.joined && s.beforeCut ph f then
      (qs.filter (fun q => (s.queue q).copies.any (fun c => c.fid == fid))).foldl (fun s q => s.photoRef t q fid f.baton) s
    else s
  | none => s

/-- The run's reference is released and the frame is a drop at step 6 (R277). -/
def State.dropAtRelease (s : State) (fid : Nat) (f : Frame) : State := (s.release f.baton).forget fid

/-- Whether a released frame is a PTP frame for the time engine (R46, R430): a C2 frame of a host port that 1209h names as its source of
time (log 122). -/
def State.ptpTaken (s : State) (f : Frame) (w : Blob) : Bool :=
  let m := s.cfg Obj.EXT_ALIGN
  f.src == 0 && isHost f.port && f.cls == 2 && (ptpAt w).isSome && 2 ≤ m && m % 2 == f.port % 2

/-- What a release to queues comes to (R276, R277, R396, R430): whether it is a drop, every queue having refused it, and the state. -/
def State.releaseTo (s : State) (fid : Nat) (f : Frame) (c : Card) (qs : List Nat) (edit : Nat) : Bool × State :=
  let w := s.frameNow f
  match s.inbandAt f w with
  | some at_ => (false, (s.inbandRequest f w at_).dropAtRelease fid f)
  | none =>
    if s.ptpTaken f w then
      (false, State.dropAtRelease { s with time.ptpIn := s.time.ptpIn ++ [(⟨f.port, f.sub, f.tf, w⟩ : PtpFrame)] } fid f)
    else
    let (x, s) := qs.foldl (fun (y : Admission × State) q => y.2.admitTo fid f c edit y.1 q) (⟨0, [], []⟩, s)
    if x.admitted = 0 then (true, s.dropAtRelease fid f)
    else (false, (s.captureFlight fid f c.tenant qs).countPicks f.picks f.phys)

/-- A frame at its handover with what its run posted: whether it is a drop, and the state after it. -/
def State.handFrame (s : State) (fid : Nat) (f : Frame) (c : Card) (r : Release) : Bool × State :=
  let s := s.uncharge fid
  match r with
  | .drop => (true, s.dropAtRelease fid f)
  | .toQueues qs e set =>
    let edit := if set then e else c.edit
    if c.flags.drop || f.condemned then (true, s.dropAtRelease fid f)
    else if edit != 0 && editFaulty (s.graphOf f) f.headers (s.blb Obj.EDIT edit) then
      (true, (s.count Obj.EDIT_FAULTS).dropAtRelease fid f)
    else s.releaseTo fid f c qs edit

/-- HANDOVER (R276): the next frame of an order domain whose run has released it, in sequence (R213). -/
def execHandover (n : Nat) (s : State) : Host.Outcome State Fault Refusal :=
  let x := s.od n
  match tabGet? x.frames x.hand, tabGet? x.posted x.hand with
  | some fid, some r =>
    let s := s.setOd n { x with hand := x.hand + 1, frames := tabDel x.frames x.hand, posted := tabDel x.posted x.hand }
    match s.frame? fid, s.cardOf? fid with
    | some f, some c =>
      let (drop, s) := s.handFrame fid f c r
      .next (if c.flags.fragFirst then s.decideFrag fid drop else s).starterFlush
    | _, _ => .next s
  | _, _ => .next s

/-! ## Partition sizes (R264) -/

/-- The relay and retention demands of all operational and staged sets, for which the first two partitions stand (R270). -/
def State.relayNeed (s : State) : Nat → Nat
  | 0 => ((s.relay.sets ++ s.relay.staged).map (fun e => e.2.demand)).sum
  | 1 => ((s.relay.sets ++ s.relay.staged).map (fun e => if s.replay e.1 then e.2.retention else 0)).sum
  | _ => 0

/-- A write of 5000h (R264): its sizes cover the reservations of R268 to R271 and the demands of R270. -/
def applyPartitionSizes (b : Blob) (s : State) : State × Result :=
  let want := (List.range 4).map (fun k => beAt b (4 * k) 4)
  if b.length != 16 || want.sum != 65535 then (s, .range)
  else if !s.allIdle then (s, .state)
  else if (List.range 4).any (fun k => want.getD k 0 < s.reserved k + s.relayNeed k) then (s, .overcommit)
  else
    let s := s.writeBlob Obj.PARTITION_SIZES 0 b
    -- free cells of a partition above its size go to one below its own
    let give := fun (s : State) (k : Nat) =>
      (List.range (min (s.partSize k - s.partTarget k) (s.stack k).count)).foldl (fun s _ => match s.popCell k with
        | some (c, s) =>
          let j := s.pushPart k
          let s := if j = k then s
            else { s with buf.pool.sizes := tabSet (tabSet s.buf.pool.sizes k (s.partSize k - 1)) j (s.partSize j + 1) }
          let s := s.setCell c ⟨j, false, 0, (s.cell c).gen, 0⟩
          s.setStack j { s.stack j with pushed := c :: (s.stack j).pushed }
        | none => s) s
    ((List.range 4).foldl give s, .ok)

/-- PARTITION_SIZES: a write of 5000h. -/
def execPartitionSizes (p : Principal) (b : Blob) (s : State) : Host.Outcome State Fault Refusal :=
  .next (s.writeBlobCmd p Obj.PARTITION_SIZES 0 b applyPartitionSizes)

/-! ## Queue descriptors and blocks (R273, R274) -/

/-- Sub-ports of a host port's configurations (Table 4.10). -/
def State.subports (s : State) (p : Nat) : Nat := if isHost p then 2 ^ (s.port p).breakout else 1

/-- Whether a queue holds frames. -/
def State.queueBusy (s : State) (q : Nat) : Bool := !((s.queue q).copies.isEmpty && (s.queue q).wire.isEmpty)

/-- The RANGE conditions of R273. A marshal is looked at only where MARSHAL_EN is set (DEDUCED, log 26). -/
def State.descRange (s : State) (q v : Nat) : Bool :=
  let port := bits v 126 122
  let cls := bits v 118 116
  port > 16 || (port ≥ 14 && cls < 2) || (port == 16 && cls == 2) || s.subports port ≤ bits v 121 119 ||
  bits v 115 108 != s.blockOwner q || bits v 107 92 == 0 || bits v 91 78 == 0 || bits v 91 78 < bits v 77 64 ||
  (bit v 49 && beAt (s.blb Obj.MARSHAL (bits v 48 36)) 17 1 != bits v 115 108)

/-- A write of 5100h[q] (R273). A pacer enabled by it starts full (R289). -/
def applyQueueDesc (q : Nat) (b : Blob) (s : State) : State × Result :=
  let v := beAt b 0 16 / 2 ^ 35 * 2 ^ 35
  let old := s.qdesc q
  let k := partOf (bits v 118 116)
  let was := if partOf (s.qClass q) == k then s.qReserve q else 0
  if b.length != 16 || s.descRange q v then (s, .range)
  else if s.queueBusy q && bits v 126 108 != bits old 126 108 then (s, .state)
  else if bits v 77 64 - was > s.sharedRegion k then (s, .overcommit)
  else
    let s := s.writeBlob Obj.QUEUE_DESC q (beBytes 16 v)
    let s := if bit v 35 && !bit old 35 then
        { s with buf.qpacers := tabUpd s.buf.qpacers q .reset (fun x => { x with tokens := 8000 * (x.burst : Int) }) } else s
    (s, .ok)

/-- QUEUE_DESC: a write of 5100h[q]. -/
def execQueueDesc (p : Principal) (i : Nat) (b : Blob) (s : State) : Host.Outcome State Fault Refusal :=
  .next (s.writeBlobCmd p Obj.QUEUE_DESC i b (applyQueueDesc i))

/-- Rewrites a queue's descriptor for a new owner, ENABLE cleared (R274). -/
def State.reown (s : State) (q t : Nat) : State :=
  let v := s.qdesc q
  let v := v % 2 ^ 127 - bits v 115 108 * 2 ^ 108 + t * 2 ^ 108
  { s with blob := tabPut s.blob (objKey Obj.QUEUE_DESC q) (blobDefault Obj.QUEUE_DESC q) (beBytes 16 v) }

/-- A write of 5101h[t] (R274). -/
def applyQueueBlock (t v : Nat) (s : State) : State × Result :=
  let now := (bits v 31 16, bits v 12 0)
  let old := (bits (s.cfg Obj.QUEUE_BLOCK t) 31 16, bits (s.cfg Obj.QUEUE_BLOCK t) 12 0)
  let others := ((List.range 256).filter (· != t)).map (fun u =>
    (bits (s.cfg Obj.QUEUE_BLOCK u) 31 16, bits (s.cfg Obj.QUEUE_BLOCK u) 12 0))
  let inside := fun (q : Nat) (e : Nat × Nat) => decide (e.1 ≤ q) && decide (q < e.1 + e.2)
  let enter := ((List.range now.2).map (now.1 + ·)).filter (fun q => !inside q old)
  let leave := ((List.range old.2).map (old.1 + ·)).filter (fun q => !inside q now)
  if 4096 < now.2 || 16384 < now.1 + now.2 || others.any (fun e => blocksMeet now e) then (s, .range)
  else if (s.tenant t).st != .idle || (enter ++ leave).any s.queueBusy then (s, .state)
  else
    let s := s.writeNum Obj.QUEUE_BLOCK t (now.1 * 2 ^ 16 + now.2)
    let s := enter.foldl (fun s q => s.reown q t) s
    (leave.foldl (fun s q => s.reown q 0) s, .ok)

/-- QUEUE_BLOCK: a write of 5101h[t]. -/
def execQueueBlock (p : Principal) (i v : Nat) (s : State) : Host.Outcome State Fault Refusal :=
  .next (s.writeNumCmd p Obj.QUEUE_BLOCK i v (applyQueueBlock i))

/-! ## Rings (R279) -/

/-- Entries of a ring; 0 for a queue that is no ring. -/
def State.ringEntries (s : State) (q : Nat) : Nat :=
  let n := beAt (s.blb Obj.QUEUE_RING q) 8 1
  if s.qPort q == 16 && 4 ≤ n then 2 ^ n else 0

/-- BASE of a ring: the host address of descriptor 0 (R279). -/
def State.ringBase64 (s : State) (q : Nat) : Nat := beAt (s.blb Obj.QUEUE_RING q) 0 8

/-- Descriptors posted and not yet taken. -/
def State.ringPosted (s : State) (q : Nat) : Nat :=
  let n := s.ringEntries q
  let x := s.queue q
  if n = 0 then 0 else (x.ringTail + n - x.ringHead % n) % n

/-- Whether a ring transmits (DIR = 1). -/
def State.ringTx (s : State) (q : Nat) : Bool := beAt (s.blb Obj.QUEUE_RING q) 9 1 == 1

/-- A write of 5103h[q] (R279), its reserved bytes zero (R4): the ring's function is the virtual function of its tenant, with 16 vectors (R130, R131). -/
def applyQueueRing (q : Nat) (b : Blob) (s : State) : State × Result :=
  let n := beAt b 8 1
  if b.length != 24 || s.qPort q != 16 || beAt b 0 8 % 64 != 0 || n < 4 || 16 < n || 1 < beAt b 9 1 || 16 ≤ beAt b 10 2 ||
      1000000 < beAt b 12 4 then (s, .range)
  else if (s.queue q).ringHead != (s.queue q).ringTail then (s, .state)
  else (s.writeBlob Obj.QUEUE_RING q (b.take 16 ++ List.replicate 8 0), .ok)

/-- QUEUE_RING: a write of 5103h[q]. -/
def execQueueRing (p : Principal) (i : Nat) (b : Blob) (s : State) : Host.Outcome State Fault Refusal :=
  .next (s.writeBlobCmd p Obj.QUEUE_RING i b (applyQueueRing i))

/-! ## Marshals (R282) -/

/-- A write of 5210h[m]: both buckets are full after it, and reserved fields are zero (R4). -/
def applyMarshal (m : Nat) (b : Blob) (s : State) : State × Result :=
  let cir := beAt b 0 4
  let pir := beAt b 4 4
  let cbs := beAt b 8 4
  let pbs := beAt b 12 4
  let used := (s.writtenQueues).any (fun q => s.qMarshal q == some m)
  if b.length != 20 || 1600000 < pir || pir < cir || cbs = 0 || 16777215 < cbs || pbs = 0 || 16777215 < pbs ||
      bits (beAt b 16 1) 2 1 = 3 then (s, .range)
  else if beAt b 17 1 != beAt (s.blb Obj.MARSHAL m) 17 1 && used then (s, .state)
  else
    let s := s.writeBlob Obj.MARSHAL m (b.take 16 ++ beBytes 1 (beAt b 16 1 % 16) ++ beBytes 1 (beAt b 17 1) ++ [0, 0])
    ({ s with buf.marshals := tabSet s.buf.marshals m ⟨cbs * bucketByte, pbs * bucketByte, s.time.gun⟩ }, .ok)

/-- MARSHAL: a write of 5210h[m]. -/
def execMarshal (p : Principal) (i : Nat) (b : Blob) (s : State) : Host.Outcome State Fault Refusal :=
  .next (s.writeBlobCmd p Obj.MARSHAL i b (applyMarshal i))

/-! ## Pacers (R288, R289) -/

/-- A write of 5200h[q], taken at the pacer's next refill. -/
def applyQueuePacer (q : Nat) (b : Blob) (s : State) : State × Result :=
  let rate := beAt b 0 4
  let burst := beAt b 4 4
  if b.length != 8 || 1600000 < rate || 16777215 < burst then (s, .range)
  else
    let s := s.writeBlob Obj.QUEUE_PACER q b
    ({ s with buf.qpacers := tabUpd s.buf.qpacers q .reset (fun x => { x with pend := some (rate, burst) }) }, .ok)

/-- QUEUE_PACER: a write of 5200h[q]. -/
def execQueuePacer (p : Principal) (i : Nat) (b : Blob) (s : State) : Host.Outcome State Fault Refusal :=
  .next (s.writeBlobCmd p Obj.QUEUE_PACER i b (applyQueuePacer i))

/-- The rate of a port in Mb/s (R288). -/
def portRate (p : Nat) : Nat := if isHost p then 800000 else 1600000

/-- O of R288 for one gate list. -/
def openTime (l : List Split) : Nat := ((l.filter (fun x => x.gate / 4 != 0)).map (fun x => x.dur - x.guard)).sum

/-- The capacity of R288 (5220h). -/
def State.guaranteeCapacity (s : State) (p : Nat) : Nat :=
  let o := min (openTime (splitsOf (s.blb Obj.GATE_LIST p))) (openTime (splitsOf (s.blb Obj.GATE_LIST_PENDING p)))
  portRate p * o / s.lapLen

/-- The RATE sum of a port's guaranteed pacers but that of one tenant. -/
def State.guaranteed (s : State) (p but : Nat) : Nat :=
  ((List.range 256).map (fun t =>
    let b := s.blb Obj.TENANT_PACER (16 * t + p)
    if t != but && bit (beAt b 8 1) 0 then beAt b 0 4 else 0)).sum

/-- A write of 5201h[i] (R288). -/
def applyTenantPacer (i : Nat) (b : Blob) (s : State) : State × Result :=
  let rate := beAt b 0 4
  let burst := beAt b 4 4
  if b.length != 9 || 1600000 < rate || 16777215 < burst then (s, .range)
  else if bit (beAt b 8 1) 0 && s.guaranteeCapacity (i % 16) < rate + s.guaranteed (i % 16) (i / 16) then (s, .overcommit)
  else
    let s := s.writeBlob Obj.TENANT_PACER i (b.take 8 ++ beBytes 1 (beAt b 8 1 % 2))
    ({ s with buf.tpacers := tabUpd s.buf.tpacers i .reset (fun x => { x with pend := some (rate, burst) }) }, .ok)

/-- TENANT_PACER: a write of 5201h[i]. -/
def execTenantPacer (p : Principal) (i : Nat) (b : Blob) (s : State) : Host.Outcome State Fault Refusal :=
  .next (s.writeBlobCmd p Obj.TENANT_PACER i b (applyTenantPacer i))

/-- A swap that leaves a port's guarantees above the new capacity (R288). -/
def State.guaranteeShort (s : State) (p : Nat) : State :=
  if s.guaranteeCapacity p < s.guaranteed p 256 then
    (s.count Obj.GUARANTEE_SHORTFALLS p).raise 2 none Obj.GUARANTEE_SHORTFALLS p
  else s

/-- One refill of a pacer over an interval of T ns (R289); one whose RATE was zero starts full. -/
def Pacer.refill (T : Nat) (x : Pacer) : Pacer :=
  let (rate, burst) := x.pend.getD (x.rate, x.burst)
  let full : Int := 8000 * burst
  let tokens := if x.rate = 0 && rate != 0 then full else min full (x.tokens + rate * T)
  ⟨rate, burst, tokens, none⟩

/-- PACER_REFILL (R289): every pacer at once; a write of T takes effect at the start of the next interval. -/
def execPacerRefill (s : State) : Host.Outcome State Fault Refusal :=
  let T := s.buf.interval
  .next { s with
    buf.qpacers := s.buf.qpacers.map (fun (e : Nat × Pacer) => (e.1, e.2.refill T))
    buf.tpacers := s.buf.tpacers.map (fun (e : Nat × Pacer) => (e.1, e.2.refill T))
    buf.interval := s.cfg Obj.PACER_INTERVAL }

/-- Whether the pacers of a queue let a frame of it start (R284, R288). -/
def State.pacersPass (s : State) (q : Nat) : Bool :=
  s.qClass q < 2 ||
  ((!s.qPacerEn q || 0 ≤ (tabGet s.buf.qpacers q .reset).tokens) &&
    (s.qPort q ≥ 16 || (let x := tabGet s.buf.tpacers (16 * s.qTenant q + s.qPort q) .reset
      x.rate == 0 || 0 ≤ x.tokens)))

/-- The start of a frame takes its wire bytes from the pacers of its queue (R289). -/
def State.pacersTake (s : State) (q wire : Nat) : State :=
  if s.qClass q < 2 then s
  else
    let take := fun (x : Pacer) => { x with tokens := x.tokens - 8000 * (wire : Int) }
    let s := if s.qPacerEn q then { s with buf.qpacers := tabUpd s.buf.qpacers q .reset take } else s
    let i := 16 * s.qTenant q + s.qPort q
    if s.qPort q ≥ 16 || (tabGet s.buf.tpacers i .reset).rate = 0 then s
    else { s with buf.tpacers := tabUpd s.buf.tpacers i .reset take }

end Sys2Proof.Machine
end

