-- ==== Sys2Proof/Machine/Egress.lean ====
section
/-! DEFINITION. Egress: eligibility and selection (R21, R113, R121, R125, R283 to R287), launch, the end of a copy on the wire, stomps and
missed launches (R58, R59, R93, R128, R278), and the DMA rings of port P (R280, R281). -/

namespace Sys2Proof.Machine

/-! ## Rates and wire times -/

/-- The rate of a sub-port in Gb/s: into it (R118, R123). -/
def State.rateIn (s : State) (p : Nat) : Nat :=
  if isPsiot p then (if (s.port p).rxLanes = 0xFFFF then 1600 else 800) else 800 / 2 ^ (s.port p).breakout

/-- The same out of it. -/
def State.rateOut (s : State) (p : Nat) : Nat :=
  if isPsiot p then (if (s.port p).txLanes = 0xFFFF then 1600 else 800) else 800 / 2 ^ (s.port p).breakout

/-- The time a number of wire bytes takes out of a port. -/
def State.wireTime (s : State) (p bytes : Nat) : Time := bytes * 8 * ns / max 1 (s.rateOut p)

/-- Whether a Psiot port transmits on half its lanes. -/
def State.halfOut (s : State) (p : Nat) : Bool := (s.port p).txLanes != 0xFFFF

/-- When a unit launched now starts at the pin: on Psiot at the next nominal flit time after the last unit (R32, R105). -/
def State.txTime (s : State) (p : Nat) : Time :=
  if isPsiot p then flitBoundary (s.halfOut p) (max s.time.gun (s.port p).wireFree) else s.time.gun

/-- The time R58 judges a copy by: the maximum frame for an Ethernet frame forwarded cut-through. -/
def State.launchTime (s : State) (p : Nat) (f : Frame) (c : Copy) : Time :=
  if isHost p && !f.whole then s.wireTime p (s.cfg Obj.MAX_FRAME p + 20) else s.wireTime p c.wire

/-! ## Eligibility (R284) -/

/-- Whether a port is in service for a class (R121). -/
def State.inService (s : State) (p c : Nat) : Bool :=
  (s.port p).st == .up || ((s.port p).st == .isolated && c == 3 && p < 16)

/-- The priority of a class at a host port (R125). -/
def State.classPrio (s : State) (p c : Nat) : Nat := bits (s.cfg Obj.CLASS_PRIORITY p) (3 * c + 2) (3 * c)

/-- Whether a received pause holds a class of a host port (R125). -/
def State.isPaused (s : State) (p c : Nat) : Bool :=
  isHost p && c ≥ 2 && (s.port p).paused.any (fun e => e.1 == s.classPrio p c)

/-- The latest LIMIT of a virtual channel, the neighbour's initial credit until the first CREDIT (R113). -/
def Port.limitOf (p : Port) (c : Nat) : Nat :=
  match tabGet? p.limit c with
  | some v => v
  | none => match p.nb with
    | some n => n.credits.getD (c - 2) 0
    | none => 0

/-- may_start of R113. -/
def State.creditsAllow (s : State) (p c wire : Nat) : Bool :=
  !isPsiot p || c < 2 ||
  (let x := s.port p
   wire / 40 ≤ (x.limitOf c + 2 ^ 32 - tabGet x.sent c 0 % 2 ^ 32) % 2 ^ 32)

/-- R287: whether a frame may be selected at a port by how much of it has arrived. -/
def State.mayCutThrough (s : State) (p : Nat) (f : Frame) : Bool :=
  f.whole || (f.src == 0 && p != 16 && s.rateOut p ≤ s.rateIn f.port)

/-- The C4 to C7 queues of a HELD tenant with FROZEN = 1 are not eligible (Table 10.1). -/
def State.frozenOut (s : State) (q : Nat) : Bool :=
  let x := s.tenant (s.qTenant q)
  4 ≤ s.qClass q && x.st == .held && x.frozen

/-- Fills posted buffers with a frame: the bytes of each buffer used, in order; none where they cannot hold it. -/
def fillBuffers : List Nat → Blob → Option (List Blob)
  | _, [] => some []
  | [], _ :: _ => none
  | n :: ns, w => if n = 0 then none else (fillBuffers ns (w.drop n)).map (w.take n :: ·)

/-- The control word of a descriptor (Table 9.6). -/
def descCtl (d : Blob) : Nat := beAt d 8 8

/-- LENGTH of a descriptor. -/
def descLen (d : Blob) : Nat := bits (descCtl d) 55 42

/-- ADDR of a descriptor. -/
def descAddr (d : Blob) : Nat := beAt d 0 8

/-- Whether a ring of port P receives, and its posted descriptors can hold a frame (R281). -/
def State.ringHolds (s : State) (q : Nat) (f : Frame) (c : Copy) : Bool :=
  !s.ringTx q && (fillBuffers ((s.queue q).posted.map descLen) (s.outBytes 16 f c (s.qClass q))).isSome

/-- Whether the head copy of a queue may start now (R58, R93, R113, R123, R284, R287). -/
def State.headMayStart (s : State) (q : Nat) : Bool :=
  let p := s.qPort q
  let c := s.qClass q
  match (s.queue q).copies with
  | [] => false
  | x :: _ => match s.frame? x.fid with
    | none => false
    | some f =>
      s.inService p c && s.mayLaunch p c (s.txTime p - s.time.gun + s.launchTime p f x) && s.creditsAllow p c x.wire && !s.isPaused p c &&
      (c ≥ 2 || s.splitTenant p == 0 || s.splitTenant p == s.qTenant q) &&
      s.mayCutThrough p f && !f.condemned && !s.frozenOut q && s.shellLaunchable x.fid && s.pacersPass q &&
      (p != 16 || s.ringHolds q f x) && s.qSub q < s.subports p && !(s.port p).subDown.contains (s.qSub q)

/-- F of a queue. -/
def State.ftag (s : State) (q : Nat) : Nat := (s.queue q).ftag

/-- R285: the queue of a list with the smallest finish tag, the lowest number of several. -/
def State.smallestTag (s : State) : List Nat → Option Nat
  | [] => none
  | q :: qs => match s.smallestTag qs with
    | none => some q
    | some r => if vBefore (s.ftag r) (s.ftag q) then some r else some q

/-- Whether what a sub-port has selected may still start. -/
def State.selHolds (s : State) (p sub : Nat) : Bool :=
  match tabGet? (s.port p).sel sub with
  | some q => s.headMayStart q
  | none => false

/-- EGRESS_SELECTION (R21, R285): a sub-port with nothing selected that may start takes the eligible queue of the lowest class and
smallest tag. A selection that may no longer start is given up and leaves V as it is (log 124). -/
def execEgressSelection (p sub : Nat) (s : State) : Host.Outcome State Fault Refusal :=
  if s.selHolds p sub then .next s
  else
    let s := s.modPort p (fun x => { x with sel := tabDel x.sel sub })
    let e := s.busyQueues.filter (fun q => s.qPort q == p && s.qSub q == sub && s.headMayStart q)
    let c := (e.map s.qClass).foldl min 7
    match s.smallestTag (e.filter (fun q => s.qClass q == c)) with
    | none => .next s
    | some q => .next (s.modPort p (fun x => { x with
        sel := tabSet x.sel sub q, vtime := tabSet x.vtime (sub * 8 + c) (s.ftag q) }))

/-! ## Launch and the end on the wire -/

/-- The PTP message type of a Delay_Req of the ordinary clock that the Starter sent; its departure is t3 (R46). -/
def State.ptpDeparts (s : State) (p : Nat) (f : Frame) : State :=
  if isHost p && f.src == 3 && f.cls == 2 then
    match ptpAt f.bytes with
    | some a =>
      if beAt f.bytes a 1 % 16 == 1 && beAt f.bytes (a + 30) 2 == s.time.ptp.reqSeq then
        { s with time.ptp.reqAt := some (s.txTime p) }
      else s
    | none => s
  else s

/-- FRAME_LAUNCH (R58, R93, R105, R113): the selected head starts, once the sub-port is free and its lanes are awake. A selection
whose queue has emptied is given up. -/
def execFrameLaunch (p sub : Nat) (s : State) : Host.Outcome State Fault Refusal :=
  match tabGet? (s.port p).sel sub with
  | none => .next s
  | some q => match (s.queue q).copies with
    | [] => .next (s.modPort p (fun x => { x with sel := tabDel x.sel sub }))
    | c :: _ =>
      if p ≥ 16 || (tabGet? (s.port p).tx sub).isSome || (s.port p).sleep != .awake || !s.headMayStart q then .next s
      else
        let s := s.startHead q
        let cls := s.qClass q
        let s := s.modPort p (fun x => { x with
          sel := tabDel x.sel sub, tx := tabSet x.tx sub ⟨q, cls, c, s.txTime p⟩, ctlRun := 0
          sent := if isPsiot p && cls ≥ 2 then tabUpd x.sent cls 0 (fun n => (n + c.wire / 40) % 2 ^ 32) else x.sent })
        let s := s.pacersTake q c.wire
        match s.frame? c.fid with
        | some f =>
          let s := s.ptpDeparts p f
          .next (if cls == 1 then s.serveNotice p f else s)
        | none => .next s

/-- A copy has left the wire of a sub-port, whole or not. -/
def State.offWire (s : State) (p sub : Nat) (w : OnWire) : State :=
  (s.modQueue w.q (fun x => { x with wire := x.wire.erase w.copy })).modPort p (fun x => { x with tx := tabDel x.tx sub })

/-- The bytes of a copy that have left a port so far, whole flits on Psiot (R287). -/
def State.sentBytes (s : State) (p : Nat) (w : OnWire) : Blob :=
  match s.frame? w.copy.fid with
  | none => []
  | some f =>
    let n := (s.time.gun - w.started) * s.rateOut p / (8 * ns)
    (s.outBytes p f w.copy w.cls).take (if isPsiot p then n / 40 * 40 else n)

/-- Stomps what is on the wire of a sub-port: an ABORT flit on Psiot, a PCS error and the complement of the FCS on Ethernet (R128). `keep` says that a streamed output is kept as its retention copy (R93). -/
def State.stomp (s : State) (p sub reason : Nat) (keep : Bool) : State :=
  match tabGet? (s.port p).tx sub with
  | none => s
  | some w =>
    let sent := s.sentBytes p w
    let tail := if isPsiot p then (CtlFlit.abort reason).bytes 0 else (fcs sent).map (fun b => ~~~b)
    let s := ((s.offWire p sub w).emit (.stomp p sub w.copy.fid sent tail (isHost p))).count Obj.STOMPS_TX p
    let s := if isPsiot p then s.modPort p (fun x => { x with wireFree := s.time.gun + s.wireTime p 40 }) else s
    if keep then s.retain p w.copy else s.releaseCopy w.copy

/-- Ends what is on the wire without its remaining flits, a drop that the queue counts (R18, R121). -/
def State.cutOff (s : State) (p sub : Nat) : State :=
  match tabGet? (s.port p).tx sub with
  | none => s
  | some w => (((s.offWire p sub w).emit (.cutOff p sub w.copy.fid (s.sentBytes p w))).count Obj.DOWN_DROPS w.q).releaseCopy w.copy

/-- A Photo finish captures the slabs sent on target ports in its lap (Table 10.11). -/
def State.captureOutput (s : State) (p fid : Nat) (f : Frame) : State :=
  match f.relayLap with
  | some n =>
    if 8 ≤ p && p < 14 && s.capturing f.parseTenant n then
      s.captureSlab f.parseTenant fid f.wireSlab p 2 (relayWordOf (fhWord (s.frameNow f))).age
    else s
  | none => s

/-- Whether a copy is no shell, or its output is complete. -/
def State.shellBuilt (s : State) (fid : Nat) : Bool :=
  match s.shellOf fid with
  | some x => x.built
  | none => true

/-- FRAME_TRANSMIT_END (R278): the copy on the wire of a sub-port has left. A word of the pool found uncorrectable stomps it with ABORT
reason 1 (Table 15.7). -/
def execFrameTransmitEnd (p sub : Nat) (e : Ecc) (s : State) : Host.Outcome State Fault Refusal :=
  match tabGet? (s.port p).tx sub with
  | none => .next s
  | some w => match s.frame? w.copy.fid with
    | none => .next s
    | some f =>
      let s := s.sramEvent 28 (bCell w.copy.baton * 32) e
      if e = .uncorrectable then .next (s.stomp p sub 1 false)
      else if !f.whole || !s.shellBuilt w.copy.fid || s.time.gun < w.started + s.wireTime p w.copy.wire then .next s
      else
        let s := s.emit (.frame p sub w.copy.fid (s.padded p f w.copy w.cls) w.started)
        let s := ((s.count Obj.DEQUEUED w.q).countN Obj.BYTES_OUT w.q w.copy.wire).count Obj.FRAMES_TX p
        let s := if w.copy.ce && isPsiot p then s.count Obj.CE_MARKS w.q else s
        let s := if f.relay then s.captureOutput p w.copy.fid f else s
        let s := s.offWire p sub w
        .next (if w.cls == 0 then s.retain p w.copy else s.releaseCopy w.copy).starterFlush

/-- STREAM_UNDERRUN (R93): a streaming output reaches a cell that its build has not filled. -/
def execStreamUnderrun (p : Nat) (s : State) : Host.Outcome State Fault Refusal :=
  match tabGet? (s.port p).tx 0 with
  | none => .next s
  | some w => match s.shellOf w.copy.fid with
    | none => .next s
    | some x =>
      let sent := (s.time.gun - w.started) * s.rateOut p / (8 * ns)
      if x.built || sent < 256 * s.cellsFilled x then .next s
      else .next ((s.count Obj.UNDERRUNS x.t).stomp p 0 2 true)

/-! ## Missed launches (R59) -/

/-- The end of the last open interval of a tenant for C0 in lap n at a port, in ns after the lap's start. -/
def State.lastRelayEnd (s : State) (p t n : Nat) : Option Nat :=
  let l := s.gateListIn p 0
  ((List.range l.length).filter (fun k => match l[k]? with
    | some x => bit x.gate 0 && (x.tenant == 0 || (x.tenant == t && s.activeLap t n))
    | none => false)).getLast?.map (fun k => ((l.take (k + 1)).map Split.dur).sum)

/-- Whether a C0 copy has missed its lap's last open interval at a port. -/
def State.missed (s : State) (p : Nat) (c : Copy) : Bool :=
  match s.frame? c.fid with
  | none => true
  | some f => match f.relayLap with
    | none => true
    | some n =>
      s.lapOver n || (n == s.time.lap && match s.lastRelayEnd p f.parseTenant n with
        | some d => s.time.lapStart + d * ns ≤ s.time.gun
        | none => false)

/-- MISSED_LAUNCH (R59): the C0 slabs of a queue that were not started by the end of their tenant's last open interval in their lap. -/
def execMissedLaunch (q : Nat) (s : State) : Host.Outcome State Fault Refusal :=
  if s.qClass q != 0 then .next s
  else
    let (out, s) := s.takeOut q (s.missed (s.qPort q))
    .next (out.foldl (fun s c => s.missLaunch q c) s)

/-! ## DMA rings (R280, R281) -/

/-- The queue behind a doorbell slot: queue j on the PF, the tenant's j-th queue on a virtual function (R131). -/
def State.slotQueue (s : State) (function slot : Nat) : Option Nat :=
  if function = 0 then (if slot < 16384 then some slot else none)
  else
    let v := s.cfg Obj.QUEUE_BLOCK (function - 1)
    if slot < bits v 12 0 then some (bits v 31 16 + slot) else none

/-- The length of a function's MSI-X table (R131). -/
def msixVectors (function : Nat) : Nat := if function = 0 then 512 else 16

/-- The MSI-X table entry of a function's vector: address, data and vector control, with the mask bit set until the host clears it
(PRESUMED, log 123). -/
def State.msixEntry (s : State) (function v : Nat) : Blob := tabGet s.pcie.vectors (function * 512 + v) (List.replicate 15 0 ++ [1])

/-- Raises an MSI-X vector: the message leaves, or a masked vector becomes pending in the PBA. -/
def State.raiseVector (s : State) (function v : Nat) : State :=
  let e := s.msixEntry function v
  if bit (beAt e 12 4) 0 then
    { s with pcie.pendingBits := if s.pcie.pendingBits.contains (function * 512 + v) then s.pcie.pendingBits
        else (function * 512 + v) :: s.pcie.pendingBits }
  else s.emit (.msix function v (beAt e 0 8) (beAt e 8 4))

/-- Writes one of the two 8-byte words of an MSI-X table entry; a pending vector that is unmasked is raised. -/
def State.msixWrite (s : State) (function k v : Nat) : State :=
  let n := k / 2
  let key := function * 512 + n
  let e := overwrite (s.msixEntry function n) (8 * (k % 2)) (beBytes 8 v)
  let s := { s with pcie.vectors := tabSet s.pcie.vectors key e }
  if s.pcie.pendingBits.contains key && !bit (beAt e 12 4) 0 then
    { s with pcie.pendingBits := s.pcie.pendingBits.filter (· != key) }.raiseVector function n
  else s

/-- What an offset of a function's BAR0 holds (Table 4.12): a doorbell slot, or a word of the MSI-X table; the mailbox and the PBA are
none. -/
inductive Bar0 where
  | doorbell (slot : Nat)
  | msix (word : Nat)
  | none
deriving DecidableEq, Repr

/-- The place of an 8-byte write in BAR0 (Table 4.12). -/
def bar0 (function off : Nat) : Bar0 :=
  let doors := if function = 0 then 0x20FFF else 0x8FFF
  let table := if function = 0 then 0x80000 else 0xC000
  if 0x1000 ≤ off && off ≤ doors then .doorbell ((off - 0x1000) / 8)
  else if table ≤ off && off < table + 16 * msixVectors function then .msix ((off - table) / 8)
  else .none

/-- Whether a list of descriptors is one frame: EOP on the last alone. -/
def oneFrame : List Nat → Bool
  | [] => false
  | [v] => bit v 62
  | v :: vs => !bit v 62 && oneFrame vs

/-- The posted descriptors of a transmit ring's next frame: up to the first EOP. -/
def nextFrame : List Blob → List Blob
  | [] => []
  | d :: ds => if bit (descCtl d) 62 then [d] else d :: nextFrame ds

/-- Whether a frame's descriptors stand whole in a transmit ring. -/
def Queue.txReady (x : Queue) : Bool := oneFrame ((nextFrame x.posted).map descCtl)

/-- What the next frame of a transmit ring costs: the bytes read (R283, R285). -/
def State.txCost (s : State) (q : Nat) : Nat := s.cost q (((nextFrame (s.queue q).posted).map descLen).sum)

/-- The virtual time of a class among the transmit rings of port P, which are served in their own turn. -/
def State.txVtime (s : State) (c : Nat) : Nat := tabGet (s.port 16).vtime (64 + c) 0

/-- A transmit ring that had no frame and has one takes its tag (R285). -/
def State.txArrives (s : State) (q : Nat) (had : Bool) : State :=
  if s.ringTx q && !had && (s.queue q).txReady then
    let n := s.txCost q
    s.modQueue q (fun x => { x with txTag := (vMax (s.txVtime (s.qClass q)) x.txTag + n) % 2 ^ 48 })
  else s

/-- A doorbell (R281): TAIL in bits [15:0], ARM in bit [31]. The device reads the descriptors that it posts, `descs`, from the host. -/
def State.doorbell (s : State) (function slot : Nat) (v : Nat) (descs : List Blob) : State :=
  match s.slotQueue function slot with
  | none => s.count Obj.DOORBELL_ERRORS
  | some q =>
    let n := s.ringEntries q
    let tail := v % 65536 % max 1 n
    let x := s.queue q
    if n = 0 || (tail + n - x.ringHead % n) % n < s.ringPosted q then s.count Obj.DOORBELL_ERRORS
    else
      let more := (tail + n - x.ringTail % n) % n
      let fresh := (List.range more).map (fun k => (descs.getD k []).take 16)
      let s := (List.range more).foldl (fun s k => s.emit (.dmaRead (s.ringBase64 q + 16 * ((x.ringTail + k) % n)) 16)) s
      (s.modQueue q (fun x => { x with ringTail := tail, posted := x.posted ++ fresh, armed := x.armed || bit v 31 })).txArrives q x.txReady

/-- DOORBELL_WRITE (R131, R281): the host writes 8 bytes of a function's BAR0. -/
def execDoorbellWrite (function off : Nat) (v : BitVec 64) (descs : List Blob) (s : State) : Host.Outcome State Fault Refusal :=
  match bar0 function off with
  | .doorbell slot => .next (s.doorbell function slot v.toNat descs)
  | .msix k => .next (s.msixWrite function k v.toNat)
  | .none => .next s

/-- A DMA write into host memory, in writes of at most 512 bytes, the maximum payload (R129). -/
def State.dmaWrite (s : State) (a : Nat) (w : Blob) : State :=
  (List.range ((w.length + 511) / 512)).foldl (fun s k => s.emit (.dma (a + 512 * k) ((w.drop (512 * k)).take 512))) s

/-- DMA reads of host memory, in requests of at most 4,096 bytes (R129). -/
def State.dmaFetch (s : State) (a len : Nat) : State :=
  (List.range ((len + 4095) / 4096)).foldl (fun s k => s.emit (.dmaRead (a + 4096 * k) (min 4096 (len - 4096 * k)))) s

/-- The oldest posted descriptor of a ring completes with a control word, written at its place after its data (R280, R281). -/
def State.completeOne (s : State) (q ctl : Nat) : State :=
  let x := s.queue q
  let s := s.dmaWrite (s.ringBase64 q + 16 * x.ringHead + 8) (beBytes 8 ctl)
  s.modQueue q (fun x => { x with ringHead := (x.ringHead + 1) % max 1 (s.ringEntries q), posted := x.posted.drop 1 })

/-- The first completion that follows an arm makes the ring's vector due MODERATION later (R281). -/
def State.armFires (s : State) (q : Nat) : State :=
  s.modQueue q (fun x =>
    if x.armed then { x with armed := false, raiseAt := x.raiseAt ++ [s.time.gun + beAt (s.blb Obj.QUEUE_RING q) 12 4 * ns] } else x)

/-- Descriptors of a ring complete, each with its control word (R280, R281). -/
def State.complete (s : State) (q : Nat) (ctls : List Nat) : State := (ctls.foldl (fun s v => s.completeOne q v) s).armFires q

/-- MSIX_MODERATION_EXPIRY (R281): the ring's vector of the virtual function of its tenant (R130). -/
def execMsixModerationExpiry (q : Nat) (s : State) : Host.Outcome State Fault Refusal :=
  match (s.queue q).raiseAt with
  | t :: ts =>
    if t ≤ s.time.gun then
      .next ((s.modQueue q (fun x => { x with raiseAt := ts })).raiseVector (s.qTenant q + 1) (beAt (s.blb Obj.QUEUE_RING q) 10 2))
    else .next s
  | [] => .next s

/-- Whether a transmit ring's tenant lets frames in. -/
def State.txAllowed (s : State) (q : Nat) : Bool :=
  s.ringTx q && s.qEnable q && (s.port 16).st == .up && s.pacersPass q && (s.tenant (s.qTenant q)).st != .resetting

/-- The transmit ring whose turn it is: of the lowest class that may send and holds a frame, the one with the smallest tag (R21, R285). -/
def State.txTurn (s : State) : Option Nat :=
  let e := (s.buf.queues.filter (fun x => x.2.txReady && s.txAllowed x.1)).map Prod.fst
  let c := (e.map s.qClass).foldl min 7
  (e.filter (fun q => s.qClass q == c)).foldl (fun (m : Option Nat) q => match m with
    | none => some q
    | some r => if vBefore (s.queue q).txTag (s.queue r).txTag then some q else m) none

/-- A transmit ring's turn is taken: V becomes its tag, and its next frame, once the former is complete, adds its cost. -/
def State.txServed (s : State) (q : Nat) : State :=
  let f := (s.queue q).txTag
  let s := s.modPort 16 (fun x => { x with vtime := tabSet x.vtime (64 + s.qClass q) f })
  if (s.queue q).txReady then s.modQueue q (fun x => { x with txTag := (f + s.txCost q) % 2 ^ 48 }) else s

/-- The completion word of a transmit descriptor. -/
def txDone (err : Bool) (d : Blob) : Nat :=
  2 ^ 63 + nat01 (bit (descCtl d) 62) * 2 ^ 62 + nat01 err * 2 ^ 61 + descLen d * 2 ^ 42

/-- TX_DESCRIPTOR_FETCH (R269, R281): the descriptors of the next frame of the ring whose turn it is, up to EOP; `reads` are the data that the reads of their
buffers returned, and whether poisoned or in error. Nothing is fetched while the shared region cannot hold the frame. -/
def execTxDescriptorFetch (q : Nat) (reads : List (Blob × Bool)) (s : State) : Host.Outcome State Fault Refusal :=
  let ds := nextFrame (s.queue q).posted
  if s.txTurn != some q then .next s
  else
    let parts := ds.zipIdx.map (fun (e : Blob × Nat) =>
      let r := reads.getD e.2 ([], true)
      ((r.1.take (descLen e.1)), r.2 || r.1.length < descLen e.1))
    let w := (parts.map Prod.fst).flatten
    let n := (ds.map descLen).sum
    let bad := n < 14 || 16000 < n || parts.any Prod.snd
    let fetched := ds.foldl (fun s d => s.dmaFetch (descAddr d) (descLen d)) s
    if bad then .next ((fetched.complete q (ds.map (txDone true))).txServed q)
    else
      let k := partOf (s.qClass q)
      let n := if packs k w.length then 1 else cellsFor w.length
      if !s.sharedFits k n then .next s
      else match fetched.allocFrame k w.length 15 with
        | none => .next s
        | some (b, s) =>
          let t := s.qTenant q
          let (_, s) := s.newFrame { Frame.blank with
            src := 2, cls := s.qClass q, tenant := t, parseTenant := t, bytes := w, tf := s.time.gun, phys := w.length
            startType := s.cfg Obj.START_TYPE 16, baton := b, charge := .shared k n }
          let s := s.writeBaton b 0 w
          .next (((s.pacersTake q w.length).complete q (ds.map (txDone false))).txServed q)

/-- RX_DMA_DELIVERY (R281): the selected head of a receive ring is written into the posted buffers, from parsed byte 0, without CRC-32 or
FCS, each buffer's control word after its data. -/
def execRxDmaDelivery (q : Nat) (s : State) : Host.Outcome State Fault Refusal :=
  match (s.queue q).copies with
  | [] => .next s
  | c :: _ => match s.frame? c.fid with
    | none => .next s
    | some f =>
      let ds := (s.queue q).posted
      if tabGet? (s.port 16).sel (s.qSub q) != some q || !s.headMayStart q then .next s
      else match fillBuffers (ds.map descLen) (s.outBytes 16 f c (s.qClass q)) with
        | none | some [] => .next s
        | some parts =>
          let s := s.startHead q
          let s := s.modPort 16 (fun x => { x with sel := tabDel x.sel (s.qSub q) })
          let s := s.pacersTake q c.wire
          let stamp := (f.card.map Card.stamp).getD 0
          let s := parts.zipIdx.foldl (fun s (e : Blob × Nat) =>
            let ctl := 2 ^ 63 + nat01 (e.2 + 1 == parts.length) * 2 ^ 62 + e.1.length * 2 ^ 42 + stamp
            (s.dmaWrite (descAddr (ds.getD e.2 [])) e.1).completeOne q ctl) s
          let s := s.armFires q
          let s := (s.count Obj.DEQUEUED q).countN Obj.BYTES_OUT q c.wire
          .next ((s.modQueue q (fun x => { x with wire := x.wire.erase c })).releaseCopy c).starterFlush

end Sys2Proof.Machine
end

