-- ==== Sys2Proof/Machine/Ports.lean ====
section
/-! DEFINITION. Ports and the Psiot link: frames in (R107 to R109, R113, R114, R124, R125, R127, R128), port states and service (R116 to
R121, R123, R132), and the control flits that are not the time engine's (R110 to R113). -/

namespace Sys2Proof.Machine

/-! ## The end of a frame on the way in (R109, R127, R287) -/

/-- The key of a sub-port's frame in ingress. -/
def ingressKey (p sub : Nat) : Nat := p * 8 + sub

/-- Whether a fabric header passes the checks of R109 that the header itself shows. -/
def headerOk (w : Blob) : Bool :=
  36 ≤ w.length && crc16Run 0xFFFF (w.take 22 ++ (w.drop 24).take 8) == beAt w 22 2 && beAt w 8 1 / 16 == 1 &&
  fhLength w ≤ 16000 && (fhProto w == 0) == decide (fhClass w < 2)

/-- What the port logic makes of a frame at its end: none a good frame, otherwise the counter of its cause, if it has one, and the ABORT
reason of its stomp (R109, R115, R124, R127, R128). -/
def State.verdict (s : State) (f : Frame) (k : EndKind) : Option (Option Nat × Nat) :=
  let w := f.bytes
  match k with
  | .abort _ => some (some Obj.STOMPS_RX, 1)
  | .cut => some (some Obj.HEADER_ERRORS, 1)
  | .over => some (some Obj.GIANTS, 4)
  | .fec => some (none, 1)
  | .whole =>
    if isPsiot f.port then
      if f.flits ≥ 402 then some (some Obj.GIANTS, 4)
      else if !headerOk w || f.flits != flitsOf (fhLength w) || w.length != 36 + fhLength w then some (some Obj.HEADER_ERRORS, 1)
      else if crc32 (w.take (w.length - 4)) != beAt w (w.length - 4) 4 then some (some Obj.BAD_CRC, 1)
      else none
    else
      let body := w.take (w.length - 4)
      let check := w.drop (w.length - 4)
      if w.length < 64 then some (some Obj.RUNTS, 1)
      else if s.cfg Obj.MAX_FRAME f.port < w.length then some (some Obj.GIANTS, 4)
      else if check == (fcs body).map (fun b => ~~~b) then some (some Obj.STOMPS_RX, 1)
      else if check != fcs body then some (some Obj.BAD_CRC, 1)
      else none

/-- R287: unsent copies of a condemned frame leave their queues, and started ones are stomped. -/
def State.condemn (s : State) (fid reason : Nat) : State :=
  let s := s.takeOutFrame fid
  (List.range 16).foldl (fun s p => (List.range 8).foldl (fun s sub =>
    match tabGet? (s.port p).tx sub with
    | some w => if w.copy.fid == fid then s.stomp p sub reason false else s
    | none => s) s) s

/-- A PROTO 05h frame from an endpoint is written as an ENGINE record while a capture of its tenant is in progress (R348). -/
def State.captureEngine (s : State) (f : Frame) : State :=
  let t := fhDest f.bytes / 2 ^ 24
  match (s.tenant t).photo with
  | some ph =>
    if 8 ≤ f.port && f.port < 14 && fhProto f.bytes == 5 && (s.members t).contains f.port && !ph.joined && f.baton != 0 then
      s.capture t 8 0 (beBytes 1 f.port ++ List.replicate 15 0) ((f.bytes.drop 32).take (fhLength f.bytes))
    else s
  | none => s

/-- R141 at the end of a frame whose card is written: a longer claim is a late conflict. -/
def State.lateConflict (s : State) (fid : Nat) (f : Frame) : State :=
  if f.walkFlags.lenPending && f.card.isSome && f.phys < f.claim.getD 0 then
    let s := if f.walkFlags.lenConflict then s else s.count Obj.LEN_CONFLICTS f.inst
    let s := if (f.card.map (fun c => c.flags.drop)).getD false then s else s.count Obj.PARSER_DROPS f.inst
    (s.modFrame fid (fun f => { f with lateConflict := true })).condemn fid 1
  else s

/-- A frame that is good at its end; one that the port logic had dropped at its arrival was received whole all the same (log 126). -/
def State.goodEnd (s : State) (p fid : Nat) : State :=
  let s := (s.count Obj.FRAMES_RX p).modFrame fid (fun f => { f with ended := .good })
  let s := s.judgeSlab fid
  match s.frame? fid with
  | none => s
  | some f =>
    let s := s.endSlabCapture fid true false
    (s.captureEngine f).lateConflict fid f

/-- A frame that is bad at its end counts what ended it, and a bad header that it arrived with (R109). -/
def State.badEnd (s : State) (p fid : Nat) (f : Frame) (k : EndKind) (obj : Option Nat) (reason : Nat) : State :=
  let s := match obj with
    | some o => s.count o p
    | none => s
  let s := if isPsiot p && !headerOk f.bytes && obj != some Obj.HEADER_ERRORS then s.count Obj.HEADER_ERRORS p else s
  let s := s.modFrame fid (fun f => { f with ended := .bad k })
  let s := s.endSlabCapture fid false (k == .fec || obj == some Obj.BAD_CRC)
  s.condemn fid reason

/-- The end of the frame being received on a sub-port. -/
def State.endFrame (s : State) (p sub : Nat) (k : EndKind) : State :=
  match tabGet? s.ingress (ingressKey p sub) with
  | none => s
  | some fid =>
    let s := { s with ingress := tabDel s.ingress (ingressKey p sub) }
    match s.frame? fid with
    | none => s
    | some f =>
      let s := match s.verdict f k with
        | none => s.goodEnd p fid
        | some (obj, reason) => s.badEnd p fid f k obj reason
      match s.frame? fid with
      | some f => if f.baton = 0 then s.forget fid else s
      | none => s

/-- FRAME_END (R109): the last flit or byte of a frame reaches the port logic. -/
def execFrameEnd (port sub : Nat) (k : EndKind) (s : State) : Host.Outcome State Fault Refusal :=
  .next (s.endFrame port sub k)

/-! ## Arrival (R105, R113, R114, R119, R262, R268, R269) -/

/-- Counts a frame's flits as received in its virtual channel. -/
def State.takeFlits (s : State) (f : Frame) : State :=
  if isPsiot f.port && f.cls ≥ 2 then
    s.modPort f.port (fun x => { x with rx := tabUpd x.rx f.cls 0 (fun n => (n + f.flits) % 2 ^ 32) })
  else s

/-- Free flits of a virtual channel at the receiver: I + freed − received. -/
def Port.freeFlits (p : Port) (c : Nat) : Nat :=
  (tabGet p.initial c 0 + tabGet p.freed c 0 + 2 ^ 32 - tabGet p.rx c 0 % 2 ^ 32) % 2 ^ 32

/-- The charge of an arrival, none where neither reservation nor shared region takes it (R268, R269). -/
def State.chargeOf (s : State) (f : Frame) (len : Nat) : Option Charge :=
  let k := partOf f.cls
  let n := if packs k len then 1 else cellsFor len
  let halves := if packs k len then 1 else 2 * n
  if f.cls < 2 then some .relay
  else if isPsiot f.port then some (.port f.port f.cls halves)
  else if s.hostUse f.port + halves ≤ 2 * s.cfg Obj.HOST_RESERVE f.port then some (.hostPort f.port halves)
  else if s.sharedFits k n then some (.shared k n)
  else none

/-- Enters an arriving frame: its record is kept until its end even where the port logic or the pool drops it. -/
def State.enterFrame (s : State) (f : Frame) (drop : Bool) : State :=
  let key := ingressKey f.port f.sub
  let k := partOf f.cls
  let s := s.takeFlits f
  let put := fun (s : State) (f : Frame) =>
    let (fid, s) := s.newFrame f
    (fid, { s with ingress := tabSet s.ingress key fid })
  let dropped := fun (s : State) =>
    let (_, s) := put s { f with handed := true }
    s.freeFlits f
  if drop then dropped s
  else
  let w := f.bytes.take 16384
  match s.chargeOf f w.length with
    | none => dropped (s.count Obj.ALLOC_FAILS k)
    | some c => match s.allocFrame k w.length (laneGroup f.port) with
      | none => dropped (s.count Obj.ALLOC_FAILS k)
      | some (b, s) =>
        let (_, s) := put s { f with baton := b, charge := c }
        (s.writeBaton b 0 w).flowCheck f.port

/-- FRAME_ARRIVAL (R105): `b` are the stored bytes of R262, `flits` the flits of the unit, and `fine` the steps of 78.125 ps of its time
stamp (R32). A frame whose start comes before the declared end of the one before it ends that as truncated (R112). -/
def execFrameArrival (port sub : Nat) (b : Blob) (flits fine : Nat) (s : State) : Host.Outcome State Fault Refusal :=
  let x := s.port port
  if port > 15 || s.subports port ≤ sub || x.subDown.contains sub || !(x.st == .up || (x.st == .isolated && isPsiot port)) then .next s
  else
    let s := s.endFrame port sub .cut
    let start := s.cfg Obj.START_TYPE port
    let f : Frame := { Frame.blank with
      src := 0, port := port, sub := sub, bytes := b, flits := flits, tf := s.pinTime (8 * port + 4) fine, ended := .arriving, startType := start }
    if isPsiot port then
      let f := { f with cls := fhClass b, phys := 32 + fhLength b, parseTenant := fhDest b / 2 ^ 24, tenant := fhDest b / 2 ^ 24 }
      if !headerOk b then .next (s.enterFrame f true)
      else if x.st == .isolated && f.cls != 3 then .next ((s.count Obj.ISOLATED_DROPS port).enterFrame f true)
      else if f.cls ≥ 2 && (s.port port).freeFlits f.cls < flits then
        .next (((s.count Obj.CREDIT_VIOLATIONS port).raise 2 none Obj.CREDIT_VIOLATIONS port).enterFrame f true)
      else .next (s.enterFrame f false)
    else
      let g := s.blb Obj.PARSE_GRAPH
      let w := windowBytes b (b.length - 4)
      let y := walk g w start none
      let t := s.parseTenantOf g port w y.headers
      let f := { f with phys := b.length - 4, cls := s.classOf g port w y.headers y.inner, parseTenant := t, tenant := t }
      .next (s.enterFrame f (b.length < 64))

/-! ## Service (R121) -/

/-- A port leaves service for a class. -/
def State.leaveService (s : State) (p c : Nat) : State :=
  let s := (List.range 8).foldl (fun s sub =>
    let mine : Bool := match (tabGet? s.ingress (ingressKey p sub)).bind s.frame? with
      | some f => f.cls == c
      | none => false
    let s := if mine then s.endFrame p sub .cut else s
    match tabGet? (s.port p).tx sub with
    | some w => if w.cls == c then s.cutOff p sub else s
    | none => s) s
  let s := s.modPort p (fun x => { x with holdFrom := tabSet x.holdFrom c s.time.gun })
  let qs := s.busyQueues.filter (fun q => s.qPort q == p && s.qClass q == c)
  let s := s.modPort p (fun x => { x with sel := x.sel.filter (fun e => !qs.contains e.2) })
  if c = 0 then
    qs.foldl (fun s q =>
      let (out, s) := s.takeOut q (fun _ => true)
      out.foldl (fun s x => s.missLaunch q x) s) s
  else if c = 1 then qs.foldl (fun s q => s.flush q Obj.DOWN_DROPS (fun _ => true)) s
  else s

/-- A port is in service for a class again. -/
def State.enterService (s : State) (p c : Nat) : State :=
  s.modPort p (fun x => { x with held := x.held.filter (· != c), holdFrom := tabDel x.holdFrom c })

/-- HOLD_TIME_EXPIRY (R121): the hold time of 2006h has passed since the port left service for a class: it is held down. -/
def execHoldTimeExpiry (port cls : Nat) (s : State) : Host.Outcome State Fault Refusal :=
  match tabGet? (s.port port).holdFrom cls with
  | none => .next s
  | some t =>
    if s.time.gun < t + s.cfg Obj.DOWN_HOLD port * ns then .next s
    else
      let s := s.modPort port (fun x => { x with held := cls :: x.held, holdFrom := tabDel x.holdFrom cls })
      let qs := s.busyQueues.filter (fun q => s.qPort q == port && s.qClass q == cls && cls ≥ 2)
      .next (qs.foldl (fun s q => s.flush q Obj.DOWN_DROPS (fun _ => true)) s)

/-! ## Port states (R117 to R119) -/

/-- A port enters UP (R119, R120, R313, R418): a parent port that returns gets JOIN again (DEDUCED, log 28). -/
def State.enterUp (s : State) (p : Nat) : State :=
  let s := s.count Obj.LINK_UPS p
  let s := s.logError 0x0B 0 1 none Obj.LINK_UPS p (p + 256)
  let s := s.setCfg Obj.TRAIN_TIME p ((s.time.ticks - (s.port p).trainAt) / 800)
  let x := tabGet s.time.exch p ⟨0, 0, 0, 0, 0, none, 0⟩
  let s := { s with time.exch := tabSet s.time.exch p { x with done := 0, t1 := 0, t3 := 0 } }
  if s.time.parent == some p && s.time.role != .anchor then s.queueCtl p (.wave 0 0 0 0 s.rel.boot.bib) else s

/-- A port leaves UP (R119, R313, R418). -/
def State.leftUp (s : State) (p : Nat) : State :=
  let s := s.count Obj.LINK_DOWNS p
  (s.logError 0x0B 3 2 none Obj.LINK_DOWNS p p).dropChild p

/-- A FEC burst has ended (R115). -/
def State.endBurst (s : State) (p : Nat) : State :=
  let n := (s.port p).burst
  if n = 0 then s
  else (s.modPort p (fun x => { x with burst := 0 })).logError 0x0A 2 0 none Obj.FEC_BURSTS p (n % 65536 * 65536 + p)

/-- The lanes a port transmits on. -/
def Port.lanes (x : Port) (p : Nat) : List Nat := (List.range (if isHost p then 8 else 16)).filter (fun k => bit x.txLanes k)

/-- The lanes of F0–F7, T0–T5 and H0–H1 that are awake: those of a port that is not DISABLED and does not sleep (log 157). -/
def State.lanesAwake (s : State) : Nat :=
  ((List.range 16).map (fun p => let x := s.port p
    if x.st == .disabled || x.sleep != .awake then 0 else (x.lanes p).length)).sum

/-- Notes how many lanes are awake from so many ticks on; what is older than 1.0 ms goes, but for the last of it (110Eh). -/
def State.noteAwake (s : State) (d : Nat) : State :=
  let now := s.time.ticks
  let kept := s.rel.awake.filter (fun e => now < e.1 + msTicks)
  let old := ((s.rel.awake.filter (fun e => e.1 + msTicks ≤ now)).take 1)
  { s with rel.awake := (now + d, s.lanesAwake) :: (kept ++ old) }

/-- The mean of the lanes awake over the last 1.0 ms: each note holds until the one after it. -/
def meanAwake (now : Nat) : List (Nat × Nat) → Nat → Nat
  | [], _ => 0
  | (t, n) :: rest, upto =>
    let lo := max t (now - msTicks)
    n * (min upto now - lo) + meanAwake now rest (min upto t)

/-- Moves a port to a state, with everything that leaving or entering service or UP brings; port P has no LINK_UPS, LINK_DOWNS or
attention of its own (R119, R132). -/
def State.setPortState (s : State) (p : Nat) (st : PortState) : State :=
  let old := (s.port p).st
  if old = st then s
  else
    let was := (List.range 8).filter (s.inService p)
    let s := s.modPort p (fun x => { x with st := st })
    let is := (List.range 8).filter (s.inService p)
    let s := (List.range 8).foldl (fun s c =>
      if is.contains c then s.enterService p c
      else if was.contains c || old == .disabled then s.leaveService p c
      else s) s
    let s := if old == .up && p < 16 then s.leftUp p else s
    let s := if (s.port p).passes || p ≥ 16 then s
      else ((s.countN Obj.SLEEP_TIME p (s.sleptNow p)).modPort p (fun x => { x with
        ctl := [], sleep := .awake, cwseq := none, subDown := [] })).endBurst p
    (if st == .up && p < 16 then s.enterUp p else s).noteAwake 0

/-- Takes a port down (R116). -/
def State.linkDown (s : State) (p : Nat) : State :=
  match (s.port p).st with
  | .disabled => s
  | _ => s.setPortState p .down

/-- Whether a direction's lanes cover a half: the half that holds no failed lane, lanes 0 to 7 preferred (R118). -/
def cleanHalf (fail : Nat) : Option Nat :=
  if fail % 256 = 0 then some 0x00FF else if fail / 256 % 256 = 0 then some 0xFF00 else none

/-- HALF_WIDTH_FALLBACK (R118): none where the port may not fall back or has no clean half. -/
def State.fallBack (s : State) (p : Nat) (tx : Bool) (fail : Nat) : Option State :=
  if fail = 0 then some s
  else if !isPsiot p || s.cfg Obj.FALLBACK p = 0 then none
  else match cleanHalf fail with
    | none => none
    | some h =>
      let s := s.modPort p (fun x => if tx then { x with txLanes := h } else { x with rxLanes := h, fellBack := true })
      some ((s.count Obj.FALLBACKS p).raise 2 none Obj.FALLBACKS p)

/-- The lanes a port of full width has. -/
def fullLanes (p : Nat) : Nat := if isHost p then 0x00FF else 0xFFFF

/-- SIGNAL_DETECT (R117): signal on all lanes of at least one half takes the port from DOWN to TRAIN. A lane without signal fails TRAIN.
A host port takes its configuration of 2011h here (R123). -/
def execSignalDetect (port : Nat) (lanes : BitVec 16) (s : State) : Host.Outcome State Fault Refusal :=
  let v := lanes.toNat &&& fullLanes port
  let half := v % 256 = 255 || v / 256 = 255
  if (s.port port).st == .down && port < 16 && half && !s.rel.sdsLost.contains (port / 4) then
    let b := if isHost port then s.cfg Obj.BREAKOUT port else 0
    .next ((s.modPort port (fun x => { x with
      trainAt := s.time.ticks, rxLanes := v, txLanes := fullLanes port, breakout := b, cwseq := none, uncRun := 0, slips := []
      polarity := 0, reversed := false, fellBack := false }
      )).setPortState port .train)
  else .next s

/-- TRAIN_TIMEOUT (R117, R118): TRAIN has lasted 250 ms. Lanes that never trained fall back to a clean half; otherwise the port returns
to DOWN (DEDUCED, log 28). -/
def execTrainTimeout (port : Nat) (s : State) : Host.Outcome State Fault Refusal :=
  let x := s.port port
  if x.st == .train && x.trainAt + usTicks 250000 ≤ s.time.ticks then
    let fail := fullLanes port - x.rxLanes
    match (if fail = 0 then none else s.fallBack port false fail) with
    | some s => .next (s.setPortState port .align)
    | none => .next (s.setPortState port .down)
  else .next s

/-- TRAIN_COMPLETE (R117): equalization is done, with the lanes of inverted polarity and the lane reversal that it detected. -/
def execTrainComplete (port : Nat) (polarity : BitVec 16) (reversed : Bool) (s : State) : Host.Outcome State Fault Refusal :=
  if (s.port port).st == .train then
    .next ((s.modPort port (fun x => { x with polarity := polarity.toNat, reversed := reversed })).setPortState port .align)
  else .next s

/-- The causes of R119 against the neighbour's capability. -/
def State.isolates (s : State) (p : Nat) (c : Capability) : Bool :=
  let want := s.cfg Obj.EXPECTED_BIB p
  (want != 0 && want != c.bib) || (c.device != 0 && c.device == s.cfg Obj.DEVICE_ID) || c.profile != (if p < 8 then 0 else 1)

/-- The capability a Psiot port sends, three times, in EXCHANGE (Table 4.9): its width is that of the narrower direction (log 127). -/
def State.ownCapability (s : State) (p : Nat) : Capability where
  profile := if p < 8 then 0 else 1
  bib := s.rel.boot.bib
  device := s.cfg Obj.DEVICE_ID
  width := if (s.port p).txLanes = 0xFFFF && (s.port p).rxLanes = 0xFFFF then 16 else 8
  fec := s.cfg Obj.FEC_REQUEST p
  credits := (List.range 6).map (fun k => s.cfg Obj.CREDIT_INIT (8 * p + k + 2))

/-- A port enters EXCHANGE: its capability leaves three times. -/
def State.enterExchange (s : State) (p : Nat) : State :=
  let s := s.setPortState p .exchange
  (List.range 3).foldl (fun s _ => s.emit (.capability p (s.ownCapability p))) s

/-- ALIGN_COMPLETE (R117, R118): lanes that fail in a direction, or have failed TRAIN, make it fall back once; a port that cannot goes
DOWN. A host port has no EXCHANGE and is UP. -/
def execAlignComplete (port : Nat) (failRx failTx : BitVec 16) (s : State) : Host.Outcome State Fault Refusal :=
  let x := s.port port
  if x.st != .align then .next s
  else if isHost port then .next (s.setPortState port (if failRx = 0 && failTx = 0 then .up else .down))
  else
    let failR := if x.fellBack then failRx.toNat &&& x.rxLanes else failRx.toNat ||| (0xFFFF - x.rxLanes)
    match (if x.fellBack && failR != 0 then none else s.fallBack port false failR) with
    | none => .next (s.setPortState port .down)
    | some s => match s.fallBack port true failTx.toNat with
      | none => .next (s.setPortState port .down)
      | some s => .next (s.enterExchange port)

/-- CAPABILITY_EXCHANGE (R113, R115, R119): the neighbour's capability is taken; credits start anew, and both ends' requests choose the
FEC mode. -/
def execCapabilityExchange (port : Nat) (c : Capability) (s : State) : Host.Outcome State Fault Refusal :=
  if (s.port port).st == .exchange then
    let low := c.fec == 1 && s.cfg Obj.FEC_REQUEST port == 1
    let init := (List.range 6).map (fun k => (k + 2, s.cfg Obj.CREDIT_INIT (8 * port + k + 2)))
    let s := s.modPort port (fun x => { x with
      nb := some c, fec := nat01 low, limit := [], sent := [], freed := [], initial := init, rx := [], cwseq := none, uncRun := 0 })
    .next (s.setPortState port (if s.isolates port c then .isolated else .up))
  else .next s

/-- AUTO_NEGOTIATION_COMPLETE (R123): Clause 73 auto-negotiation and PMD training bring a host port's link up in its configuration, or its
sub-ports that lost a lane back (log 128). -/
def execAutoNegotiationComplete (port : Nat) (s : State) : Host.Outcome State Fault Refusal :=
  let st := (s.port port).st
  if isHost port && (st == .down || st == .train || st == .align) && !s.rel.sdsLost.contains 3 then
    let b := s.cfg Obj.BREAKOUT port
    .next ((s.modPort port (fun x => { x with breakout := b, trainAt := if st == .down then s.time.ticks else x.trainAt
                                              rxLanes := 0x00FF, txLanes := 0x00FF })).setPortState port .up)
  else if isHost port && st == .up then .next (s.modPort port (fun x => { x with subDown := [] }))
  else .next s

/-- DL_ACTIVE_CHANGE (R129, R132): the data link layer of port P becomes active, at a rate in GT/s and a width that 2110h shows, or
inactive. At 64 GT/s it runs in Flit mode. -/
def execDlActiveChange (active : Bool) (rate width : Nat) (s : State) : Host.Outcome State Fault Refusal :=
  if (s.port 16).st == .disabled then .next s
  else
    let s := { s with
      pcie.rate := if active then rate else 0, pcie.width := if active then width else 0, pcie.flitMode := active && rate == 64 }
    .next (s.setPortState 16 (if active then .up else .down))

/-- A write of 2000h[p] (R117). -/
def applyPortEnable (i v : Nat) (s : State) : State × Result :=
  if 1 < v then (s, .range)
  else
    let s := s.writeNum Obj.PORT_ENABLE i v
    if v = 0 then (s.setPortState i .disabled, .ok)
    else if (s.port i).st == .disabled && s.rel.boot.firmware && !s.rel.boot.halted then (s.setPortState i .down, .ok)
    else (s, .ok)

/-- PORT_ENABLE: a write of 2000h[p]. -/
def execPortEnable (p : Principal) (i v : Nat) (s : State) : Host.Outcome State Fault Refusal :=
  .next (s.writeNumCmd p Obj.PORT_ENABLE i v (applyPortEnable i))

/-- R119 over a port in UP or ISOLATED: a cause takes it to ISOLATED, and only a write of 2005h brings it back (`back`). -/
def State.judgeNeighbour (s : State) (back : Bool) (p : Nat) : State :=
  match (s.port p).st, (s.port p).nb with
  | .isolated, some c => if back && !s.isolates p c then s.setPortState p .up else s
  | .up, some c => if isPsiot p && s.isolates p c then s.setPortState p .isolated else s
  | _, _ => s

/-- A write of 2005h[p] (R119). -/
def applyExpectedBib (i v : Nat) (s : State) : State × Result := ((s.writeNum Obj.EXPECTED_BIB i v).judgeNeighbour true i, .ok)

/-- EXPECTED_BIB: a write of 2005h[p]. -/
def execExpectedBib (p : Principal) (i v : Nat) (s : State) : Host.Outcome State Fault Refusal :=
  .next (s.writeNumCmd p Obj.EXPECTED_BIB i v (applyExpectedBib i))

/-! ## FEC and loss (R115, R116) -/

/-- An uncorrectable codeword: the frame with flits in it is dropped, and 64 in a row take the link down. -/
def State.badCodeword (s : State) (p : Nat) : State :=
  let s := s.count Obj.FEC_UNCORRECTABLE p
  let s := if (s.port p).burst = 0 then s.count Obj.FEC_BURSTS p else s
  let s := s.modPort p (fun x => { x with burst := x.burst + 1, uncRun := x.uncRun + 1 })
  let s := s.endFrame p 0 .fec
  if (s.port p).uncRun ≥ 64 then s.linkDown p else s

/-- CODEWORD_RECEIVE (R104, R115, R116): a codeword with its header and the number of its symbols in error. A mode corrects up to half its
parity symbols. CWSEQ counts modulo 16, or 4 in low-latency mode; a slip is an uncorrectable codeword, and three within 1.0 ms take the
link down. The header of an uncorrectable codeword is not read (log 129). -/
def execCodewordReceive (port header errs : Nat) (s : State) : Host.Outcome State Fault Refusal :=
  let x := s.port port
  if !isPsiot port || !(x.st == .exchange || x.st == .up || x.st == .isolated) then .next s
  else
    let low : Bool := x.fec = 1
    let m := cwModulus low
    let bad : Bool := cwCorrects low < errs
    let seq := headerSeq low header
    let slip : Bool := match x.cwseq with
      | some q => !bad && (q + 1) % m != seq
      | none => false
    let s := s.modPort port (fun x => { x with cwseq := if bad then x.cwseq.map (fun q => (q + 1) % m) else some seq })
    if slip then
      let now := s.time.gun
      let s := s.modPort port (fun x => { x with slips := now :: x.slips.filter (fun t => now ≤ t + 1000000 * ns) })
      let s := s.badCodeword port
      .next (if (s.port port).slips.length ≥ 3 then s.linkDown port else s)
    else if bad then .next (s.badCodeword port)
    else
      let s := if errs != 0 then s.count Obj.FEC_CORRECTED port else s
      .next ((s.modPort port (fun x => { x with uncRun := 0 })).endBurst port)

/-- Whether a port receives and is outside the span that a SLEEP announced. -/
def State.listening (s : State) (p : Nat) : Bool :=
  let st := (s.port p).st
  p < 16 && st != .disabled && st != .down && (s.port p).rxSleepUntil ≤ s.time.gun

/-- The sub-port of a host port that uses a lane (Table 4.10). -/
def State.laneSub (s : State) (p lane : Nat) : Nat := lane * 2 ^ (s.port p).breakout / 8

/-- A host sub-port loses its link: what it receives and sends ends; the port goes DOWN with its last sub-port (log 128). -/
def State.subportDown (s : State) (p sub : Nat) : State :=
  let down := if (s.port p).subDown.contains sub then (s.port p).subDown else sub :: (s.port p).subDown
  if s.subports p ≤ down.length then s.linkDown p
  else
    let s := (s.endFrame p sub .cut).cutOff p sub
    s.modPort p (fun x => { x with subDown := down, sel := tabDel x.sel sub })

/-- LOSS_OF_SIGNAL (R116, R123): a lane in use has had no signal for 1.0 µs. -/
def execLossOfSignal (port lane : Nat) (s : State) : Host.Outcome State Fault Refusal :=
  if !(s.listening port && bit (s.port port).rxLanes lane) then .next s
  else if isHost port && (s.port port).st == .up then .next (s.subportDown port (s.laneSub port lane))
  else .next (s.linkDown port)

/-- NO_VALID_UNIT_TIMEOUT (R116): 10.0 µs without a valid unit on a Psiot port whose link is up. -/
def execNoValidUnitTimeout (port : Nat) (s : State) : Host.Outcome State Fault Refusal :=
  if s.listening port && isPsiot port && (s.port port).passes then .next (s.linkDown port) else .next s

/-! ## Control flits (R110 to R113) -/

/-- A unit of one flit received on a port: it ends a frame in reception as truncated unless it is an ABORT, and is discarded and counted
where its check fails or its type is reserved (R110, R112); `g` is what a flit of type `ty` does. -/
def State.ctlIn (s : State) (p ty : Nat) (flit : Blob) (g : State → State) : Host.Outcome State Fault Refusal :=
  if !(isPsiot p && (s.port p).passes) then .next s
  else if !flitOk flit then .next ((s.endFrame p 0 .cut).count Obj.CONTROL_ERRORS p)
  else if flitType flit != ty then .next s
  else .next (g (if ty = 9 then s else s.endFrame p 0 .cut))

/-- IDLE received: nothing follows (R106). -/
def execIdle (port : Nat) (flit : Blob) (s : State) : Host.Outcome State Fault Refusal := s.ctlIn port 0 flit id

/-- CREDIT received (R113): the limits of C2 to C7. -/
def execCredit (port : Nat) (flit : Blob) (s : State) : Host.Outcome State Fault Refusal :=
  s.ctlIn port 1 flit (fun s => s.modPort port (fun x => { x with
    limit := (List.range 6).map (fun k => (k + 2, beAt flit (2 + 4 * k) 4)) }))

/-- LAP_MARKER received (R112, R321): noted with its time, for a Photo finish under way and for one still to come. -/
def execLapMarker (port : Nat) (flit : Blob) (s : State) : Host.Outcome State Fault Refusal :=
  s.ctlIn port 5 flit (fun s =>
    let key := port * 8 + flitVc flit
    let lap := beAt flit 2 6
    let now := s.pinTime (8 * port + 4) 0
    let s := { s with ten.marks := (lap, key, now) :: s.ten.marks.filter (fun (e : Nat × Nat × Nat) => e.1 == s.time.lap || lapFuture s e.1) }
    { s with ten.tenants := s.ten.tenants.map (fun (e : Nat × Tenant) => (e.1, { e.2 with photo := e.2.photo.map (fun ph =>
      if ph.lap == lap && (tabGet? ph.markers key).isNone then { ph with markers := tabSet ph.markers key now } else ph) })) })

/-- MISSED_SLAB received (R99). -/
def execMissedSlab (port : Nat) (flit : Blob) (s : State) : Host.Outcome State Fault Refusal :=
  s.ctlIn port 6 flit (fun s => s.takeNotice port (beAt flit 2 1) (beAt flit 4 2) (beAt flit 6 2))

/-- SLEEP received (R68, R116): no units come before the announced wake. -/
def execSleep (port : Nat) (flit : Blob) (s : State) : Host.Outcome State Fault Refusal :=
  s.ctlIn port 8 flit (fun s => s.modPort port (fun x => { x with rxSleepUntil := beAt flit 2 10 }))

/-- ABORT received (R112): ends the frame being received as stomped, or is counted as a control error. -/
def execAbort (port : Nat) (flit : Blob) (s : State) : Host.Outcome State Fault Refusal :=
  s.ctlIn port 9 flit (fun s =>
    if (tabGet? s.ingress (ingressKey port 0)).isSome then s.endFrame port 0 (.abort (beAt flit 2 1))
    else s.count Obj.CONTROL_ERRORS port)

/-- LINK with operation 1 received (R117): the port goes to DOWN and trains again. -/
def execLinkRetrainRequest (port : Nat) (flit : Blob) (s : State) : Host.Outcome State Fault Refusal :=
  s.ctlIn port 10 flit (fun s => if beAt flit 2 1 = 1 then s.linkDown port else s)

/-- LINK with operation 2 received (R118): the transmit direction falls back to the half without the failed lane. -/
def execLinkFallbackRequest (port : Nat) (flit : Blob) (s : State) : Host.Outcome State Fault Refusal :=
  s.ctlIn port 10 flit (fun s =>
    if beAt flit 2 1 = 2 && (s.port port).txLanes = 0xFFFF then (s.fallBack port true (2 ^ (beAt flit 3 1 % 16))).getD s else s)

/-- The place of a control flit in the order of R112. -/
def CtlFlit.rank : CtlFlit → Nat
  | .sync _ _ _ | .reply _ _ => 0
  | .lapMarker _ _ => 1
  | .missedSlab _ _ _ => 2
  | .wave _ _ _ _ _ => 3
  | .credit _ => 4
  | .announce _ => 5
  | .link _ _ => 6
  | .sleep _ => 7
  | .abort _ => 8
  | .idle => 9

/-- A control flit leaves: T1 and T3 are its own nominal flit time at the pin (R105, R111). -/
def State.sendCtl (s : State) (p : Nat) (f : CtlFlit) : State :=
  let t := s.txTime p
  let x := tabGet s.time.exch p ⟨0, 0, 0, 0, 0, none, 0⟩
  let s := match f with
    | .sync seq _ _ => { s with time.exch := tabSet s.time.exch p { x with seq := seq, t1 := t } }
    | .reply seq _ => if x.seq == seq then { s with time.exch := tabSet s.time.exch p { x with t3 := t } } else s
    | _ => s
  (s.emit (.ctl p (f.bytes t) t)).modPort p (fun x => { x with wireFree := t + s.wireTime p 40 })

/-- CONTROL_FLIT_SEND (R106, R112): at a unit boundary the due control flits leave in order, at most two before a frame that is ready, and an
IDLE where nothing else is due; none during sleep (R68). -/
def execControlFlitSend (port : Nat) (s : State) : Host.Outcome State Fault Refusal :=
  let x := s.port port
  if !isPsiot port || !x.passes || x.sleep != .awake || !x.tx.isEmpty then .next s
  else
    let due := sortBy CtlFlit.rank x.ctl
    let ready := s.selHolds port 0
    let now := if ready then due.take (2 - x.ctlRun) else due
    let s := s.modPort port (fun x => { x with ctl := due.drop now.length, ctlRun := if ready then x.ctlRun + now.length else 0 })
    .next ((if now.isEmpty && !ready then [.idle] else now).foldl (fun s f => s.sendCtl port f) s)

/-- CREDIT_TICK (R113): a CREDIT with LIMIT = freed + I of each virtual channel is due. -/
def execCreditTick (port : Nat) (s : State) : Host.Outcome State Fault Refusal :=
  let x := s.port port
  if isPsiot port then
    .next (s.queueCtl port (.credit ((List.range 6).map (fun k => (tabGet x.freed (k + 2) 0 + tabGet x.initial (k + 2) 0) % 2 ^ 32))))
  else .next s

/-! ## Pauses (R125) -/

/-- Takes or releases a pause of a priority: `dur` in units of 512 bit times. -/
def State.pause (s : State) (p q dur : Nat) : State :=
  let until_ := s.time.gun + dur * 512 * ns / max 1 (s.rateIn p)
  s.modPort p (fun x => { x with paused := if dur = 0 then tabDel x.paused q else tabSet x.paused q until_ })

/-- PFC_RECEIVE (R125): per priority of the mask; honoured only where 2013h enables it. -/
def execPfcReceive (port : Nat) (mask : BitVec 8) (durations : List Nat) (s : State) : Host.Outcome State Fault Refusal :=
  if isHost port && (s.port port).st == .up && s.cfg Obj.FLOW_CONTROL port == 1 then
    .next (((List.range 8).filter (fun q => mask.getLsbD q && bit (s.cfg Obj.PFC_CONFIG port) q)).foldl (fun s q =>
      s.pause port q (durations.getD q 0)) s)
  else .next s

/-- PAUSE_RECEIVE (R125): acts on all priorities together. -/
def execPauseReceive (port duration : Nat) (s : State) : Host.Outcome State Fault Refusal :=
  if isHost port && (s.port port).st == .up && s.cfg Obj.FLOW_CONTROL port == 2 then
    .next ((List.range 8).foldl (fun s q => s.pause port q duration) s)
  else .next s

/-- PAUSE_EXPIRY (R125). -/
def execPauseExpiry (port prio : Nat) (s : State) : Host.Outcome State Fault Refusal :=
  match tabGet? (s.port port).paused prio with
  | some t => if t ≤ s.time.gun then .next (s.modPort port (fun x => { x with paused := tabDel x.paused prio })) else .next s
  | none => .next s

end Sys2Proof.Machine
end

