-- ==== Sys2Proof/Machine/Resets.lean ====
section
/-! DEFINITION. Resets of masters and functions, and what a tenant reset does (R296 to R300, R387, R394, R432). -/

namespace Sys2Proof.Machine

/-! ## Functions of port P (R130, R298 to R300) -/

/-- The queues of a tenant's block that hold state. -/
def State.blockQueues (s : State) (t : Nat) : List Nat := (s.buf.queues.map Prod.fst).filter (s.inBlock t)

/-- A mailbox after an FLR (R395): idle, an unread reply discarded; a request being executed completes without one. -/
def Mailbox.flr (m : Mailbox) (executing : Bool) : Mailbox := { m with st := 0, dropReply := m.dropReply || executing }

/-- A master reset returns the session of its principal instance to basic level (R393). -/
def State.dropExpert (s : State) (v : Nat) : State :=
  { s with mgmt.sessions := tabMod s.mgmt.sessions v (fun x => { x with expert := false }) }

/-- An FLR of a function (R298, R300): its rings stop with head and tail zero, the frames they hold are dropped, its locks are freed.
Function 0 is the PF, t + 1 the virtual function of tenant t. -/
def State.flr (s : State) (f : Nat) : State :=
  let rings := if f = 0 then [] else (s.blockQueues (f - 1)).filter (fun q => s.qPort q == 16)
  let s := rings.foldl (fun s q =>
    (s.flush q Obj.DOWN_DROPS (fun _ => true)).modQueue q (fun x => { x with ringHead := 0, ringTail := 0, posted := [], armed := false, raiseAt := [] })) s
  let s := (s.abandonLocks (midHost f)).dropExpert (if f = 0 then 256 else f - 1)
  { s with
    pcie.vectors := s.pcie.vectors.filter (fun (e : Nat × Blob) => e.1 / 512 != f)
    pcie.pendingBits := s.pcie.pendingBits.filter (fun n => n / 512 != f)
    mgmt.mailboxes := tabMod s.mgmt.mailboxes f (Mailbox.flr · (s.mgmt.held.any (fun h => h.path == .mailbox f))) }

/-- PCIE_FLR: an FLR of a function. -/
def execPcieFlr (function : Nat) (s : State) : Host.Outcome State Fault Refusal :=
  .next (if function ≤ 256 then s.flr function else s)

/-- A hot or fundamental reset of port P: every function is reset; after a fundamental one 2111h is in force. -/
def State.resetP (s : State) (fundamental : Bool) : State :=
  let s := (List.range 257).foldl State.flr s
  if fundamental then { s with rel.boot.bar2 := s.cfg Obj.PCIE_BAR2_SIZE } else s

/-- PCIE_RESET: a reset of port P (R300, R432). -/
def execPcieReset (fundamental : Bool) (s : State) : Host.Outcome State Fault Refusal := .next (s.resetP fundamental)

/-! ## Tenant reset (R296) -/

/-- The tenant of a frame: its card's, before that its parse tenant. -/
def Frame.owner (f : Frame) : Nat := (f.card.map Card.tenant).getD f.parseTenant

/-- Whether a frame belongs to a tenant. -/
def State.ownedBy (s : State) (t fid : Nat) : Bool := ((s.frame? fid).map Frame.owner) == some t

/-- Stomps every frame of a tenant on the wire, ABORT reason 3. -/
def State.stompTenant (s : State) (t : Nat) : State :=
  (List.range 16).foldl (fun s p => (List.range 8).foldl (fun s sub =>
    match tabGet? (s.port p).tx sub with
    | some w => if s.ownedBy t w.copy.fid then s.stomp p sub 3 false else s
    | none => s) s) s

/-- Stops every thread with a frame of a tenant, cause RESET. -/
def State.stopTenant (s : State) (t : Nat) : State :=
  (s.strider.threads.map Prod.fst).foldl (fun s x =>
    match (s.thread x).fid with
    | some f => if s.ownedBy t f && (s.thread x).st != .ending then s.stopThread x 0x0E 0 else s
    | none => s) s

/-- The waiting and held cards of a tenant become drops (R211). -/
def State.dropCards (s : State) (t : Nat) : State :=
  ((s.strider.waiting.map Prod.snd) ++ s.strider.held).foldl (fun s f =>
    if s.ownedBy t f then s.modFrame f (fun x => { x with card := x.card.map (fun c => { c with flags := { c.flags with drop := true } }) })
    else s) s

/-- Fills a tenant's pacers and marshals. -/
def State.refillTenant (s : State) (t : Nat) : State :=
  let full := fun x : Pacer => { x with tokens := (8000 * x.burst : Nat) }
  let marshals := s.buf.marshals.map (fun (e : Nat × Marshal) =>
    let b := s.blb Obj.MARSHAL e.1
    if beAt b 17 1 == t then (e.1, (⟨beAt b 8 4 * bucketByte, beAt b 12 4 * bucketByte, s.time.gun⟩ : Marshal)) else e)
  { s with
    buf.qpacers := s.buf.qpacers.map (fun (e : Nat × Pacer) => if s.inBlock t e.1 then (e.1, full e.2) else e)
    buf.tpacers := s.buf.tpacers.map (fun (e : Nat × Pacer) => if e.1 / 16 = t then (e.1, full e.2) else e)
    buf.marshals := marshals }

/-- Drops the fragments a tenant has in the hold pool, as cards with DROP, and removes its entries. -/
def State.dropFrags (s : State) (t : Nat) : State :=
  let held := s.frames.filter (fun (e : Nat × Frame) => e.2.heldAt.isSome && e.2.parseTenant == t)
  let s := held.foldl (fun s e => match e.2.card with
    | some c => (s.unholdFrag e.1).sendCard e.1 { c with flags := { c.flags with drop := true }, od := s.flowOd e.2 c } false
    | none => s.unholdFrag e.1) s
  { s with parser.frags := s.parser.frags.filter (fun (e : Nat × FragEntry) => e.2.tenant != t) }

/-- What CLEAR removes: the tenant's relay set, learn entries, tries, rules and atomic words. -/
def State.clearTenant (s : State) (t : Nat) : State :=
  let (base, n) := s.atomBlock t
  let s := (s.setBlb Obj.RELAY_SET t []).setBlb Obj.RELAY_SET_PENDING t []
  { s with
    relay.sets := tabDel s.relay.sets t
    relay.staged := tabDel s.relay.staged t
    relay.former := tabDel s.relay.former t
    tables.learn := s.tables.learn.filter (fun (e : Nat × LearnEntry) => e.2.tenant != t)
    tables.stash := s.tables.stash.filter (fun (e : Nat × LearnEntry) => e.2.tenant != t)
    tables.tries := s.tables.tries.filter (fun (e : Nat × Trie) => e.2.owner != t)
    tables.jobs := s.tables.jobs.map (fun (e : Nat × TrieJob) =>
      if (e.2.result.map Trie.owner) == some t then (e.1, { e.2 with result := none, built := [] }) else e)
    parser.rules := s.parser.rules.filter (fun (e : Nat × Rule) => e.2.tenant != t)
    ten.atoms := s.ten.atoms.filter (fun (e : Nat × Nat) => !(base ≤ e.1 && e.1 < base + n)) }

/-- What of a reset ends after the boundary (R297): the flush of queues, the removal of tables, and the state IDLE. -/
def State.finishReset (s : State) (t : Nat) : State :=
  let qs := s.blockQueues t
  let s := qs.foldl (fun s q => s.flush q Obj.DOWN_DROPS (fun _ => true)) s
  let s := s.dropFrags t
  let s := qs.foldl (fun s q => s.modQueue q (fun x => { x with ftag := s.vtimeOf q, txTag := s.txVtime (s.qClass q) })) s
  let s := if (s.tenant t).resetClear then s.clearTenant t else s
  s.modTenant t (fun x => { x with st := .idle, resetClear := false })

/-- TENANT_RESET_COMPLETE (R296, R297). -/
def execTenantResetComplete (t : Nat) (s : State) : Host.Outcome State Fault Refusal :=
  .next (if (s.tenant t).st == .resetting then s.finishReset t else s)

end Sys2Proof.Machine
end

