-- ==== Sys2Proof/Machine/Tenants.lean ====
section
/-! DEFINITION. Photo finishes and restores, global operations, and the combining wave (R291 to R297, R307 to R324, R348). -/

namespace Sys2Proof.Machine

/-! ## Photo finish (R320 to R324) -/

/-- Notes missing inputs of a capture before they are forgotten (R322). -/
def State.photoNote (s : State) (t : Nat) : State :=
  match (s.tenant t).photo with
  | some ph =>
    let r := s.relaySetFor t ph.lap
    if !ph.joined && (List.range r.slabs.length).any (fun k => (s.input t k ph.lap).st == .missing) then s.photoShort t else s
  | none => s

/-- The inputs that ALO = 1 HEADs of a tenant's lap n read. -/
def State.aloInputs (s : State) (t n : Nat) : List Nat :=
  let r := s.relaySetFor t n
  ((List.range 4).flatMap (fun u => (r.heads u).flatMap (fun (e : Head × List Nat) =>
    if e.1.alo = 1 then e.2.filterMap (fun v => (runOf v).bind Run.input) else []))).dedup

/-- Captures complete inputs of a lap that are there already. -/
def State.captureInputs (s : State) (t n kind : Nat) (slabs : List Nat) : State :=
  slabs.foldl (fun s k =>
    let x := s.input t k n
    if x.st == .complete then s.captureSlab t x.fid k (((s.frame? x.fid).map Frame.port).getD 0) kind x.age else s) s

/-- Takes references of the frames in a tenant's queues (R320, R348). -/
def State.photoRefs (s : State) (t : Nat) : State :=
  ((s.blockQueues t).flatMap (fun q => (s.queue q).copies.map (fun c => (q, c)))).foldl (fun s (e : Nat × Copy) =>
    s.photoRef t e.1 e.2.fid e.2.baton) s

/-- PHOTO_CUT (R320, R321, R348): the capture of lap n begins in the slot that does not hold 6004h. -/
def State.photoCut (s : State) (t n : Nat) : State :=
  let s := match (s.tenant t).photo with
    | some ph => s.photoRelease ph
    | none => s
  let again := s.ten.tenants.any (fun e => match e.2.photo with
    | some ph => ph.lap == n
    | none => false)
  let k := if (s.slot t 0).lap == s.cfg Obj.LAST_PHOTO t && (s.slot t 0).status == 2 then 1 else 0
  let s := (s.setSlot t k ⟨n, 0, 0, 1⟩).setCfg Obj.PHOTO_STATUS t 1
  let marks := (s.ten.marks.filter (fun (e : Nat × Nat × Time) => e.1 == n)).foldl (fun m e => tabSet m e.2.1 e.2.2) []
  let s := s.modTenant t (fun x => { x with photo := some ⟨n, k, s.time.lapStart, marks, [], [], false, false, false, []⟩ })
  let s := if again then s else (List.range 14).foldl (fun s p =>
    if (s.port p).st == .up then (s.queueCtl p (.lapMarker 4 n)).queueCtl p (.lapMarker 5 n) else s) s
  let r := s.relaySetFor t n
  let s := if s.lapMatches t n then s.captureInputs t n 0 (List.range r.slabs.length) else s
  let s := s.captureInputs t (lapSub n (s.cfg Obj.LAP_DIVISOR t)) 1 (s.aloInputs t n)
  s.photoRefs t

/-- Whether a capture is complete at this device (R322), the writes apart. -/
def State.photoReady (s : State) (t : Nat) (ph : Photo) : Bool :=
  let r := s.relaySetFor t ph.lap
  (!s.retainedLap t ph.lap || (List.range r.slabs.length).all (fun k => s.inputSettled r t k ph.lap)) &&
  ((List.range 8).filter (fun p => (s.port p).st == .up)).all (fun p =>
    (tabGet? ph.markers (p * 8 + 4)).isSome && (tabGet? ph.markers (p * 8 + 5)).isSome) &&
  (s.members t).all ph.endpoints.contains

/-- Closes the slot with its END record (R348). -/
def State.photoClose (s : State) (t : Nat) (ph : Photo) : State :=
  let x := s.slot t ph.slot
  let short := match (s.tenant t).photo with
    | some q => q.incomplete
    | none => false
  s.slotPut t ph.slot (record 9 32 0 t 0 ph.lap (beBytes 8 x.used ++ beBytes 4 x.records ++ beBytes 1 (nat01 short) ++ [0, 0, 0]))

/-- PHOTO_CAPTURE_COMPLETE (R322): the captured frames are written and let go, the slot is closed, and the device joins PHOTO_DONE. -/
def execPhotoCaptureComplete (t : Nat) (s : State) : Host.Outcome State Fault Refusal :=
  match (s.tenant t).photo with
  | some ph =>
    if ph.joined || !s.photoReady t ph then .next s
    else
      let s := s.photoNote t
      let s := ph.frames.foldl (fun s e => s.captureFrame t e.2 e.1) s
      let s := (s.photoRelease ph).photoClose t ph
      let s := s.modTenant t (fun x => { x with photo := x.photo.map (fun p => { p with joined := true, frames := [] }) })
      .next (s.photoStep t)
  | none => .next s

/-- R324: a RESET aborts a Photo finish under way: it completes INCOMPLETE and its captures are released. -/
def State.photoAbort (s : State) (t : Nat) : State :=
  match (s.tenant t).photo with
  | none => s
  | some ph =>
    let s := s.photoRelease ph
    (s.modTenant t (fun x => { x with photo := some { ph with incomplete := true, joined := true, frames := [] } })).photoStep t

/-! ## Restore (R323) -/

/-- What a slot's record gives: its type, bytes 16–17, PORT, KIND, AGE and the stored bytes. -/
structure Captured where
  typ : Nat
  a : Nat
  port : Nat
  kind : Nat
  age : Nat
  body : Blob
deriving DecidableEq, Repr

/-- The SLAB and FRAME records of a slot, parts joined; none where a record reads poisoned. -/
def State.readSlot (s : State) (base used : Nat) : Nat → Nat → Blob → List Captured → Option (List Captured)
  | 0, _, _, acc => some acc
  | fuel + 1, off, body, acc =>
    if used ≤ off then some acc
    else
      let h := s.dramGet (base + off) 32
      let n := beAt h 2 2 % 1024 * 32
      if s.spanPoisoned (base + off) (max 32 n) then none
      else if n = 0 then some acc
      else if beAt h 0 1 = 6 || beAt h 0 1 = 7 then
        let body := body ++ s.dramGet (base + off + 32) (n - 32)
        if bit (beAt h 1 1) 5 then
          s.readSlot base used fuel (off + n) [] (acc ++ [⟨beAt h 0 1, beAt h 16 2, beAt h 18 1, beAt h 19 1, beAt h 5 1 / 16, body⟩])
        else s.readSlot base used fuel (off + n) body acc
      else s.readSlot base used fuel (off + n) body acc

/-- The bytes of a captured slab or frame: the record's padding goes where the fabric header's lengths tell it (DEDUCED, log 30). -/
def Captured.bytes (c : Captured) : Blob × Nat :=
  if c.typ = 6 then
    let n := tensBytes (relayWordOf (fhWord c.body)).tens
    (c.body.take (36 + n), 32 + n)
  else
    let n := 32 + fhLength c.body
    if n ≤ c.body.length && c.body.length < n + 36 then (c.body, n) else (c.body, c.body.length)

/-- Loads one captured item into cells: slabs draw on the relay partition, frames on the general one. -/
def State.loadItem (s : State) (t : Nat) (c : Captured) : Option ((Nat × Nat × Nat × Nat) × State) :=
  let (w, phys) := c.bytes
  let k := if c.typ = 6 then 0 else 2
  let cells := cellsFor w.length
  if k = 2 && !s.sharedFits 2 cells then none
  else match s.allocCells k cells with
    | none => none
    | some (b, s) =>
      let (fid, s) := s.newFrame { Frame.blank with
        src := 3, port := c.port, cls := if c.typ = 6 then 0 else 7, tenant := t, parseTenant := t, bytes := w, flits := flitsOf (phys - 32)
        tf := s.time.gun, phys := phys, walked := true, baton := b, charge := if c.typ = 6 then .relay else .shared 2 cells }
      some ((if c.typ = 6 then c.kind else 3, c.a, c.port, fid), s.writeBaton b 0 w)

/-- Loads the items in capture order. -/
def State.loadItems (s : State) (t : Nat) : List Captured → List (Nat × Nat × Nat × Nat) → Option (List (Nat × Nat × Nat × Nat) × State)
  | [], acc => some (acc, s)
  | c :: cs, acc => match s.loadItem t c with
    | none => none
    | some (e, s) => s.loadItems t cs (acc ++ [e])

/-- Lets a staged restore go. -/
def State.dropRestore (s : State) (t : Nat) : State :=
  match (s.tenant t).restore with
  | none => s
  | some r =>
    let s := s.modTenant t (fun x => { x with restore := none })
    r.items.foldl (fun s e => match s.frame? e.2.2.2 with
      | some f => (s.release f.baton).forget e.2.2.2
      | none => s) s

/-- A write of 6007h[t]. -/
def applyPhotoRestore (t v : Nat) (s : State) : State × Result :=
  if !lapOk v then (s, .range)
  else if (s.tenant t).st != .idle && (s.tenant t).st != .held then (s, .state)
  else match [0, 1].find? (fun k => (s.slot t k).lap == v && (s.slot t k).status == 2) with
    | none => (s, .state)
    | some k =>
      let x := s.slot t k
      let s := s.takeTokens (.snapshot t) x.used
      match s.readSlot (s.slotBase t k) x.used (x.used / 32 + 1) 0 [] [] with
      | none => (s.count Obj.RESTORE_FAILS t, .state)
      | some cs => match (s.dropRestore t).loadItems t cs [] with
        | none => (s, .overcommit)
        | some (items, s) => (s.modTenant t (fun y => { y with restore := some ⟨v, items, false⟩ }), .ok)

/-- PHOTO_RESTORE: a write of 6007h[t]. -/
def execPhotoRestore (p : Principal) (i v : Nat) (s : State) : Host.Outcome State Fault Refusal :=
  .next (s.writeNumCmd p Obj.PHOTO_RESTORE i v (applyPhotoRestore i))

/-- A copy of a restored frame enters a queue. -/
def State.queueRestored (s : State) (fid q : Nat) : State :=
  match s.frame? fid with
  | none => s
  | some f => (s.modFrame fid (fun f => { f with charge := .none, cls := s.qClass q })).enqueue q
      ⟨fid, f.baton, queueCells f.baton, (s.cell (bCell f.baton)).part, s.wireBytes (s.qPort q) f 0, false, 0, false⟩

/-- Presents one restored item in lap m. -/
def State.presentItem (s : State) (t m : Nat) (e : Nat × Nat × Nat × Nat) : State :=
  match s.frame? e.2.2.2 with
  | none => s
  | some f =>
    let fid := e.2.2.2
    if e.1 = 3 then s.queueRestored fid e.2.1
    else if e.1 = 2 then
      let w := overwrite f.bytes 24 (beBytes 2 (m % 65536))
      let s := (s.modFrame fid (fun f => { f with bytes := w, relayLap := some m })).writeBaton f.baton 0 w
      match s.classQueue t e.2.2.1 0 with
      | some q => s.queueRestored fid q
      | none => (s.count Obj.NO_CLASS_QUEUE t).release f.baton
    else
      let r := relayWordOf (fhWord f.bytes)
      let n := if e.1 = 0 then m else lapSub m (s.cfg Obj.LAP_DIVISOR t)
      let s := s.modFrame fid (fun f => { f with relayLap := some n })
      s.setInput t e.2.1 n { Input.reset with
        st := .complete, fid := fid, baton := f.baton, age := r.age, miss := r.miss, tens := r.tens, four := r.four }

/-- RESTORE_PRESENT (R323): in the first active lap after a START with FROM_PHOTO. -/
def State.presentRestore (s : State) (t : Nat) : State :=
  match (s.tenant t).restore with
  | some r =>
    if r.due && s.activeLap t s.time.lap then
      let s := s.modTenant t (fun x => { x with restore := none })
      (r.items.foldl (fun s e => s.presentItem t s.time.lap e) s).noteReady
    else s
  | none => s

/-! ## Operations at a lap boundary (R311) -/

/-- A tenant enters another state; a ring stops where it leaves RUNNING (R346). -/
def State.enterState (s : State) (t : Nat) (st : TenantState) : State :=
  let was := (s.tenant t).st
  let s := s.modTenant t (fun x => { x with st := st })
  if was == .running && st != .running then s.ringLeave t else s

/-- TENANT_RESET (R296): what acts at the boundary. -/
def State.beginReset (s : State) (t : Nat) (clear : Bool) : State :=
  let s := (s.enterState t .resetting).modTenant t (fun x => { x with resetClear := clear })
  let s := ((((s.count Obj.RESETS t).stompTenant t).stopTenant t).dropCards t).relayReset t
  (((s.refillTenant t).abandonLocks (midHost (t + 1))).flr (t + 1)).photoAbort t

/-- A tenant starts: barriers, halts and broadcasts are numbered anew (R316, R317). -/
def Tenant.start (x : Tenant) (fromPhoto : Bool) : Tenant :=
  { x with
    st := .running, frozen := false, barrier := 0, arrived := [], barSent := false, late := [], barrierInc := [], release := none
    haltNo := 0, haltSent := false, haltSeen := none, bcastNo := 0, activeIdx := 0, lately := []
    restore := x.restore.map (fun r => { r with due := r.due || fromPhoto }) }

/-- Executes one allowed operation of lap n. -/
def State.act (s : State) (x : Sched) (n : Nat) : State :=
  match x.op with
  | .start => (s.modTenant x.t (fun y => y.start (bit x.flags 0))).barrierStep x.t
  | .hold => s.enterState x.t .held
  | .freeze => (s.enterState x.t .held).modTenant x.t (fun y => { y with frozen := true })
  | .fault => s.enterState x.t .faulted
  | .snapshot => s.photoCut x.t n
  | .reset => s.beginReset x.t (bit x.flags 0)

/-- Whether an operation is allowed: Table 10.4, and for FROM_PHOTO a staged restore (R323). -/
def State.mayAct (s : State) (x : Sched) : Bool :=
  opAllowed x.op (s.tenant x.t).st && (x.op != .start || !bit x.flags 0 || (s.tenant x.t).restore.isSome)

/-- One operation of lap n: executed, or skipped and counted, logged, attention 1 (R311). A halt then advances the halt number, and
the fault log takes its cause, in the entry's slab field, and the lap of its condition (R317, log 134). -/
def State.runOp (s : State) (n : Nat) (x : Sched) : State :=
  let s := if s.mayAct x then s.act x n
    else ((s.count Obj.SKIPPED_OPS).faultEntry x.t 5 0 0 n).raise 1 (some x.t) Obj.SKIPPED_OPS
  match x.halt with
  | some (cause, lap) =>
    (s.modTenant x.t (fun y => { y with haltNo := (y.haltNo + 1) % 65536, haltSent := false, haltSeen := none })).faultEntry x.t 4 0 cause lap
  | none => s

/-- The operations scheduled for lap n, in their order; those of laps that gun time passed over go with them unexecuted. -/
def State.runOps (s : State) (n : Nat) : State :=
  let due := s.ten.sched.filter (fun x => x.lap == n)
  let s := { s with ten.sched := s.ten.sched.filter (fun x => x.lap != n && lapFuture s x.lap) }
  due.foldl (fun s x => s.runOp n x) s

/-! ## Requests of operations (R307 to R309) -/

/-- The fields of Table 10.7 that R308 refuses with RANGE. -/
def opRange (b : Blob) : Bool :=
  let flags := beAt b 2 1
  b.length != 16 || beAt b 1 1 == 0 || beAt b 3 1 != 0 || beAt b 10 6 != 0 ||
  (match opOf? (beAt b 0 1) with
    | none => true
    | some .start | some .reset => flags > 1
    | some _ => flags != 0) || beAt b 4 6 == noLap

/-- A write of 6100h (R308, R324, R431, R443): only the Anchor takes it; it schedules the operation and sends it down the tree. -/
def applyGlobalOp (b : Blob) (s : State) : State × Result :=
  let t := beAt b 1 1
  let mine := s.ten.sched.filter (fun x => x.t == t)
  match opRange b, opOf? (beAt b 0 1) with
  | false, some op =>
    let lead := s.time.gun + s.cfg Obj.OP_LEAD * ns
    let n := if beAt b 4 6 = 0 then lapAdd s.time.lap (s.lapsUntil lead) else beAt b 4 6
    let photo := op == .snapshot && ((s.tenant t).photo.isSome || mine.any (fun x => x.op == .snapshot))
    let barred := op == .start && (s.noDram || s.rel.boot.halted)
    if s.time.role != .anchor || barred || photo || !lapFuture s n || s.lapStartIn (lapsAhead s n) < lead then (s, .state)
    else if mine.length ≥ 4 then (s, .overcommit)
    else
      let x : Sched := ⟨op, t, beAt b 2 1, n, none⟩
      ((s.schedule x).waveFabric t 2 0 (n * 65536 + op.code * 256 + x.flags), .ok)
  | _, _ => (s, .range)

/-- The request of an operation. -/
def opRequest (op : Op) (t flags lap : Nat) : Blob := (⟨op, t, flags, lap, none⟩ : Sched).bytes

/-- A write of 6100h with an operation. -/
def State.globalOp (s : State) (p : Principal) (op : Op) (t flags lap : Nat) : State :=
  (s.writeBlobCmd p Obj.GLOBAL_OP 0 (opRequest op t flags lap) applyGlobalOp).starterFlush

/-- GLOBAL_OP_START. -/
def execGlobalOpStart (p : Principal) (t flags lap : Nat) (s : State) : Host.Outcome State Fault Refusal :=
  .next (s.globalOp p .start t flags lap)

/-- GLOBAL_OP_HOLD. -/
def execGlobalOpHold (p : Principal) (t flags lap : Nat) (s : State) : Host.Outcome State Fault Refusal :=
  .next (s.globalOp p .hold t flags lap)

/-- GLOBAL_OP_FREEZE. -/
def execGlobalOpFreeze (p : Principal) (t flags lap : Nat) (s : State) : Host.Outcome State Fault Refusal :=
  .next (s.globalOp p .freeze t flags lap)

/-- GLOBAL_OP_SNAPSHOT. -/
def execGlobalOpSnapshot (p : Principal) (t flags lap : Nat) (s : State) : Host.Outcome State Fault Refusal :=
  .next (s.globalOp p .snapshot t flags lap)

/-- GLOBAL_OP_RESET. -/
def execGlobalOpReset (p : Principal) (t flags lap : Nat) (s : State) : Host.Outcome State Fault Refusal :=
  .next (s.globalOp p .reset t flags lap)

/-- GLOBAL_OP_FAULT. -/
def execGlobalOpFault (p : Principal) (t flags lap : Nat) (s : State) : Host.Outcome State Fault Refusal :=
  .next (s.globalOp p .fault t flags lap)

/-! ## Waves (R312 to R319) -/

/-- What a WAVE flit carries (Table 4.7). -/
structure Wave where
  t : Nat
  op : Nat
  wave : Nat
  dir : Nat
  value : Nat
deriving DecidableEq, Repr

/-- The wave of a flit. -/
def waveOf (f : Blob) : Wave := ⟨beAt f 2 1, beAt f 3 1, beAt f 4 2, beAt f 6 1, beAt f 8 8⟩

/-- A WAVE flit of an operation: one with a reserved operation, or with a tenant that its operation does not allow, is discarded and counted
in 6115h (R110, R314). -/
def State.waveIn (s : State) (p op : Nat) (flit : Blob) (good : Wave → Bool) (g : Wave → State → State) : Host.Outcome State Fault Refusal :=
  s.ctlIn p 7 flit (fun s =>
    let w := waveOf flit
    if 6 < w.op then s.count Obj.WAVE_ERRORS
    else if w.op != op then s
    else if !good w then s.count Obj.WAVE_ERRORS
    else (g w s).starterFlush)

/-- Whether a wave names a tenant that a wave of a tenant may name. -/
def waveTenant (w : Wave) : Bool := 1 ≤ w.t && w.t ≤ 255

/-- Whether a port is the parent. -/
def State.isParent (s : State) (p : Nat) : Bool := s.time.parent == some p && s.time.role != .anchor

/-- Whether a port's other end takes part below this device: a child, or an endpoint of the tenant. -/
def State.isBelow (s : State) (t p : Nat) : Bool := s.fabricChildren.contains p || (s.endpoints t).contains p

/-- WAVE_JOIN (R313, R319): the port becomes a child; it counts from the next barrier on where one is under way. -/
def execWaveJoin (port : Nat) (flit : Blob) (s : State) : Host.Outcome State Fault Refusal :=
  s.waveIn port 0 flit (fun w => w.t == 0) (fun w s =>
    if !isFabric port || w.dir != 0 || s.ten.children.contains port then s
    else
      let ts := s.ten.tenants.map (fun (e : Nat × Tenant) =>
        if e.2.barSent || !(tabGet e.2.arrived e.2.barrier []).isEmpty then (e.1, { e.2 with late := port :: e.2.late }) else e)
      { s with ten.children := s.ten.children ++ [port], ten.tenants := ts })

/-- WAVE_LEAVE (R313): the port is no child any more. -/
def execWaveLeave (port : Nat) (flit : Blob) (s : State) : Host.Outcome State Fault Refusal :=
  s.waveIn port 1 flit (fun w => w.t == 0) (fun w s => if w.dir = 0 && isFabric port then s.dropChild port else s)

/-- WAVE_SCHEDULE (R309, R312): entered in the schedule and forwarded; later than 200 ns before its lap it is counted, logged and
raises a halt with cause 03h. An operation of no code in Table 10.4 is discarded as a reserved one (log 133). -/
def execWaveSchedule (port : Nat) (flit : Blob) (s : State) : Host.Outcome State Fault Refusal :=
  s.waveIn port 2 flit (fun w => waveTenant w && (opOf? (bits w.value 15 8)).isSome) (fun w s =>
    match opOf? (bits w.value 15 8) with
    | none => s
    | some op =>
      if w.dir != 1 || !s.isParent port then s
      else
        let n := bits w.value 63 16
        if !lapFuture s n || s.lapStartIn (lapsAhead s n) < s.time.gun + 200 * ns then
          ((s.count Obj.LATE_OPS).faultEntry w.t 3 0 0 n).halt w.t 3 n
        else (s.schedule ⟨op, w.t, bits w.value 7 0, n, none⟩).waveFabric w.t 2 0 w.value)

/-- A report of barrier k by a member or child. -/
def State.arrive (s : State) (t k who : Nat) (short : Bool) : State :=
  let x := s.tenant t
  if (k + 65536 - x.barrier) % 65536 ≥ 32768 then s
  else
    let s := s.modTenant t (fun x => { x with
      arrived := tabUpd x.arrived k [] (fun l => if l.contains who then l else l ++ [who])
      barrierInc := if short then k :: x.barrierInc else x.barrierInc })
    s.barrierStep t

/-- WAVE_BARRIER (R316): a report from below, or the release lap from above, which is passed on. -/
def execWaveBarrier (port : Nat) (flit : Blob) (s : State) : Host.Outcome State Fault Refusal :=
  s.waveIn port 3 flit waveTenant (fun w s =>
    if w.dir = 0 then (if s.isBelow w.t port then s.arrive w.t w.wave port (bit w.value 63) else s)
    else if s.isParent port then
      let s := s.waveFabric w.t 3 w.wave w.value
      s.modTenant w.t (fun x => { x with
        release := some (w.wave, bits w.value 47 0), barrierInc := if bit w.value 63 then w.wave :: x.barrierInc else x.barrierInc })
    else s)

/-- BARRIER_RELEASE (R316): members are released at the boundary of the release lap, and the next barrier begins. -/
def State.releaseBarrier (s : State) (t n : Nat) : State :=
  let x := s.tenant t
  match x.release with
  | some (k, l) =>
    if l != n then s
    else
      let inc := nat01 (x.barrierInc.contains k) * 2 ^ 63
      let s := (s.endpoints t).foldl (fun s p => s.queueCtl p (.wave t 3 k 1 (inc + l))) s
      let s := s.setCfg Obj.BARRIER_STATUS t (inc + 2 ^ 62 + k % 2 ^ 14 * 2 ^ 48 + l)
      let s := s.modTenant t (fun x => { x with
        barrier := (k + 1) % 65536, arrived := tabDel x.arrived k, barSent := false, late := []
        barrierInc := x.barrierInc.filter (· != k), release := none })
      s.barrierStep t
  | none => s

/-- WAVE_HALT (R317, R319): from below the first of a number goes up, and one that an endpoint raised leaves its own cause in the fault log;
from above it is scheduled and passed on. The cause and lap of the condition are those seen here, the down wave's where none was (log 134). -/
def execWaveHalt (port : Nat) (flit : Blob) (s : State) : Host.Outcome State Fault Refusal :=
  s.waveIn port 4 flit waveTenant (fun w s =>
    let cause := bits w.value 63 56
    let lap := bits w.value 47 0
    if w.dir = 0 then
      if !s.isBelow w.t port then s
      else
        let s := if isFabric port then s else s.faultEntry w.t 4 port 0 lap
        if w.wave = (s.tenant w.t).haltNo then s.halt w.t (if isFabric port then cause else 4) lap else s.count Obj.HALTS_MERGED
    else if s.isParent port then
      let seen := match (s.tenant w.t).haltSeen with
        | some (c, l) => if c = cause then l else lap
        | none => lap
      let s := ((s.waveDown w.t 4 w.wave w.value).ringHalt w.t lap).modTenant w.t (fun x => { x with haltSent := true })
      s.schedule ⟨if cause ≤ 3 then .fault else .hold, w.t, 0, lap, some (cause, seen)⟩
    else s)

/-- WAVE_BROADCAST (R318, R319). -/
def execWaveBroadcast (port : Nat) (flit : Blob) (s : State) : Host.Outcome State Fault Refusal :=
  s.waveIn port 5 flit waveTenant (fun w s =>
    if w.dir = 0 then
      if !s.isBelow w.t port then s
      else if s.time.role == .anchor then s.broadcastDown w.t (s.tenant w.t).bcastNo w.value
      else s.waveUp w.t 5 w.wave w.value
    else if s.isParent port then s.broadcastDown w.t w.wave w.value
    else s)

/-- WAVE_PHOTO_DONE (R322): reports from below combine; from above it sets the status and is passed on. -/
def execWavePhotoDone (port : Nat) (flit : Blob) (s : State) : Host.Outcome State Fault Refusal :=
  s.waveIn port 6 flit waveTenant (fun w s =>
    match (s.tenant w.t).photo with
    | none => if w.dir = 1 && s.isParent port then s.waveDown w.t 6 w.wave w.value else s
    | some ph =>
      if w.dir = 1 then
        if !s.isParent port then s
        else
          let s := s.waveDown w.t 6 w.wave w.value
          if ph.lap % 65536 = w.wave then s.photoEnd w.t ph (bit w.value 63) else s
      else if ph.lap % 65536 != w.wave || !s.isBelow w.t port then s
      else
        let ph := { ph with incomplete := ph.incomplete || bit w.value 63 }
        let ph := if isFabric port then { ph with children := if ph.children.contains port then ph.children else ph.children ++ [port] }
          else { ph with endpoints := if ph.endpoints.contains port then ph.endpoints else ph.endpoints ++ [port] }
        (s.modTenant w.t (fun x => { x with photo := some ph })).photoStep w.t)

/-! ## Writes (R316 to R318, R325) -/

/-- A write of 6110h[t]: the host arrives at barrier k, if it takes part. -/
def applyBarrierArrive (t v : Nat) (s : State) : State × Result :=
  (if bit (s.cfg Obj.TENANT_MEMBERS t) 8 then s.arrive t (v % 65536) 99 false else s, .ok)

/-- BARRIER_ARRIVE: a write of 6110h[t]. -/
def execBarrierArrive (p : Principal) (i v : Nat) (s : State) : Host.Outcome State Fault Refusal :=
  .next (s.writeNumCmd p Obj.BARRIER_ARRIVE i v (applyBarrierArrive i))

/-- A write of 6112h[t]: a broadcast starts, or BUSY while the one before it has not come back down. -/
def applyBroadcastSend (t v : Nat) (s : State) : State × Result :=
  if (s.tenant t).bcastOut then (s, .busy)
  else if s.time.role == .anchor then (s.broadcastDown t (s.tenant t).bcastNo v, .ok)
  else
    let s := s.modTenant t (fun x => { x with bcastOut := true, bcastQ := [v] })
    (s.waveUp t 5 (s.tenant t).bcastNo v, .ok)

/-- BROADCAST_SEND: a write of 6112h[t]. -/
def execBroadcastSend (p : Principal) (i v : Nat) (s : State) : Host.Outcome State Fault Refusal :=
  .next (s.writeNumCmd p Obj.BROADCAST_SEND i v (applyBroadcastSend i))

/-- A write of 6114h[t]: 1 raises a halt with cause 05h, which this device's fault log takes (R317). -/
def applyHaltRequest (t v : Nat) (s : State) : State × Result :=
  (if v = 1 then (s.faultEntry t 5 0 0 s.time.lap).halt t 5 s.time.lap else s, .ok)

/-- HALT_REQUEST: a write of 6114h[t]. -/
def execHaltRequest (p : Principal) (i v : Nat) (s : State) : Host.Outcome State Fault Refusal :=
  .next (s.writeNumCmd p Obj.HALT_REQUEST i v (applyHaltRequest i)).starterFlush

/-- A write of 6002h[t]: 1 empties the fault log. -/
def applyFaultLogClear (t v : Nat) (s : State) : State × Result :=
  (if v = 1 then s.modTenant t (fun x => { x with faultLog := [] }) else s, .ok)

/-- FAULT_LOG_CLEAR: a write of 6002h[t]. -/
def execFaultLogClear (p : Principal) (i v : Nat) (s : State) : Host.Outcome State Fault Refusal :=
  .next (s.writeNumCmd p Obj.FAULT_LOG_CLEAR i v (applyFaultLogClear i))

/-- A write of 6003h[t]: refused unless the tenant is IDLE. -/
def applyTenantMembers (t v : Nat) (s : State) : State × Result :=
  if (s.tenant t).st != .idle then (s, .state) else (s.writeNum Obj.TENANT_MEMBERS t (v &&& 0x13F), .ok)

end Sys2Proof.Machine
end

