-- ==== Sys2Proof/Machine/Starter.lean ====
section
/-! DEFINITION. The Starter complex: resets of cores and of the domain, the halted safe state, the privileged instructions,
interrupts, the work queues and the extension module (R351 to R371, R432, R441, R442). -/

namespace Sys2Proof.Machine

/-! ## The halted safe state (R442) -/

/-- A squad is gated at once: its threads stop, and no wake of it waits. -/
def State.gateSquad (s : State) (k : Nat) : State :=
  let s := (s.stopSquad k).modSquad k (fun q => { q with st := .gated, wakeAt := none })
  { s with rel.wakes := s.rel.wakes.filter (fun w => w.key != k) }

/-- One tenant faults without a lap operation, fault log cause 04h. -/
def State.safeTenant (s : State) (t : Nat) : State :=
  if (s.tenant t).st == .running || (s.tenant t).st == .held then
    (s.enterState t .faulted).faultEntry t 4 255 0 s.time.lap
  else s

/-- Enters the halted safe state. -/
def State.enterSafe (s : State) : State :=
  if s.rel.boot.halted then s
  else
    let s := { s with rel.boot.halted := true }
    let s := (List.range 256).foldl State.safeTenant s
    let s := (List.range 16).foldl (fun s p => s.setPortState p .disabled) s
    let s := (List.range 12).foldl State.gateSquad s
    let s := { s with dram.selfRefresh := true }
    (s.raise 6 none Obj.HALT_STATE).emit (.safeN true)

/-! ## Resets of cores and of the Starter domain (R300, R363, R365, R432, R441) -/

/-- Returns what a core has taken to its queues: an item keeps its place, ahead of every item that came later. -/
def WorkQueue.giveBack (w : WorkQueue) (k : Nat) : WorkQueue :=
  { w with items := w.items.map (fun i => if i.taken = some k then { i with taken := none } else i) }

/-- Which core in DNF a core minds. -/
def State.minded (s : State) (k : Nat) : Option Nat :=
  (List.range 4).find? (fun j => (s.core j).st == .dnf && s.minder j == some k)

/-- PEER stays pending only at the minder of a core in DNF. -/
def State.settlePeer (s : State) : State :=
  (List.range 4).foldl (fun s k =>
    if (s.minded k).isSome then s else s.modCore k (fun c => { c with irq := c.irq.filter (· != 26) })) s

/-- The reset of a core: registers, lines not written back, batons, locks and taken items go; it restarts at the warm entry. -/
def State.resetCore (s : State) (k : Nat) : State :=
  let s := (s.core k).batons.foldl State.release s
  let s := s.abandonLocks (midCore k)
  let s := if k = 3 && s.starter.running then
    { s with starter.running := false, starter.extBy := none, starter.extState := if s.starter.extState = 2 then 1 else s.starter.extState } else s
  let s := { s with
    starter.queues := s.starter.queues.map (fun (e : Nat × WorkQueue) => (e.1, e.2.giveBack k)) }
  (s.modCore k (fun _ => { Core.reset with
    st := .running, wdog := s.time.gun, ctx := { Ctx.reset with pc := 0x100 } })).settlePeer

/-- Flash operations in progress or waiting are abandoned (R435): a store leaves the copy it was writing without its check, a slot
being written stays invalid, a commit leaves the former block. -/
def Flash.abandon (f : Flash) : Flash :=
  match f.busy with
  | .persist _ :: _ =>
    if f.copyB.valid && (!f.copyA.valid || f.copyA.count ≤ f.copyB.count) then { f with copyA := .empty, busy := [] }
    else { f with copyB := .empty, busy := [] }
  | _ => { f with busy := [] }

/-- The reset of the Starter domain (Table 15.3): every core, the Starter store with the extension module in it, untaken work
items and blob assemblies; firmware then rebuilds from the shadows. A third within 1.0 s enters the halted safe state. -/
def State.resetStarter (s : State) : State :=
  let queues := s.starter.queues
  let s := { s with
    starter.queues := queues.map (fun (e : Nat × WorkQueue) =>
      (e.1, { e.2 with items := e.2.items.filter (fun i => i.taken.isSome) })) }
  let s := (List.range 4).foldl State.resetCore s
  let now := s.time.gun
  let recent := s.starter.domainResets.filter (fun t => now < t + 1000000000 * ns)
  let s := { s with
    starter.store := [], starter.ext := none, starter.extState := 0, starter.running := false, starter.extCalls := []
    starter.extReplies := [], starter.extLog := [], starter.domainResets := now :: recent, starter.rebuilding := true
    mgmt.sessions := s.mgmt.sessions.map (fun (e : Nat × Session) => (e.1, { e.2 with assembly := none, cache := e.2.cache.filter (fun x => x.reply.isSome) }))
    rel.flash := s.rel.flash.abandon, mgmt.held := []
    strider.squads := s.strider.squads.map (fun (e : Nat × Squad) => (e.1, { e.2 with asked := false }))
    blob := tabDel s.blob (objKey Obj.EXT_MODULE 0) }
  let s := s.raise 2 none Obj.RESET_REQUEST
  if recent.length ≥ 2 then s.enterSafe else s

/-- STARTER_DOMAIN_RESET (R432, R441). -/
def execStarterDomainReset (s : State) : Host.Outcome State Fault Refusal := .next s.resetStarter

/-- WATCHDOG_EXPIRY (R362): a running core has not kicked its watchdog for 8005h µs. -/
def execWatchdogExpiry (k : Nat) (s : State) : Host.Outcome State Fault Refusal :=
  let c := s.core k
  if k < 4 && c.st == .running && c.wdog + s.cfg Obj.WATCHDOG_PERIOD * 1000 * ns ≤ s.time.gun then .next (s.enterDnf k 3)
  else .next s

/-- HARDWARE_CORE_RESET (R363): a core in DNF for 1.0 ms is reset by hardware; with no core running, the Starter domain. -/
def execHardwareCoreReset (k : Nat) (s : State) : Host.Outcome State Fault Refusal :=
  let c := s.core k
  if k < 4 && c.st == .dnf then
    if (List.range 4).all (fun j => (s.core j).st != .running) then .next s.resetStarter
    else if c.dnfAt + 1000000 * ns ≤ s.time.gun then .next ((s.resetCore k).count Obj.HW_RECOVERIES k)
    else .next s
  else .next s

/-! ## Privileged instructions (R355, R356) -/

/-- The header of a privileged instruction: defined only on a Starter core, and in user mode only svc (R232, R356). -/
def State.privHdr (s : State) (h : Hdr) : Hdr :=
  match h.core with
  | .strider _ => if h.enc == .ok then { h with enc := .privileged } else h
  | .starter k => if h.enc == .ok && (s.core k).u then { h with enc := .privileged } else h

/-- One privileged instruction: `body` has the core's number. -/
def State.priv (s : State) (h : Hdr) (kind : Kind) (body : Nat → State → Ctx → Did) : Host.Outcome State Fault Refusal :=
  s.runInstr (s.privHdr h) kind (fun s c => match h.core with
    | .starter k => body k s c
    | .strider _ => .fault 2 0)

/-- The LOCKPEND halves after a read of one: it clears, and vector 24 with the last of both. -/
def Core.clearPend (c : Core) (low : Bool) : Core :=
  let v := if low then c.lockPend / 2 ^ 32 * 2 ^ 32 else c.lockPend % 2 ^ 32
  { c with lockPend := v, irq := if v = 0 then c.irq.filter (· != 24) else c.irq }

/-- Table 12.2 for rdpr: the value and the state after; none for a number that the table does not name. A read of a register
that is only written is a free value (log 2). -/
def State.readPr (s : State) (k n : Nat) : Option (W40 × State) :=
  let c := s.core k
  match n with
  | 0 => some (BitVec.ofNat 40 c.status, s)
  | 1 => some (wordOf c.vbar, s)
  | 2 => some (wordOf c.splim, s)
  | 3 => some (c.ksp, s)
  | 4 => some (c.usp, s)
  | 5 => some (BitVec.ofNat 40 c.cause, s)
  | 6 => some (BitVec.ofNat 40 c.faddr, s)
  | 7 => some (BitVec.ofNat 40 k, s)
  | 8 | 15 => let (v, s) := s.draw
    some (BitVec.ofNat 40 v, s)
  | 9 => some (c.tcmp, s)
  | 10 => some (BitVec.ofNat 40 (c.lockPend % 2 ^ 32), s.modCore k (fun c => c.clearPend true))
  | 11 => some (BitVec.ofNat 40 (c.lockPend / 2 ^ 32), s.modCore k (fun c => c.clearPend false))
  | 12 => some (wordOf c.ubase, s)
  | 13 => some (wordOf c.ulimit, s)
  | 14 => some (BitVec.ofNat 40 c.dwin, s)
  | _ => none

/-- A write of PEERRST: resets the named core if it is in DNF. -/
def State.peerReset (s : State) (v : W40) : State :=
  let j := v.toNat % 4
  if v.getLsbD 31 && (s.core j).st == .dnf then s.resetCore j else s

/-- Restarts a core's watchdog. -/
def State.kick (s : State) (k : Nat) : State := s.modCore k (fun c => { c with wdog := s.time.gun })

/-- Table 12.2 for wrpr; none for a number that the table does not name. A write of a register that is only read changes nothing. -/
def State.writePr (s : State) (k n : Nat) (v : W40) : Option State :=
  match n with
  | 0 => some (s.modCore k (fun c => c.setStatus v.toNat))
  | 1 => some (s.modCore k (fun c => { c with vbar := addrOf v &&& 0xFFFFFE00 }))
  | 2 => some (s.modCore k (fun c => { c with splim := addrOf v }))
  | 3 => some (s.modCore k (fun c => { c with ksp := v }))
  | 4 => some (s.modCore k (fun c => { c with usp := v }))
  | 5 | 6 | 7 | 10 | 11 => some s
  | 8 => some (s.kick k)
  | 9 => some (s.modCore k (fun c => { c with tcmp := v, irq := c.irq.filter (· != 25) }))
  | 12 => some (s.modCore k (fun c => { c with ubase := addrOf v }))
  | 13 => some (s.modCore k (fun c => { c with ulimit := addrOf v }))
  | 14 => some (s.modCore k (fun c => { c with dwin := v.toNat % 512 }))
  | 15 => some (s.peerReset v)
  | _ => none

/-- rdpr. -/
def execOpRdpr (h : Hdr) (rd n : BitVec 5) (s : State) : Host.Outcome State Fault Refusal :=
  s.priv h .plain (fun k s _ => match s.readPr k n.toNat with
    | some (v, s) => .ok s (plainResult rd v)
    | none => .fault 1 0)

/-- wrpr. -/
def execOpWrpr (h : Hdr) (n ra : BitVec 5) (s : State) : Host.Outcome State Fault Refusal :=
  s.priv h .plain (fun k s c => match s.writePr k n.toNat (c.r ra) with
    | some s => .ok s []
    | none => .fault 1 0)

/-- WDKICK: wrpr of PR8. -/
def execOpWdkick (h : Hdr) (ra : BitVec 5) (s : State) : Host.Outcome State Fault Refusal :=
  s.priv h .plain (fun k s c => match s.writePr k 8 (c.r ra) with
    | some s => .ok s []
    | none => .fault 1 0)

/-- PEERRST: wrpr of PR15. -/
def execOpPeerrst (h : Hdr) (ra : BitVec 5) (s : State) : Host.Outcome State Fault Refusal :=
  s.priv h .plain (fun k s c => match s.writePr k 15 (c.r ra) with
    | some s => .ok s []
    | none => .fault 1 0)

/-- A core's registers after the frame at `sp` of bytes `f` is restored (R361). -/
def Core.restore (c : Core) (f : Blob) (sp : W40) : Core :=
  let ctx := (List.range 6).foldl (fun (x : Ctx) i => x.setW (i + 1) (BitVec.ofNat 40 (beAt f (16 + 8 * i) 5))) c.ctx
  let ctx := { ctx.setW 31 (sp + 64) with pc := BitVec.ofNat 32 (beAt f 0 5), slot := .none, undo := Option.none }
  let c := { c with ctx := ctx }.setStatus (beAt f 8 5)
  if c.u then { c with ksp := c.ctx.rw 31, ctx := c.ctx.setW 31 c.usp } else c

/-- rfe: restores the frame at W31; an uncorrectable error in it sends the core to DNF (R361). -/
def execOpRfe (h : Hdr) (s : State) : Host.Outcome State Fault Refusal :=
  s.priv h .control (fun k s c =>
    match s.load h.core (addrOf (c.rw 31)) 64 with
    | .ok f t =>
      let a := (addrOf (c.rw 31)).toNat
      let bad := h.frame == .uncorrectable || s.readPoisoned h.core .load a 64
      let t := t.sramEvent 30 a h.frame
      if bad then .whole (t.enterDnf k 1)
      else .whole (t.modCore k (fun x => x.restore f (c.rw 31)))
    | .fault => .fault 3 (addrOf (c.rw 31)).toNat
    | .device a => .stop a)

/-! ## Work queues (R364, R365) -/

/-- The untaken items of a queue. -/
def WorkQueue.waiting (w : WorkQueue) : List WorkItem := w.items.filter (fun i => i.taken.isNone)

/-- Whether queue q raises its vector on core k. -/
def State.queueRaises (s : State) (k q : Nat) : Bool :=
  !(s.workq q).waiting.isEmpty && (s.workq q).tokens > 0 && bit (beAt (s.blb Obj.WORKQ_CONFIG q) 7 1) k

/-- The priority of a queue, and of its vector. -/
def State.queuePrio (s : State) (q : Nat) : Nat := beAt (s.blb Obj.WORKQ_CONFIG q) 6 1

/-- The first of a list with the greatest measure. -/
def firstMost {α : Type} (f : α → Nat) : List α → Option α
  | [] => none
  | x :: t => match firstMost f t with
    | some y => if f x < f y then some y else some x
    | none => some x

/-- The item that queue q gives next: its oldest, and of queue 1 that of the next tenant in turn. -/
def State.nextItem (s : State) (q : Nat) : Option WorkItem :=
  let w := s.workq q
  if q = 1 then firstMost (fun (i : WorkItem) => 256 - (i.tenant + 255 - w.turn) % 256) w.waiting
  else w.waiting.head?

/-- Takes an item for core k (R365). -/
def State.takeWork (s : State) (k : Nat) : Option (Nat × State) :=
  match firstMost s.queuePrio ((List.range 7).filter (s.queueRaises k)) with
  | none => none
  | some q => match s.nextItem q with
    | none => none
    | some i =>
      let w := s.workq q
      let w := { w with
        tokens := w.tokens - 1, turn := i.tenant, waits := w.waitsWith s.time.ticks ((s.time.gun - i.born) / (1000 * ns))
        items := w.items.map (fun (j : WorkItem) => if j.handle = i.handle then { j with taken := some k } else j) }
      some (i.handle, { s with starter.queues := tabSet s.starter.queues q w })

/-- wqtake: the handle of an item, or 0 with Z. -/
def execOpWqtake (h : Hdr) (rd : BitVec 5) (s : State) : Host.Outcome State Fault Refusal :=
  s.priv h .plain (fun k s _ => match s.takeWork k with
    | some (n, s) => .ok (s.modCore k (fun c => { c with taken := c.taken ++ [n] })) (result rd (BitVec.ofNat 40 n, { z := some false }))
    | none => .ok s (result rd (0, { z := some true })))

/-- Completes the item of a handle. -/
def State.workDone (s : State) (n : Nat) : State :=
  match (List.range 7).find? (fun q => (s.workq q).items.any (fun i => i.handle == n && i.taken.isSome)) with
  | none => s
  | some q =>
    let w := s.workq q
    let s := { s with starter.queues := tabSet s.starter.queues q { w with items := w.items.filter (fun i => i.handle != n) } }
    s.count Obj.WORKQ_SERVED q

/-- wqdone: completes the item of a handle. -/
def execOpWqdone (h : Hdr) (ra : BitVec 5) (s : State) : Host.Outcome State Fault Refusal :=
  s.priv h .plain (fun k s c =>
    let n := (c.r ra).toNat
    .ok ((s.workDone n).modCore k (fun x => { x with taken := x.taken.filter (· != n) })) [])

/-- WORK_QUEUE_REFILL (R364): a millisecond's tokens arrive, up to the burst. -/
def execWorkQueueRefill (q : Nat) (s : State) : Host.Outcome State Fault Refusal :=
  if q < 7 then
    let b := s.blb Obj.WORKQ_CONFIG q
    let w := s.workq q
    .next { s with starter.queues := tabSet s.starter.queues q { w with tokens := min (w.tokens + beAt b 0 4) (beAt b 4 2) } }
  else .next s

/-- A write of 8010h[q]. -/
def applyWorkqConfig (q : Nat) (b : Blob) (s : State) : State × Result :=
  if b.length != 8 || beAt b 6 1 > 15 || beAt b 7 1 > 15 then (s, .range) else (s.writeBlob Obj.WORKQ_CONFIG q b, .ok)

/-! ## The test path, the caches (R353, R356, R367) -/

/-- The thread that a word names in [11:8], [7:4] and [2:0]: squad, Strider, thread. -/
def testThread (w : W40) : Nat := bits w.toNat 11 8 * 128 + bits w.toNat 7 4 * 8 + bits w.toNat 2 0

/-- tstart: starts a test run; 1, or 0 with Z. -/
def execOpTstart (h : Hdr) (rd ra rb : BitVec 5) (s : State) : Host.Outcome State Fault Refusal :=
  s.priv h .plain (fun _ s c =>
    let x := testThread (c.r ra)
    let q := squadOf x
    let n := (c.r rb).toNat % 256
    match (s.squad q).entry? n with
    | some (a, _) =>
      if q < 12 && (s.squad q).st == .test && (s.thread x).st == .free && (s.thread x).fid.isNone then
        .ok (s.startThread x (.test n) a 0 0) (result rd (1, { z := some false }))
      else .ok s (result rd (0, { z := some true }))
    | none => .ok s (result rd (0, { z := some true })))

/-- The DRAM lines that a core's range touches. -/
def Core.linesIn (c : Core) (a : Addr) (n : Nat) : List Nat :=
  (c.lines.map Prod.fst).filter (fun l =>
    let hits (base shown : Nat) : Bool := base ≤ 64 * l && shown + (64 * l - base) < a.toNat + n && a.toNat < shown + (64 * l - base) + 64
    (l < 2 ^ 24 && hits 0 0x40000000) || (l / 2 ^ 24 == c.dwin && hits (c.dwin * 2 ^ 30) 0x80000000))

/-- cinv: the lines of a range leave the core's data cache, unwritten. -/
def execOpCinv (h : Hdr) (ra rb : BitVec 5) (s : State) : Host.Outcome State Fault Refusal :=
  s.priv h .plain (fun k s c =>
    let ls := (s.core k).linesIn (addrOf (c.r ra)) (c.r rb).toNat
    .ok (s.modCore k (fun x => { x with lines := x.lines.filter (fun (e : Nat × Line) => !ls.contains e.1) })) [])

/-- Writes back one dirty line. -/
def State.cleanLine (s : State) (k l : Nat) : State :=
  match tabGet? (s.core k).lines l with
  | some x => if x.dirty then
      (s.dramWrite .starter (64 * l) x.bytes).modCore k (fun c => { c with lines := tabSet c.lines l ⟨x.bytes, false⟩ })
    else s
  | none => s

/-- cwb: the dirty lines of a range are written to DRAM. -/
def execOpCwb (h : Hdr) (ra rb : BitVec 5) (s : State) : Host.Outcome State Fault Refusal :=
  s.priv h .plain (fun k s c =>
    .ok (((s.core k).linesIn (addrOf (c.r ra)) (c.r rb).toNat).foldl (fun s l => s.cleanLine k l) s) [])

/-- ilock: locks the instruction lines of a range, up to 64 in all; a length of 0 unlocks all. -/
def execOpIlock (h : Hdr) (ra rb : BitVec 5) (s : State) : Host.Outcome State Fault Refusal :=
  s.priv h .plain (fun k s c =>
    let a := (addrOf (c.r ra)).toNat
    let n := (c.r rb).toNat
    let want := if n = 0 then [] else (List.range (min ((a + n - 1) / 64 - a / 64 + 1) 64)).map (fun i => a / 64 + i)
    .ok (s.modCore k (fun x => { x with
      locked := if n = 0 then [] else (x.locked ++ want.filter (fun l => !x.locked.contains l)).take 64 })) [])

/-! ## Interrupts (R358, R359) -/

/-- The interrupts pending at a core: latched vectors, and the queues that raise theirs. -/
def State.pendingIrqs (s : State) (k : Nat) : List Nat :=
  ((List.range 7).filter (s.queueRaises k)).map (16 + ·) ++ [24, 25, 26, 28].filter (fun v => (s.core k).irq.contains v)

/-- The priority of an interrupt vector: its queue's, or that of the vector entry. -/
def State.irqPrio (s : State) (k v : Nat) : Nat := if 16 ≤ v && v ≤ 22 then s.queuePrio (v - 16) else (s.vectorOf k v).2

/-- The detail of an interrupt: PEER names the core in DNF that this core minds (R363); any other is a free value (log 34). -/
def State.irqDetail (s : State) (k v : Nat) : Nat × State :=
  if v = 26 then ((s.minded k).getD 0, s)
  else
    let (n, s) := s.draw
    (n % 256, s)

/-- INTERRUPT_ENTRY (R358): at a boundary that splits no transfer from its slot, outside a link-stack trap, the due interrupt of the
highest priority, the lowest vector among equals, is taken; `e` is what ECC finds in its frame (R359). -/
def execInterruptEntry (k : Nat) (e : Ecc) (s : State) : Host.Outcome State Fault Refusal :=
  let c := s.core k
  if k < 4 && c.st == .running && c.ie && c.ctx.slot == .none && c.ctx.reserved.isNone then
    match firstMost (s.irqPrio k) ((s.pendingIrqs k).filter (fun v => c.il < s.irqPrio k v)) with
    | none => .next s
    | some v =>
      let prio := s.irqPrio k v
      let (detail, s) := s.irqDetail k v
      let s := s.modCore k (fun c => { c with waiting := false })
      let s := s.takeException k v detail c.ctx.pc.toNat none (some prio) e
      .next (if v = 28 && (s.core k).cause / 256 = 28 then s.modCore k (fun c => { c with irq := c.irq.filter (· != 28) }) else s)
  else .next s

/-- TIMER_COMPARE (R355): gun time reaches TCMP in the units of R247, and vector 25 is pending. -/
def execTimerCompare (k : Nat) (s : State) : Host.Outcome State Fault Refusal :=
  let (now, s) := s.readTime (.starter k)
  if k < 4 && stopwatchAhead (s.core k).tcmp now = 0 then .next (s.irqCore k 25) else .next s

end Sys2Proof.Machine
end

