-- ==== Sys2Proof/Machine/Ext.lean ====
section
/-! DEFINITION. The extension module of the Starter: its load, its calls and its ticks (R369, R370). -/

namespace Sys2Proof.Machine

/-- The header of a module blob (Table 12.10), where R369 accepts the blob. -/
def moduleOf (b : Blob) : Option Module :=
  let text := beAt b 8 4
  let data := beAt b 12 4
  let call := beAt b 16 4
  let tick := beAt b 20 4
  let entry (e : Nat) : Bool := e % 2 == 0 && e < text
  if b.length < 36 || beAt b 4 2 != 1 || text + data > 262144 || b.length != 36 + text + data then none
  else if !entry call || !(tick == 0xFFFFFFFF || entry tick) then none
  else if beAt b (32 + text + data) 4 != crc32 (b.take (32 + text + data)) then none
  else some ⟨beAt b 0 4, call, if tick = 0xFFFFFFFF then none else some tick, beAt b 24 4⟩

/-- The extension region holding these bytes first, and zeros. -/
def State.fillRegion (s : State) (b : Blob) : State :=
  { s with starter.store := memWriteN (s.starter.store.filter (fun (e : Nat × Byte) => !(0x4BC000 ≤ e.1 && e.1 < 0x4FC000))) 0x4BC000 b }

/-- A write of 8030h: loads or unloads the module; while an invocation runs, BUSY (DESIGN CHOICE, log 31). -/
def applyExtModule (b : Blob) (s : State) : State × Result :=
  if s.starter.running then (s, .busy)
  else if b.isEmpty then
    ({ s.writeBlob Obj.EXT_MODULE 0 b with starter.ext := none, starter.extState := 0, starter.extCalls := [] }, .ok)
  else match moduleOf b with
    | none => (s, .range)
    | some m =>
      let kept := overwrite (overwrite b 6 [0, 0]) 28 [0, 0, 0, 0]
      let s := (s.writeBlob Obj.EXT_MODULE 0 kept).fillRegion ((b.drop 32).take (beAt b 8 4 + beAt b 12 4))
      ({ s with starter.ext := some m, starter.extState := 1, starter.extCalls := []
                starter.extTickAt := s.time.gun + m.period * 1000 * ns }, .ok)

/-- EXT_MODULE: a write of 8030h. -/
def execExtModule (p : Principal) (b : Blob) (s : State) : Host.Outcome State Fault Refusal :=
  .next (s.writeBlobCmd p Obj.EXT_MODULE 0 b applyExtModule)

/-- Whether an invocation may start: the module is loaded, none runs, and core 3 runs firmware. -/
def State.extReady (s : State) : Bool :=
  !s.starter.running && s.starter.extState == 1 && (s.core 3).st == .running && !(s.core 3).u

/-- Starts an invocation on core 3 in user mode at IL 0 (R370). -/
def State.startModule (s : State) (entry : Nat) (by_ : Option Principal) : State :=
  let s := { s with starter.running := true, starter.extState := 2, starter.extBy := by_ }
  s.modCore 3 (fun c => { c with
    ksp := c.ctx.rw 31, u := true, il := 0, ie := true, userCount := 0, waiting := false
    ctx := { c.ctx.setW 31 c.usp with pc := BitVec.ofNat 32 (0x4BC000 + entry), slot := .none, undo := Option.none } })

/-- Starts the oldest waiting call, where one may start. -/
def State.extNext (s : State) : State :=
  if s.extReady then
    match s.starter.ext, s.starter.extCalls with
    | some m, (p, _) :: rest => { s with starter.extCalls := rest }.startModule m.call (some p)
    | _, _ => s
  else s

/-- A write of 8033h: a call; BUSY for a fifth that would wait, STATE with no module that could run it (DEDUCED, log 32). -/
def applyExtCall (p : Principal) (b : Blob) (s : State) : State × Result :=
  if b.length > 1024 then (s, .range)
  else if s.starter.extState != 1 && s.starter.extState != 2 then (s, .state)
  else if s.extReady && s.starter.extCalls.isEmpty then ({ s with starter.extCalls := [(p, b)] }.extNext, .ok)
  else if s.starter.extCalls.length ≥ 4 then (s, .busy)
  else ({ s with starter.extCalls := s.starter.extCalls ++ [(p, b)] }.extNext, .ok)

/-- EXT_CALL: a write of 8033h. -/
def execExtCall (p : Principal) (b : Blob) (s : State) : Host.Outcome State Fault Refusal :=
  .next (s.writeBlobCmd p Obj.EXT_CALL 0 b (applyExtCall p))

/-- EXT_TICK (R370): once per PERIOD the tick entry runs, if the module has one and nothing else of it runs or waits (log 156). -/
def execExtTick (s : State) : Host.Outcome State Fault Refusal :=
  match s.starter.ext with
  | some m => match m.tick with
    | some e =>
      if s.time.gun < s.starter.extTickAt then .next s
      else if !s.starter.extCalls.isEmpty then .next s.extNext
      else if s.extReady then
        .next ({ s with starter.extTickAt := max s.starter.extTickAt (s.time.gun - m.period * 1000 * ns) + m.period * 1000 * ns }.startModule e none)
      else .next s
    | none => .next s
  | none => .next s

end Sys2Proof.Machine
end

