-- ==== Sys2Proof/Machine/TimeEngine.lean ====
section
/-! DEFINITION. Gun time, the Anchor choice, the two-way exchange and the servo, external alignment, the schedule objects, and
lane sleep with the starting-blocks limiter (chapter 02, R436, R437). Ages are counted in ticks, which no step changes. -/

namespace Sys2Proof.Machine

/-- The exchange record of a port. -/
def State.exchange (s : State) (p : Nat) : Exchange := tabGet s.time.exch p ⟨0, 0, 0, 0, 0, none, 0⟩

/-- Replaces the exchange record of a port. -/
def State.setExchange (s : State) (p : Nat) (x : Exchange) : State := { s with time.exch := tabSet s.time.exch p x }

/-! ## The choice of the Anchor (R39 to R41) -/

/-- A candidate of R40: rank, Anchor bib, hops and port; port 8 stands for the device itself. -/
abbrev Candidate := Nat × Nat × Nat × Nat

/-- The order of candidates: rank, bib, hops, port number. -/
def Candidate.below (a b : Candidate) : Bool :=
  a.1 < b.1 || (a.1 == b.1 && (a.2.1 < b.2.1 || (a.2.1 == b.2.1 &&
    (a.2.2.1 < b.2.2.1 || (a.2.2.1 == b.2.2.1 && a.2.2.2 < b.2.2.2)))))

/-- Whether an announce is ignored: 63 hops or more, or naming this device as Anchor while it is not Anchor (R40). A device whose rank
is 0 is removed as a candidate at once, and ignores its own bib from then on (R41, log 130). -/
def State.ignores (s : State) (a : AnnounceBody) : Bool :=
  63 ≤ a.hops || (a.bib == s.rel.boot.bib && (s.time.role != .anchor || s.cfg Obj.ANCHOR_RANK == 0))

/-- The valid announces: younger than 8.0 µs, not ignored, rank not 0. -/
def State.heardCands (s : State) : List Candidate :=
  s.time.heard.filterMap (fun e =>
    let a := e.2.body
    if e.1 < 8 && s.time.ticks < e.2.arrived + usTicks 8 && a.rank != 0 && !s.ignores a then some (a.rank, a.bib, a.hops + 1, e.1)
    else none)

/-- The best candidate of R40. -/
def State.bestCand (s : State) : Option Candidate :=
  let own : Option Candidate := if s.cfg Obj.ANCHOR_RANK > 0 then some (s.cfg Obj.ANCHOR_RANK, s.rel.boot.bib, 0, 8) else none
  s.heardCands.foldl (fun b c => match b with
    | none => some c
    | some x => if Candidate.below c x then some c else some x) own

/-- Leaves the lock: the last estimate drifts from now on (R51); the Anchor's estimate is 0 (R41), and its external alignment is no longer
in use (120Fh). -/
def State.unlock (s : State) : State :=
  match s.time.role with
  | .anchor => { s.setCfg Obj.PPS_STATE 0 0 with time.est := 0, time.estFrom := some s.time.ticks, time.everLocked := true, time.lockRun := 0 }
  | .locked => { s with time.estFrom := some s.time.ticks, time.lockRun := 0 }
  | _ => { s with time.lockRun := 0 }

/-- Takes a parent: JOIN on its port, LEAVE on the former one, and the waves that waited go up (R313, R319). -/
def State.takeParent (s : State) (p hops : Nat) : State :=
  if s.time.parent == some p && s.time.role != .anchor then
    let role := if s.time.role == .locked then Role.locked else .acquiring
    { s with time.hops := hops, time.role := role }.flushUp
  else
    let s := s.unlock
    let s := match s.time.parent with
      | some q => s.queueCtl q (.wave 0 1 0 0 s.rel.boot.bib)
      | none => s
    let s := { s with time.role := .acquiring, time.parent := some p, time.hops := hops, time.stepWanted := true }
    (s.queueCtl p (.wave 0 0 0 0 s.rel.boot.bib)).flushUp

/-- Gives up the parent for the device's own candidacy or none. -/
def State.dropParent (s : State) (role : Role) : State :=
  let s := s.unlock
  let s := match s.time.parent with
    | some q => s.queueCtl q (.wave 0 1 0 0 s.rel.boot.bib)
    | none => s
  { s with time.role := role, time.parent := none, time.hops := 0 }

/-- R40: the evaluation of the Anchor choice. The 64 µs of R41 run from the arrival of the last better announce (log 131). -/
def State.evaluate (s : State) : State :=
  match s.bestCand with
  | none => if s.time.role == .freeRun then s else s.dropParent .freeRun
  | some (_, _, hops, p) =>
    if p < 8 then { s.takeParent p hops with
      time.lastBetter := max s.time.lastBetter (((tabGet? s.time.heard p).map Heard.arrived).getD 0) }
    else match s.time.role with
      | .anchor | .freeRun | .holdover => s
      | .locked | .acquiring => s.dropParent .holdover

/-- The announce a device sends: its Anchor or itself (R39); none without a candidate. -/
def State.announceBody (s : State) : Option AnnounceBody :=
  let own : AnnounceBody := ⟨s.cfg Obj.ANCHOR_RANK, 0, s.rel.boot.bib, 0, s.time.lap, s.time.lapStart, s.lapLen⟩
  match s.bestCand with
  | none => none
  | some (r, b, h, p) => if p < 8 then some { own with rank := r, hops := h, bib := b, offset := s.estPs } else some own

/-- TIME_TICK (R31, R33, R48): the counter advances by 1.25 ns, corrected by the servo rate, and by a slew within its limit; it never
runs backwards. -/
def execTimeTick (s : State) : Host.Outcome State Fault Refusal :=
  let x := s.time
  let lim : Int := (5368709120 * s.cfg Obj.SLEW_LIMIT / 1000000000 : Nat)
  let d := if x.role == .anchor then max (-lim) (min lim x.slew) else 0
  let total : Int := max 0 ((tickUnits * 65536 : Nat) + x.acc + x.rate + d)
  .next { s with
    time.gun := (x.gun + total / 65536).toNat % 2 ^ 80
    time.acc := total % 65536
    time.slew := x.slew - d
    time.ticks := x.ticks + 1 }.noteEst.starterFlush

/-- ANNOUNCE_TICK (R39, R40): the choice is evaluated, and an announce is due on every UP fabric port. -/
def execAnnounceTick (s : State) : Host.Outcome State Fault Refusal :=
  let s := s.evaluate
  .next (match s.announceBody with
    | none => s
    | some a => (List.range 14).foldl (fun s p => if (s.port p).st == .up then s.queueCtl p (.announce a) else s) s)

/-- A device that becomes the root of the wave tree serves the waves that waited for a parent, and the barriers and Photo finishes it has
reported in (R319). -/
def State.serveWaves (s : State) : State :=
  let ws := s.ten.upWait
  let s := ws.foldl (fun s (w : Nat × Nat × Nat × Nat) =>
    if w.2.1 = 4 && w.2.2.1 = (s.tenant w.1).haltNo then s.takeHalt w.1 (bits w.2.2.2 63 56) (bits w.2.2.2 47 0)
    else if w.2.1 = 5 then s.broadcastDown w.1 (s.tenant w.1).bcastNo w.2.2.2
    else s) ({ s with ten.upWait := [] } : State)
  (s.ten.tenants.map Prod.fst).foldl (fun s t =>
    let s := s.modTenant t (fun x => { x with
      barSent := x.barSent && x.release.isSome, photo := x.photo.map (fun ph => { ph with sent := false }) })
    (s.barrierStep t).photoStep t) s

/-- ANCHOR_TAKEOVER (R41): 64 µs without a better announce make the best candidate the Anchor; time and laps stay. -/
def execAnchorTakeover (s : State) : Host.Outcome State Fault Refusal :=
  match s.bestCand with
  | some (_, _, _, 8) =>
    if s.time.role != .anchor && s.time.lastBetter + usTicks 64 ≤ s.time.ticks then
      let s := s.unlock
      let s : State := { s with
        time.role := .anchor, time.parent := none, time.hops := 0, time.everLocked := true
        time.slew := 0, time.ppsFirst := true, time.ppsLast := s.time.ticks }
      .next s.noteEst.serveWaves.starterFlush
    else .next s
  | _ => .next s

/-- ANNOUNCE_AGEOUT (R41): the parent's announces have been absent for 8.0 µs. -/
def execAnnounceAgeout (s : State) : Host.Outcome State Fault Refusal :=
  match s.time.parent with
  | none => .next s
  | some p =>
    match tabGet? s.time.heard p with
    | some h =>
      if h.arrived + usTicks 8 ≤ s.time.ticks then
        let s := s.unlock
        .next { s with time.role := .holdover }.evaluate
      else .next s
    | none => .next { s.unlock with time.role := .holdover }.evaluate

/-- ANCHOR_RANK (R41): the rank is stored; 0 removes the device as a candidate at once. -/
def applyAnchorRank (v : Nat) (s : State) : State × Result :=
  let was := s.cfg Obj.ANCHOR_RANK
  let s := s.writeNum Obj.ANCHOR_RANK 0 v
  let s := if was = 0 && v != 0 then { s with time.lastBetter := s.time.ticks } else s
  (s.evaluate, .ok)

/-- ANCHOR_RANK: a write of 1201h. -/
def execAnchorRank (p : Principal) (v : Nat) (s : State) : Host.Outcome State Fault Refusal :=
  .next (s.writeNumCmd p Obj.ANCHOR_RANK 0 v applyAnchorRank)

/-! ## The two-way exchange and the servo (R42 to R44, R50) -/

/-- Whether this device initiates the exchange on a port (R111). -/
def State.initiates (s : State) (p : Nat) : Bool :=
  let x := s.port p
  if 8 ≤ p then true
  else if s.time.parent == some p && s.time.role != .anchor then false
  else if s.ten.children.contains p then true
  else match x.nb with
    | some c => s.rel.boot.bib < c.bib
    | none => false

/-- SYNC_TICK (R42): the initiating side has a SYNC due. -/
def execSyncTick (port : Nat) (s : State) : Host.Outcome State Fault Refusal :=
  if port < 14 && (s.port port).st == .up && s.initiates port then
    let x := s.exchange port
    .next (s.queueCtl port (.sync ((x.seq + 1) % 65536) x.seq x.t4))
  else .next s

/-- Whether the lap state agrees with the one a parent announced (R50). -/
def State.lapAgrees (s : State) (a : AnnounceBody) : Bool :=
  s.time.adopt.isSome ||
  (a.lapLen == s.lapLen &&
    (s.time.lapStart : Int) - a.lapStart == signed 48 ((s.time.lap + 2 ^ 48 - a.lap % 2 ^ 48) % 2 ^ 48) * (a.lapLen * ns : Nat))

/-- R50: steps gun time to the parent's, keeps the pre-step offset as estimate, and takes the parent's lap state at the next
boundary. -/
def State.followerStep (s : State) (offset : Int) (a : AnnounceBody) : State :=
  let gun := ((s.time.gun : Int) - offset).toNat
  let k := (gun - a.lapStart) / (max 1 a.lapLen * ns)
  { s with
    time.gun := gun
    time.est := offset
    time.estFrom := none
    time.lockRun := 0
    time.role := .acquiring
    time.stepWanted := false
    time.next := a.lapStart + (k + 1) * (max 1 a.lapLen * ns)
    time.adopt := some (lapAdd a.lap (k + 1), max 1 a.lapLen) }.noteEst

/-- R43: one servo update with an offset and the parent's own estimate. The servo's gains are not given: the rate it sets is
a free value (log 9). -/
def State.servo (s : State) (offset parentEst : Int) : State :=
  let (r, s) := s.drawInt
  let s := { s with time.rate := r }
  if offset.natAbs > 4 * ns && s.time.role == .locked then { s.unlock with time.role := .acquiring }.noteEst
  else
    let run := if offset.natAbs < ns then s.time.lockRun + 1 else 0
    let s := { s with time.lockRun := run }
    if s.time.role == .locked || run ≥ 1000 then
      { s with
        time.role := .locked, time.everLocked := true
        time.est := parentEst + offset, time.estFrom := none }.noteEst
    else s.noteEst

/-- ANNOUNCE received (R40): kept with its time, and the choice is evaluated; ignored in ISOLATED and on target ports. One that R40
ignores leaves the port's last announce as it is (log 130). -/
def execAnnounce (port : Nat) (flit : Blob) (s : State) : Host.Outcome State Fault Refusal :=
  s.ctlIn port 2 flit (fun s =>
    let a := announceOf flit
    if port < 8 && (s.port port).st == .up then
      (if s.ignores a then s else { s with time.heard := tabSet s.time.heard port ⟨a, s.time.ticks⟩ }).evaluate
    else s)

/-- Whether the servo runs on a port: it is the parent port of a follower, which in holdover keeps its last rate (R41, R43). -/
def State.steers (s : State) (port : Nat) : Bool :=
  s.time.parent == some port && (s.time.role == .locked || s.time.role == .acquiring)

/-- SYNC received (R42): its pin time t2 is taken, the exchange before it is completed, a REPLY is due, and the child steers. -/
def State.takeSync (s : State) (port seq t1 prevSeq t4 t2 : Nat) : State :=
  let x := s.exchange port
  let done := x.seq == prevSeq && x.t3 != 0
  let x := if done then
      { x with mean := some ((((t4 : Int) - x.t1) - ((x.t3 : Int) - x.t2)) / 2), t4 := t4, done := x.done + 1 }
    else x
  let x := { x with seq := seq, t1 := t1, t2 := t2, t3 := 0 }
  let s := s.setExchange port x
  let s :=
    match s.steers port, x.mean, tabGet? s.time.heard port with
    | true, some _, some h =>
      let offset := ((t2 : Int) - t1) - s.delayIn port
      if (s.time.stepWanted && offset.natAbs > 20 * ns) || !s.lapAgrees h.body then
        (s.followerStep offset h.body).setExchange port { x with t2 := ((t2 : Int) - offset).toNat }
      else { s with time.stepWanted := false }.servo offset (psToUnits h.body.offset)
    | _, _, _ => s
  s.queueCtl port (.reply seq (s.exchange port).t2)

/-- SYNC (R42): `fine` is the step of 78.125 ps at which the flit came (R32). -/
def execSync (port : Nat) (flit : Blob) (fine : Nat) (s : State) : Host.Outcome State Fault Refusal :=
  s.ctlIn port 3 flit (fun s =>
    if port < 8 then s.takeSync port (beAt flit 2 2) (beAt flit 4 10) (beAt flit 14 2) (beAt flit 16 10) (s.pinTime (8 * port + 4) fine)
    else s)

/-- The exchange completes with a REPLY at the side that initiated it. -/
def State.takeReply (s : State) (port seq t2 t3 t4 : Nat) : State :=
  let x := s.exchange port
  if x.seq == seq && x.t1 != 0 then
    s.setExchange port { x with
      t2 := t2, t3 := t3, t4 := t4, t1 := 0, mean := some ((((t4 : Int) - x.t1) - ((t3 : Int) - t2)) / 2), done := x.done + 1 }
  else s

/-- REPLY (R42): `fine` is the step of 78.125 ps at which the flit came (R32). -/
def execReply (port : Nat) (flit : Blob) (fine : Nat) (s : State) : Host.Outcome State Fault Refusal :=
  s.ctlIn port 4 flit (fun s =>
    s.takeReply port (beAt flit 2 2) (beAt flit 4 10) (beAt flit 14 10) (s.pinTime (8 * port + 4) fine))

/-- OFF_THE_MARK_ENTRY (R53): the estimate exceeds 20 ns: the relay gates close, the event counts, attention 4. -/
def execOffTheMarkEntry (s : State) : Host.Outcome State Fault Refusal :=
  if !s.time.offMark && s.estBeyond 20 then
    let s := { s with time.offMark := true, time.lowSince := none }
    .next ((s.count Obj.OFF_THE_MARK).raise 4 none Obj.OFF_THE_MARK)
  else .next s

/-! ## External alignment (R46 to R49) -/

/-- Steps gun time; the lap in progress keeps its remaining length, so the next boundary moves with it (R48, DEDUCED, log 8). -/
def State.stepTo (s : State) (v : Time) : State :=
  let d : Int := (v : Int) - s.time.gun
  { s with
    time.gun := v
    time.next := ((s.time.next : Int) + d).toNat
    time.lapStart := ((s.time.lapStart : Int) + d).toNat
    time.prevStart := ((s.time.prevStart : Int) + d).toNat
    time.ppsFirst := true
    time.slew := 0 }

/-- R48: corrects an external offset, gun time less facility time: a slew up to 1.0 ms, beyond it a step only while every
tenant is IDLE, else attention 1 and a slew. -/
def State.correct (s : State) (offset : Int) : State :=
  let slewed := { s with time.slew := -offset * 65536 }
  if offset.natAbs ≤ 1000000 * ns then slewed
  else if s.allIdle then s.stepTo ((s.time.gun : Int) - offset).toNat
  else slewed.raise 1 none Obj.EXT_ALIGN

/-- One second in units of 2⁻¹⁶ ns. -/
abbrev second : Nat := 1000000000 * ns

/-- The offset of an edge at a gun time from the nearest whole second (R47). -/
def edgeOffset (t : Time) : Int :=
  let f := t % second
  if f ≤ second / 2 then f else (f : Int) - second

/-- Whether the phases of a list, within the second, agree with one another to within 1 µs (R47). -/
def phasesAgree : List Time → Bool
  | [] => true
  | f :: fs => fs.all (fun g => (f + second - g + 1000 * ns) % second ≤ 2000 * ns) && phasesAgree fs

/-- Enters external holdover: 2 in 120Fh and attention 2 (R47). -/
def State.extHoldover (s : State) : State :=
  if s.cfg Obj.PPS_STATE == 2 then s
  else { s.setCfg Obj.PPS_STATE 0 2 with time.ppsGood := 0, time.ppsPhases := [], time.slew := 0 }.raise 2 none Obj.PPS_STATE

/-- An accepted edge: it steers (R47). -/
def State.acceptEdge (s : State) (offset : Int) : State :=
  let s := { s.setCfg Obj.PPS_STATE 0 1 with
    time.ppsLast := s.time.ticks, time.ppsBad := 0, time.ppsGood := 0, time.ppsPhases := [], time.ppsFirst := false }
  s.correct offset

/-- Whether 1209h selects 1PPS_IN (modes 1, 4 and 5). -/
def State.ppsMode (s : State) : Bool := [1, 4, 5].contains (s.cfg Obj.EXT_ALIGN)

/-- PPS_EDGE (R47): the Anchor judges an edge at 1PPS_IN, stamped at a step of 78.125 ps and corrected by the pin's delay (R32, Table 14.7). The
eight edges that agree are counted from the start of external holdover (log 132). -/
def execPpsEdge (fine : Nat) (s : State) : Host.Outcome State Fault Refusal :=
  if s.time.role != .anchor || !s.ppsMode then .next s
  else
    let t := s.pinTime 128 fine
    let o := edgeOffset t
    let near : Bool := o.natAbs ≤ 100000 * ns
    if s.time.ppsFirst then .next (s.acceptEdge o)
    else if s.cfg Obj.PPS_STATE == 2 then
      if near then
        if s.time.ppsGood + 1 ≥ 3 then .next (s.acceptEdge o)
        else .next { s with time.ppsGood := s.time.ppsGood + 1, time.ppsPhases := [] }
      else
        let l := (t % second :: s.time.ppsPhases).take 8
        if l.length = 8 && phasesAgree l then .next (s.acceptEdge o)
        else .next { s.count Obj.PPS_REJECTS with time.ppsGood := 0, time.ppsPhases := l }
    else if near then .next (s.acceptEdge o)
    else
      let s : State := { s.count Obj.PPS_REJECTS with time.ppsBad := s.time.ppsBad + 1 }
      .next (if s.time.ppsBad ≥ 3 then s.extHoldover else s)

/-- PPS_TIMEOUT (R47): no edge accepted for 2.5 s. -/
def execPpsTimeout (s : State) : Host.Outcome State Fault Refusal :=
  if s.time.role == .anchor && s.ppsMode && s.time.ppsLast + usTicks 2500000 ≤ s.time.ticks then .next s.extHoldover
  else .next s

/-- The phase within the second that leaves the ball at 1PPS_OUT now: the calibrated pin delay ahead of gun time (R49, Table 14.7). -/
def State.ppsPhaseOut (s : State) : Nat := ((s.time.gun : Int) + s.timePath 132).toNat % second

/-- PPS_OUT_RISE (R49): at each whole second 1PPS_OUT is driven high. -/
def execPpsOutRise (s : State) : Host.Outcome State Fault Refusal :=
  if s.cfg Obj.PPS_OUT_ENABLE == 1 && !s.time.ppsOut && s.ppsPhaseOut < 10000 * ns then
    .next ({ s with time.ppsOut := true }.emit (.pps true))
  else .next s

/-- PPS_OUT_FALL (R49): 10 µs later it returns low. -/
def execPpsOutFall (s : State) : Host.Outcome State Fault Refusal :=
  if s.time.ppsOut && s.ppsPhaseOut ≥ 10000 * ns then .next ({ s with time.ppsOut := false }.emit (.pps false))
  else .next s

/-- A write of 120Bh (R48): STATE unless Anchor and every tenant IDLE. -/
def applyGunTimeStep (v : Nat) (s : State) : State × Result :=
  if s.time.role != .anchor || !s.allIdle then (s, .state) else (s.stepTo v, .ok)

/-- GUN_TIME_STEP: a write of 120Bh. -/
def execGunTimeStep (p : Principal) (v : Nat) (s : State) : Host.Outcome State Fault Refusal :=
  .next (s.writeNumCmd p Obj.GUN_TIME_STEP 0 v applyGunTimeStep)

/-- A write of 1209h: the first edge after the mode is set is accepted wherever it falls (R47). -/
def applyExtAlign (v : Nat) (s : State) : State × Result :=
  if v > 5 then (s, .range)
  else
    let s := s.writeNum Obj.EXT_ALIGN 0 v
    ({ s.setCfg Obj.PPS_STATE 0 0 with
      time.ppsFirst := true, time.ppsLast := s.time.ticks, time.ppsBad := 0, time.ppsGood := 0, time.ppsPhases := []
      time.ptp := TimeSt.reset.ptp, time.ptpIn := [] }, .ok)

/-! ## The schedule objects (R55, R61 to R63) -/

/-- Whether a swap is scheduled. -/
def State.swapScheduled (s : State) : Bool := s.cfg Obj.SWAP_LAP != noLap

/-- Marks a pending copy as staged. -/
def State.stage (s : State) (k : Nat) : State := { s with time.staged := if s.isStaged k then s.time.staged else k :: s.time.staged }

/-- A write of 1302h (R34, R62). -/
def applyLapLengthPending (v : Nat) (s : State) : State × Result :=
  if v < 100 || 16777215 < v then (s, .range)
  else if s.swapScheduled then (s, .state)
  else ((s.writeNum Obj.LAP_LENGTH_PENDING 0 v).stage 32, .ok)

/-- LAP_LENGTH_PENDING: a write of 1302h. -/
def execLapLengthPending (p : Principal) (v : Nat) (s : State) : Host.Outcome State Fault Refusal :=
  .next (s.writeNumCmd p Obj.LAP_LENGTH_PENDING 0 v applyLapLengthPending)

/-- The conditions of R55 on a gate list for port p under a lap length. -/
def gateListOk (p len : Nat) (b : Blob) : Bool :=
  let xs := splitsOf b
  b.length % 8 == 0 && 1 ≤ xs.length && xs.length ≤ 4096 && xs.all (fun x => x.dur ≥ 10 && (p < 14 || x.gate % 4 == 0)) &&
    (xs.map Split.dur).sum == len

/-- The lap length a gate list is judged against at its write (R55). -/
def State.judgedLen (s : State) : Nat := if s.isStaged 32 then s.cfg Obj.LAP_LENGTH_PENDING else s.lapLen

/-- A gate list with its reserved bits zero (R4, Table 2.3). -/
def maskSplits (b : Blob) : Blob :=
  (List.range (b.length / 8)).flatMap (fun k =>
    let v := beAt b (8 * k) 8
    beBytes 8 (v - bits v 38 24 * 2 ^ 24))

/-- A write of 1305h[p] (R55, R62). -/
def applyGateListPending (i : Nat) (b : Blob) (s : State) : State × Result :=
  if !gateListOk i s.judgedLen b then (s, .range)
  else if s.swapScheduled then (s, .state)
  else ((s.writeBlob Obj.GATE_LIST_PENDING i (maskSplits b)).stage i, .ok)

/-- GATE_LIST_PENDING: a write of 1305h[p]. -/
def execGateListPending (p : Principal) (i : Nat) (b : Blob) (s : State) : Host.Outcome State Fault Refusal :=
  .next (s.writeBlobCmd p Obj.GATE_LIST_PENDING i b (applyGateListPending i))

/-- Whether the OPENs of a window list ascend (R63). -/
def windowsAscend : List Window → Bool
  | x :: y :: r => x.opens ≤ y.opens && windowsAscend (y :: r)
  | _ => true

/-- A write of 130Fh[p] (R63, R62). -/
def applyRxWindowsPending (i : Nat) (b : Blob) (s : State) : State × Result :=
  let ws := windowsOf b
  if b.length % 8 != 0 || ws.length > 4096 || !windowsAscend ws || ws.any (fun w => w.length == 0) then (s, .range)
  else if s.swapScheduled then (s, .state)
  else ((s.writeBlob Obj.RX_WINDOWS_PENDING i b).stage (16 + i), .ok)

/-- RX_WINDOWS_PENDING: a write of 130Fh[p]. -/
def execRxWindowsPending (p : Principal) (i : Nat) (b : Blob) (s : State) : Host.Outcome State Fault Refusal :=
  .next (s.writeBlobCmd p Obj.RX_WINDOWS_PENDING i b (applyRxWindowsPending i))

/-- The largest shell lead of any tenant that holds an operational or staged relay set (R61). -/
def State.maxLead (s : State) : Nat :=
  ((s.relay.sets.map Prod.fst ++ s.relay.staged.map Prod.fst).map (fun t => s.cfg Obj.SHELL_LEAD t)).foldl max 0

/-- A write of 1304h (R36, R61). -/
def applySwapLap (v : Nat) (s : State) : State × Result :=
  if v ≥ 2 ^ 48 then (s, .range)
  else if v = noLap then (s.writeNum Obj.SWAP_LAP 0 noLap, .ok)
  else
    let lists := (List.range 16).map (fun p => if s.isStaged p then s.blb Obj.GATE_LIST_PENDING p else s.blb Obj.GATE_LIST p)
    if lists.any (fun b => ((splitsOf b).map Split.dur).sum != s.swapLen) then (s, .range)
    else
      let a := lapsAhead s v
      if !lapFuture s v || a < 2 || s.time.next + (a - 1) * s.lapLen * ns < s.time.gun + (10000 + s.maxLead) * ns then (s, .state)
      else (s.writeNum Obj.SWAP_LAP 0 v, .ok)

/-- SWAP_LAP: a write of 1304h. -/
def execSwapLap (p : Principal) (v : Nat) (s : State) : Host.Outcome State Fault Refusal :=
  .next (s.writeNumCmd p Obj.SWAP_LAP 0 v applySwapLap)

/-! ## Splits and lane sleep (R56, R66 to R69) -/

/-- Counts a sleep run that ends with its lanes not yet awake (R69). -/
def State.lateWake (s : State) (p : Nat) (wasIdle : Bool) : State :=
  if wasIdle && (s.port p).sleep != .awake && !s.splitIdle p (s.splitNow p) s.time.lap then s.count Obj.LATE_WAKES p else s

/-- SPLIT_BOUNDARY (R56): the next split of a gated port takes effect at its start. -/
def execSplitBoundary (port : Nat) (s : State) : Host.Outcome State Fault Refusal :=
  let k := (s.port port).gateRow + 1
  if port < 16 && k < (s.gateListIn port 0).length && s.splitStart port k ≤ s.time.gun then
    let idle := s.splitIdle port (s.splitNow port) s.time.lap
    .next ((s.modPort port (fun x => { x with gateRow := k })).lateWake port idle)
  else .next s

/-- SLEEP_ENTRY (R67): a sleep run of at least 3.0 µs begins: behind the control flits that are due the SLEEP marker leaves (R112), and the lanes
enter sleep. -/
def execSleepEntry (port : Nat) (s : State) : Host.Outcome State Fault Refusal :=
  let x := s.port port
  let run := s.sleepRun port
  if port < 16 && x.st == .up && x.sleep == .awake && x.tx.isEmpty && s.splitIdle port (s.splitNow port) s.time.lap &&
      s.sleepStarts port && run ≥ 3000 then
    let start := s.splitStart port x.gateRow
    let stop := start + run * ns
    let s := if isPsiot port then (sortBy CtlFlit.rank x.ctl ++ [CtlFlit.sleep stop]).foldl (fun s f => s.sendCtl port f) s else s
    .next ((s.modPort port (fun x => { x with ctl := [], sleep := .entering stop, sleptAt := start + 500 * ns })).noteAwake 400)
  else .next s

/-- PRE_WAKE (R67, R436): 2.0 µs before the run ends, as the schedule then stands, one wake per transmit lane is requested. -/
def execPreWake (port : Nat) (s : State) : Host.Outcome State Fault Refusal :=
  let x := s.port port
  match x.sleep with
  | .entering _ =>
    let stop := s.runEnd port
    if stop ≤ s.time.gun + 2000 * ns then
      let s := s.countN Obj.SLEEP_TIME port (s.sleptNow port)
      let s := s.modPort port (fun x => { x with sleep := .preWake stop })
      let ws := (x.lanes port).map (fun k => (⟨stop, 12 + 16 * port + k, 250, 1000 * ns, none, s.time.gun⟩ : Wake))
      .next { s with rel.wakes := s.rel.wakes ++ ws }
    else .next s
  | _ => .next s

/-- The slope of the granted wakes still ramping (R437). -/
def activeSlope (ws : List Wake) : Nat := ((ws.filter (fun w => w.ends.isSome)).map Wake.slope).sum

/-- One evaluation of R437 over the pending wakes in order: those granted, and the slope then. No wake overtakes an earlier
one. -/
def grantWakes (rate now : Nat) : List Wake → Nat → List Wake
  | [], _ => []
  | w :: ws, slope =>
    if slope + w.slope ≤ rate then { w with ends := some (now + w.ramp) } :: grantWakes rate now ws (slope + w.slope) else []

/-- WAKE_GRANT (R437): the limiter grants pending wakes by need time, then squads, then ports and lanes. -/
def execWakeGrant (s : State) : Host.Outcome State Fault Refusal :=
  let now := s.time.gun
  let pend := sortBy (fun w => w.need * 512 + w.key) (s.rel.wakes.filter (fun w => w.ends.isNone))
  let act := s.rel.wakes.filter (fun w => w.ends.isSome)
  let got := grantWakes (s.cfg Obj.WAKE_RATE) now pend (activeSlope act)
  let rest := pend.drop got.length
  let s := { s with rel.wakes := act ++ got ++ rest }
  let s := s.countN Obj.WAKE_DELAYS 0 (got.filter (fun w => w.asked + tickUnits ≤ now)).length
  let squads := (got.filter (fun w => w.key < 12)).map Wake.key
  let s := squads.foldl (fun s k => { s with
    strider.squads := tabUpd s.strider.squads k .reset (fun q => { q with wakeAt := some now }) }) s
  let ports := (List.range 16).filter (fun p => got.any (fun w => w.key ≥ 12 && (w.key - 12) / 16 == p) &&
    !rest.any (fun w => w.key ≥ 12 && (w.key - 12) / 16 == p))
  .next (ports.foldl (fun s p =>
    let late := got.any (fun w => w.key ≥ 12 && (w.key - 12) / 16 == p && w.asked + tickUnits ≤ now)
    let s := if late then s.count Obj.DELAYED_PREWAKES p else s
    s.modPort p (fun x => match x.sleep with
      | .preWake _ => { x with sleep := .waking now }
      | _ => x)) s)

/-- RAMP_END (R437): wakes whose ramp has ended leave the active sum. -/
def execRampEnd (s : State) : Host.Outcome State Fault Refusal :=
  .next { s with rel.wakes := s.rel.wakes.filter (fun w => match w.ends with
    | some e => s.time.gun < e
    | none => true) }

/-- LANE_WAKE_COMPLETE (R67, R68): 1.5 µs after the grant the lanes are awake. -/
def execLaneWakeComplete (port : Nat) (s : State) : Host.Outcome State Fault Refusal :=
  match (s.port port).sleep with
  | .waking t => if t + 1500 * ns ≤ s.time.gun then .next ((s.modPort port (fun x => { x with sleep := .awake })).noteAwake 0) else .next s
  | _ => .next s

end Sys2Proof.Machine
end

