-- ==== Sys2Proof/Machine/Ptp.lean ====
section
/-! DEFINITION. The PTP ordinary clock of the Anchor (R46 to R48): slave only, end to end, on Layer 2 and on UDP. The message formats are those
of IEEE 1588 (PRESUMED, log 122). -/

namespace Sys2Proof.Machine

/-- A PTP time stamp, seconds in 48 bits and nanoseconds in 32, as a gun time. -/
def ptpTime (m : Blob) (o : Nat) : Time := beAt m o 6 * second + beAt m (o + 6) 4 * ns

/-- The correction field of a message, in units of 2⁻¹⁶ ns. -/
def ptpCorrection (m : Blob) : Int := signed 64 (beAt m 8 8)

/-- The dataset of an Announce by which masters are compared, the lowest best: priority 1, clock quality, priority 2, identity, steps
removed, and the sender's port identity. -/
def ptpDataset (m : Blob) : Blob := (m.drop 47).take 16 ++ (m.drop 20).take 10

/-- Whether the clock takes PTP on a port: the Anchor, in a mode that names it (1209h). -/
def State.ptpPort (s : State) (port : Nat) : Bool :=
  let m := s.cfg Obj.EXT_ALIGN
  s.time.role == .anchor && (((m == 2 || m == 4) && port == 14) || ((m == 3 || m == 5) && port == 15))

/-- An offset from facility time is corrected under R48; in modes 4 and 5 its whole seconds alone, the phase coming from 1PPS_IN (R46, R47). -/
def State.ptpCorrect (s : State) (offset : Int) : State :=
  if s.cfg Obj.EXT_ALIGN < 4 then s.correct offset
  else
    let whole : Int := ((offset + (second / 2 : Nat)) / (second : Nat)) * (second : Nat)
    if whole = 0 then s else s.correct whole

/-- An Announce: the clock follows the best master it hears; three intervals without an Announce end a master's hold. -/
def State.ptpAnnounce (s : State) (m : Blob) : State :=
  let x := s.time.ptp
  let d := ptpDataset m
  let src := (m.drop 20).take 10
  let expired := x.heardAt + x.holds < s.time.ticks
  if x.source == src || x.source.isEmpty || expired || beNat d < beNat x.dataset then
    let same := x.source == src
    let l := beAt m 33 1
    let hold := if bit l 7 then usTicks 3000000 / 2 ^ (256 - l) else usTicks 3000000 * 2 ^ l
    { s with time.ptp := { x with
      dataset := d, source := src, heardAt := s.time.ticks, holds := hold
      sync := if same then x.sync else none, pair := if same then x.pair else none, delay := if same then x.delay else none } }
  else s

/-- The Delay_Req that answers a Sync in its encapsulation, whose own addresses and checksums are not stated and free (log 122). It leaves
as a frame of the Starter in class C2 (R46, R430). -/
def State.ptpRequest (s : State) (f : PtpFrame) (at_ : Nat) : State :=
  let (v, s) := s.draw
  let seq := (s.time.ptp.reqSeq + 1) % 65536
  let pre := overwrite (f.frame.take at_) 6 (beBytes 6 (v % 2 ^ 48))
  let pre := if at_ < 34 then pre else overwrite pre (at_ - 18) (beBytes 10 (v / 2 ^ 48) ++ (pre.drop (at_ - 8)).take 6 ++ beBytes 2 (v / 2 ^ 128))
  let m := [0x01, 0x12, 0, 44] ++ beBytes 1 (s.cfg Obj.PTP_DOMAIN) ++ List.replicate 15 0 ++ beBytes 8 s.rel.boot.bib ++
    beBytes 2 (f.port - 13) ++ beBytes 2 seq ++ [1, 0x7F] ++ List.replicate 10 0
  { s with time.ptp.reqSeq := seq, time.ptp.reqAt := none }.starterQueue (pre ++ m) 2 f.port f.sub

/-- A Sync whose origin time is known: the offset is corrected once a path delay has been measured, and the next delay measurement begins. -/
def State.ptpSync (s : State) (t1 : Int) (t2 : Time) : State :=
  let s := match s.time.ptp.delay with
    | some d => s.ptpCorrect ((t2 : Int) - t1 - d)
    | none => s
  { s with time.ptp.pair := some (t1, t2), time.ptp.sync := none }

/-- A Delay_Resp to the clock's last Delay_Req: the mean path delay from t1 to t4. -/
def State.ptpDelay (s : State) (m : Blob) : State :=
  let x := s.time.ptp
  match x.pair, x.reqAt with
  | some (t1, t2), some t3 =>
    if beAt m 30 2 == x.reqSeq && beAt m 44 8 == s.rel.boot.bib then
      let t4 : Int := (ptpTime m 34 : Int) - ptpCorrection m
      { s with time.ptp.delay := some ((((t2 : Int) - t1) + (t4 - t3)) / 2), time.ptp.reqAt := none }
    else s
  | _, _ => s

/-- One PTP message: type, version 2, domain of 120Dh, and from the master followed unless an Announce. -/
def State.ptpMessage (s : State) (f : PtpFrame) (at_ : Nat) : State :=
  let m := f.frame.drop at_
  let ty := beAt m 0 1 % 16
  let x := s.time.ptp
  if beAt m 1 1 % 16 != 2 || beAt m 4 1 != s.cfg Obj.PTP_DOMAIN || m.length < 44 then s
  else if ty = 11 then (if 64 ≤ m.length then s.ptpAnnounce m else s)
  else if x.source != (m.drop 20).take 10 then s
  else if ty = 0 then
    let s := if bit (beAt m 6 1) 1 then { s with time.ptp.sync := some (beAt m 30 2, f.at_, ptpCorrection m) }
      else s.ptpSync ((ptpTime m 34 : Int) + ptpCorrection m) f.at_
    s.ptpRequest f at_
  else if ty = 8 then
    match x.sync with
    | some (seq, t2, c) => if seq == beAt m 30 2 then s.ptpSync ((ptpTime m 34 : Int) + ptpCorrection m + c) t2 else s
    | none => s
  else if ty = 9 then (if 54 ≤ m.length then s.ptpDelay m else s)
  else s

/-- PTP_MESSAGE_RECEIVE (R46): the Anchor's ordinary clock takes the oldest PTP message that a run released to the time engine. External
alignment is ignored on any other device. -/
def execPtpMessageReceive (s : State) : Host.Outcome State Fault Refusal :=
  match s.time.ptpIn with
  | [] => .next s
  | f :: fs =>
    let s := { s with time.ptpIn := fs }
    match ptpAt f.frame with
    | some a => if s.ptpPort f.port then .next (s.ptpMessage f a).starterFlush else .next s
    | none => .next s

end Sys2Proof.Machine
end

