-- ==== Sys2Proof/Machine/Laps.lean ====
section
/-! DEFINITION. The lap boundary (R35 to R37, R50, R53, R62, R84, R87, R89, R97, R99, R186, R288, R292, R296, R311, R316, R317, R320,
R323, R346, R347). -/

namespace Sys2Proof.Machine

/-- Every tenant that holds anything, in ascending order. -/
def State.tenantsNow (s : State) : List Nat := (s.ten.tenants.map Prod.fst).filter (fun t => 1 ≤ t && t ≤ 255)

/-- What ends with lap n: extraction (R347), lost inputs, holds, retention and former sets (R84, R87, R97, R99), trace rings. -/
def State.endLap (s : State) (n : Nat) : State :=
  let s := s.tenantsNow.foldl State.photoNote s
  let s := (s.traceHoldEnd n).relayEndLap n
  (s.trc.rings.map Prod.fst).foldl (fun s t => s.ringLapEnd t n) s

/-- The lap state that the boundary brings (R35, R37 step 1): the next lap, or the one taken from the parent (R50). -/
def State.stepLap (s : State) : State :=
  let (lap, s) := match s.time.adopt with
    | some (l, len) => (l, { s.setCfg Obj.LAP_LENGTH 0 len with time.adopt := none })
    | none => (lapAdd s.time.lap 1, s)
  { s with
    time.lap := lap
    time.prevStart := s.time.lapStart
    time.lapStart := s.time.next
    time.swapped := []
    ten.tenants := s.ten.tenants.map (fun (e : Nat × Tenant) => (e.1, { e.2 with stPrev := e.2.stAtLap })) }

/-- Exchanges one staged list with its operational copy. -/
def State.exchangeList (s : State) (pend oper p : Nat) : State :=
  let a := s.blb pend p
  (s.setBlb pend p (s.blb oper p)).setBlb oper p a

/-- LIST_SWAP (R37 step 2, R62, R84): at the swap lap every staged list, the lap length and the staged relay sets change places. -/
def State.swapLists (s : State) : State :=
  if s.cfg Obj.SWAP_LAP != s.time.lap then s
  else
    let ks := s.time.staged
    let rx := (ks.filter (fun k => 16 ≤ k && k < 32)).map (fun k => (k - 16, s.blb Obj.RX_WINDOWS (k - 16)))
    let s := { s.setCfg Obj.SWAP_LAP 0 noLap with time.staged := [], time.swapped := ks, time.formerRx := sortBy Prod.fst rx }
    let s := ks.foldl (fun s k =>
      if k < 16 then s.exchangeList Obj.GATE_LIST_PENDING Obj.GATE_LIST k
      else if k < 32 then s.exchangeList Obj.RX_WINDOWS_PENDING Obj.RX_WINDOWS (k - 16)
      else
        let a := s.cfg Obj.LAP_LENGTH_PENDING
        (s.setCfg Obj.LAP_LENGTH_PENDING 0 s.lapLen).setCfg Obj.LAP_LENGTH 0 a) s
    (List.range 16).foldl State.guaranteeShort s.swapRelay

/-- R37 step 3: the first split of each gated port takes effect. -/
def State.firstSplits (s : State) (idle : List Bool) : State :=
  (List.range 16).foldl (fun s p => (s.modPort p (fun x => { x with gateRow := 0 })).lateWake p (idle.getD p false)) s

/-- The states in force at the start of the lap (R292), and the active laps begun since START. -/
def State.markStates (s : State) : State :=
  let s := { s with ten.tenants := s.ten.tenants.map (fun (e : Nat × Tenant) => (e.1, { e.2 with stAtLap := e.2.st })) }
  s.tenantsNow.foldl (fun s t =>
    if s.activeLap t s.time.lap then
      s.modTenant t (fun x => { x with activeIdx := x.activeIdx + 1, lately := ((s.time.lap, x.activeIdx) :: x.lately).take 3 })
    else s) s

/-- OFF_THE_MARK_EXIT (R53): at the first boundary after the estimate has stayed low for 1.0 ms. -/
def State.offMarkExit (s : State) : State :=
  match s.time.lowSince with
  | some t =>
    if s.time.offMark && t + usTicks 1000 ≤ s.time.ticks && !s.estBeyond 10 then { s with time.offMark := false } else s
  | none => s

/-- LAP_BOUNDARY (R37, R311): once gun time has reached the boundary. -/
def execLapBoundary (s : State) : Host.Outcome State Fault Refusal :=
  if s.time.gun < s.time.next then .next s
  else
    let idle := (List.range 16).map (fun p => s.splitIdle p (s.splitNow p) s.time.lap)
    let s := (s.endLap s.time.lap).stepLap.swapLists
    let s := { s with time.next := s.time.lapStart + s.lapLen * ns }
    let n := s.time.lap
    let s := ((s.firstSplits idle).runOps n).markStates
    let s := s.withdrawLap n
    let s := s.tenantsNow.foldl State.presentRestore s
    let s := (s.trc.rings.map Prod.fst).foldl (fun s t => s.ringLapStart t n) s
    let s := s.tenantsNow.foldl (fun s t => s.releaseBarrier t n) s
    .next s.offMarkExit.reseed.starterFlush

end Sys2Proof.Machine
end

