-- ==== Sys2Proof/Machine/Board.lean ====
section
/-! DEFINITION. Resets of the device, the reset requests, the calibration block, the firmware slots, the error log, temperature,
supply and the reference clocks (R411 to R423, R432 to R435, R438, R439, R448 to R456, R470). -/

namespace Sys2Proof.Machine

/-! ## Device reset (R432, R433) -/

/-- BOOT_MODE of the straps (Table 16.14). -/
def Boot.mode (b : Boot) : Nat := b.straps.toNat % 4

/-- RESET_CAUSE of a device reset (Table 15.4): the cause, the principal of a request, whether the safe state or the ROM recovery
responder ended. -/
def Boot.causeWord (b : Boot) (c : ResetCause) : Nat :=
  let who := match c with
    | .request .field => 2
    | .request (.fw _) => 3
    | _ => 0
  let code := match c with | .powerOn => 1 | .resetN => 2 | .request _ => 3 | .jtag => 4
  nat01 b.recovery * 2 ^ 11 + nat01 b.halted * 2 ^ 10 + who * 256 + code

/-- The flash as a device reset finds it: operations abandoned, and the persisted set erased where B012h asked for it (R411). -/
def Flash.atReset (f : Flash) : Flash :=
  let f := f.abandon
  if f.eraseWanted then { f with copyA := .empty, copyB := .empty, eraseWanted := false } else f

/-- A device reset: all on-die state as State.reset has it, with the fuses, straps and flash kept, the seed drawn anew, and the clock of
the grade (Table 14.2). Under BOOT_MODE 10b the ROM recovery responder runs at once (R424). -/
def State.resetDevice (s : State) (c : ResetCause) : State :=
  let b := s.rel.boot
  let flash := s.rel.flash.atReset
  let z := State.reset
  let fmax := if b.grade = 1 then 2000 else 2500
  let z : State := { z with
    out := s.out
    pending := s.pending
    free := s.free + 1
    tables := { z.tables with seed := Config.freeNat s.free % 2 ^ 128 }
    num := if b.grade = 1 then (List.range 12).map (fun k => (objKey Obj.SQUAD_FREQ k, 2000)) else []
    strider := { z.strider with squads := (List.range 12).map (fun k => (k, { Squad.reset with freqActual := fmax })) }
    rel := { z.rel with
      flash := flash
      boot := { Boot.reset with
        bib := b.bib, grade := b.grade, dieIds := b.dieIds, straps := b.straps, cause := b.causeWord c
        cal := flash.cal, calStaged := flash.cal } } }
  let z := z.emit (.safeN false)
  if z.rel.boot.mode = 2 then
    let z := { z with rel.boot.recovery := true }
    let z := z.modCore 0 (fun k => { k with st := .running })
    (z.raise 6 none Obj.HALT_STATE).emit (.safeN true)
  else z

/-- DEVICE_RESET: a device reset. One requested through 1010h acts once no flash operation is in progress (R435). -/
def execDeviceReset (c : ResetCause) (s : State) : Host.Outcome State Fault Refusal :=
  match c with
  | .request p =>
    if s.rel.boot.waitReset = some (.request p) && s.rel.flash.busy.isEmpty then .next (s.resetDevice c) else .next s
  | .powerOn | .resetN | .jtag => .next (s.resetDevice c)

/-- POWER_ON: everything is cleared and the fuses are read again; RESET_N is still low, so SAFE_N is low (R432, R451, R469). -/
def execPowerOn (bib grade : Nat) (dieIds : Blob) (s : State) : Host.Outcome State Fault Refusal :=
  let s := { s with rel.boot := { s.rel.boot with bib := bib, grade := grade, dieIds := dieIds, straps := 0, recovery := false, halted := false } }
  let s := s.resetDevice .powerOn
  .next ({ s with rel.boot.resetN := false }.emit (.safeN true))

/-- RESET_N_EDGE: the rising edge of RESET_N after a low time in ns. After power-on it starts the device; after 1.0 µs or more it is a
device reset; the straps are sampled. A shorter pulse is ignored (R424, R453). -/
def execResetNEdge (lowNs : Nat) (straps : BitVec 8) (s : State) : Host.Outcome State Fault Refusal :=
  if s.rel.boot.resetN && lowNs < 1000 then .next s
  else
    let cause : ResetCause := if s.rel.boot.resetN then .resetN else .powerOn
    .next ({ s with rel.boot.straps := straps }.resetDevice cause)

/-- Whether the device has neither started firmware nor the responder. -/
def Boot.starting (b : Boot) : Bool := b.resetN && !b.pllFail && !b.firmware && !b.recovery

/-- PLL_LOCK_TIMEOUT: the device stays in reset with SAFE_N low until the next RESET_N edge (R453, R469). -/
def execPllLockTimeout (s : State) : Host.Outcome State Fault Refusal :=
  if s.rel.boot.starting then .next ({ s with rel.boot.pllFail := true }.emit (.safeN true)) else .next s

/-- JTAG_RZ_RESET (R470). -/
def execJtagRzReset (s : State) : Host.Outcome State Fault Refusal := .next (s.resetDevice .jtag)

/-- POWER_LOSS: all on-die state is lost, and the flash operation in progress with it (R435). -/
def execPowerLoss (s : State) : Host.Outcome State Fault Refusal :=
  let s := s.resetDevice .powerOn
  .next { s with rel.boot.resetN := false }

/-! ## Reset requests (R434) -/

/-- A die's temperature in m°C. -/
def State.dieTemp (s : State) (d : Nat) : Int := signed 32 (s.cfg Obj.DIE_TEMP d)

/-- The principal of a path (Table 13.1). -/
def Path.principal : Path → Principal
  | .mailbox 0 => .host
  | .mailbox (k + 1) => .tenant k
  | .inband _ _ 0 => .field
  | .inband _ _ t => .tenant t
  | .fieldNet => .field

/-- The reset of the field principal as a master (Table 10.3, R393). -/
def State.resetField (s : State) : State :=
  let s := (s.abandonLocks midField).dropExpert 257
  { s with
    mgmt.held := s.mgmt.held.map (fun h => if Path.principal h.path == .field then { h with dropped := true } else h)
    starter.sendQ := s.starter.sendQ.filter (fun x => !x.field) }

/-- The reset of the management domain (Table 15.3). -/
def State.resetManagement (s : State) : State :=
  { s with mgmt.room := { s.mgmt.room with node := 255, answer := none } }.resetField

/-- The reset of a port: it goes DOWN and retrains. -/
def State.resetPort (s : State) (p : Nat) : State := s.linkDown p

/-- A write of 1010h. A device reset waits for the flash and for DEVICE_RESET. -/
def applyResetRequest (p : Principal) (v : Nat) (s : State) : State × Result :=
  if v = 1 then
    if (List.range 5).any (fun d => signed 32 (s.cfg Obj.TEMP_WARN) < s.dieTemp d) then (s, .state)
    else
      let s := { s with rel.boot.waitReset := some (.request p) }
      (if s.rel.flash.busy.isEmpty then s else s.raise 7 none Obj.RESET_REQUEST, .ok)
  else if v = 2 then (s.resetStarter, .ok)
  else if v = 3 then (s.resetManagement, .ok)
  else if 16 ≤ v && v < 28 then ((s.resetSquad (v - 16)).modSquad (v - 16) (fun q => { q with asked := q.busy }), .ok)
  else if 32 ≤ v && v < 48 then (s.resetPort (v - 32), .ok)
  else (s, .range)

/-- DEVICE_RESET_REQUEST: a write of 1 to 1010h; an accepted one has no reply. -/
def execDeviceResetRequest (p : Principal) (s : State) : Host.Outcome State Fault Refusal :=
  let t := s.writeNumCmd p Obj.RESET_REQUEST 0 1 (applyResetRequest p)
  .next (if t.rel.boot.waitReset.isSome && t.reply.result == .ok then { t with reply := s.reply } else t)

/-- STARTER_DOMAIN_RESET_REQUEST: a write of 2 to 1010h. -/
def execStarterDomainResetRequest (p : Principal) (s : State) : Host.Outcome State Fault Refusal :=
  .next (s.writeNumCmd p Obj.RESET_REQUEST 0 2 (applyResetRequest p))

/-- MANAGEMENT_DOMAIN_RESET_REQUEST: a write of 3 to 1010h. -/
def execManagementDomainResetRequest (p : Principal) (s : State) : Host.Outcome State Fault Refusal :=
  .next (s.writeNumCmd p Obj.RESET_REQUEST 0 3 (applyResetRequest p))

/-- The squads whose requested reset has not completed: its reply waits (R434). -/
def State.resetsDue (s : State) : List Nat := (List.range 12).filter (fun k => (s.squad k).asked)

/-- Keeps the former reply where a write has started a reset of a squad, whose end brings its reply (R434). -/
def State.deferReset (s t : State) : State :=
  if t.resetsDue.any (fun k => !s.resetsDue.contains k) then { t with reply := s.reply } else t

/-- SQUAD_RESET_REQUEST: a write of 16 + s to 1010h, answered once the reset has completed. -/
def execSquadResetRequest (p : Principal) (sq : Nat) (s : State) : Host.Outcome State Fault Refusal :=
  .next (s.deferReset (s.writeNumCmd p Obj.RESET_REQUEST 0 (16 + sq) (applyResetRequest p)))

/-- PORT_RESET_REQUEST: a write of 32 + p to 1010h. -/
def execPortResetRequest (p : Principal) (port : Nat) (s : State) : Host.Outcome State Fault Refusal :=
  .next (s.writeNumCmd p Obj.RESET_REQUEST 0 (32 + port) (applyResetRequest p))

/-! ## Identity (R413) -/

/-- A write of 1003h. -/
def applyDeviceId (v : Nat) (s : State) : State × Result :=
  if v > 16383 then (s, .range)
  else if !s.allIdle then (s, .state)
  else ((List.range 14).foldl (fun s p => s.judgeNeighbour false p) (s.writeNum Obj.DEVICE_ID 0 v), .ok)

/-- DEVICE_ID: a write of 1003h. -/
def execDeviceId (p : Principal) (v : Nat) (s : State) : Host.Outcome State Fault Refusal :=
  .next (s.writeNumCmd p Obj.DEVICE_ID 0 v applyDeviceId)

/-! ## The calibration block (R419, R420) -/

/-- The bytes of a calibration block. -/
abbrev calSize : Nat := 11108

/-- A block as it is used: a blank flash holds zeros. -/
def calBytes (b : Blob) : Blob := if b.isEmpty then List.replicate calSize 0 else b

/-- The staged block. -/
def State.staged (s : State) : Blob := calBytes s.rel.boot.calStaged

/-- Whether a commit is in progress. -/
def FlashOp.isCommit : FlashOp → Bool
  | .commit _ => true
  | _ => false

/-- Whether a write of a slot is in progress. -/
def FlashOp.isSlot : FlashOp → Bool
  | .slot _ _ => true
  | _ => false

/-- Whether a commit is in progress: writes of B000h to B007h are refused. -/
def State.committing (s : State) : Bool := s.rel.flash.busy.any FlashOp.isCommit

/-- The CRC of a block over its bytes 0 to 11,103. -/
def calCrc (b : Blob) : Nat := crc32 (b.take 11104)

/-- A block with zeros at a span of it. -/
def zeroSpan (b : Blob) (off len : Nat) : Blob := overwrite b off (List.replicate len 0)

/-- A SERDES port record with the reserved bytes 4 to 7 of its lane records zero (Table 14.7, R4). -/
def serdesStored : Nat → Blob → Blob
  | 0, _ => []
  | n + 1, b => zeroSpan (b.take 32) 4 4 ++ serdesStored n (b.drop 32)

/-- A block with its reserved fields zero (Table 14.7, R4). Its CRC stands as written until a commit recomputes it (log 159). -/
def calStored (b : Blob) : Blob :=
  let b := overwrite b 3 (beBytes 1 (beAt b 3 1 % 16))
  let b := zeroSpan b 30 2
  let b := overwrite b 32 (serdesStored 272 ((b.drop 32).take 8704))
  zeroSpan (zeroSpan b 8796 4) 11000 104

/-- A write of B000h. -/
def applyCalBlock (b : Blob) (s : State) : State × Result :=
  if b.length != calSize || beAt b 0 2 != 1 || beAt b 12 4 != calSize || beAt b 11104 4 != calCrc b ||
      beAt b 4 8 != s.rel.boot.bib then (s, .range)
  else if s.committing then (s, .state)
  else ({ s.setBlb Obj.CAL_BLOCK 0 [] with rel.boot.calStaged := calStored b }, .ok)

/-- CAL_BLOCK: a write of B000h. -/
def execCalBlock (p : Principal) (b : Blob) (s : State) : Host.Outcome State Fault Refusal :=
  .next (s.writeBlobCmd p Obj.CAL_BLOCK 0 b applyCalBlock)

/-- Where a section object stands in the block: offset, length and VALID bit (Table 14.7). -/
def calSection (o i : Nat) : Nat × Nat × Nat :=
  match o with
  | 0xB002 => (32 + 512 * i, 512, 0)
  | 0xB003 => (8736, 64, 1)
  | 0xB004 => (8800 + 512 * i, 512, 2)
  | _ => (10848, 256, 3)

/-- A section with its reserved fields zero (Table 14.7, R4). -/
def sectionStored (o : Nat) (b : Blob) : Blob :=
  match o with
  | 0xB002 => serdesStored 16 b
  | 0xB003 => zeroSpan b 60 4
  | 0xB005 => zeroSpan b 152 104
  | _ => b

/-- A write of a section object: the section, its VALID bit, ORIGIN 1. -/
def applyCalSection (o i : Nat) (b : Blob) (s : State) : State × Result :=
  let (off, len, k) := calSection o i
  if b.length != len then (s, .range)
  else if s.committing then (s, .state)
  else
    let x := overwrite s.staged off (sectionStored o b)
    let x := overwrite x 2 (beBytes 1 1 ++ beBytes 1 (beAt x 3 1 ||| 2 ^ k))
    ({ s.setBlb o i [] with rel.boot.calStaged := x }, .ok)

/-- CAL_SECTION_WRITE: a write of B002h to B005h. -/
def execCalSectionWrite (p : Principal) (o i : Nat) (b : Blob) (s : State) : Host.Outcome State Fault Refusal :=
  if 0xB002 ≤ o && o ≤ 0xB005 then .next (s.writeBlobCmd p o i b (applyCalSection o i)) else .next s

/-- The block that a commit writes: WRITTEN, COMMIT and the CRC set. -/
def State.commitBlock (s : State) : Blob :=
  let x := overwrite s.staged 16 (beBytes 10 s.time.gun ++ beBytes 4 ((beAt (calBytes s.rel.flash.cal) 26 4 + 1) % 2 ^ 32))
  overwrite x 11104 (beBytes 4 (calCrc x))

/-- A write of B006h: 1 starts a commit. -/
def applyCalCommit (v : Nat) (s : State) : State × Result :=
  if v > 1 then (s, .range)
  else if s.committing then (s, .state)
  else if v = 0 then (s, .ok)
  else
    let x := s.commitBlock
    ({ s with rel.flash.busy := s.rel.flash.busy ++ [.commit x], rel.boot.calStaged := x }, .ok)

/-- Keeps the former reply where a write has started a flash operation, whose end brings its reply (R420, R423). -/
def State.deferReply (s t : State) : State :=
  if s.rel.flash.busy.length < t.rel.flash.busy.length then { t with reply := s.reply } else t

/-- CAL_COMMIT: a write of B006h. -/
def execCalCommit (p : Principal) (v : Nat) (s : State) : Host.Outcome State Fault Refusal :=
  .next (s.deferReply (s.writeNumCmd p Obj.CAL_COMMIT 0 v applyCalCommit))

/-- A write of B007h: 1 discards the staged block. -/
def applyCalDiscard (v : Nat) (s : State) : State × Result :=
  if v > 1 then (s, .range)
  else if s.committing then (s, .state)
  else if v = 0 then (s, .ok)
  else ({ s with rel.boot.calStaged := s.rel.boot.cal }, .ok)

/-- CAL_DISCARD: a write of B007h. -/
def execCalDiscard (p : Principal) (v : Nat) (s : State) : Host.Outcome State Fault Refusal :=
  .next (s.writeNumCmd p Obj.CAL_DISCARD 0 v applyCalDiscard)

/-! ## The persisted set and the firmware slots (R409, R411, R423) -/

/-- A write of B012h: 1 erases both copies at the next device reset. -/
def applyPersistErase (v : Nat) (s : State) : State × Result :=
  if v > 1 then (s, .range) else if v = 0 then (s, .ok) else ({ s with rel.flash.eraseWanted := true }, .ok)

/-- PERSIST_ERASE: a write of B012h. -/
def execPersistErase (p : Principal) (v : Nat) (s : State) : Host.Outcome State Fault Refusal :=
  .next (s.writeNumCmd p Obj.PERSIST_ERASE 0 v applyPersistErase)

/-- PERSIST_STORE (R409): the whole persisted set starts towards the older copy. -/
def execPersistStore (s : State) : Host.Outcome State Fault Refusal :=
  let b := s.rel.boot
  if b.firmware && b.pendSince.isSome then
    .next { s with
      rel.flash.busy := s.rel.flash.busy ++ [.persist b.persistSet], rel.boot.pendCount := 0, rel.boot.pendSince := none }
  else .next s

/-- The store of a set into the older copy (R409). -/
def Flash.store (f : Flash) (c : PersistCopy) : Flash :=
  if f.copyB.valid && (!f.copyA.valid || f.copyA.count ≤ f.copyB.count) then
    { f with copyA := { c with valid := true, count := f.copyB.count + 1 } }
  else { f with copyB := { c with valid := true, count := f.copyA.count + 1 } }

/-- The copy that a device reset loads: the valid one with the higher store count (R409). -/
def Flash.newest (f : Flash) : PersistCopy :=
  if f.copyB.valid && (!f.copyA.valid || f.copyA.count ≤ f.copyB.count) then f.copyB
  else if f.copyA.valid then f.copyA else .empty

/-- How many stores, commits and slot writes the flash has taken. -/
def Flash.operations (f : Flash) : Nat :=
  f.newest.count + beAt f.cal 26 4 + (f.slots.map (fun (e : Nat × FwSlot) => e.2.writes)).sum

/-- A slot of the flash. -/
def State.fwSlot (s : State) (n : Nat) : FwSlot := tabGet s.rel.flash.slots n .empty

/-- Changes a slot. -/
def State.modSlot (s : State) (n : Nat) (f : FwSlot → FwSlot) : State :=
  { s with rel.flash.slots := tabUpd s.rel.flash.slots n .empty f }

/-- A write of B020h[s] whose signature and format hold or not. Without DRAM the slot is erased and written before the check. -/
def applyFwImage (n : Nat) (b : Blob) (signed_ : Bool) (s : State) : State × Result :=
  if !signed_ && !s.noDram then (s, .range)
  else if (s.rel.boot.firmware && n = s.rel.boot.runningSlot) || s.rel.flash.busy.any (fun x => x.isCommit || x.isSlot) then
    (s, if signed_ then .state else .range)
  else
    let s := s.modSlot n (fun x => { x with valid := false, image := b, bytes := b.length, writes := x.writes + 1 })
    if signed_ then ({ s with rel.flash.busy := s.rel.flash.busy ++ [.slot n b] }, .ok) else (s, .range)

/-- FW_IMAGE: a write of B020h[s]. -/
def execFwImage (p : Principal) (i : Nat) (b : Blob) (signed_ : Bool) (s : State) : Host.Outcome State Fault Refusal :=
  .next (s.deferReply (s.writeBlobCmd p Obj.FW_IMAGE i b (fun b => applyFwImage i b signed_)))

/-- The end of the flash operation in progress: its effect, vector 28 on every running core, and on a failure a record of SOURCE 0Eh. -/
def State.flashEnd (s : State) (ok : Bool) : State :=
  match s.rel.flash.busy with
  | [] => s
  | op :: rest =>
    let s := { s with rel.flash.busy := rest }
    let s := match op, ok with
      | .persist c, true => { s with rel.flash := s.rel.flash.store c, rel.boot.storedAt := s.time.gun }
      | .persist _, false => { s with
          rel.boot.pendCount := max 1 s.rel.boot.pendCount, rel.boot.pendSince := s.rel.boot.pendSince <|> some s.time.ticks }
      | .commit x, true => { s with rel.flash.cal := x }
      | .commit _, false => s
      | .slot n _, true => s.modSlot n (fun x => { x with valid := true })
      | .slot n _, false => s.modSlot n (fun x => { x with valid := false })
    let s := (List.range 4).foldl (fun s k => if (s.core k).st == .running then s.irqCore k 28 else s) s
    if ok then s
    else
      let (a, s) := s.draw
      (s.count Obj.FLASH_ERRORS).logError 0x0E 2 0 none Obj.FLASH_ERRORS 0 (a % 2 ^ 32)

/-! ## The error log, temperature and supply (R414 to R417, R448 to R450) -/

/-- A write of A001h: 1 empties the log. -/
def applyErrorLogClear (v : Nat) (s : State) : State × Result :=
  if v > 1 then (s, .range) else (if v = 1 then { s with rel.errors := [] } else s, .ok)

/-- ERROR_LOG_CLEAR: a write of A001h. -/
def execErrorLogClear (p : Principal) (v : Nat) (s : State) : Host.Outcome State Fault Refusal :=
  .next (s.writeNumCmd p Obj.ERROR_LOG_CLEAR 0 v applyErrorLogClear)

/-- One die's reading. -/
def State.readDie (s : State) (d : Nat) (t : Int) : State :=
  let was := tabGet? s.num (objKey Obj.DIE_TEMP_MAX d)
  let top := match was with
    | some m => max t (signed 32 m)
    | none => t
  { s with num := tabSet s.num (objKey Obj.DIE_TEMP_MAX d) (unsigned 32 top) }.setCfg Obj.DIE_TEMP d (unsigned 32 t)

/-- DIE_TEMP_SAMPLE (R414, R415): the dies' readings in m°C. Above 1102h attention 2, once until every die has cooled by 2,000 m°C;
above 1103h the halted safe state. -/
def execDieTempSample (temps : List Int) (s : State) : Host.Outcome State Fault Refusal :=
  let ts := temps.take 5
  let s := (List.range ts.length).foldl (fun s d => s.readDie d (ts.getD d 0)) s
  let warn := signed 32 (s.cfg Obj.TEMP_WARN)
  let trip := signed 32 (s.cfg Obj.TEMP_TRIP)
  let s := if s.rel.warned && ts.all (fun t => t ≤ warn - 2000) then { s with rel.warned := false } else s
  let s := match ts.findIdx? (fun t => warn < t) with
    | some d => if s.rel.warned then s
      else { s.logError 0x0C 1 2 none Obj.DIE_TEMP d d with rel.warned := true }
    | none => s
  match ts.findIdx? (fun t => trip < t) with
  | some d => if s.rel.boot.halted then .next s else .next ((s.logError 0x0C 3 0 none Obj.DIE_TEMP d (d + 256)).enterSafe)
  | none => .next s

/-- RAIL_TELEMETRY (R414): mV, mA and mW of the rails with a regulator in 1107h; the others read 0. -/
def execRailTelemetry (readings : List (Nat × Nat × Nat)) (s : State) : Host.Outcome State Fault Refusal :=
  .next ((List.range 7).foldl (fun s r =>
    let (v, i, w) := if s.cfg Obj.RAIL_PMBUS_ADDR r = 0 then (0, 0, 0) else readings.getD r (0, 0, 0)
    ((s.setCfg Obj.RAIL_VOLTAGE r (v % 2 ^ 32)).setCfg Obj.RAIL_CURRENT r (i % 2 ^ 32)).setCfg Obj.RAIL_POWER r (w % 2 ^ 32)) s)

/-- AVS_RECOMPUTE (R448 to R450): every 100 ms. While a squad clock changes it waits; after three failures in succession AVS stops,
0.80 V is written until that succeeds, and 1105h reads 800. -/
def execAvsRecompute (r : Pmb) (s : State) : Host.Outcome State Fault Refusal :=
  if s.rel.railFail ≥ 4 then .next s
  else if s.rel.railFail = 3 then
    .next ({ s with rel.railFail := if r == Pmb.acked then 4 else 3 }.voutCommand 800)
  else if (List.range 12).any (fun k => (s.squad k).freqTarget.isSome) then .next { s with rel.avsDue := true }
  else match r with
    | .acked => .next ({ s with rel.railFail := 0 }.recomputeAvs)
    | .failed =>
      let s := { s with rel.railFail := s.rel.railFail + 1 }
      if s.rel.railFail = 3 then .next ((s.setCfg Obj.VDD_CORE_TARGET 0 800).raise 2 none Obj.VDD_CORE_TARGET) else .next s

/-- PMB_ALERT (R450): the fault bits found at the VDD_CORE regulator and at those of rails 0 to 6. -/
def execPmbAlert (faults : List Bool) (s : State) : Host.Outcome State Fault Refusal :=
  let s := if faults.getD 0 false then s.raise 2 none Obj.AVS_PMBUS_ADDR else s
  .next ((List.range 7).foldl (fun s r =>
    if faults.getD (r + 1) false && s.cfg Obj.RAIL_PMBUS_ADDR r != 0 then s.raise 2 none Obj.RAIL_PMBUS_ADDR r else s) s)

/-- WAKE_RATE: a write of 110Ch. -/
def execWakeRate (p : Principal) (v : Nat) (s : State) : Host.Outcome State Fault Refusal :=
  .next (s.writeNumCmd p Obj.WAKE_RATE 0 v (applyPlain Obj.WAKE_RATE 0))

/-! ## Reference clocks (R456) -/

/-- TCLK_IN_LOSS: the estimate counts as beyond 20 ns, so the device is off the mark. -/
def execTclkInLoss (s : State) : Host.Outcome State Fault Refusal :=
  let s := { s with time.tclkLost := true, time.lowSince := none }
  if s.time.offMark then .next s
  else .next ({ s with time.offMark := true }.count Obj.OFF_THE_MARK |>.raise 4 none Obj.OFF_THE_MARK)

/-- TCLK_IN_RETURN: the estimate is judged again. -/
def execTclkInReturn (s : State) : Host.Outcome State Fault Refusal := .next { s with time.tclkLost := false }.noteEst

/-- SDS_REFCLK_LOSS: every port of the die leaves UP and stays DOWN. -/
def execSdsRefclkLoss (die : Nat) (s : State) : Host.Outcome State Fault Refusal :=
  if die < 4 then
    let s := { s with rel.sdsLost := if s.rel.sdsLost.contains die then s.rel.sdsLost else s.rel.sdsLost ++ [die] }
    .next ((List.range 4).foldl (fun s k => s.linkDown (4 * die + k)) s)
  else .next s

/-- SDS_REFCLK_RETURN: the ports of the die may train again. -/
def execSdsRefclkReturn (die : Nat) (s : State) : Host.Outcome State Fault Refusal :=
  .next { s with rel.sdsLost := s.rel.sdsLost.filter (· != die) }

/-! ## The patrol (R438, R439) -/

/-- PATROL_READ: a word of units 0 to 23 and 28 to 31, acted on as a read would, but that no frame or thread ends. A squad-store word is
rewritten as zero, a word of a free cell likewise; a unit-29 word is rebuilt with attention 5; of unit 31 the good copy is used with
attention 2, and whether both copies are bad is a free value (log 2). -/
def execPatrolRead (w : SramWord) (e : Ecc) (s : State) : Host.Outcome State Fault Refusal :=
  let u := w.unit
  if u ≥ 32 || (24 ≤ u && u < 28) then .next s
  else
    let s := s.sramEvent u w.addr e
    if e != .uncorrectable then .next s
    else if 12 ≤ u && u < 24 then
      .next { s with strider.sstore := memWriteN s.strider.sstore ((u - 12) * 2 ^ 21 + w.addr % 2 ^ 18 * 8) (List.replicate 8 0) }
    else if u = 28 then
      if (s.cell (w.addr * 8 / 256)).alloc then .next s
      else .next { s with buf.pool.data := memWriteN s.buf.pool.data (w.addr * 8) (List.replicate 8 0) }
    else if u = 29 then .next (s.raise 5 none Obj.SRAM_UNCORRECTABLE 29)
    else if u = 31 then
      let (n, s) := s.draw
      .next (if n % 2 = 1 then s.enterSafe else s.raise 2 none Obj.SRAM_UNCORRECTABLE 31)
    else .next s

end Sys2Proof.Machine
end

