-- ==== Sys2Proof/Machine/Dict.lean ====
section
/-! DEFINITION. The dictionary as a whole: what a write of each object does once its checks have passed, what a read returns, and
REGISTER_WRITE (R376 to R380, R385, R388 to R393, R404 to R415). -/

namespace Sys2Proof.Machine

/-! ## Writes -/

/-- Whether an access of a principal may raise its session to expert level. -/
def applySessionLevel (p : Principal) (v : Nat) (s : State) : State × Result :=
  let set (e : Bool) : State := { s with mgmt.sessions := tabUpd s.mgmt.sessions (Principal.index p) .reset (fun x => { x with expert := e }) }
  if v > 1 then (s, .range)
  else match p with
    | .fw _ => (s, .ok)
    | _ =>
      if v = 0 then (set false, .ok)
      else if s.expertRight p then (set true, .ok)
      else (s.count Obj.VIOLATIONS (Principal.index p), .ok)

/-- A write of 9021h: sessions that lose the right return to basic level (R393). -/
def applyExpertRights (v : Nat) (s : State) : State × Result :=
  let s := s.writeNum Obj.EXPERT_RIGHTS 0 (v % 4)
  ({ s with mgmt.sessions := s.mgmt.sessions.map (fun (e : Nat × Session) =>
      let lost : Bool := (e.1 == 257 && !bit v 0) || (e.1 < 256 && !bit v 1)
      (e.1, if lost then { e.2 with expert := false } else e.2)) }, .ok)

/-- A write of 9002h: the idle time of the session. -/
def applySessionIdle (p : Principal) (v : Nat) (s : State) : State × Result :=
  if v < 10 || 86400 < v then (s, .range)
  else ({ s with mgmt.sessions := tabUpd s.mgmt.sessions (Principal.index p) .reset (fun x => { x with idle := v }) }, .ok)

/-- A temperature limit: 1102h may not exceed 1103h (R415). -/
def applyTemp (o v : Nat) (s : State) : State × Result :=
  let t := signed 32 v
  let warn := if o = 0x1102 then t else signed 32 (s.cfg Obj.TEMP_WARN)
  let trip := if o = 0x1103 then t else signed 32 (s.cfg Obj.TEMP_TRIP)
  if trip < warn then (s, .range) else applyPlain o 0 v s

/-- The rules of a numeric object's write. -/
def applyNum (p : Principal) (o i v : Nat) (s : State) : State × Result :=
  match o with
  | 0x1003 => applyDeviceId v s
  | 0x1010 => applyResetRequest p v s
  | 0x1102 | 0x1103 => applyTemp o v s
  | 0x1106 | 0x1107 => if v > 127 then (s, .range) else applyPlain o i v s
  | 0x1201 => applyAnchorRank v s
  | 0x1209 => applyExtAlign v s
  | 0x120B => applyGunTimeStep v s
  | 0x1302 => applyLapLengthPending v s
  | 0x1304 => applySwapLap v s
  | 0x2000 => applyPortEnable i v s
  | 0x2005 => applyExpectedBib i v s
  | 0x2013 => if bits v 23 16 ≥ bits v 15 8 then (s, .range) else applyPlain o i v s
  | 0x2105 => applyCreditInit i v s
  | 0x3002 => applyGraphCommit v s
  | 0x3003 => applyStartType i v s
  | 0x3009 => applyOdBlock i v s
  | 0x3222 => applyReseedLap v s
  | 0x3303 => if 1 ≤ v && v < 1000 then (s, .range) else applyPlain o i v s
  | 0x3309 => applyLearnFlush i v s
  | 0x3802 | 0x3803 | 0x3804 | 0x3805 => applyRelayObj o i v s
  | 0x4000 => applySquadMode i v s
  | 0x4002 => applySquadFreq i v s
  | 0x4004 => if v = 0 || v > 0xFFF then (s, .range) else applyPlain o i v s
  | 0x4021 => if 254 ≤ v then (s, .range) else applyPlain o i v s
  | 0x4014 => if v > 1 then (s, .range) else applySquadEvent i v s
  | 0x4102 => applyImageCommit v s
  | 0x500A => applyHostReserve i v s
  | 0x5101 => applyQueueBlock i v s
  | 0x5202 => if v % 8 != 0 then (s, .range) else applyPlain o i v s
  | 0x6002 => applyFaultLogClear i v s
  | 0x6003 => applyTenantMembers i v s
  | 0x6007 => applyPhotoRestore i v s
  | 0x6110 => applyBarrierArrive i v s
  | 0x6112 => applyBroadcastSend i v s
  | 0x6114 => applyHaltRequest i v s
  | 0x6200 => applyLock p i v s
  | 0x6201 => applyLockConfig i v s
  | 0x6210 => applyAtomicBlock i v s
  | 0x6212 => applyAtomicWord i v s
  | 0x7003 => applyTraceRead i v s
  | 0x7004 => applyTraceArm i v s
  | 0x7005 => applyTraceTrigger i v s
  | 0x7011 => applySnapUpload i v s
  | 0x7106 => applyDramSweep i v s
  | 0x7113 | 0x7114 => applyBw o v s
  | 0x9001 => applySessionLevel p v s
  | 0x9002 => applySessionIdle p v s
  | 0x9021 => applyExpertRights v s
  | 0xA001 => applyErrorLogClear v s
  | 0xB006 => applyCalCommit v s
  | 0xB007 => applyCalDiscard v s
  | 0xB012 => applyPersistErase v s
  | _ => applyPlain o i v s

/-- The rules of a blob or string object's write. Whether a firmware image is signed is a free value here (log 2). -/
def applyBlob (p : Principal) (o i : Nat) (b : Blob) (s : State) : State × Result :=
  match o with
  | 0x1006 => if b.length > 64 || !utf8 b then (s, .range) else (s.writeBlob o i b, .ok)
  | 0x1305 => applyGateListPending i b s
  | 0x130F => applyRxWindowsPending i b s
  | 0x3001 => applyParseGraphPending b s
  | 0x3004 => if b.length != 4096 then (s, .range) else (s.writeBlob o i b, .ok)
  | 0x3100 => applyMaskSet i b s
  | 0x3101 => applyRuleBatch b s
  | 0x3104 => applyEditEntry i b s
  | 0x3201 => applyBankMap b s
  | 0x3210 => applyTrieBatch b s
  | 0x3211 => applyTrieLoad i b s
  | 0x3220 => applyGroup i b s
  | 0x3250 => applyHashTestSeed b s
  | 0x3308 => applyLearnStatic b s
  | 0x3801 => applyRelaySetPending i b s
  | 0x4101 => applyImagePending i b s
  | 0x5000 => applyPartitionSizes b s
  | 0x5100 => applyQueueDesc i b s
  | 0x5103 => applyQueueRing i b s
  | 0x5200 => applyQueuePacer i b s
  | 0x5201 => applyTenantPacer i b s
  | 0x5210 => applyMarshal i b s
  | 0x6100 => applyGlobalOp b s
  | 0x7000 => applyTraceRing i b s
  | 0x7001 => applyTraceTriggers i b s
  | 0x7010 => applyUpload i b s
  | 0x7020 => applySnapArea i b s
  | 0x7100 => applyDramConfig b s
  | 0x8010 => applyWorkqConfig i b s
  | 0x8030 => applyExtModule b s
  | 0x8033 => applyExtCall p b s
  | 0x9020 => if b.length != 32 then (s, .range) else (s.writeBlob o i b, .ok)
  | 0xB000 => applyCalBlock b s
  | 0xB002 | 0xB003 | 0xB004 | 0xB005 => applyCalSection o i b s
  | 0xB020 =>
    let (n, s) := s.draw
    applyFwImage i b (n % 2 == 1) s
  | _ => (s.writeBlob o i b, .ok)

/-- The rules of an object's write, the bytes as they came (R377). -/
def applyObj (p : Principal) (o i : Nat) (b : Blob) (s : State) : State × Result :=
  match objRow? o with
  | none => (s, .noObject)
  | some r => match r.ty.width with
    | some _ => applyNum p o i (beNat b) s
    | none => applyBlob p o i b s

/-- A write of any object by a principal, checks included (R388). -/
def State.writeObj (s : State) (p : Principal) (o i ty : Nat) (b : Blob) : State × Result :=
  s.write p o i ty b (applyObj p o i b)

/-- REGISTER_WRITE (R388): the checks, then the object's own rules. A PARTIAL reply carries the records applied (R181); the reply to a load
or batch, or to a flash operation, comes later (R173, R420). -/
def execRegisterWrite (p : Principal) (o i ty : Nat) (b : Blob) (s : State) : Host.Outcome State Fault Refusal :=
  let x := s.writeObj p o i ty b
  .next (s.deferReset <| s.deferFlip (s.deferReply (State.answer x (if x.2 == .partialRes then (applyLearnStaticData b s).2 else []))))

/-- SESSION_LEVEL: a write of 9001h. -/
def execSessionLevel (p : Principal) (v : Nat) (s : State) : Host.Outcome State Fault Refusal :=
  .next (s.writeNumCmd p Obj.SESSION_LEVEL 0 v (applySessionLevel p))

/-- EXPERT_RIGHTS: a write of 9021h. -/
def execExpertRights (p : Principal) (v : Nat) (s : State) : Host.Outcome State Fault Refusal :=
  .next (s.writeNumCmd p Obj.EXPERT_RIGHTS 0 v applyExpertRights)

/-! ## Attention (R384, R385) -/

/-- The attention of a view: the highest level among its unread entries; 6 while halted or in recovery, 7 while a reset waits. -/
def State.attention (s : State) (v : Nat) : Nat :=
  let top := ((s.session v).log.filter Att.unread).foldl (fun n a => max n a.level) 0
  if s.rel.boot.waitReset.isSome then 7
  else if s.rel.boot.halted || s.rel.boot.recovery then max top 6
  else top

/-- An attention-log entry of 16 bytes. -/
def Att.bytes (a : Att) : Blob :=
  beBytes 1 a.level ++ beBytes 1 a.tenant ++ beBytes 2 a.o ++ beBytes 2 a.i ++ beBytes 2 a.reps ++ beBytes 8 a.ns

/-- A read of 9011h: the unread entries, newest first, which become read. -/
def State.readAttention (s : State) (v : Nat) : Blob × State :=
  let x := s.session v
  ((x.log.filter Att.unread).flatMap Att.bytes,
    { s with mgmt.sessions := tabSet s.mgmt.sessions v { x with log := x.log.map (fun a => { a with unread := false }) } })

/-- ATTENTION_LOG: a read of 9011h. -/
def execAttentionLog (p : Principal) (s : State) : Host.Outcome State Fault Refusal :=
  let (b, s) := s.readAttention (Principal.index p)
  .next (State.answer (s, .ok) b)

/-! ## Reads -/

/-- HALT_STATE, A005h. -/
def State.haltState (s : State) : Nat :=
  if s.rel.boot.waitReset.isSome then 2 else nat01 (s.rel.boot.halted || s.rel.boot.recovery)

/-- PORT_STATE, 2001h. -/
def PortState.code : PortState → Nat
  | .disabled => 0 | .down => 1 | .train => 2 | .align => 3 | .exchange => 4 | .up => 5 | .isolated => 6

/-- SQUAD_STATE, 4001h. -/
def SquadState.code : SquadState → Nat
  | .gated => 0 | .waking => 1 | .loading => 2 | .running => 3 | .draining => 4 | .test => 5 | .loadFailed => 6

/-- The states of 6000h. -/
def TenantState.code : TenantState → Nat
  | .idle => 0 | .running => 1 | .held => 2 | .faulted => 3 | .resetting => 4

/-- The roles of 1202h. -/
def Role.code : Role → Nat
  | .anchor => 0 | .locked => 1 | .acquiring => 2 | .holdover => 3 | .freeRun => 4

/-- The states of 7002h. -/
def RingState.code : RingState → Nat
  | .off => 0 | .running => 1 | .armed => 2 | .triggered => 3 | .stopped => 4

/-- CORE_STATE, 8000h. -/
def CoreState.code : CoreState → Nat
  | .running => 0 | .dnf => 1 | .restarting => 2 | .heldInReset => 3

/-- The number of lanes in a mask as 2002h codes it: 16 reads 0. -/
def laneCode (m : Nat) : Nat := ((List.range 16).filter (fun k => bit m k)).length % 16

/-- Squad busy threads, 4017h. -/
def State.threadsBusy (s : State) (k : Nat) : Nat :=
  (s.strider.threads.filter (fun (e : Nat × Thread) => squadOf e.1 == k && e.2.st != .free)).length

/-- 400Ah: the issue slots used per 1,000 of those that the 16 Striders of a squad had in the last 1.0 ms at their clock. -/
def State.squadLoad (s : State) (k : Nat) : Nat :=
  let q := s.squad k
  let used := ((q.slots.filter (fun (e : Time × Nat) => s.time.gun < e.1 + 1000000 * ns)).map Prod.snd).sum
  min 1000 (used / (16 * max 1 q.freqActual))

/-- FIRMWARE_ID of a slot's image, 0 of a slot without one. -/
def State.firmwareId (s : State) (n : Nat) : Nat := if (s.fwSlot n).image.isEmpty then 0 else Config.firmwareId (s.fwSlot n).image % 2 ^ 32

/-- The numbers that the device derives from its state, or a principal's session holds (a dash in the Default columns). -/
def State.derived (s : State) (p : Principal) (o i : Nat) : Option Nat :=
  let b := s.rel.boot
  let x := s.port i
  let v := Principal.index p
  match o with
  | 0x1000 => some b.bib
  | 0x1001 => some b.grade
  | 0x1007 => some b.straps.toNat
  | 0x1008 => some (s.time.ticks * 5 / 4 % 2 ^ 64)
  | 0x1009 => some b.cause
  | 0x100B => some s.freqMax
  | 0x110E => some (meanAwake s.time.ticks s.rel.awake s.time.ticks / msTicks)
  | 0x8001 => some (Config.coreLoad i (s.time.ticks / msTicks) % 1001)
  | 0x8006 => some (if b.firmware then s.firmwareId b.runningSlot else 0)
  | 0x8016 => some ((s.workq i).meanWait s.time.ticks % 2 ^ 32)
  | 0x110B => some (((List.range 7).map (s.cfg Obj.RAIL_POWER ·)).sum % 2 ^ 32)
  | 0x1200 => some (s.time.gun % 2 ^ 80)
  | 0x1202 => some s.time.role.code
  | 0x1203 => some (unsigned 32 s.estPs)
  | 0x1205 => some (s.time.parent.getD 255)
  | 0x1206 => some s.time.hops
  | 0x1207 => some (unsigned 32 (saturate 32 (unitsToPs (((s.exchange i).mean).getD 0))))
  | 0x1300 => some s.time.lap
  | 0x2001 => some x.st.code
  | 0x2002 => some (laneCode (x.txLanes &&& fullLanes i) * 16 + laneCode (x.rxLanes &&& fullLanes i))
  | 0x2003 => some (match x.nb with | some n => n.bib | none => 0)
  | 0x2004 => some (match x.nb with | some n => n.device | none => 0)
  | 0x210A => some ((x.txLanes &&& fullLanes i) * 65536 + (x.rxLanes &&& fullLanes i))
  | 0x1310 => some (s.cfg Obj.SLEEP_TIME i + s.sleptNow i)
  | 0x2110 => some (s.pcie.rate + s.pcie.width * 256 + nat01 s.pcie.flitMode * 65536)
  | 0x300C => some (4096 - s.parser.frags.length)
  | 0x300D => some (256 - s.holdUse)
  | 0x3102 => some (65536 - s.setBase 16)
  | 0x3103 => some (s.setRules i).length
  | 0x3202 => some (s.stageFree i)
  | 0x3203 => some (((List.range 12).map s.stageFree).sum)
  | 0x3212 => some (s.trieCost i)
  | 0x3213 => some ((tabGet? s.tables.tries i).map (fun t => t.prefixes.length) |>.getD 0)
  | 0x3241 => some s.tables.audit.passTime
  | 0x3223 => some (s.tables.epoch % 2 ^ 32)
  | 0x3305 => some s.learnEntries.length
  | 0x3306 => some s.tables.stash.length
  | 0x3307 => some (s.tenantEntries i)
  | 0x3806 => some s.storeFree
  | 0x3807 => some s.slabFree
  | 0x3808 => some (s.unitLoad i)
  | 0x4001 => some (s.squad i).st.code
  | 0x4003 => some (s.squad i).freqActual
  | 0x400A => some (s.squadLoad i)
  | 0x4008 => some s.strider.waiting.length
  | 0x4017 => some (s.threadsBusy i)
  | 0x4103 => some (match s.strider.swap with | some (_, k) => 2 ^ 31 + k | none => 0)
  | 0x4104 => some (s.squad i).imageId
  | 0x5001 => some (s.stack i).count
  | 0x5002 => some (s.reserved i)
  | 0x5006 => some (tabGet s.buf.pool.minFree i (s.stack i).count)
  | 0x5007 => some (s.portReserve i)
  | 0x5203 => some (unsigned 32 ((tabGet s.buf.tpacers i .reset).tokens.tdiv 8000))
  | 0x5204 => some (unsigned 32 ((tabGet s.buf.qpacers i .reset).tokens.tdiv 8000))
  | 0x5220 => some (s.guaranteeCapacity i)
  | 0x6000 => some ((s.tenant i).st.code + 8 * nat01 (s.tenant i).frozen)
  | 0x6107 => some ((s.fabricChildren.map (2 ^ ·)).sum +
      ((List.range 6).map (fun k => if (s.port (8 + k)).st == .up then 2 ^ (8 + k) else 0)).sum)
  | 0x6200 => some (s.lockWord (masterOf p) i)
  | 0x6212 => some (s.atom i)
  | 0x7102 => some s.dram.ways
  | 0x7103 => some s.dramSize
  | 0x7110 => some (s.usable_ i (s.channel i).doubled)
  | 0x7111 => some s.derated
  | 0x7112 => some s.reservedBw
  | 0x7116 => some (nat01 (s.channel i).doubled)
  | 0x7117 => some (unsigned 32 (s.channel i).temp)
  | 0x7123 => some s.dram.poison.length
  | 0x8000 => some (s.core i).st.code
  | 0x8011 => some (s.workq i).items.length
  | 0x8012 => some (s.workq i).high
  | 0x8031 => some s.starter.extState
  | 0x9000 => some (match p with | .host => 0 | .tenant t => 256 + t | .field => 512 | .fw _ => 768)
  | 0x9001 => some (nat01 (s.atExpert p))
  | 0x9002 => some (s.session v).idle
  | 0x9010 => some (s.attention v)
  | 0x9012 => some (s.session v).lost
  | 0x9030 => some (if s.cfg Obj.FIELD_MASTER == 1 && s.rel.boot.straps.getLsbD 7 then 0 else s.mgmt.room.node)
  | 0x9031 => some (s.mgmt.room.epoch.getD 0)
  | 0xA005 => some s.haltState
  | 0xB023 => some b.runningSlot
  | _ => none

/-- What clears in a read of an RC number (R407). -/
def State.clearRc (s : State) (p : Principal) (o i : Nat) : State :=
  match o with
  | 0x1101 => { s with num := tabSet s.num (objKey o i) (s.cfg Obj.DIE_TEMP i) }
  | 0x5006 => { s with buf.pool.minFree := tabDel s.buf.pool.minFree i }
  | 0x8012 => { s with starter.queues := tabUpd s.starter.queues i .reset (fun w => { w with high := w.items.length }) }
  | 0x9012 => { s with mgmt.sessions := tabMod s.mgmt.sessions (Principal.index p) (fun x => { x with lost := 0 }) }
  | _ => s.setCfg o i 0

/-- A read of a numeric object that its checks let through. -/
def State.readNum (s : State) (p : Principal) (r : ObjRow) (i : Nat) : Nat × State :=
  let v := (s.derived p r.code i).getD (s.cfg r.code i)
  (v, if r.acc == .rc then s.clearRc p r.code i else s)

/-- A fault card of 32 bytes (Table 7.7). -/
def FaultCard.bytes (f : FaultCard) : Blob :=
  beBytes 1 f.cause ++ beBytes 1 (f.tid / 128 * 16 + f.tid / 8 % 16) ++ beBytes 1 (f.tid % 8 * 32 + nat01 f.released * 16) ++
    beBytes 1 f.tenant ++ beBytes 2 (f.kind * 2 ^ 14 + f.entry % 256 * 2 ^ 6) ++ beBytes 2 f.rep ++ beBytes 4 f.pc ++
    beBytes 4 f.operand ++ beBytes 4 f.imageId ++ beBytes 2 f.count ++ beBytes 2 f.od ++ beBytes 4 f.baton ++ beBytes 4 f.stamp

/-- A fault-log entry of 16 bytes (6001h). -/
def FaultEntry.bytes (f : FaultEntry) : Blob :=
  beBytes 1 f.cause ++ beBytes 1 f.port ++ beBytes 2 f.slab ++ beBytes 6 f.lap ++ beBytes 6 f.ns

/-- An error-log record of 32 bytes (Table 14.5). -/
def ErrRec.bytes (e : ErrRec) : Blob :=
  beBytes 1 e.source ++ beBytes 1 e.severity ++ beBytes 1 e.attention ++ beBytes 1 e.tenant ++ beBytes 2 e.o ++ beBytes 2 e.i ++
    beBytes 8 e.detail ++ beBytes 10 e.time ++ beBytes 2 e.rep ++ [0, 0, 0, 0]

/-- A learn-table entry of 16 bytes (Table 6.7). -/
def LearnEntry.bytes (e : LearnEntry) : Blob := beBytes 16 e.toNat

/-- A rule record of 64 bytes (Table 5.8), OP 01h. -/
def Rule.record (r : Rule) (set_ : Nat) : Blob :=
  beBytes 1 1 ++ beBytes 1 set_ ++ beBytes 1 r.tenant ++ List.replicate 5 0 ++ beBytes 8 r.action ++ beBytes 1 r.presence ++
    List.replicate 7 0 ++ r.key

/-- The mask set that holds rule entry i. -/
def State.setOf (s : State) (i : Nat) : Nat := ((List.range 16).find? (fun m => i < s.setBase (m + 1))).getD 0

/-- The blobs that the device derives from its state. The field widths of 7002h, 7021h and 7101h are a DESIGN CHOICE (log 33). -/
def State.derivedBlob (s : State) (p : Principal) (o i : Nat) : Option Blob :=
  let b := s.rel.boot
  match o with
  | 0x100A => some b.dieIds
  | 0x3107 => some (match tabGet? s.parser.rules i with | some r => r.record (s.setOf i) | none => List.replicate 64 0)
  | 0x3200 => some (beBytes 16 (match tabGet? s.tables.tries i with | some t => t.desc | none => 0))
  | 0x3229 => some (beBytes 512 ((s.tables.polarized.map (2 ^ ·)).sum))
  | 0x3318 => some (match (if i < 524288 then s.learnAt i else tabGet? s.tables.stash (i - 524288)) with
      | some e => e.bytes
      | none => List.replicate 16 0)
  | 0x4010 => some (s.strider.cards.flatMap FaultCard.bytes)
  | 0x5102 => some (let q := s.queue i
      beBytes 4 q.depth ++ beBytes 4 (q.copies.length + q.wire.length) ++ beBytes 6 q.ftag ++ beBytes 2 q.ringHead ++ beBytes 2 q.ringTail)
  | 0x6001 => some ((s.tenant i).faultLog.flatMap FaultEntry.bytes)
  | 0x6101 => some (s.ten.sched.flatMap Sched.bytes)
  | 0x7002 => some (let x := s.ring i
      beBytes 1 x.st.code ++ beBytes 8 x.write ++ beBytes 4 x.wraps ++ beBytes 4 x.seq ++ beBytes 4 (s.lapsHeld i) ++
        beBytes 6 x.trigLap ++ beBytes 1 x.cause)
  | 0x7021 => some ((List.range 2).flatMap (fun k => let x := s.slot i k
      beBytes 6 x.lap ++ beBytes 1 x.status ++ beBytes 8 x.used))
  | 0x7101 => some (let x := s.channel i
      beBytes 1 x.state ++ beBytes 2 x.capacity ++ beBytes 2 x.tRFC ++ beBytes 8 x.serial)
  | 0x7105 => some (tabGet s.dram.delays i [])
  | 0x7107 => some (tabGet s.dram.sweep i [])
  | 0x7122 => some (s.dram.poison.flatMap (beBytes 8))
  | 0x8033 => some (tabGet s.starter.extReplies (Principal.index p) [])
  | 0x8035 => some s.starter.extLog.flatten
  | 0xA000 => some (s.rel.errors.flatMap ErrRec.bytes)
  | 0xB000 => some s.staged
  | 0xB001 => some (let x := calBytes b.cal
      (x.drop 2).take 2 ++ beBytes 1 (nat01 (x != s.staged)) ++ [0] ++ (x.drop 26).take 4 ++ List.replicate 8 0)
  | 0xB002 | 0xB003 | 0xB004 | 0xB005 => some (let (off, len, _) := calSection o i
      (s.staged.drop off).take len)
  | 0xB010 => some (beBytes 2 b.pendCount ++ [0, 0] ++ beBytes 4 s.rel.flash.newest.count ++ beBytes 8 (b.storedAt / ns))
  | 0xB013 => some (beBytes 3 Config.flashId ++ [0] ++ beBytes 4 Config.flashSize ++ beBytes 4 (Config.flashErases s.rel.flash.operations) ++
      [0, 0, 0, 0])
  | _ => none

/-- A read of a blob or string object that its checks let through. 9011h clears its view; the identities of
firmware images are free values (log 154). -/
def State.readBlobObj (s : State) (p : Principal) (o i : Nat) : Blob × State :=
  match o with
  | 0x9011 => s.readAttention (Principal.index p)
  | 0xB021 =>
    let x := s.fwSlot i
    (beBytes 1 (nat01 x.valid) ++ [0, 0, 0] ++ beBytes 4 (s.firmwareId i) ++ beBytes 4 x.bytes ++ beBytes 4 x.writes, s)
  | _ => ((s.derivedBlob p o i).getD (s.blb o i), s)

/-- A read of an object by a principal under R388: the result, the value's bytes, and whether the value was given. -/
def State.readObj (s : State) (p : Principal) (o i ty : Nat) : Result × Blob × Bool × State :=
  match objRow? o with
  | none => (.noObject, [], false, s)
  | some r =>
    let zeros := List.replicate (r.ty.width.getD 0) 0
    if s.rel.boot.recovery && Principal.index p < 256 then (.state, [], false, s)
    else if !objHas r i || (s.rel.boot.recovery && !recoveryObject o) then (.noObject, [], false, s)
    else if ty != 0 && ty != r.ty.code then (.badType, [], false, s)
    else if (r.expert && !s.atExpert p) || r.acc == .w then (.ok, zeros, false, s)
    else if !s.readRight p o i then (.ok, zeros, false, s.count Obj.VIOLATIONS (Principal.index p))
    else match r.ty.width with
      | some w => let (v, s) := s.readNum p r i
        (.ok, beBytes w v, true, s)
      | none => let (b, s) := s.readBlobObj p o i
        (.ok, b, true, s)

end Sys2Proof.Machine
end

