-- ==== Sys2Proof/Machine/Boot.lean ====
section
/-! DEFINITION. The boot: the slot the ROM takes, the recovery responder, the load of the persisted set, and what the firmware sets up
before it serves requests (R425 to R431). -/

namespace Sys2Proof.Machine

/-- The slot the ROM reads next (R424, R425): slot A under BOOT_MODE 01b, the slot of the persisted set's header under 00b, and after a
failure the other one. None where the ROM reads no slot. -/
def Boot.wants (b : Boot) (f : Flash) : Option Nat :=
  if !b.starting || 1 < b.mode then none
  else match b.tried with
    | [] => some (if b.mode = 1 then 0 else tabGet f.newest.nums (objKey Obj.FW_BOOT_SLOT 0) 0)
    | [a] => some (1 - a)
    | _ => none

/-- ROM_RECOVERY_ENTRY (R426): core 0 runs the ROM recovery responder. -/
def State.enterRecovery (s : State) : State :=
  let s := { s with rel.boot.recovery := true }.modCore 0 (fun k => { k with st := .running, wdog := s.time.gun })
  (s.raise 6 none Obj.HALT_STATE).emit (.safeN true)

/-- The persisted values in ascending object number: a number or bytes by key. -/
def PersistCopy.values (c : PersistCopy) : Tab (Option Nat × Blob) :=
  c.blobs.foldl (fun t (e : Nat × Blob) => tabSet t e.1 (none, e.2)) (c.nums.map (fun (e : Nat × Nat) => (e.1, (some e.2, []))))

/-- Applies one persisted value as its object's rules say; one they refuse leaves the set, counted and with attention 1 (R410). -/
def State.applyPersisted (s : State) (e : Nat × (Option Nat × Blob)) : State :=
  let o := e.1 / 2 ^ 20
  let i := e.1 % 2 ^ 20
  let x := match e.2.1 with
    | some v => applyNum (.fw 0) o i v s
    | none => applyBlob (.fw 0) o i e.2.2 s
  if x.2 == .ok then x.1
  else
    let s := (s.count Obj.PERSIST_REJECTS).raise 1 none Obj.PERSIST_REJECTS
    { s with
      rel.boot.persistSet.nums := tabDel s.rel.boot.persistSet.nums e.1
      rel.boot.persistSet.blobs := tabDel s.rel.boot.persistSet.blobs e.1 }

/-- PERSISTED_SET_LOAD (R409, R410): the newest copy, value by value; a set that lost a value is stored again within 1.0 s. -/
def State.loadPersisted (s : State) : State :=
  let c := s.rel.flash.newest
  let s := { s with rel.boot.persistSet := c }
  let before := s.cfg Obj.PERSIST_REJECTS
  let s := c.values.foldl State.applyPersisted s
  let lost := s.cfg Obj.PERSIST_REJECTS - before
  { s with rel.boot.pendCount := lost, rel.boot.pendSince := if lost = 0 then none else some s.time.ticks }

/-- The default image of a firmware slot (R430): entries 0 and 1, no init entry; its text and identity are free values (log 2). -/
def defaultImage (id crc a0 a1 : Nat) (text : Blob) : Image where
  id := id % 2 ^ 32
  base := 0x2000
  text := text.take 0xE000
  init := none
  entries := [(0, (0x2000 + a0 % 0x7000 * 2, 0)), (1, (0x2000 + a1 % 0x7000 * 2, 0))]
  crc := crc % 2 ^ 32

/-- The default image goes into every squad. -/
def State.defaultImages (s : State) : State :=
  let (n, s) := s.draw
  let (a, s) := s.draw
  let (text, s) := s.drawBytes
  let (blob, s) := s.drawBytes
  let m := defaultImage n (n / 2 ^ 32) a (a / 2 ^ 32) text
  (List.range 12).foldl (fun s k =>
    ((s.writeText k m).setBlb Obj.IMAGE k blob).modSquad k (fun q => { q with image := some m })) s

/-- The forwarding path of the pinned relay program, as R260 prints it from 0000h on. The rest of the program, which the manual does not print, is
zero (log 3). -/
def relayProgram : Blob :=
  [0xF0, 0x20, 0x00, 0x04, 0x91, 0x81, 0xDC, 0x20, 0xE4, 0x0C, 0xDC, 0x28, 0xC0, 0x34, 0x90, 0xA8, 0xC4, 0x31, 0x3F, 0xFF, 0x7B, 0x08,
   0xDC, 0x38, 0xCE, 0x3C, 0x5B, 0x8D, 0x90, 0x00, 0xF0, 0x60, 0x04, 0x00, 0xB8, 0x03, 0xC4, 0x31, 0x3F, 0xFE, 0x73, 0x7A, 0x90, 0x00,
   0xF0, 0x61, 0x00, 0x00, 0xB8, 0x03]

/-- The relay program goes into every local store, under its identity, a free value (R194, R225). -/
def State.writeRelayProgram (s : State) : State :=
  let (n, s) := s.draw
  { s.setCfg Obj.RELAY_PROGRAM_ID 0 (n % 2 ^ 32) with strider.pinned := memWriteN [] 0 relayProgram }

/-- A core begins to run the firmware: at an address that is a free value (log 2). -/
def State.startFirmware (s : State) (k : Nat) : State :=
  let (n, s) := s.draw
  s.modCore k (fun _ => { Core.reset with
    st := .running, wdog := s.time.gun, ctx := { Ctx.reset with pc := BitVec.ofNat 32 n } })

/-- BOOT_L0_RELEASE (R429): core 0 releases L0, which wakes the others; they run firmware. -/
def State.releaseL0 (s : State) : State :=
  s.setLock 0 { s.lock 0 with holder := none, abandoned := false, waiters := [], releases := ((s.lock 0).releases + 1) % 2 ^ 32 }

/-- What firmware does before 126 ms: persisted values, AVS, DRAM, seed, default images, squad wakes, event latches, tokens, ports. -/
def State.bootFirmware (s : State) (slot : Nat) (dram : List Bool) : State :=
  let s := { s with rel.boot.runningSlot := slot, starter.store := memWriteN [] 0x100000 (s.fwSlot slot).image }
  let s := (List.range 4).foldl State.startFirmware s.releaseL0
  let s := s.loadPersisted.recomputeAvs
  let valid := beAt (calBytes s.rel.boot.cal) 3 1
  let s := if bit valid 3 then s else s.raise 2 none Obj.CAL_STATUS
  let s := s.dramInit (calBytes s.rel.boot.cal) (if s.rel.boot.straps.getLsbD 3 && bit valid 2 then dram else dram.map (fun _ => false))
  let (seed, s) := s.draw
  let s := { s with tables.seed := seed % 2 ^ 128 }
  let s := s.writeRelayProgram.defaultImages
  let s := (List.range 12).foldl (fun s k =>
    if (s.squad k).st == .gated && s.cfg Obj.SQUAD_MODE k != 0 then s.wakeSquad k else s) s
  let s := (List.range 12).foldl (fun s k => (applySquadEvent k 1 s).1) s
  let s := (List.range 7).foldl (fun s q =>
    { s with starter.queues := tabSet s.starter.queues q { s.workq q with tokens := beAt (s.blb Obj.WORKQ_CONFIG q) 4 2 } }) s
  let s := { s with rel.boot.bar2 := s.cfg Obj.PCIE_BAR2_SIZE, rel.boot.firmware := true }
  (List.range 16).foldl (fun s p =>
    if (s.port p).st == .disabled && s.cfg Obj.PORT_ENABLE p = 1 then s.setPortState p .down else s) s

/-- FIRMWARE_VERIFIED (R425): the slot the ROM reads verifies and boots, or fails; once both failed, the recovery responder runs. -/
def execFirmwareVerified (slot : Nat) (good : Bool) (dram : List Bool) (s : State) : Host.Outcome State Fault Refusal :=
  if s.rel.boot.wants s.rel.flash != some slot then .next s
  else if good then .next ((s.modSlot slot (fun x => { x with valid := true })).bootFirmware slot dram)
  else
    let s := (s.modSlot slot (fun x => { x with valid := false }))
    let s := { s with rel.boot.tried := slot :: s.rel.boot.tried }
    .next (if s.rel.boot.tried.length < 2 then s else s.enterRecovery)

end Sys2Proof.Machine
end

