-- ==== Sys2Proof/Machine/Mgmt.lean ====
section
/-! DEFINITION. The message, its operations, blobs in segments, group writes, sequence numbers, the mailboxes and the sessions
(R372 to R397, R435). -/

namespace Sys2Proof.Machine

/-! ## The message (R374, R376) -/

/-- The codes of Table 13.5. -/
def Result.code : Result → Nat
  | .ok => 0 | .busy => 1 | .noObject => 2 | .badType => 3 | .range => 4 | .overcommit => 5 | .partialRes => 6 | .state => 7
  | .seq => 8 | .internal => 0x1F

/-- The header of a message (Table 13.2). -/
def msgHeader (type seq bib count len status hint : Nat) : Blob :=
  [1] ++ beBytes 1 type ++ beBytes 2 seq ++ beBytes 8 bib ++ beBytes 1 count ++ [0] ++ beBytes 2 len ++ beBytes 1 status ++ [0] ++
    beBytes 2 (min hint 65535) ++ [0, 0, 0, 0]

/-- SEQ of a message. -/
def msgSeq (m : Blob) : Nat := beAt m 2 2

/-- The operations of a body: header and data of each; none where they do not fill it exactly. A READ carries no data. -/
def opsOf : Nat → Blob → Option (List (Blob × Blob))
  | 0, b => if b.isEmpty then some [] else none
  | n + 1, b =>
    let d := if beAt b 0 1 = 1 then 0 else beAt b 16 2
    if b.length < 20 + d then none
    else (opsOf n (b.drop (20 + d))).map (fun r => (b.take 20, (b.drop 20).take d) :: r)

/-- The RESULT of each operation of a reply. -/
def replyResults : Nat → Blob → List Nat
  | 0, _ => []
  | n + 1, b => beAt b 19 1 % 32 :: replyResults n (b.drop (20 + beAt b 16 2))

/-- The operations of a request, where R375 finds the message well formed. -/
def requestOps (m : Blob) : Option (List (Blob × Blob)) :=
  let n := beAt m 12 1
  if m.length < 24 + beAt m 14 2 || n = 0 || 32 < n then none else opsOf n ((m.drop 24).take (beAt m 14 2))

/-- The longest message of a path (R374). -/
def Path.limit : Path → Nat
  | .mailbox _ => 2040
  | .inband _ _ _ => 16000
  | .fieldNet => 1500

/-- Whether R375 discards a message. -/
def State.discardsMsg (s : State) (path : Path) (m : Blob) : Bool :=
  let bib := beAt m 4 8
  m.length < 24 || beAt m 0 1 != 1 || beAt m 1 1 != 1 ||
    !(bib == s.rel.boot.bib || (bib == 0 && path != .fieldNet))

/-- Changes the state of a principal instance. -/
def State.modSession (s : State) (v : Nat) (f : Session → Session) : State :=
  { s with mgmt.sessions := tabUpd s.mgmt.sessions v .reset f }

/-! ## Blobs (R379, R380) -/

/-- The bytes that the open assemblies hold, with B020h written through counting nothing. -/
def State.assembled (s : State) : Nat :=
  (s.mgmt.sessions.map (fun (e : Nat × Session) => match e.2.assembly with
    | some a => if s.noDram && a.o == Obj.FW_IMAGE then 0 else a.total
    | none => 0)).sum

/-- Whether an opening segment of `total` bytes finds room: OVERCOMMIT, or BUSY behind another instance's under the responder. -/
def State.opens (s : State) (v o total : Nat) : Option Result :=
  if s.rel.boot.recovery then
    if s.mgmt.sessions.any (fun (e : Nat × Session) => e.1 != v && e.2.assembly.isSome) then some .busy
    else if 3824 * 1024 < total then some .overcommit else none
  else if s.noDram then
    if o = Obj.FW_IMAGE then none else if 256 * 1024 < s.assembled + total then some .overcommit else none
  else if 64 * 2 ^ 20 < total || 256 * 2 ^ 20 < s.assembled + total then some .overcommit
  else none

/-- R423 without DRAM: the opening segment of an image that may be written erases its slot; STATE where the slot may not be written. -/
def State.openSlot (s : State) (p : Principal) (n : Nat) : State × Option Result :=
  match (s.checkWrite p Obj.FW_IMAGE n 14 []).2 with
  | some _ => (s, none)
  | none =>
    if n = s.rel.boot.runningSlot || s.rel.flash.busy.any (fun x => x.isCommit || x.isSlot) then (s, some .state)
    else (s.modSlot n (fun x => { x with valid := false, image := [], bytes := 0 }), none)

/-- Writes an assembled blob: the result and, where it is PARTIAL, its bitmap (R382). -/
def State.writeWhole (s : State) (p : Principal) (o i : Nat) (b : Blob) : State × Result × Blob :=
  let x := s.writeObj p o i 14 b
  (x.1, x.2, if x.2 == .partialRes then (applyLearnStaticData b s).2 else [])

/-- A segment whose object and type hold: `a` is the assembly it goes into (R379). -/
def State.addSegment (s : State) (p : Principal) (a : Assembly) (last : Bool) (d : Blob) : State × Result × Blob :=
  let v := Principal.index p
  let bytes := a.bytes ++ d
  let close (s : State) : State := s.modSession v (fun x => { x with assembly := none })
  if a.total < bytes.length || (last && bytes.length < a.total) || (!last && bytes.length = a.total) then (close s, .range, [])
  else if last then (close s).writeWhole p a.o a.i bytes
  else
    let s := if s.noDram && a.o == Obj.FW_IMAGE && (s.checkWrite p a.o a.i 14 []).2.isNone then
        s.modSlot a.i (fun x => { x with image := bytes, bytes := bytes.length })
      else s
    (s.modSession v (fun x => { x with assembly := some { a with bytes := bytes, last := s.time.ticks } }), .ok, [])

/-- A WRITE segment of a blob object (R379). -/
def State.segment (s : State) (p : Principal) (o i ty off total : Nat) (last : Bool) (d : Blob) : State × Result × Blob :=
  let v := Principal.index p
  let close (s : State) : State := s.modSession v (fun x => { x with assembly := none })
  if ty != 14 then (close s, .badType, [])
  else if off = 0 then
    let s := close s
    match s.opens v o total with
    | some r => (s, r, [])
    | none =>
      let x : State × Option Result := if s.noDram && o == Obj.FW_IMAGE then s.openSlot p i else (s, none)
      match x.2 with
      | some r => (x.1, r, [])
      | none => x.1.addSegment p ⟨o, i, total, [], s.time.ticks⟩ last d
  else match (s.session v).assembly with
    | none => (close s, .state, [])
    | some a =>
      if a.o != o || a.i != i || off != a.bytes.length then (close s, .state, [])
      else s.addSegment p a last d

/-- What an operation answers: TOTAL and FLAGS of its reply where it sets them, the data and the result. -/
structure OpOut where
  total : Option Nat
  flags : Option Nat
  data : Blob
  result : Result

/-- An operation without data in its reply. -/
def OpOut.plain (r : Result) : OpOut := ⟨none, none, [], r⟩

/-- A READ (R378, R380): `want` is the most bytes of a blob, 0 as many as fit; `room` is what the reply has left. A READ that fails
has no effect. -/
def State.readOp (s : State) (p : Principal) (o i ty off want room : Nat) : OpOut × State :=
  let v := Principal.index p
  let (r, b, given, t) := s.readObj p o i ty
  if r != .ok then (.plain r, t)
  else if typeCode o != 14 then (if room < b.length then (.plain .range, s) else (⟨none, none, b, .ok⟩, t))
  else if !given then (⟨some 0, some 1, [], .ok⟩, t)
  else
    let g := tabGet s.mgmt.gens (genKey o i) 0
    if off != 0 && tabGet? (s.session v).gens (objKey o i) != some g then (.plain .state, s)
    else if b.length < off then (.plain .range, s)
    else
      let n := if want = 0 then room else min want room
      let d := (b.drop off).take n
      let t := if off = 0 then t.modSession v (fun x => { x with gens := tabSet x.gens (objKey o i) g }) else t
      (⟨some b.length, some (nat01 (off + d.length == b.length)), d, .ok⟩, t)

/-- Applies a group write's instances in ascending order; one without the right is ignored and reported as applied (R381, R391). -/
def State.groupApply (s : State) (p : Principal) (o i ty w : Nat) : Nat → Blob → State × List Bool
  | 0, _ => (s, [])
  | n + 1, b =>
    let x := s.writeObj p o i ty (b.take w)
    let (s, ks) := x.1.groupApply p o (i + 1) ty w n (b.drop w)
    (s, (x.2 == .ok) :: ks)

/-- A bitmap of units, unit 0 in bit 7 of byte 0 (R382). -/
def unitBits (ks : List Bool) : Blob :=
  (List.range ((ks.length + 7) / 8)).map (fun j =>
    BitVec.ofNat 8 ((List.range 8).foldl (fun n k => n * 2 + nat01 (ks.getD (8 * j + k) false)) 0))

/-- A GROUP_WRITE (R381): every instance is checked first, the lowest failing one gives the result. -/
def State.groupOp (s : State) (p : Principal) (o i n ty : Nat) (d : Blob) : OpOut × State :=
  match objRow? o with
  | none => (.plain .noObject, s)
  | some r =>
    if s.rel.boot.recovery && Principal.index p < 256 then (.plain .state, s)
    else if !objHas r i || (s.rel.boot.recovery && !recoveryObject o) then (.plain .noObject, s)
    else match r.ty.width with
    | none => (.plain .badType, s)
    | some w =>
      if ty != r.ty.code then (.plain .badType, s)
      else if n = 0 || 64 < n then (.plain .range, s)
      else if d.length != n * w then (.plain .badType, s)
      else if !(List.range n).all (fun k => objHas r (i + k)) then (.plain .noObject, s)
      else if r.expert && !s.atExpert p then (.plain .ok, s)
      else if (List.range n).any (fun k => (applyNum p o (i + k) (beNat ((d.drop (k * w)).take w)) s).2 == .range) then (.plain .range, s)
      else
        let (s, ks) := s.groupApply p o i ty w n d
        if ks.all id then (.plain .ok, s) else (⟨none, none, unitBits ks, .partialRes⟩, s)

/-! ## Operations (R376 to R378) -/

/-- What one operation does: `h` is its header, `d` its data, `room` what the reply has left for data. -/
def State.runOperation (s : State) (p : Principal) (h d : Blob) (room : Nat) : OpOut × State :=
  let o := beAt h 2 2
  let i := beAt h 4 2
  let n := beAt h 6 2
  let ty := beAt h 18 1
  let has : Bool := match objRow? o with
    | some r => objHas r i && !(s.rel.boot.recovery && !recoveryObject o)
    | none => false
  match beAt h 0 1 with
  | 1 =>
    if has && n != 1 then (.plain .range, s)
    else s.readOp p o i ty (beAt h 8 4) (beAt h 16 2) room
  | 2 =>
    if typeCode o == 14 then
      if s.rel.boot.recovery && Principal.index p < 256 then (.plain .state, s)
      else if !has then (.plain .noObject, s.modSession (Principal.index p) (fun x => { x with assembly := none }))
      else if n != 1 then (.plain .range, s)
      else
        let x := s.segment p o i ty (beAt h 8 4) (beAt h 12 4) (bit (beAt h 1 1) 0) d
        (⟨none, none, x.2.2, x.2.1⟩, x.1)
    else if has && n != 1 then (.plain .range, s)
    else
      let x := s.writeObj p o i ty d
      (.plain x.2, x.1)
  | 3 => s.groupOp p o i n ty d
  | _ => (.plain .range, s)

/-- An operation's part of the reply: its header with DLEN, TOTAL, RESULT and FLAGS filled in, the reserved bits of FLAGS zero (R4), and
its data. -/
def OpOut.bytes (x : OpOut) (h : Blob) : Blob :=
  h.take 1 ++ beBytes 1 (x.flags.getD (beAt h 1 1) % 2) ++ (h.drop 2).take 10 ++ beBytes 4 (x.total.getD (beAt h 12 4)) ++
    beBytes 2 x.data.length ++ (h.drop 18).take 1 ++ beBytes 1 x.result.code ++ x.data

/-- The bytes a reply keeps for an operation that is still to come: its header and a bitmap. -/
def opReserve (h : Blob) : Nat :=
  20 + (if beAt h 0 1 = 3 then (beAt h 6 2 + 7) / 8 else if beAt h 0 1 = 2 && beAt h 2 2 = Obj.LEARN_STATIC then 128 else 0)

/-- What the operations of a request have answered so far: the body, the first result that is not OK, where in the body the RESULT
of an operation stands that waits for the flash, the loads and batches accepted, and whether one asked for a device reset (R434). -/
structure Answer where
  body : Blob
  first : Result
  waits : Option Nat
  jobs : List Nat
  resets : List Nat
  silent : Bool

/-- Whether an operation is a write of 1 to 1010h that its principal may make. -/
def State.asksReset (s : State) (p : Principal) (h d : Blob) : Bool :=
  (beAt h 0 1 == 2 || beAt h 0 1 == 3) && beAt h 2 2 == Obj.RESET_REQUEST && beAt h 4 2 == 0 && beNat d == 1 &&
    (s.checkWrite p Obj.RESET_REQUEST 0 (beAt h 18 1) d).2.isNone

/-- Runs the operations of a request in order, each seeing the effects of those before it; a failure stops none (R378). -/
def State.runRequest (s : State) (p : Principal) (limit : Nat) : List (Blob × Blob) → Answer → Answer × State
  | [], a => (a, s)
  | (h, d) :: rest, a =>
    let later := (rest.map (fun x => opReserve x.1)).sum
    let (x, t) := s.runOperation p h d (limit - (24 + a.body.length + 20 + later))
    let waits : Bool := s.rel.flash.busy.length < t.rel.flash.busy.length
    t.runRequest p limit rest {
      body := a.body ++ x.bytes h
      first := if a.first == .ok then x.result else a.first
      waits := if waits then some (24 + a.body.length + 19) else a.waits
      jobs := a.jobs ++ (List.range (t.tables.jobNo - s.tables.jobNo)).map (s.tables.jobNo + ·)
      resets := a.resets ++ t.resetsDue.filter (fun k => !s.resetsDue.contains k)
      silent := a.silent || (s.asksReset p h d && x.result == .ok) }

/-! ## Replies (R383, R385, R395, R397) -/

/-- A reply's bytes with the attention in force in STATUS [7:5]. -/
def withAttention (m : Blob) (a : Nat) : Blob := overwrite m 16 (beBytes 1 (a * 32 + beAt m 16 1 % 32))

/-! ## The field network's frames (R398, R399) -/

/-- FIELD_EN (R468). -/
def State.fieldOn (s : State) : Bool := s.rel.boot.straps.getLsbD 7

/-- Whether this device is call-room master. -/
def State.isMaster (s : State) : Bool := s.fieldOn && s.cfg Obj.FIELD_MASTER == 1

/-- The field address of a node ID (R399). -/
def fieldAddr (node : Nat) : Nat := 0x025A00000000 + node

/-- The node ID the device answers at: 0 while it is call-room master. -/
def State.fieldNode (s : State) : Nat := if s.isMaster then 0 else s.mgmt.room.node

/-- An Ethernet II frame from one address to another with a message, padded to 64 bytes with its FCS. -/
def fieldFrame (dst src : Nat) (m : Blob) : Blob :=
  let b := beBytes 6 dst ++ beBytes 6 src ++ [0x88, 0xB5] ++ m
  let b := b ++ List.replicate (60 - b.length) 0
  b ++ fcs b

/-- Sends a message on the field network. -/
def State.sendField (s : State) (dst : Nat) (m : Blob) : State := s.emit (.field (fieldFrame dst (fieldAddr s.fieldNode) m))

/-- The frame that carries a reply in-band (R397): `w` is the request's frame, its message `len` bytes from the end. -/
def State.replyFrame (s : State) (port : Nat) (w : Blob) (len : Nat) (m : Blob) : Blob :=
  if isPsiot port then
    let h : FabricHdr := ⟨fhSrc w, ownDevice (s.cfg Obj.DEVICE_ID) (fhDest w / 2 ^ 24 * 2 ^ 24), 3, 0, 2, m.length, 0, false, false, 0⟩
    h.bytes ++ m
  else (w.drop 6).take 6 ++ w.take 6 ++ (w.take (w.length - len - 2)).drop 12 ++ [0x88, 0xB5] ++ m

/-- Sends a reply over the path of its request, in-band as a frame of the Starter that waits for its cells (R269); `frame` is the frame that carried the request, `len` the message's length. -/
def State.sendReply (s : State) (path : Path) (frame : Blob) (len : Nat) (m : Blob) : State :=
  let m := withAttention m (s.attention (Principal.index (Path.principal path)))
  match path with
  | .mailbox f =>
    { s with mgmt.mailboxes := tabUpd s.mgmt.mailboxes f .reset (fun x =>
        if x.dropReply then { x with dropReply := false } else { x with st := 2, reply := m }) }
  | .fieldNet => s.sendField (beAt frame 6 6) m
  | .inband port sub t => (s.starterQueue (s.replyFrame port frame len m) 3 port sub (t == 0)).starterFlush

/-- A reply that executes nothing: it carries no operations (log 36). -/
def State.bareReply (s : State) (m : Blob) (r : Result) (hint : Nat) : Blob :=
  msgHeader 2 (msgSeq m) s.rel.boot.bib 0 0 r.code hint

/-! ## REQUEST (R386) -/

/-- The work queue of a principal (Table 12.9). -/
def queueOf : Principal → Nat
  | .host => 0
  | .tenant _ => 1
  | _ => 2

/-- Whether a principal's work queue, or a tenant's share of it, is full (R366). -/
def State.queueFull (s : State) (p : Principal) : Bool :=
  let items := (s.workq (queueOf p)).items
  workqDepth (queueOf p) ≤ items.length || (match p with
    | .tenant t => 16 ≤ (items.filter (fun x => x.tenant == t)).length
    | _ => false)

/-- The retry hint of R366 in µs. -/
def State.hint (s : State) (q : Nat) : Nat :=
  let rate := beAt (s.blb Obj.WORKQ_CONFIG q) 0 4
  if rate = 0 then 65535 else (1000 * ((s.workq q).items.length + 1) + rate - 1) / rate

/-- A new pending entry of a reply cache, in place of the oldest that is not pending once there are eight. -/
def cacheEnter (c : List Cached) (seq : Nat) : List Cached :=
  (if c.length < 8 then c
   else match c.findIdx? (fun x => x.reply.isSome) with
    | some k => c.eraseIdx k
    | none => c) ++ [⟨seq, none⟩]

/-- Stores the reply of a request in its cache entry. -/
def cacheStore (c : List Cached) (seq : Nat) (m : Blob) : List Cached :=
  if c.any (fun x => x.seq == seq) then c.map (fun x => if x.seq == seq then ⟨seq, some m⟩ else x)
  else cacheEnter c seq |>.map (fun x => if x.seq == seq then ⟨seq, some m⟩ else x)

/-- Passes a request through its work queue: the high mark, and the item served (R364, log 37). -/
def State.passQueue (s : State) (q : Nat) : State :=
  let w := s.workq q
  { s with
    starter.nextHandle := s.starter.nextHandle + 1
    starter.queues := tabSet s.starter.queues q { w with
      high := max w.high (w.items.length + 1), waits := w.waitsWith s.time.ticks 0 } }.count Obj.WORKQ_SERVED q

/-- Whether a held reply waits for nothing more. -/
def Held.due (h : Held) : Bool := h.at_.isNone && h.jobs.isEmpty && h.resets.isEmpty

/-- Sends a reply that waits for nothing more, and keeps it in its cache. -/
def State.deliver (s : State) (h : Held) : State :=
  let s := s.modSession h.view (fun x => { x with cache := cacheStore x.cache h.seq h.reply })
  if h.dropped then s else s.sendReply h.path h.frame h.len h.reply

/-- Sends the held replies that wait for nothing more, oldest first. -/
def State.deliverDue (s : State) : State :=
  (s.mgmt.held.filter Held.due).foldl State.deliver { s with mgmt.held := s.mgmt.held.filter (fun h => !h.due) }

/-- TRIE_FLIP (R173): the oldest accepted load or batch completes with one atomic flip, and its reply is sent. -/
def execTrieFlip (s : State) : Host.Outcome State Fault Refusal :=
  match s.tables.jobs with
  | [] => .next s
  | (n, j) :: rest =>
    let s := s.flip n j rest
    if s.mgmt.held.any (fun h => h.jobs.contains j.no) then
      .next (State.deliverDue { s with mgmt.held := s.mgmt.held.map (fun h => { h with jobs := h.jobs.filter (· != j.no) }) })
    else .next (State.answer (s, .ok))

/-- The reply that waits for the reset of a squad goes out once the squad neither drains nor loads (R434). -/
def State.squadReply (s : State) (k : Nat) : State :=
  let q := s.squad k
  if !q.asked || q.busy then s
  else
    let s := s.modSquad k (fun q => { q with asked := false })
    if s.mgmt.held.any (fun h => h.resets.contains k) then
      State.deliverDue { s with mgmt.held := s.mgmt.held.map (fun h => { h with resets := h.resets.filter (· != k) }) }
    else State.answer (s, .ok)

/-- DRAIN_COMPLETE (R221, R224, R432): every thread of a draining squad is FREE. -/
def execDrainComplete (sq : Nat) (s : State) : Host.Outcome State Fault Refusal := .next ((s.drained sq).squadReply sq)

/-- INIT_TIMEOUT (R221): the init entry has not ended within 10 ms. -/
def execInitTimeout (sq : Nat) (s : State) : Host.Outcome State Fault Refusal := .next ((s.loadLate sq).squadReply sq)

/-- THREAD_FREE (R205, R217, R221): an ENDING thread becomes FREE; with an init entry a load ends, and the reset it was part of. -/
def execThreadFree (tid : Nat) (s : State) : Host.Outcome State Fault Refusal :=
  .next ((s.threadEnds tid).squadReply (squadOf tid))

/-- Executes an accepted request and answers it, with a retry hint where an operation was BUSY. A reply waits where an operation waits for
the flash, a flip or the reset of a squad; none goes out where the request asked for a device reset (R434). -/
def State.execute (s : State) (path : Path) (frame m : Blob) (ops : List (Blob × Blob)) : State :=
  let p := Path.principal path
  let v := Principal.index p
  let seq := msgSeq m
  let s := (s.passQueue (queueOf p)).modSession v (fun x => { x with
    lastSeq := some seq, cache := cacheEnter (if bit (beAt m 13 1) 0 then [] else x.cache) seq })
  let (a, s) := s.runRequest p (Path.limit path) ops ⟨[], .ok, none, [], [], false⟩
  let (hint, s) := s.retryHint a.first
  let r := msgHeader 2 seq s.rel.boot.bib ops.length a.body.length a.first.code hint ++ a.body
  if a.silent then s
  else
    let h : Held := ⟨path, v, seq, frame, m.length, r, a.waits, a.jobs, a.resets, false⟩
    if h.due then s.deliver h else { s with mgmt.held := s.mgmt.held ++ [h] }

/-- What the front end does with a request that it takes; none where the request waits for an earlier one of its instance. -/
def State.frontEnd (s : State) (path : Path) (frame m : Blob) : Option State :=
  let p := Path.principal path
  let v := Principal.index p
  let seq := msgSeq m
  let bare (s : State) (r : Result) (hint : Nat) : Option State := some (s.sendReply path frame m.length (s.bareReply m r hint))
  if !s.rel.boot.firmware && !s.rel.boot.recovery then bare s .busy 10000
  else match requestOps m with
  | none => bare s .range 0
  | some ops =>
    let s := s.modSession v (fun x => { x with lastReq := s.time.ticks })
    let x := s.session v
    let resync := bit (beAt m 13 1) 0
    match x.cache.find? (fun c => c.seq == seq) with
    | some c => match c.reply with
      | some r => some ((s.count Obj.CACHED_REPLIES).sendReply path frame m.length r)
      | none => none
    | none =>
      let stale : Bool := match x.lastSeq with
        | some h => !resync && (let d := (seq + 65536 - h) % 65536; d == 0 || 32768 ≤ d)
        | none => false
      if stale then bare (s.count Obj.SEQ_REFUSALS) .seq 0
      else if s.queueFull p || (8 ≤ x.cache.length && x.cache.all (fun c => c.reply.isNone)) then
        let s := if s.queueFull p then s.count Obj.WORKQ_OVERFLOWS (queueOf p) else s
        bare (s.count Obj.BUSY_REPLIES (queueOf p)) .busy (s.hint (queueOf p))
      else if resync && x.cache.any (fun c => c.reply.isNone) then none
      else some (s.execute path frame m ops)

/-- The end of a mailbox's submission that R375 discards (R395). -/
def State.idleMailbox (s : State) (path : Path) : State :=
  match path with
  | .mailbox f => { s with mgmt.mailboxes := tabUpd s.mgmt.mailboxes f .reset (fun x => { x with st := 0 }) }
  | _ => s

/-- Whether a message waits on a path, the frame that carried it, and the state once it is taken: a mailbox that is busy with it, or a
delivered frame. -/
def State.takeMessage (s : State) (path : Path) (m : Blob) : Option (Blob × State) :=
  match path with
  | .mailbox f =>
    let x := tabGet s.mgmt.mailboxes f Mailbox.reset
    if f ≤ 256 && x.st == 1 && x.request == m then some ([], s) else none
  | _ => match s.mgmt.inbox.findIdx? (fun x => x.path == path && x.msg == m) with
    | some k => some (((s.mgmt.inbox[k]?).map Inbound.frame).getD [], { s with mgmt.inbox := s.mgmt.inbox.eraseIdx k })
    | none => none

/-- REQUEST (R386): a message that waits is taken whole: discarded, answered, or executed. -/
def execRequest (path : Path) (msg : Blob) (s : State) : Host.Outcome State Fault Refusal :=
  match s.takeMessage path msg with
  | none => .next s
  | some (frame, t) =>
    if t.discardsMsg path msg then .next ((t.count Obj.MESSAGE_DISCARDS).idleMailbox path)
    else match t.frontEnd path frame msg with
      | some t => .next t
      | none => .next s

/-- The object that a flash operation was asked for through, and its instance. -/
def FlashOp.target : FlashOp → Nat × Nat
  | .persist _ => (0, 0)
  | .commit _ => (Obj.CAL_COMMIT, 0)
  | .slot n _ => (Obj.FW_IMAGE, n)

/-- FLASH_OPERATION_COMPLETE (R435): the operation's effect and vector 28; the reply that waited for a commit or a slot write is sent,
INTERNAL where it failed, which the error log records with SOURCE 0Fh (R418, R420, R423; its severity and attention: log 160). -/
def execFlashOperationComplete (ok : Bool) (s : State) : Host.Outcome State Fault Refusal :=
  match s.rel.flash.busy with
  | [] => .next s
  | op :: _ =>
    let s := s.flashEnd ok
    if op.isCommit || op.isSlot then
      let s := if ok then s else s.logError 0x0F 1 0 none op.target.1 op.target.2 (op.target.1 + op.target.2 * 65536)
      match s.mgmt.held.find? (fun h => h.at_.isSome) with
      | none => .next { s with reply := ⟨if ok then .ok else .internal, [], 0⟩ }
      | some h =>
        let m := overwrite h.reply (h.at_.getD 0) [0x1F]
        let first := ((replyResults (beAt m 12 1) (m.drop 24)).find? (fun n => n != 0)).getD 0x1F
        let r := if ok then h.reply else overwrite m 16 (beBytes 1 first)
        let s := { s with mgmt.held := s.mgmt.held.map (fun x => if x = h then { x with at_ := none, reply := r } else x) }
        .next s.deliverDue
    else .next s

/-! ## Mailboxes and time-outs (R379, R393, R395) -/

/-- MAILBOX_DOORBELL (R395): the request is taken as it stands and the mailbox becomes busy; while it is busy, and for a length outside
24 to 2,040, the write is discarded and counted. -/
def execMailboxDoorbell (function len : Nat) (req : Blob) (s : State) : Host.Outcome State Fault Refusal :=
  if 256 < function then .next s
  else
    let x := tabGet s.mgmt.mailboxes function Mailbox.reset
    if x.st = 1 || len < 24 || 2040 < len then .next (s.count Obj.MAILBOX_ERRORS)
    else
      let snap := ((req ++ List.replicate 2040 0).take len)
      .next { s with mgmt.mailboxes := tabSet s.mgmt.mailboxes function { x with st := 1, request := snap } }

/-- ASSEMBLY_TIMEOUT (R379): an assembly that has had no segment for 10 s is discarded. -/
def execAssemblyTimeout (pi : Nat) (s : State) : Host.Outcome State Fault Refusal :=
  match (s.session pi).assembly with
  | some a =>
    if a.last + usTicks 10000000 ≤ s.time.ticks then .next (s.modSession pi (fun x => { x with assembly := none })) else .next s
  | none => .next s

/-- SESSION_IDLE_TIMEOUT (R393): a session without a request for the time of 9002h returns to basic level. -/
def execSessionIdleTimeout (pi : Nat) (s : State) : Host.Outcome State Fault Refusal :=
  let x := s.session pi
  if x.expert && x.lastReq + usTicks (x.idle * 1000000) ≤ s.time.ticks then .next (s.dropExpert pi) else .next s

end Sys2Proof.Machine
end

