-- ==== Sys2Proof/Machine/Field.lean ====
section
/-! DEFINITION. The field network and the call room (R398 to R403). -/

namespace Sys2Proof.Machine

/-! ## Frames (R398 to R400) -/

/-- The call-room multicast address (R399). -/
abbrev callRoom : Nat := 0x015A00000000

/-- Whether a message of a field frame is discarded (R375): `t` is its TYPE. -/
def State.fieldDiscards (s : State) (m : Blob) : Bool :=
  let t := beAt m 1 1
  let bib := beAt m 4 8
  m.length < 24 || beAt m 0 1 != 1 ||
    !((t == 1 && bib == s.rel.boot.bib) ||
      ([0x10, 0x11, 0x13, 0x15].contains t && (bib == 0 || bib == s.rel.boot.bib)) ||
      ((t == 0x12 || t == 0x14) && s.isMaster))

/-- FIELD_FRAME_RECEIVE (R398 to R400): `b` is a frame from its destination address up to its FCS. A request then waits for REQUEST; a
call-room message is then acted on by the command of its type (log 38). -/
def execFieldFrameReceive (fcsOk : Bool) (b : Blob) (s : State) : Host.Outcome State Fault Refusal :=
  if !s.fieldOn then .next s
  else if !fcsOk then .next (s.count Obj.FIELD_FCS_ERRORS)
  else if beAt b 0 6 != callRoom && beAt b 0 6 != fieldAddr s.fieldNode then .next s
  else if b.length < 60 || 1514 < b.length || beAt b 12 2 != 0x88B5 || s.fieldDiscards (b.drop 14) then
    .next (s.count Obj.MESSAGE_DISCARDS)
  else if beAt (b.drop 14) 1 1 = 1 then .next { s with mgmt.inbox := s.mgmt.inbox ++ [⟨.fieldNet, b.drop 14, b⟩] }
  else .next s

/-- The frame sent last on the field network. -/
def State.lastField (s : State) : Option Emission := s.out.reverse.find? (fun e => match e with
  | .field _ => true
  | _ => false)

/-- FIELD_COLLISION (R400): counted, and the frame is sent again. -/
def execFieldCollision (s : State) : Host.Outcome State Fault Refusal :=
  if s.fieldOn then .next (match s.lastField with
    | some e => (s.count Obj.FIELD_COLLISIONS).emit e
    | none => s.count Obj.FIELD_COLLISIONS)
  else .next s

/-! ## The device's side (R401, R402) -/

/-- A call-room message (Table 13.9). -/
def roomMsg (type bib : Nat) (body : Blob) : Blob := msgHeader type 0 bib 0 body.length 0 0 ++ body

/-- NODE_WITHDRAW: the node ID becomes 255 and the field principal is reset as a master. -/
def State.withdrawNode (s : State) : State := { s with mgmt.room.node := 255 }.resetField

/-- EPOCH_START (R402): a new epoch to take part in. -/
def execEpochStart (e window : Nat) (s : State) : Host.Outcome State Fault Refusal :=
  if s.fieldOn && e < 65536 && 1 ≤ window && window ≤ 64 && s.mgmt.room.epoch != some e then
    .next { s with mgmt.room := { s.mgmt.room with epoch := some e, takingPart := true, assigned := false, answer := none } }
  else .next s

/-- CALL_ROOM_QUERY (R399, R402): a QUERY whose prefix is this bib's schedules an ANSWER to the source address of its frame; its slot is a
free value. -/
def execCallRoomQuery (e plen window pfx src : Nat) (s : State) : Host.Outcome State Fault Refusal :=
  let r := s.mgmt.room
  if s.fieldOn && r.epoch == some e && r.takingPart && !r.assigned && plen ≤ 64 && 1 ≤ window && window ≤ 64 &&
      s.rel.boot.bib / 2 ^ (64 - plen) == pfx / 2 ^ (64 - plen) then
    let (n, s) := s.draw
    let t := s.time.ticks
    .next { s with mgmt.room.answer := some (t + usTicks (n % window * 128), t + usTicks (window * 128 + 1000), src) }
  else .next s

/-- ANSWER_SEND (R402): the slot has come, and the ANSWER goes to the master. -/
def execAnswerSend (s : State) : Host.Outcome State Fault Refusal :=
  let r := s.mgmt.room
  match r.answer with
  | some (a, d, src) =>
    if s.fieldOn && a ≤ s.time.ticks && s.time.ticks ≤ d then
      .next (({ s with mgmt.room.answer := none } : State).sendField src
        (roomMsg 0x12 s.rel.boot.bib (beBytes 2 (r.epoch.getD 0) ++ beBytes 1 r.node ++ [0])))
    else .next s
  | none => .next s

/-- ANSWER_ABANDON (R402): the ANSWER has not been sent in time. -/
def execAnswerAbandon (s : State) : Host.Outcome State Fault Refusal :=
  match s.mgmt.room.answer with
  | some (_, d, _) =>
    .next (if d ≤ s.time.ticks then { s with mgmt.room.answer := none }.count Obj.ANSWERS_ABANDONED else s)
  | none => .next s

/-- ASSIGN (R399, R402): a node ID for this bib, answered to the source address of the frame, or this device's ID given to another. -/
def execAssign (e node bib src : Nat) (s : State) : Host.Outcome State Fault Refusal :=
  let r := s.mgmt.room
  if s.fieldOn && r.epoch == some e && ((1 ≤ node && node ≤ 31) || node == 255) then
    if bib = s.rel.boot.bib then
      let s := if node ≠ r.node && r.node ≠ 255 then s.withdrawNode else s
      .next (({ s with mgmt.room := { s.mgmt.room with node := node, assigned := true } } : State).sendField src
        (roomMsg 0x14 bib (beBytes 2 e ++ beBytes 1 node)))
    else .next (if node = r.node then s.withdrawNode else s)
  else .next s

/-- EPOCH_END (R402): a device that two epochs have not found gives up its node ID. -/
def execEpochEnd (e : Nat) (found : List (Nat × Nat)) (s : State) : Host.Outcome State Fault Refusal :=
  let r := s.mgmt.room
  if s.fieldOn && r.epoch == some e && r.takingPart then
    if found.any (fun x => x.1 == s.rel.boot.bib) then .next { s with mgmt.room.misses := 0 }
    else
      let s := { s with mgmt.room.misses := r.misses + 1 }
      .next (if r.misses + 1 = 2 then s.withdrawNode else s)
  else .next s

/-! ## The master's side (R403) -/

/-- Changes the master's record. -/
def State.modMaster (s : State) (f : Master → Master) : State := { s with mgmt.master := f s.mgmt.master }

/-- A message of the master to the call room. -/
def State.announce (s : State) (type : Nat) (body : Blob) : State := s.sendField callRoom (roomMsg type 0 body)

/-- Starts the next epoch. -/
def State.startEpoch (s : State) (first : Bool) : State :=
  let e := (s.mgmt.master.epoch + 1) % 65536
  (s.modMaster (fun m => { m with
    epoch := e, wait := .started, found := [], answers := [], todo := [], since := s.time.ticks, first := first })).announce 0x10
    (beBytes 2 e ++ beBytes 1 (s.cfg Obj.CALL_ROOM_WINDOW) ++ [0])

/-- Sends a QUERY of a branch and listens. -/
def State.query (s : State) (p l : Nat) : State :=
  (s.modMaster (fun m => { m with wait := .listening p l, answers := [], since := s.time.ticks })).announce 0x11
    (beBytes 2 s.mgmt.master.epoch ++ beBytes 1 l ++ beBytes 1 (s.cfg Obj.CALL_ROOM_WINDOW) ++ beBytes 8 p)

/-- Whether two found sets are the same. -/
def sameSet (a b : List (Nat × Nat)) : Bool := a.all b.contains && b.all a.contains

/-- The end of an epoch: EPOCH_END; a second epoch of a round with the same set completes the round (log 39). -/
def State.endEpoch (s : State) : State :=
  let m := s.mgmt.master
  let entries := m.found.flatMap (fun (x : Nat × Nat) => beBytes 8 x.1 ++ beBytes 1 x.2)
  let s := s.announce 0x15 (beBytes 2 m.epoch ++ beBytes 1 m.found.length ++ [0] ++ entries)
  let done : Bool := !m.first && sameSet m.found m.last
  let s := s.modMaster (fun m => { m with before := m.last, last := m.found, wait := .idle, since := s.time.ticks, todo := [], answers := [] })
  if done then s.setBlb Obj.FIELD_NODES 0 entries else s.startEpoch false

/-- Goes on with the next branch of the search, or ends the epoch. -/
def State.nextBranch (s : State) : State :=
  match s.mgmt.master.todo with
  | [] => s.endEpoch
  | (p, l) :: rest => (s.modMaster (fun m => { m with todo := rest })).query p l

/-- The node ID for a bib: its own of the last two epochs, else the lowest that no bib found then or in this epoch holds. -/
def Master.idFor (m : Master) (b : Nat) : Option Nat :=
  match (m.last ++ m.before).find? (fun x => x.1 == b) with
  | some x => some x.2
  | none => ((List.range 31).map (· + 1)).find? (fun n => !(m.found ++ m.last ++ m.before).any (fun x => x.2 == n))

/-- The length of the common prefix of some 64-bit numbers. -/
def commonPrefix : List Nat → Nat
  | [] => 64
  | a :: as => ((List.range 65).filter (fun c => as.all (fun b => b / 2 ^ (64 - c) == a / 2 ^ (64 - c)))).foldl max 0

/-- Sends an ASSIGN. -/
def State.sendAssign (s : State) (b n tries : Nat) : State :=
  (s.modMaster (fun m => { m with wait := .assigning b n tries, since := s.time.ticks })).announce 0x13
    (beBytes 2 s.mgmt.master.epoch ++ beBytes 1 n ++ [0] ++ beBytes 8 b)

/-- What the master does once it has listened to a query of a branch. -/
def State.closeQuery (s : State) (p l : Nat) (noise : Bool) : State :=
  match s.mgmt.master.answers, noise with
  | [], false => s.nextBranch
  | [(b, _)], false => match s.mgmt.master.idFor b with
    | some n => s.sendAssign b n 1
    | none => (s.count Obj.CALL_ROOM_ERRORS).nextBranch
  | as, _ =>
    if 64 ≤ l then (s.count Obj.CALL_ROOM_ERRORS).nextBranch
    else
      let c := if as.length < 2 then l else commonPrefix (as.map Prod.fst)
      let q := if as.length < 2 then p else (as.headD (0, 0)).1 / 2 ^ (64 - c) * 2 ^ (64 - c)
      let bit_ := 2 ^ (64 - (c + 1))
      (s.modMaster (fun m => { m with todo := [(q, c + 1), (q + bit_, c + 1)] ++ m.todo })).nextBranch

/-- CALL_ROOM_ROUND (R403): 9034h after the last round, the master starts an epoch. -/
def execCallRoomRound (s : State) : Host.Outcome State Fault Refusal :=
  let m := s.mgmt.master
  if s.isMaster && m.wait == .idle && ((m.epoch == 0 && m.since == 0) || m.since + usTicks (s.cfg Obj.CALL_ROOM_PERIOD * 1000) ≤ s.time.ticks) then
    .next (s.startEpoch true)
  else .next s

/-- EPOCH_SEARCH_START (R403): 1 ms after EPOCH_START the search begins with the empty prefix. -/
def execEpochSearchStart (s : State) : Host.Outcome State Fault Refusal :=
  let m := s.mgmt.master
  .next (if s.isMaster && m.wait == .started && m.since + usTicks 1000 ≤ s.time.ticks then s.query 0 0 else s)

/-- ANSWER (R403): an intact ANSWER during a query's listen window. -/
def execAnswer (bib e node : Nat) (s : State) : Host.Outcome State Fault Refusal :=
  let m := s.mgmt.master
  match m.wait with
  | .listening _ _ =>
    .next (if s.isMaster && e == m.epoch && !m.answers.any (fun x => x.1 == bib) then
      s.modMaster (fun m => { m with answers := m.answers ++ [(bib, node)] }) else s)
  | _ => .next s

/-- ASSIGNED (R403): the bib with its node ID is in the found set, and the search goes on. -/
def execAssigned (bib e node : Nat) (s : State) : Host.Outcome State Fault Refusal :=
  let m := s.mgmt.master
  match m.wait with
  | .assigning b n _ =>
    .next (if s.isMaster && e == m.epoch && bib == b && node == n then
      (s.modMaster (fun m => { m with found := m.found ++ [(b, n)] })).nextBranch else s)
  | _ => .next s

/-- QUERY_LISTEN_END (R403): the listen window of a query has passed. -/
def execQueryListenEnd (noise : Bool) (s : State) : Host.Outcome State Fault Refusal :=
  let m := s.mgmt.master
  match m.wait with
  | .listening p l =>
    .next (if s.isMaster && m.since + usTicks (s.cfg Obj.CALL_ROOM_WINDOW * 128 + 1000) ≤ s.time.ticks then s.closeQuery p l noise else s)
  | _ => .next s

/-- ASSIGN_RESEND (R403): an ASSIGN without an answer is sent again, three times in all; then the branch is given up. -/
def execAssignResend (s : State) : Host.Outcome State Fault Refusal :=
  match s.mgmt.master.wait with
  | .assigning b n tries =>
    .next (if s.isMaster then (if tries < 3 then s.sendAssign b n (tries + 1) else s.nextBranch) else s)
  | _ => .next s

end Sys2Proof.Machine
end

