-- ==== Sys2Proof/Machine/Insn.lean ====
section
/-! DEFINITION. The instruction decoder of the Striders and the Starter cores: which command an encoding is (R229 to R232, R246, R249,
R250, R356; Tables 8.4 to 8.7). -/

namespace Sys2Proof.Machine

/-! ## Fields -/

/-- A field as a register number. -/
def reg5 (w hi lo : Nat) : BitVec 5 := BitVec.ofNat 5 (bits w hi lo)

/-- A signed field of `n` bits from bit 0, times `k`, as an address displacement. -/
def dispOf (n k w : Nat) : Addr := ((BitVec.ofNat n w).signExtend 32) * BitVec.ofNat 32 k

/-- A signed field of `n` bits from bit 0 as a 40-bit value. -/
def immOf (n w : Nat) : W40 := (BitVec.ofNat n w).signExtend 40

/-- An encoding that R232 makes ILLEGAL; it stands in the place of a nop. -/
def badInsn (r : CoreRef) (short : Bool) : Instr := .opNop ⟨r, short, .illegal, .clean, .clean⟩

/-- A defined encoding, if the fields that must be zero are. -/
def onlyIf (r : CoreRef) (short ok : Bool) (i : Instr) : Instr := if ok then i else badInsn r short

/-! ## 16-bit instructions (Tables 8.4, 8.6) -/

/-- The load and store of a size number, 0 to 3, in mode 000b. -/
def shortLoad (h : Hdr) (n : Nat) (rd : BitVec 5) (m : AMode) : Instr :=
  match n with
  | 0 => .opLd8 h rd m .clean
  | 1 => .opLd16 h rd m .clean
  | 2 => .opLd32 h rd m .clean
  | _ => .opLd40 h rd m .clean

/-- The store of a size number. -/
def shortStore (h : Hdr) (n : Nat) (rd : BitVec 5) (m : AMode) : Instr :=
  match n with
  | 0 => .opSt8 h rd m
  | 1 => .opSt16 h rd m
  | 2 => .opSt32 h rd m
  | _ => .opSt40 h rd m

/-- The instruction of a 16-bit parcel. -/
def decodeShort (r : CoreRef) (p : Nat) : Instr :=
  let h : Hdr := ⟨r, true, .ok, .clean, .clean⟩
  let bad := badInsn r true
  let rd := reg5 p 10 7
  let rs := reg5 p 6 3
  let sub := bits p 2 0
  let n6 := BitVec.ofNat 6 p
  let disp7 := dispOf 7 2 p
  let disp11 := dispOf 11 2 p
  let off (k : Nat) : AMode := .disp (BitVec.ofNat 2 (bits p 6 5)) (BitVec.ofNat 32 (bits p 4 0 * k))
  match bits p 15 11 with
  | 0x00 => match sub with
    | 0 => .opMov h rd rs
    | 1 => .opAdd h rd rd rs
    | 2 => .opSub h rd rd rs
    | 3 => .opAnd h rd rd rs
    | 4 => .opOr h rd rd rs
    | 5 => .opXor h rd rd rs
    | 6 => .opShl h rd rd rs
    | _ => .opShr h rd rd rs
  | 0x01 => match sub with
    | 0 => .opDand h rd rd rs
    | 1 => .opDor h rd rd rs
    | 2 => .opDxor h rd rd rs
    | 3 => .opDnot h rd rs
    | 4 => .opDres h rd rd rs
    | 5 => .opXcnt h rd rs
    | _ => bad
  | 0x02 => .opMovi h rd (immOf 7 p)
  | 0x03 => .opAddi h rd rd (immOf 7 p)
  | 0x04 => onlyIf r true (bits p 6 0 ≤ 40) (.opShli h rd rd n6)
  | 0x05 => onlyIf r true (bits p 6 0 ≤ 40) (.opShri h rd rd n6)
  | 0x06 => shortLoad h 0 rd (off 1)
  | 0x07 => shortLoad h 1 rd (off 2)
  | 0x08 => shortLoad h 2 rd (off 4)
  | 0x09 => shortLoad h 3 rd (off 8)
  | 0x0A => shortStore h 0 rd (off 1)
  | 0x0B => shortStore h 1 rd (off 2)
  | 0x0C => shortStore h 2 rd (off 4)
  | 0x0D => shortStore h 3 rd (off 8)
  | 0x0E => .opBeqz h rd disp7
  | 0x0F => .opBnez h rd disp7
  | 0x10 => .opBr h disp11
  | 0x11 => .opCall h disp11
  | 0x12 => match sub with
    | 0 => .opMth h (BitVec.ofNat 4 (bits p 10 7)) rs
    | 1 => .opMfh h rd (BitVec.ofNat 4 (bits p 6 3))
    | _ => bad
  | 0x13 => .opCmpi h rd (immOf 7 p)
  | 0x14 => match sub with
    | 0 => .opCmp h rd rs
    | 1 => onlyIf r true (bits p 10 9 == 0) (.opMova h (BitVec.ofNat 2 (bits p 8 7)) rs)
    | 2 => onlyIf r true (bits p 6 5 == 0) (.opRda h rd (BitVec.ofNat 2 (bits p 4 3)))
    | _ => bad
  | 0x17 => match bits p 10 0 with
    | 0 => .opNop h
    | 1 => .opRet h
    | 2 => .opYield h
    | 3 => .opEnd h
    | 4 => .opWfe h
    | 5 => .opRett h
    | _ => bad
  | _ => bad

/-! ## 32-bit instructions (Tables 8.5, 8.7) -/

/-- The ALU group, major opcode 00h (Table 8.10). -/
def decodeAlu (r : CoreRef) (w : Nat) : Instr :=
  let h : Hdr := ⟨r, false, .ok, .clean, .clean⟩
  let rd := reg5 w 23 19
  let ra := reg5 w 18 14
  let rb := reg5 w 13 9
  match bits w 8 0 with
  | 0x000 => .opAdd h rd ra rb
  | 0x001 => .opSub h rd ra rb
  | 0x002 => .opAddc h rd ra rb
  | 0x003 => .opSubb h rd ra rb
  | 0x004 => .opAnd h rd ra rb
  | 0x005 => .opOr h rd ra rb
  | 0x006 => .opXor h rd ra rb
  | 0x007 => .opAndn h rd ra rb
  | 0x008 => .opShl h rd ra rb
  | 0x009 => .opShr h rd ra rb
  | 0x00A => .opSar h rd ra rb
  | 0x00B => .opRol h rd ra rb
  | 0x00C => .opMul h rd ra rb
  | 0x00D => .opMulhu h rd ra rb
  | 0x00E => .opMin h rd ra rb
  | 0x00F => .opMax h rd ra rb
  | 0x010 => .opMinu h rd ra rb
  | 0x011 => .opMaxu h rd ra rb
  | 0x012 => onlyIf r false (rb == 0) (.opPopc h rd ra)
  | 0x013 => onlyIf r false (rb == 0) (.opClz h rd ra)
  | 0x020 => onlyIf r false (rd == 0) (.opCmp h ra rb)
  | _ => badInsn r false

/-- The four-state group, major opcode 02h (Table 8.17). -/
def decodeFour (r : CoreRef) (w : Nat) : Instr :=
  let h : Hdr := ⟨r, false, .ok, .clean, .clean⟩
  let rd := reg5 w 23 19
  let ra := reg5 w 18 14
  let rb := reg5 w 13 9
  match bits w 8 0 with
  | 0 => .opDand h rd ra rb
  | 1 => .opDor h rd ra rb
  | 2 => .opDxor h rd ra rb
  | 3 => onlyIf r false (rb == 0) (.opDnot h rd ra)
  | 4 => .opDres h rd ra rb
  | 5 => onlyIf r false (rb == 0) (.opXcnt h rd ra)
  | 6 => .opDadj h rd ra rb
  | _ => badInsn r false

/-- The ten group, major opcode 03h (Table 8.18). -/
def decodeTen (r : CoreRef) (w : Nat) : Instr :=
  let h : Hdr := ⟨r, false, .ok, .clean, .clean⟩
  let rd := reg5 w 23 19
  let ra := reg5 w 18 14
  let k := BitVec.ofNat 2 w
  if bits w 13 9 != 0 then badInsn r false
  else match bits w 8 2 with
    | 0 => .opText h rd ra k
    | 1 => .opTins h rd ra k
    | 2 => .opTexp h rd ra k
    | 3 => .opTcmp h rd ra k
    | _ => badInsn r false

/-- The address of an M format (Table 8.9). -/
def modeOf (w : Nat) : Option AMode :=
  let an := BitVec.ofNat 2 (bits w 18 17)
  match bits w 16 14 with
  | 0 => some (.disp an (dispOf 14 1 w))
  | 1 => some (.post an (dispOf 14 1 w))
  | 2 => if bits w 8 0 = 0 then some (.index an (reg5 w 13 9)) else none
  | 3 => if bits w 8 0 = 0 then some (.postIndex an (reg5 w 13 9)) else none
  | _ => none

/-- A load or store of an M format. -/
def decodeMem (r : CoreRef) (w : Nat) (f : BitVec 5 → AMode → Instr) : Instr :=
  match modeOf w with
  | some m => f (reg5 w 23 19) m
  | none => badInsn r false

/-- A loop register of mtl and mfl: bits [3:2] its kind, [1:0] its level (Table 8.15). -/
def loopReg (v : Nat) : Option LReg :=
  if 16 ≤ v || v % 4 = 3 then none
  else match v / 4 with
    | 0 => some (.ls (BitVec.ofNat 2 v))
    | 1 => some (.le (BitVec.ofNat 2 v))
    | 2 => some (.lc (BitVec.ofNat 2 v))
    | _ => none

/-- The address and loop registers, major opcode 1Fh (Table 8.15). -/
def decodeAddr (r : CoreRef) (w : Nat) : Instr :=
  let h : Hdr := ⟨r, false, .ok, .clean, .clean⟩
  let rd := bits w 23 19
  let ra := bits w 18 14
  let rb := bits w 13 9
  match bits w 8 0 with
  | 0 => onlyIf r false (rd < 4 && rb == 0) (.opMova h (BitVec.ofNat 2 rd) (BitVec.ofNat 5 ra))
  | 1 => onlyIf r false (rd < 4 && rb == 0) (.opMovm h (BitVec.ofNat 2 rd) (BitVec.ofNat 5 ra))
  | 2 => onlyIf r false (ra < 4 && rb == 0) (.opRda h (BitVec.ofNat 5 rd) (BitVec.ofNat 2 ra))
  | 3 => onlyIf r false (ra < 4 && rb == 0) (.opRdm h (BitVec.ofNat 5 rd) (BitVec.ofNat 2 ra))
  | 4 => onlyIf r false (rd < 4 && ra == 0) (.opAdda h (BitVec.ofNat 2 rd) (BitVec.ofNat 5 rb))
  | 8 => match loopReg rd with
    | some l => onlyIf r false (rb == 0) (.opMtl h l (BitVec.ofNat 5 ra))
    | none => badInsn r false
  | 9 => match loopReg ra with
    | some l => onlyIf r false (rb == 0) (.opMfl h (BitVec.ofNat 5 rd) l)
    | none => badInsn r false
  | _ => badInsn r false

/-- The command of an hcmd (Tables 8.20 to 8.26); one with an undefined helper or code faults HELPER (R250). -/
def decodeHcmd (r : CoreRef) (w : Nat) : Instr :=
  let h : Hdr := ⟨r, false, .ok, .clean, .clean⟩
  let x : HArgs := ⟨BitVec.ofNat 4 (bits w 15 12), BitVec.ofNat 3 (bits w 11 9), BitVec.ofNat 4 (bits w 8 5), BitVec.ofNat 3 (bits w 4 2)⟩
  if bits w 1 0 != 0 then badInsn r false
  else match bits w 23 21 * 32 + bits w 20 16 with
    | 0x00 => .opLkpTrie h x .clean
    | 0x01 => .opLkpLearnLookup h x .clean
    | 0x02 => .opLkpLearn h x .clean
    | 0x03 => .opLkpGroup h x
    | 0x04 => .opLkpFragRead h x
    | 0x05 => .opLkpFragWrite h x
    | 0x20 => .opXchQuery h x
    | 0x21 => .opXchState h x
    | 0x40 => .opBufAlloc h x
    | 0x41 => .opBufFree h x
    | 0x42 => .opBufRef h x
    | 0x43 => .opBufRead h x
    | 0x44 => .opBufWrite h x
    | 0x60 => .opOrdRelease h x
    | 0x61 => .opOrdDrop h x
    | 0x62 => .opOrdToken h x
    | 0x80 => .opCrcWin h x .clean
    | 0x81 => .opCrcReg h x
    | 0xA0 => .opAtmLock h x
    | 0xA1 => .opAtmUnlock h x
    | 0xA2 => .opAtmAdd h x
    | 0xA3 => .opAtmSwap h x
    | 0xA4 => .opAtmCas h x
    | 0xC0 => .opSqdLd h x .clean
    | 0xC1 => .opSqdSt h x .clean
    | 0xC2 => .opSqdAdd h x .clean
    | 0xC3 => .opSqdCas h x .clean
    | _ => if 16 < x.hb.toNat + x.nop.toNat || 16 < x.hd.toNat + x.nr.toNat then badInsn r false else .opNop ⟨r, false, .helper, .clean, .clean⟩

/-- The thread operations, major opcode 34h, and the system group, 38h (Table 8.19). -/
def decodeSystem (r : CoreRef) (w : Nat) : Instr :=
  let h : Hdr := ⟨r, false, .ok, .clean, .clean⟩
  let rd := reg5 w 23 19
  let ra := reg5 w 18 14
  let rb := reg5 w 13 9
  let z := onlyIf r false
  match bits w 29 24 * 512 + bits w 8 0 with
  | 0x6800 => z (rd == 0 && ra == 0 && rb == 0) (.opYield h)
  | 0x6801 => z (rd == 0 && rb == 0) (.opSwait h ra)
  | 0x6802 => z (rd == 0 && ra == 0 && rb == 0) (.opWfe h)
  | 0x6803 => z (rd == 0 && ra == 0 && rb.toNat < 4) (.opPrio h (BitVec.ofNat 2 rb.toNat))
  | 0x6804 => z (rd == 0 && ra == 0 && rb == 0) (.opEnd h)
  | 0x6805 => z (ra == 0 && rb == 0) (.opRdtime h rd)
  | 0x7000 => z (rd == 0 && ra == 0 && rb == 0) (.opNop h)
  | 0x7001 => z (ra == 0) (.opRdcr h rd rb)
  | 0x7002 => z (rb == 0) (.opWrcr h rd ra)
  | 0x7003 => z (rd == 0 && ra == 0 && rb == 0) (.opRett h)
  | 0x7004 => z (ra == 0 && rb == 0) (.opLsbot h rd)
  | 0x7005 => z (rd == 0 && rb == 0) (.opLsins h ra)
  | _ => badInsn r false

/-- The privileged extensions (Table 12.4): PRIVILEGED on a Strider, and on a Starter core 3Bh is ILLEGAL (R232, R356). -/
def decodePriv (r : CoreRef) (w : Nat) : Instr :=
  let h : Hdr := ⟨r, false, .ok, .clean, .clean⟩
  let rd := reg5 w 23 19
  let ra := reg5 w 18 14
  let rb := reg5 w 13 9
  let z := onlyIf r false
  match r with
  | .strider _ => .opNop ⟨r, false, .privileged, .clean, .clean⟩
  | .starter _ => match bits w 29 24 with
    | 0x39 => match bits w 8 0 with
      | 0 => z (ra == 0) (.opRdpr h rd rb)
      | 1 => z (rb == 0) (if rd = 8 then .opWdkick h ra else if rd = 15 then .opPeerrst h ra else .opWrpr h rd ra)
      | 2 => z (rd == 0 && ra == 0 && rb == 0) (.opRfe h)
      | 3 => z (ra == 0 && rb == 0) (.opWqtake h rd)
      | 4 => z (rd == 0 && rb == 0) (.opWqdone h ra)
      | 5 => .opTstart h rd ra rb
      | 6 => z (rd == 0) (.opCinv h ra rb)
      | 7 => z (rd == 0) (.opCwb h ra rb)
      | 8 => z (rd == 0) (.opIlock h ra rb)
      | _ => badInsn r false
    | 0x3A => z (rd == 0 && ra == 0) (.opSvc h (BitVec.ofNat 14 w))
    | _ => badInsn r false

/-- The instruction of a 32-bit word, its first parcel in bits [31:16]. -/
def decodeLong (r : CoreRef) (w : Nat) : Instr :=
  let h : Hdr := ⟨r, false, .ok, .clean, .clean⟩
  let bad := badInsn r false
  let z := onlyIf r false
  let rd := reg5 w 23 19
  let ra := reg5 w 18 14
  let rb := reg5 w 13 9
  let imm14 := BitVec.ofNat 14 w
  let n6 := BitVec.ofNat 6 w
  let shiftOk : Bool := bits w 13 0 ≤ 40
  let pos := BitVec.ofNat 6 (bits w 13 8)
  let len := BitVec.ofNat 6 (bits w 7 2)
  let d14 := dispOf 14 2 w
  let d24 := dispOf 24 2 w
  let bitNo := BitVec.ofNat 6 (bits w 13 13 * 32 + bits w 18 14)
  match bits w 29 24 with
  | 0x00 => decodeAlu r w
  | 0x01 => z (bits w 8 6 == 0 && bits w 5 0 ≤ 40) (.opFsh h rd ra rb n6)
  | 0x02 => decodeFour r w
  | 0x03 => decodeTen r w
  | 0x04 => .opAddi h rd ra (immOf 14 w)
  | 0x05 => .opAndi h rd ra imm14
  | 0x06 => .opOri h rd ra imm14
  | 0x07 => .opXori h rd ra imm14
  | 0x08 => z shiftOk (.opShli h rd ra n6)
  | 0x09 => z shiftOk (.opShri h rd ra n6)
  | 0x0A => z shiftOk (.opSari h rd ra n6)
  | 0x0B => z shiftOk (.opRoli h rd ra n6)
  | 0x0C => z (rd == 0) (.opCmpi h ra (immOf 14 w))
  | 0x0F => .opMovu h rd (BitVec.ofNat 19 w)
  | 0x10 => decodeMem r w (fun d m => .opLd8 h d m .clean)
  | 0x11 => decodeMem r w (fun d m => .opLd8s h d m .clean)
  | 0x12 => decodeMem r w (fun d m => .opLd16 h d m .clean)
  | 0x13 => decodeMem r w (fun d m => .opLd16s h d m .clean)
  | 0x14 => decodeMem r w (fun d m => .opLd32 h d m .clean)
  | 0x15 => decodeMem r w (fun d m => .opLd32s h d m .clean)
  | 0x16 => decodeMem r w (fun d m => .opLd40 h d m .clean)
  | 0x18 => decodeMem r w (fun d m => .opSt8 h d m)
  | 0x19 => decodeMem r w (fun d m => .opSt16 h d m)
  | 0x1A => decodeMem r w (fun d m => .opSt32 h d m)
  | 0x1B => decodeMem r w (fun d m => .opSt40 h d m)
  | 0x1C => z (bits w 1 0 == 0) (.opExt h rd ra pos len)
  | 0x1D => z (bits w 1 0 == 0) (.opExts h rd ra pos len)
  | 0x1E => z (bits w 1 0 == 0) (.opDep h rd ra pos len)
  | 0x1F => decodeAddr r w
  | 0x20 => .opBeq h rd ra d14
  | 0x21 => .opBne h rd ra d14
  | 0x22 => .opBlt h rd ra d14
  | 0x23 => .opBge h rd ra d14
  | 0x24 => .opBltu h rd ra d14
  | 0x25 => .opBgeu h rd ra d14
  | 0x26 => .opBbs h rd bitNo (dispOf 13 2 w)
  | 0x27 => .opBbc h rd bitNo (dispOf 13 2 w)
  | 0x28 => z (ra == 0) (.opBcc h rd d14)
  | 0x29 => .opBr h d24
  | 0x2A => .opCall h d24
  | 0x2B => match bits w 8 0 with
    | 0 => z (rd == 0 && rb == 0) (.opJr h ra)
    | 1 => z (rd == 0 && rb == 0) (.opCallr h ra)
    | 2 => z (rd == 0 && ra == 0 && rb == 0) (.opRet h)
    | _ => bad
  | 0x2C => z (bits w 23 22 != 3) (.opLoop h (BitVec.ofNat 2 (bits w 23 22)) (reg5 w 21 17) (BitVec.ofNat 17 w))
  | 0x2D => z (bits w 23 22 != 3) (.opLoopi h (BitVec.ofNat 2 (bits w 23 22)) (BitVec.ofNat 10 (bits w 21 12)) (BitVec.ofNat 12 w))
  | 0x30 => decodeHcmd r w
  | 0x31 => z (bits w 23 16 == 0 && bits w 8 0 == 0) (.opHwait h (BitVec.ofNat 4 (bits w 15 12)) (BitVec.ofNat 3 (bits w 11 9)))
  | 0x32 => match bits w 8 0 with
    | 0 => z (bits w 23 23 == 0 && rb == 0) (.opMth h (BitVec.ofNat 4 (bits w 22 19)) ra)
    | 1 => z (bits w 18 18 == 0 && rb == 0) (.opMfh h rd (BitVec.ofNat 4 (bits w 17 14)))
    | _ => bad
  | 0x34 | 0x38 => decodeSystem r w
  | 0x39 | 0x3A | 0x3B => decodePriv r w
  | 0x3C | 0x3D | 0x3E | 0x3F => .opMovi h rd (immOf 21 (bits w 25 24 * 2 ^ 19 + bits w 18 0))
  | _ => bad

/-- The instruction at an address: one parcel, or two where bits [15:14] of the first are 11b (R229). -/
def State.insnAt (s : State) (r : CoreRef) (a : Addr) : Instr :=
  let p := s.parcel r a
  if p / 2 ^ 14 = 3 then decodeLong r (p * 2 ^ 16 + s.parcel r (a + 2)) else decodeShort r p

/-- The instruction at the pc of a thread or core. -/
def State.nextInsn (s : State) (r : CoreRef) : Instr := s.insnAt r (s.ctx r).pc

end Sys2Proof.Machine
end

