-- ==== Sys2Proof/Machine/Package.lean ====
section
/-! DEFINITION. The package: ball names, the ball map and the levels that the outputs take (R458 to R470). No command reads
it: it says which ball carries which signal of the device, and what a pin does in a state. -/

namespace Sys2Proof.Machine

/-- The alphabet L of R459. -/
def ballLetters : List String := ["A", "B", "C", "D", "E", "F", "G", "H", "J", "K", "L", "M", "N", "P", "T", "U", "V", "W", "Y"]

/-- The row letters of row index i (R459). -/
def ballRow (i : Nat) : String :=
  if i ≤ 18 then ballLetters.getD i "" else ballLetters.getD ((i - 19) / 19) "" ++ ballLetters.getD ((i - 19) % 19) ""

/-- A number in decimal, at most two digits. -/
def decimal2 (n : Nat) : String :=
  let d := fun (k : Nat) => ["0", "1", "2", "3", "4", "5", "6", "7", "8", "9"].getD k ""
  if n < 10 then d n else d (n / 10 % 10) ++ d (n % 10)

/-- The name of the ball at row index i and column index j (R459). -/
def ballName (i j : Nat) : String := ballRow i ++ decimal2 (j + 1)

/-- The regions of Table 16.8. -/
inductive BallRegion where
  | band (n : Nat)
  | corner (n : Nat)
  | control
  | core
deriving DecidableEq, Repr

/-- Whether a ball lies in a region (Table 16.8). -/
def inRegion (i j : Nat) : BallRegion → Bool
  | .band 0 => i ≤ 13 && 14 ≤ j && j ≤ 45
  | .band 1 => 14 ≤ i && i ≤ 45 && 45 ≤ j && j ≤ 58
  | .band 2 => 45 ≤ i && i ≤ 58 && 13 ≤ j && j ≤ 44
  | .band 3 => 13 ≤ i && i ≤ 44 && j ≤ 13
  | .corner 0 => i ≤ 12 && j ≤ 13
  | .corner 1 => i ≤ 13 && 46 ≤ j && j ≤ 58
  | .corner 2 => 46 ≤ i && i ≤ 58 && 45 ≤ j && j ≤ 58
  | .corner 3 => 45 ≤ i && i ≤ 58 && j ≤ 12
  | .control => 14 ≤ i && i ≤ 16 && 14 ≤ j && j ≤ 44
  | .core => 17 ≤ i && i ≤ 44 && 14 ≤ j && j ≤ 44
  | _ => false

/-- The ten regions. -/
def ballRegions : List BallRegion :=
  [.band 0, .band 1, .band 2, .band 3, .corner 0, .corner 1, .corner 2, .corner 3, .control, .core]

/-- What a ball carries: a supply or ground, or a signal by name. -/
inductive Ball where
  | gnd | vddCore | vddSram | vdda075 | vdda120 | vddq | vio18 | vio33
  | signal (name : String)
deriving DecidableEq, Repr

/-- Depth and position of a ball of a band (R461). -/
def bandPlace (band i j : Nat) : Nat × Nat :=
  match band with
  | 0 => (i, j - 14)
  | 1 => (58 - j, i - 14)
  | 2 => (58 - i, 44 - j)
  | _ => (j, 44 - i)

/-- The port and lane of lane k of a tier (Table 16.11). -/
def tierLane (band tier k : Nat) : String × Nat :=
  match band, tier with
  | 3, 2 => if k < 8 then ("H0", k) else ("H1", k - 8)
  | 3, 3 => ("P", k)
  | 0, t => ("F" ++ decimal2 t, k)
  | 1, t => ("F" ++ decimal2 (4 + t), k)
  | 2, t => ("T" ++ decimal2 t, k)
  | _, t => ("T" ++ decimal2 (4 + t), k)

/-- A ball of a lane band (R461, R462, Tables 16.10 and 16.11). -/
def bandBall (band i j : Nat) : Ball :=
  let (d, w) := bandPlace band i j
  if d = 12 then (if w % 2 = 0 then .vdda075 else .gnd)
  else if d = 13 then (if w % 4 = 0 then .vdda075 else if w % 4 = 2 then .vdda120 else .gnd)
  else
    let (port, lane) := tierLane band (d / 3) (w / 2)
    let pin := fun (x y : String) => Ball.signal (port ++ "_" ++ x ++ decimal2 lane ++ "_" ++ y)
    match d % 3, w % 2 with
    | 0, 0 => pin "TX" "P"
    | 1, 0 => pin "TX" "N"
    | 1, 1 => pin "RX" "P"
    | 2, 1 => pin "RX" "N"
    | _, _ => .gnd

/-- Local coordinates of a ball of a corner (R463). -/
def cornerPlace (n i j : Nat) : Nat × Nat :=
  match n with
  | 0 => (i, j)
  | 1 => (58 - j, i)
  | 2 => (58 - i, 58 - j)
  | _ => (j, 58 - i)

/-- The signals of one subchannel of a DDR5 channel, in the order of Table 16.12. -/
def subchannelSignals (x : String) : List String :=
  (List.range 32).map (fun k => "DQ" ++ x ++ decimal2 k) ++ (List.range 8).map (fun k => "CB" ++ x ++ decimal2 k) ++
  (List.range 10).flatMap (fun k => ["DQS" ++ x ++ "_T" ++ decimal2 k, "DQS" ++ x ++ "_C" ++ decimal2 k]) ++
  (List.range 7).map (fun k => "DCA" ++ x ++ decimal2 k) ++
  ["DPAR" ++ x, "DCS" ++ x ++ "_N0", "DCS" ++ x ++ "_N1", "DCK" ++ x ++ "_T", "DCK" ++ x ++ "_C"]

/-- The 146 signals of a channel in order (Table 16.12). -/
def channelSignals : List String := subchannelSignals "A" ++ subchannelSignals "B" ++ ["DRST_N", "DALERT_N"]

/-- Whether a corner ball is a supply ball (R463). -/
def cornerSupply (a b : Nat) : Bool := (a + b) % 5 = 0

/-- The order m of a corner ball that carries a signal: the signal balls before it. -/
def cornerOrder (a b : Nat) : Nat := ((List.range (14 * a + b)).filter (fun m => !cornerSupply (m / 14) (m % 14))).length

/-- A ball of a DRAM corner (R463). -/
def cornerBall (n i j : Nat) : Ball :=
  let (a, b) := cornerPlace n i j
  if cornerSupply a b then (if b ≤ 4 then .vddq else .gnd)
  else .signal ("D" ++ decimal2 n ++ "_" ++ channelSignals.getD (cornerOrder a b) "")

/-- A supply or ground by its name, else a signal. -/
def ballOf : String → Ball
  | "GND" => .gnd
  | "VIO18" => .vio18
  | "VIO33" => .vio33
  | x => .signal x

/-- The control rows T, U and V from column 15 on (R464). -/
def controlRows : List (List String) :=
  [["GND", "TCLK_IN_P", "TCLK_IN_N", "GND", "REFCLK_P", "REFCLK_N", "GND", "PCIE_REFCLK_P", "PCIE_REFCLK_N", "GND",
      "SDS_REFCLK0_P", "SDS_REFCLK0_N", "GND", "SDS_REFCLK1_P", "SDS_REFCLK1_N", "GND", "SDS_REFCLK2_P", "SDS_REFCLK2_N", "GND",
      "SDS_REFCLK3_P", "SDS_REFCLK3_N", "GND", "1PPS_IN", "GND", "1PPS_OUT", "GND", "TDIODE_A", "TDIODE_K", "GND", "VIO18", "VIO33"],
    ["QSPI_CLK", "GND", "QSPI_CS_N", "QSPI_IO0", "QSPI_IO1", "QSPI_IO2", "QSPI_IO3", "VIO18", "TCK", "TMS", "TDI", "TDO", "TRST_N",
      "GND", "RESET_N", "PERST_N", "SAFE_N", "TEST_MODE", "VIO18", "STRAP_BOOT0", "STRAP_BOOT1", "STRAP_FLASH", "STRAP_DRAM",
      "STRAP_PMB0", "STRAP_PMB1", "STRAP_PMB2", "STRAP_FIELD", "GND", "VIO33", "GND", "VIO18"],
    ["RMII_REFCLK", "GND", "RMII_TXEN", "RMII_TXD0", "RMII_TXD1", "GND", "RMII_CRSDV", "RMII_RXD0", "RMII_RXD1", "RMII_RXER", "GND",
      "MDC", "MDIO", "VIO33", "SPD_SCL", "SPD_SDA", "GND", "PMB_SCL", "PMB_SDA", "PMB_ALERT_N", "VIO33", "GND", "VIO33", "GND",
      "VIO18", "VCORE_SNS_P", "VCORE_SNS_N", "VIO33", "VIO18", "GND", "VIO33"]]

/-- A ball of the core supply region (R465). -/
def coreBall (i j : Nat) : Ball :=
  if (i + j) % 2 = 0 then .gnd else if i ≤ 20 || 41 ≤ i then .vddSram else .vddCore

/-- What the ball at (i, j) carries (R460); none outside the matrix. -/
def ballAt (i j : Nat) : Option Ball :=
  (ballRegions.find? (inRegion i j)).map (fun r => match r with
    | .band n => bandBall n i j
    | .corner n => cornerBall n i j
    | .control => ballOf ((controlRows.getD (i - 14) []).getD (j - 14) "")
    | .core => coreBall i j)

/-! ## Pins in a state -/

/-- Whether SAFE_N is driven low (R469): RESET_N is low, a PLL holds the device, or A005h reads 1. -/
def State.safeLow (s : State) : Bool := !s.rel.boot.resetN || s.rel.boot.pllFail || s.haltState == 1

/-- Whether the outputs of a low-speed interface are driven: none while RESET_N is low (R466). -/
def State.outputsDriven (s : State) : Bool := s.rel.boot.resetN

/-- Whether the outputs of RMII and the MDIO are driven: with FIELD_EN only (R468). -/
def State.rmiiDriven (s : State) : Bool := s.outputsDriven && s.rel.boot.straps.getLsbD 7

/-- The JTAG IDCODE of R470: version and part number; the manufacturer field stands in the BSDL file. The bit 0
and the place of the manufacturer are those of IEEE 1149.1 (log 120). -/
def idcode (manufacturer : Nat) : Nat := 0x1 * 2 ^ 28 + 0x9600 * 2 ^ 12 + manufacturer % 2 ^ 11 * 2 + 1

end Sys2Proof.Machine
end

