-- ==== Sys2Proof/Machine/Service.lean ====
section
/-! DEFINITION. svc, and the services it gives the extension module (R358, R359, R370). -/

namespace Sys2Proof.Machine

/-- Runs an access of the extension module under the rights of who called it, or of HOST at basic level in a tick (R370). -/
def State.asModule (s : State) (f : Principal → State → State) : State :=
  match s.starter.extBy with
  | some p => f p s
  | none =>
    let level (s : State) (e : Bool) : State :=
      { s with mgmt.sessions := tabUpd s.mgmt.sessions 256 .reset (fun x => { x with expert := e }) }
    level (f .host (level s false)) (s.session 256).expert

/-- The services of svc 0 to 3 (R370). How the module names the reply, object, value or record is not stated: each is a free value
(log 35). `sp` is the core's privileged stack before the entry. -/
def State.service (s : State) (n : Nat) (sp : W40) : State :=
  match n with
  | 0 =>
    let (b, s) := s.drawBytes
    let s := match s.starter.extBy with
      | some p => { s with starter.extReplies := tabSet s.starter.extReplies (Principal.index p) (b.take 1024) }
      | none => s
    let s := { s with starter.running := false, starter.extState := 1, starter.extBy := none }
    if s.extReady && !s.starter.extCalls.isEmpty then
      (s.modCore 3 (fun c => { c with ctx := c.ctx.setW 31 sp })).extNext
    else s
  | 1 =>
    let (a, s) := s.draw
    s.asModule (fun p s => (s.readObj p (a % 65536) (a / 65536 % 65536) 0).2.2.2)
  | 2 =>
    let (a, s) := s.draw
    let (b, s) := s.drawBytes
    s.asModule (fun p s => (s.writeObj p (a % 65536) (a / 65536 % 65536) (a / 2 ^ 32 % 256) b).1)
  | 3 =>
    let (b, s) := s.drawBytes
    { s with starter.extLog := ((b ++ List.replicate 16 0).take 16 :: s.starter.extLog).take 64 }
  | _ => s

/-- svc n: an exception through vector 9 that stacks the next instruction's address; its detail is a free value (log 34). -/
def execOpSvc (h : Hdr) (n : BitVec 14) (s : State) : Host.Outcome State Fault Refusal :=
  match h.core with
  | .strider _ => s.runInstr (s.privHdr h) .plain (fun _ _ => .fault 2 0)
  | .starter k => s.runInstr h .plain (fun s c =>
      let next := finish c c.issued 4 true [] none
      let served : Bool := k == 3 && (s.core k).u && s.starter.running
      let sp := (s.core k).ksp
      let (d, s) := (s.setCtx h.core next).draw
      let s := s.takeException k 9 (d % 256) next.pc.toNat none none h.frame
      .whole (if served && (s.core k).st == .running && (s.core k).cause / 256 == 9 then s.service n.toNat sp else s))

end Sys2Proof.Machine
end

