-- ==== Sys2Proof/Machine/StriderAlu.lean ====
section
/-! DEFINITION. The ALU, shift, field, move, four-state and ten instructions (Tables 8.10, 8.11, 8.15, 8.17, 8.18). -/

namespace Sys2Proof.Machine

/-- mov: copies a register (R246). -/
def execOpMov (h : Hdr) (rd ra : BitVec 5) (s : State) : Host.Outcome State Fault Refusal :=
  s.alu h (fun c => plainResult rd (c.r ra))

/-- add: ws1 + ws2 (R246). -/
def execOpAdd (h : Hdr) (rd ra rb : BitVec 5) (s : State) : Host.Outcome State Fault Refusal :=
  s.alu h (fun c => result rd (addFlags (c.r ra) (c.r rb) false))

/-- sub: ws1 − ws2 (R246). -/
def execOpSub (h : Hdr) (rd ra rb : BitVec 5) (s : State) : Host.Outcome State Fault Refusal :=
  s.alu h (fun c => result rd (subFlags (c.r ra) (c.r rb) true))

/-- addc: ws1 + ws2 + C (R246). -/
def execOpAddc (h : Hdr) (rd ra rb : BitVec 5) (s : State) : Host.Outcome State Fault Refusal :=
  s.alu h (fun c => result rd (addFlags (c.r ra) (c.r rb) c.flags.c))

/-- subb: ws1 − ws2 − (1 − C) (R246). -/
def execOpSubb (h : Hdr) (rd ra rb : BitVec 5) (s : State) : Host.Outcome State Fault Refusal :=
  s.alu h (fun c => result rd (subFlags (c.r ra) (c.r rb) c.flags.c))

/-- and: bitwise AND (R246). -/
def execOpAnd (h : Hdr) (rd ra rb : BitVec 5) (s : State) : Host.Outcome State Fault Refusal :=
  s.alu h (fun c => result rd (logicFlags (c.r ra &&& c.r rb)))

/-- or: bitwise OR (R246). -/
def execOpOr (h : Hdr) (rd ra rb : BitVec 5) (s : State) : Host.Outcome State Fault Refusal :=
  s.alu h (fun c => result rd (logicFlags (c.r ra ||| c.r rb)))

/-- xor: bitwise XOR (R246). -/
def execOpXor (h : Hdr) (rd ra rb : BitVec 5) (s : State) : Host.Outcome State Fault Refusal :=
  s.alu h (fun c => result rd (logicFlags (c.r ra ^^^ c.r rb)))

/-- andn: ws1 AND NOT ws2 (R246). -/
def execOpAndn (h : Hdr) (rd ra rb : BitVec 5) (s : State) : Host.Outcome State Fault Refusal :=
  s.alu h (fun c => result rd (logicFlags (c.r ra &&& ~~~(c.r rb))))

/-- shl: shift left by ws2[5:0] (R246). -/
def execOpShl (h : Hdr) (rd ra rb : BitVec 5) (s : State) : Host.Outcome State Fault Refusal :=
  s.alu h (fun c => result rd (shlFlags (c.r ra) ((c.r rb).toNat % 64)))

/-- shr: logical shift right by ws2[5:0] (R246). -/
def execOpShr (h : Hdr) (rd ra rb : BitVec 5) (s : State) : Host.Outcome State Fault Refusal :=
  s.alu h (fun c => result rd (shrFlags (c.r ra) ((c.r rb).toNat % 64)))

/-- sar: arithmetic shift right by ws2[5:0] (R246). -/
def execOpSar (h : Hdr) (rd ra rb : BitVec 5) (s : State) : Host.Outcome State Fault Refusal :=
  s.alu h (fun c => result rd (sarFlags (c.r ra) ((c.r rb).toNat % 64)))

/-- rol: rotate left by ws2[5:0] modulo 40 (R246). -/
def execOpRol (h : Hdr) (rd ra rb : BitVec 5) (s : State) : Host.Outcome State Fault Refusal :=
  s.alu h (fun c => result rd (rolFlags (c.r ra) ((c.r rb).toNat % 64)))

/-- mul: bits [39:0] of the unsigned product, at distance 3 (R233, R246). -/
def execOpMul (h : Hdr) (rd ra rb : BitVec 5) (s : State) : Host.Outcome State Fault Refusal :=
  s.alu h (fun c => resultAt 3 rd (mulFlags (c.r ra) (c.r rb)))

/-- mulhu: bits [79:40] of the unsigned product, at distance 3 (R233, R246). -/
def execOpMulhu (h : Hdr) (rd ra rb : BitVec 5) (s : State) : Host.Outcome State Fault Refusal :=
  s.alu h (fun c => resultAt 3 rd (mulhuFlags (c.r ra) (c.r rb)))

/-- min: signed minimum (R246). -/
def execOpMin (h : Hdr) (rd ra rb : BitVec 5) (s : State) : Host.Outcome State Fault Refusal :=
  s.alu h (fun c => result rd (logicFlags (if (c.r ra).slt (c.r rb) then c.r ra else c.r rb)))

/-- max: signed maximum (R246). -/
def execOpMax (h : Hdr) (rd ra rb : BitVec 5) (s : State) : Host.Outcome State Fault Refusal :=
  s.alu h (fun c => result rd (logicFlags (if (c.r ra).slt (c.r rb) then c.r rb else c.r ra)))

/-- minu: unsigned minimum (R246). -/
def execOpMinu (h : Hdr) (rd ra rb : BitVec 5) (s : State) : Host.Outcome State Fault Refusal :=
  s.alu h (fun c => result rd (logicFlags (if (c.r ra).ult (c.r rb) then c.r ra else c.r rb)))

/-- maxu: unsigned maximum (R246). -/
def execOpMaxu (h : Hdr) (rd ra rb : BitVec 5) (s : State) : Host.Outcome State Fault Refusal :=
  s.alu h (fun c => result rd (logicFlags (if (c.r ra).ult (c.r rb) then c.r rb else c.r ra)))

/-- popc: the ones of a register (R246). -/
def execOpPopc (h : Hdr) (rd ra : BitVec 5) (s : State) : Host.Outcome State Fault Refusal :=
  s.alu h (fun c => let r := BitVec.ofNat 40 (popCount (c.r ra))
    result rd (r, zOnly r))

/-- clz: the leading zeros of a register (R246). -/
def execOpClz (h : Hdr) (rd ra : BitVec 5) (s : State) : Host.Outcome State Fault Refusal :=
  s.alu h (fun c => let r := BitVec.ofNat 40 (leadingZeros (c.r ra))
    result rd (r, zOnly r))

/-- cmp: the flags of ws1 − ws2 (R246). -/
def execOpCmp (h : Hdr) (ra rb : BitVec 5) (s : State) : Host.Outcome State Fault Refusal :=
  s.alu h (fun c => [(.flags, (subFlags (c.r ra) (c.r rb) true).2.code, 1)])

/-- fsh: bits [79−n:40−n] of ws1:ws2; an n above 40 faults ILLEGAL (R232, R246). -/
def execOpFsh (h : Hdr) (rd ra rb : BitVec 5) (n : BitVec 6) (s : State) : Host.Outcome State Fault Refusal :=
  s.runInstr h .plain (fun s c => if 40 < n.toNat then .fault 1 0 else .ok s (plainResult rd (funnel (c.r ra) (c.r rb) n.toNat)))

/-- movi: a sign-extended immediate (R246). -/
def execOpMovi (h : Hdr) (rd : BitVec 5) (imm : W40) (s : State) : Host.Outcome State Fault Refusal :=
  s.alu h (fun _ => plainResult rd imm)

/-- movu: bits [39:21] from an immediate, the others kept (R246). -/
def execOpMovu (h : Hdr) (rd : BitVec 5) (imm : BitVec 19) (s : State) : Host.Outcome State Fault Refusal :=
  s.alu h (fun c => plainResult rd (deposit (c.r rd) (imm.setWidth 40) 21 19))

/-- addi: ws plus a sign-extended immediate (R246). -/
def execOpAddi (h : Hdr) (rd ra : BitVec 5) (imm : W40) (s : State) : Host.Outcome State Fault Refusal :=
  s.alu h (fun c => result rd (addFlags (c.r ra) imm false))

/-- andi: bitwise with a zero-extended immediate (R246). -/
def execOpAndi (h : Hdr) (rd ra : BitVec 5) (imm : BitVec 14) (s : State) : Host.Outcome State Fault Refusal :=
  s.alu h (fun c => result rd (logicFlags (c.r ra &&& imm.setWidth 40)))

/-- ori: bitwise with a zero-extended immediate (R246). -/
def execOpOri (h : Hdr) (rd ra : BitVec 5) (imm : BitVec 14) (s : State) : Host.Outcome State Fault Refusal :=
  s.alu h (fun c => result rd (logicFlags (c.r ra ||| imm.setWidth 40)))

/-- xori: bitwise with a zero-extended immediate (R246). -/
def execOpXori (h : Hdr) (rd ra : BitVec 5) (imm : BitVec 14) (s : State) : Host.Outcome State Fault Refusal :=
  s.alu h (fun c => result rd (logicFlags (c.r ra ^^^ imm.setWidth 40)))

/-- shli: as shl, by n; an n above 40 faults ILLEGAL (R232, R246). -/
def execOpShli (h : Hdr) (rd ra : BitVec 5) (n : BitVec 6) (s : State) : Host.Outcome State Fault Refusal :=
  s.runInstr h .plain (fun s c => if 40 < n.toNat then .fault 1 0 else .ok s (result rd (shlFlags (c.r ra) n.toNat)))

/-- shri: as shr, by n; an n above 40 faults ILLEGAL (R232, R246). -/
def execOpShri (h : Hdr) (rd ra : BitVec 5) (n : BitVec 6) (s : State) : Host.Outcome State Fault Refusal :=
  s.runInstr h .plain (fun s c => if 40 < n.toNat then .fault 1 0 else .ok s (result rd (shrFlags (c.r ra) n.toNat)))

/-- sari: as sar, by n; an n above 40 faults ILLEGAL (R232, R246). -/
def execOpSari (h : Hdr) (rd ra : BitVec 5) (n : BitVec 6) (s : State) : Host.Outcome State Fault Refusal :=
  s.runInstr h .plain (fun s c => if 40 < n.toNat then .fault 1 0 else .ok s (result rd (sarFlags (c.r ra) n.toNat)))

/-- roli: as rol, by n; an n above 40 faults ILLEGAL (R232, R246). -/
def execOpRoli (h : Hdr) (rd ra : BitVec 5) (n : BitVec 6) (s : State) : Host.Outcome State Fault Refusal :=
  s.runInstr h .plain (fun s c => if 40 < n.toNat then .fault 1 0 else .ok s (result rd (rolFlags (c.r ra) n.toNat)))

/-- cmpi: the flags of ws − an immediate (R246). -/
def execOpCmpi (h : Hdr) (ra : BitVec 5) (imm : W40) (s : State) : Host.Outcome State Fault Refusal :=
  s.alu h (fun c => [(.flags, (subFlags (c.r ra) imm true).2.code, 1)])

/-- Whether a field of a register exists (Table 8.11). -/
def fieldOk (pos lenM1 : BitVec 6) : Bool := lenM1.toNat + 1 ≤ 40 && pos.toNat + lenM1.toNat + 1 ≤ 40

/-- ext: a field, zero-extended (R246). -/
def execOpExt (h : Hdr) (rd ra : BitVec 5) (pos lenM1 : BitVec 6) (s : State) : Host.Outcome State Fault Refusal :=
  s.runInstr h .plain (fun s c => if !fieldOk pos lenM1 then .fault 1 0 else
    let r := extract (c.r ra) pos.toNat (lenM1.toNat + 1)
    .ok s (result rd (r, zOnly r)))

/-- exts: a field, sign-extended (R246). -/
def execOpExts (h : Hdr) (rd ra : BitVec 5) (pos lenM1 : BitVec 6) (s : State) : Host.Outcome State Fault Refusal :=
  s.runInstr h .plain (fun s c => if !fieldOk pos lenM1 then .fault 1 0 else
    let r := extractS (c.r ra) pos.toNat (lenM1.toNat + 1)
    .ok s (result rd (r, zn r)))

/-- dep: deposits a field (R246). -/
def execOpDep (h : Hdr) (rd ra : BitVec 5) (pos lenM1 : BitVec 6) (s : State) : Host.Outcome State Fault Refusal :=
  s.runInstr h .plain (fun s c => if !fieldOk pos lenM1 then .fault 1 0 else
    .ok s (plainResult rd (deposit (c.r rd) (c.r ra) pos.toNat (lenM1.toNat + 1))))

/-- mova: writes an address register, at distance 2 (R246). -/
def execOpMova (h : Hdr) (an : BitVec 2) (ra : BitVec 5) (s : State) : Host.Outcome State Fault Refusal :=
  s.alu h (fun c => [(.a an.toNat, c.r ra, 2)])

/-- movm: writes an M register, at distance 2 (R246). -/
def execOpMovm (h : Hdr) (mn : BitVec 2) (ra : BitVec 5) (s : State) : Host.Outcome State Fault Refusal :=
  s.alu h (fun c => [(.m mn.toNat, c.r ra, 2)])

/-- rda: reads an address register (R246). -/
def execOpRda (h : Hdr) (rd : BitVec 5) (an : BitVec 2) (s : State) : Host.Outcome State Fault Refusal :=
  s.alu h (fun c => plainResult rd (wordOf (c.ra an.toNat)))

/-- rdm: reads an M register (R246). -/
def execOpRdm (h : Hdr) (rd : BitVec 5) (mn : BitVec 2) (s : State) : Host.Outcome State Fault Refusal :=
  s.alu h (fun c => plainResult rd (wordOf (c.rm mn.toNat)))

/-- adda: adds to an address register without the ring rule, at distance 2 (R246). -/
def execOpAdda (h : Hdr) (an : BitVec 2) (rb : BitVec 5) (s : State) : Host.Outcome State Fault Refusal :=
  s.alu h (fun c => [(.a an.toNat, wordOf (c.ra an.toNat + addrOf (c.r rb)), 2)])

/-- mtl: writes a loop register, at distance 2; a level that does not exist faults ILLEGAL (R232, R246). -/
def execOpMtl (h : Hdr) (r : LReg) (ra : BitVec 5) (s : State) : Host.Outcome State Fault Refusal :=
  s.runInstr h .plain (fun s c => match lregDest r with
    | some d => .ok s [(d, c.r ra, 2)]
    | none => .fault 1 0)

/-- mfl: reads a loop register, zero-extended (R246). -/
def execOpMfl (h : Hdr) (rd : BitVec 5) (r : LReg) (s : State) : Host.Outcome State Fault Refusal :=
  s.runInstr h .plain (fun s c => match lregDest r with
    | some _ => .ok s (plainResult rd (c.loopReg r))
    | none => .fault 1 0)

/-- dand: per digit, Table 8.16 (R246). -/
def execOpDand (h : Hdr) (rd ra rb : BitVec 5) (s : State) : Host.Outcome State Fault Refusal :=
  s.alu h (fun c => result rd (digitFlags digitAnd (c.r ra) (c.r rb)))

/-- dor: per digit, Table 8.16 (R246). -/
def execOpDor (h : Hdr) (rd ra rb : BitVec 5) (s : State) : Host.Outcome State Fault Refusal :=
  s.alu h (fun c => result rd (digitFlags digitOr (c.r ra) (c.r rb)))

/-- dxor: per digit, Table 8.16 (R246). -/
def execOpDxor (h : Hdr) (rd ra rb : BitVec 5) (s : State) : Host.Outcome State Fault Refusal :=
  s.alu h (fun c => result rd (digitFlags digitXor (c.r ra) (c.r rb)))

/-- dres: per digit, Table 8.16 (R246). -/
def execOpDres (h : Hdr) (rd ra rb : BitVec 5) (s : State) : Host.Outcome State Fault Refusal :=
  s.alu h (fun c => result rd (digitFlags digitRes (c.r ra) (c.r rb)))

/-- dnot: per digit, Table 8.16 (R246). -/
def execOpDnot (h : Hdr) (rd ra : BitVec 5) (s : State) : Host.Outcome State Fault Refusal :=
  s.alu h (fun c => result rd (digitFlags1 digitNot (c.r ra)))

/-- xcnt: the digits that are X or Z (R246). -/
def execOpXcnt (h : Hdr) (rd ra : BitVec 5) (s : State) : Host.Outcome State Fault Refusal :=
  s.alu h (fun c => result rd (xcntFlags (c.r ra)))

/-- dadj: X where a source digit is X or Z, R248 (R246). -/
def execOpDadj (h : Hdr) (rd ra rb : BitVec 5) (s : State) : Host.Outcome State Fault Refusal :=
  s.alu h (fun c => result rd (dadjFlags (c.r rd) (c.r ra) (c.r rb)))

/-- text: ten k into ten 0 (R246). -/
def execOpText (h : Hdr) (rd ra : BitVec 5) (k : BitVec 2) (s : State) : Host.Outcome State Fault Refusal :=
  s.alu h (fun c => plainResult rd (BitVec.ofNat 40 (ten (c.r ra) k.toNat)))

/-- tins: ten 0 into ten k, the other tens kept (R246). -/
def execOpTins (h : Hdr) (rd ra : BitVec 5) (k : BitVec 2) (s : State) : Host.Outcome State Fault Refusal :=
  s.alu h (fun c => plainResult rd (setTen (c.r rd) k.toNat (ten (c.r ra) 0)))

/-- texp: digit i is bit i of ten k (R246). -/
def execOpTexp (h : Hdr) (rd ra : BitVec 5) (k : BitVec 2) (s : State) : Host.Outcome State Fault Refusal :=
  s.alu h (fun c => plainResult rd (expandTen (c.r ra) k.toNat))

/-- tcmp: bit i of ten k from digit i, with X (R246, R248). -/
def execOpTcmp (h : Hdr) (rd ra : BitVec 5) (k : BitVec 2) (s : State) : Host.Outcome State Fault Refusal :=
  s.alu h (fun c => [(.w rd.toNat, setTen (c.r rd) k.toNat (compressTen (c.r ra)), 1),
    (.flags, ({ x := some (anyXZ (c.r ra) 10) } : FlagSet).code, 1)])

end Sys2Proof.Machine
end

