-- ==== Sys2Proof/Machine/StriderMem.lean ====
section
/-! DEFINITION. The loads and stores (R236, Table 8.14) and the ECC of what they read (R219). -/

namespace Sys2Proof.Machine

/-- What a load does with what it reads: uncorrectable words fault with ECC, a corrected error is recorded (R219). -/
def State.loadInstr (s : State) (h : Hdr) (rd : BitVec 5) (m : AMode) (e : Ecc) (n : Nat) (f : Blob → W40) :
    Host.Outcome State Fault Refusal :=
  s.runInstr h .plain (fun s c =>
    let (a, post) := c.address m
    match s.load h.core a n with
    | .fault => .fault 3 a.toNat
    | .device a => .stop a
    | .ok b s' =>
      if s.readPoisoned h.core .load a.toNat n then .faultIn s 0x0C a.toNat else
      let s := s'
      if e == .uncorrectable then .faultIn (s.sramEvent (sramUnit h.core) a.toNat e) 0x0C a.toNat
      else .ok (s.sramEvent (sramUnit h.core) a.toNat e) (post ++ [(.w rd.toNat, f b, 3)]))

/-- What a store does. -/
def State.storeInstr (s : State) (h : Hdr) (rs : BitVec 5) (m : AMode) (n : Nat) : Host.Outcome State Fault Refusal :=
  s.runInstr h .plain (fun s c =>
    let (a, post) := c.address m
    match s.store h.core a (beBytes n (c.r rs).toNat) with
    | .fault => .fault 3 a.toNat
    | .device a => .stop a
    | .ok _ s => .ok s post)

/-- ld8: loads 8 bits, zero-extended, at distance 3 (R236). -/
def execOpLd8 (h : Hdr) (rd : BitVec 5) (m : AMode) (e : Ecc) (s : State) : Host.Outcome State Fault Refusal :=
  s.loadInstr h rd m e 1 (fun b => BitVec.ofNat 40 (beNat b))

/-- ld8s: loads 8 bits, sign-extended, at distance 3 (R236). -/
def execOpLd8s (h : Hdr) (rd : BitVec 5) (m : AMode) (e : Ecc) (s : State) : Host.Outcome State Fault Refusal :=
  s.loadInstr h rd m e 1 (fun b => signFrom 8 (beNat b))

/-- ld16: loads 16 bits, zero-extended, at distance 3 (R236). -/
def execOpLd16 (h : Hdr) (rd : BitVec 5) (m : AMode) (e : Ecc) (s : State) : Host.Outcome State Fault Refusal :=
  s.loadInstr h rd m e 2 (fun b => BitVec.ofNat 40 (beNat b))

/-- ld16s: loads 16 bits, sign-extended, at distance 3 (R236). -/
def execOpLd16s (h : Hdr) (rd : BitVec 5) (m : AMode) (e : Ecc) (s : State) : Host.Outcome State Fault Refusal :=
  s.loadInstr h rd m e 2 (fun b => signFrom 16 (beNat b))

/-- ld32: loads 32 bits, zero-extended, at distance 3 (R236). -/
def execOpLd32 (h : Hdr) (rd : BitVec 5) (m : AMode) (e : Ecc) (s : State) : Host.Outcome State Fault Refusal :=
  s.loadInstr h rd m e 4 (fun b => BitVec.ofNat 40 (beNat b))

/-- ld32s: loads 32 bits, sign-extended, at distance 3 (R236). -/
def execOpLd32s (h : Hdr) (rd : BitVec 5) (m : AMode) (e : Ecc) (s : State) : Host.Outcome State Fault Refusal :=
  s.loadInstr h rd m e 4 (fun b => signFrom 32 (beNat b))

/-- ld40: loads 40 bits, at distance 3 (R236). -/
def execOpLd40 (h : Hdr) (rd : BitVec 5) (m : AMode) (e : Ecc) (s : State) : Host.Outcome State Fault Refusal :=
  s.loadInstr h rd m e 5 (fun b => BitVec.ofNat 40 (beNat b))

/-- st8: stores the low 8 bits (R236). -/
def execOpSt8 (h : Hdr) (rs : BitVec 5) (m : AMode) (s : State) : Host.Outcome State Fault Refusal :=
  s.storeInstr h rs m 1

/-- st16: stores the low 16 bits (R236). -/
def execOpSt16 (h : Hdr) (rs : BitVec 5) (m : AMode) (s : State) : Host.Outcome State Fault Refusal :=
  s.storeInstr h rs m 2

/-- st32: stores the low 32 bits (R236). -/
def execOpSt32 (h : Hdr) (rs : BitVec 5) (m : AMode) (s : State) : Host.Outcome State Fault Refusal :=
  s.storeInstr h rs m 4

/-- st40: stores the low 40 bits (R236). -/
def execOpSt40 (h : Hdr) (rs : BitVec 5) (m : AMode) (s : State) : Host.Outcome State Fault Refusal :=
  s.storeInstr h rs m 5

end Sys2Proof.Machine
end

