-- ==== Sys2Proof/Machine/Dispatch.lean ====
section
/-! DEFINITION. The dispatch: one arm per command of Syntax.lean, in its order. -/

namespace Sys2Proof.Machine

def exec (i : Instr) (s : State) : Host.Outcome State Fault Refusal :=
  match i with
  | .opMov h rd ra => Sys2Proof.Machine.execOpMov h rd ra s
  | .opAdd h rd ra rb => Sys2Proof.Machine.execOpAdd h rd ra rb s
  | .opSub h rd ra rb => Sys2Proof.Machine.execOpSub h rd ra rb s
  | .opAddc h rd ra rb => Sys2Proof.Machine.execOpAddc h rd ra rb s
  | .opSubb h rd ra rb => Sys2Proof.Machine.execOpSubb h rd ra rb s
  | .opAnd h rd ra rb => Sys2Proof.Machine.execOpAnd h rd ra rb s
  | .opOr h rd ra rb => Sys2Proof.Machine.execOpOr h rd ra rb s
  | .opXor h rd ra rb => Sys2Proof.Machine.execOpXor h rd ra rb s
  | .opAndn h rd ra rb => Sys2Proof.Machine.execOpAndn h rd ra rb s
  | .opShl h rd ra rb => Sys2Proof.Machine.execOpShl h rd ra rb s
  | .opShr h rd ra rb => Sys2Proof.Machine.execOpShr h rd ra rb s
  | .opSar h rd ra rb => Sys2Proof.Machine.execOpSar h rd ra rb s
  | .opRol h rd ra rb => Sys2Proof.Machine.execOpRol h rd ra rb s
  | .opMul h rd ra rb => Sys2Proof.Machine.execOpMul h rd ra rb s
  | .opMulhu h rd ra rb => Sys2Proof.Machine.execOpMulhu h rd ra rb s
  | .opMin h rd ra rb => Sys2Proof.Machine.execOpMin h rd ra rb s
  | .opMax h rd ra rb => Sys2Proof.Machine.execOpMax h rd ra rb s
  | .opMinu h rd ra rb => Sys2Proof.Machine.execOpMinu h rd ra rb s
  | .opMaxu h rd ra rb => Sys2Proof.Machine.execOpMaxu h rd ra rb s
  | .opPopc h rd ra => Sys2Proof.Machine.execOpPopc h rd ra s
  | .opClz h rd ra => Sys2Proof.Machine.execOpClz h rd ra s
  | .opCmp h ra rb => Sys2Proof.Machine.execOpCmp h ra rb s
  | .opFsh h rd ra rb n => Sys2Proof.Machine.execOpFsh h rd ra rb n s
  | .opMovi h rd imm => Sys2Proof.Machine.execOpMovi h rd imm s
  | .opMovu h rd imm => Sys2Proof.Machine.execOpMovu h rd imm s
  | .opAddi h rd ra imm => Sys2Proof.Machine.execOpAddi h rd ra imm s
  | .opAndi h rd ra imm => Sys2Proof.Machine.execOpAndi h rd ra imm s
  | .opOri h rd ra imm => Sys2Proof.Machine.execOpOri h rd ra imm s
  | .opXori h rd ra imm => Sys2Proof.Machine.execOpXori h rd ra imm s
  | .opShli h rd ra n => Sys2Proof.Machine.execOpShli h rd ra n s
  | .opShri h rd ra n => Sys2Proof.Machine.execOpShri h rd ra n s
  | .opSari h rd ra n => Sys2Proof.Machine.execOpSari h rd ra n s
  | .opRoli h rd ra n => Sys2Proof.Machine.execOpRoli h rd ra n s
  | .opCmpi h ra imm => Sys2Proof.Machine.execOpCmpi h ra imm s
  | .opExt h rd ra pos lenM1 => Sys2Proof.Machine.execOpExt h rd ra pos lenM1 s
  | .opExts h rd ra pos lenM1 => Sys2Proof.Machine.execOpExts h rd ra pos lenM1 s
  | .opDep h rd ra pos lenM1 => Sys2Proof.Machine.execOpDep h rd ra pos lenM1 s
  | .opBeq h ra rb d => Sys2Proof.Machine.execOpBeq h ra rb d s
  | .opBne h ra rb d => Sys2Proof.Machine.execOpBne h ra rb d s
  | .opBlt h ra rb d => Sys2Proof.Machine.execOpBlt h ra rb d s
  | .opBge h ra rb d => Sys2Proof.Machine.execOpBge h ra rb d s
  | .opBltu h ra rb d => Sys2Proof.Machine.execOpBltu h ra rb d s
  | .opBgeu h ra rb d => Sys2Proof.Machine.execOpBgeu h ra rb d s
  | .opBeqz h ra d => Sys2Proof.Machine.execOpBeqz h ra d s
  | .opBnez h ra d => Sys2Proof.Machine.execOpBnez h ra d s
  | .opBbs h ra bit d => Sys2Proof.Machine.execOpBbs h ra bit d s
  | .opBbc h ra bit d => Sys2Proof.Machine.execOpBbc h ra bit d s
  | .opBcc h cond d => Sys2Proof.Machine.execOpBcc h cond d s
  | .opBr h d => Sys2Proof.Machine.execOpBr h d s
  | .opCall h d => Sys2Proof.Machine.execOpCall h d s
  | .opJr h ra => Sys2Proof.Machine.execOpJr h ra s
  | .opCallr h ra => Sys2Proof.Machine.execOpCallr h ra s
  | .opRet h => Sys2Proof.Machine.execOpRet h s
  | .opLd8 h rd m e => Sys2Proof.Machine.execOpLd8 h rd m e s
  | .opLd8s h rd m e => Sys2Proof.Machine.execOpLd8s h rd m e s
  | .opLd16 h rd m e => Sys2Proof.Machine.execOpLd16 h rd m e s
  | .opLd16s h rd m e => Sys2Proof.Machine.execOpLd16s h rd m e s
  | .opLd32 h rd m e => Sys2Proof.Machine.execOpLd32 h rd m e s
  | .opLd32s h rd m e => Sys2Proof.Machine.execOpLd32s h rd m e s
  | .opLd40 h rd m e => Sys2Proof.Machine.execOpLd40 h rd m e s
  | .opSt8 h rs m => Sys2Proof.Machine.execOpSt8 h rs m s
  | .opSt16 h rs m => Sys2Proof.Machine.execOpSt16 h rs m s
  | .opSt32 h rs m => Sys2Proof.Machine.execOpSt32 h rs m s
  | .opSt40 h rs m => Sys2Proof.Machine.execOpSt40 h rs m s
  | .opMova h an ra => Sys2Proof.Machine.execOpMova h an ra s
  | .opMovm h mn ra => Sys2Proof.Machine.execOpMovm h mn ra s
  | .opRda h rd an => Sys2Proof.Machine.execOpRda h rd an s
  | .opRdm h rd mn => Sys2Proof.Machine.execOpRdm h rd mn s
  | .opAdda h an rb => Sys2Proof.Machine.execOpAdda h an rb s
  | .opMtl h r ra => Sys2Proof.Machine.execOpMtl h r ra s
  | .opMfl h rd r => Sys2Proof.Machine.execOpMfl h rd r s
  | .opLoop h lv rs last => Sys2Proof.Machine.execOpLoop h lv rs last s
  | .opLoopi h lv count last => Sys2Proof.Machine.execOpLoopi h lv count last s
  | .opDand h rd ra rb => Sys2Proof.Machine.execOpDand h rd ra rb s
  | .opDor h rd ra rb => Sys2Proof.Machine.execOpDor h rd ra rb s
  | .opDxor h rd ra rb => Sys2Proof.Machine.execOpDxor h rd ra rb s
  | .opDnot h rd ra => Sys2Proof.Machine.execOpDnot h rd ra s
  | .opDres h rd ra rb => Sys2Proof.Machine.execOpDres h rd ra rb s
  | .opXcnt h rd ra => Sys2Proof.Machine.execOpXcnt h rd ra s
  | .opDadj h rd ra rb => Sys2Proof.Machine.execOpDadj h rd ra rb s
  | .opText h rd ra k => Sys2Proof.Machine.execOpText h rd ra k s
  | .opTins h rd ra k => Sys2Proof.Machine.execOpTins h rd ra k s
  | .opTexp h rd ra k => Sys2Proof.Machine.execOpTexp h rd ra k s
  | .opTcmp h rd ra k => Sys2Proof.Machine.execOpTcmp h rd ra k s
  | .opMth h hn ra => Sys2Proof.Machine.execOpMth h hn ra s
  | .opMfh h rd hn => Sys2Proof.Machine.execOpMfh h rd hn s
  | .opHwait h hb n => Sys2Proof.Machine.execOpHwait h hb n s
  | .opYield h => Sys2Proof.Machine.execOpYield h s
  | .opSwait h ra => Sys2Proof.Machine.execOpSwait h ra s
  | .opWfe h => Sys2Proof.Machine.execOpWfe h s
  | .opPrio h n => Sys2Proof.Machine.execOpPrio h n s
  | .opEnd h => Sys2Proof.Machine.execOpEnd h s
  | .opRdtime h rd => Sys2Proof.Machine.execOpRdtime h rd s
  | .opNop h => Sys2Proof.Machine.execOpNop h s
  | .opRdcr h rd n => Sys2Proof.Machine.execOpRdcr h rd n s
  | .opWrcr h n ra => Sys2Proof.Machine.execOpWrcr h n ra s
  | .opRett h => Sys2Proof.Machine.execOpRett h s
  | .opLsbot h rd => Sys2Proof.Machine.execOpLsbot h rd s
  | .opLsins h ra => Sys2Proof.Machine.execOpLsins h ra s
  | .opLkpTrie h x e => Sys2Proof.Machine.execOpLkpTrie h x e s
  | .opLkpLearnLookup h x e => Sys2Proof.Machine.execOpLkpLearnLookup h x e s
  | .opLkpLearn h x e => Sys2Proof.Machine.execOpLkpLearn h x e s
  | .opLkpGroup h x => Sys2Proof.Machine.execOpLkpGroup h x s
  | .opLkpFragRead h x => Sys2Proof.Machine.execOpLkpFragRead h x s
  | .opLkpFragWrite h x => Sys2Proof.Machine.execOpLkpFragWrite h x s
  | .opXchQuery h x => Sys2Proof.Machine.execOpXchQuery h x s
  | .opXchState h x => Sys2Proof.Machine.execOpXchState h x s
  | .opBufAlloc h x => Sys2Proof.Machine.execOpBufAlloc h x s
  | .opBufFree h x => Sys2Proof.Machine.execOpBufFree h x s
  | .opBufRef h x => Sys2Proof.Machine.execOpBufRef h x s
  | .opBufRead h x => Sys2Proof.Machine.execOpBufRead h x s
  | .opBufWrite h x => Sys2Proof.Machine.execOpBufWrite h x s
  | .opOrdRelease h x => Sys2Proof.Machine.execOpOrdRelease h x s
  | .opOrdDrop h x => Sys2Proof.Machine.execOpOrdDrop h x s
  | .opOrdToken h x => Sys2Proof.Machine.execOpOrdToken h x s
  | .opCrcWin h x e => Sys2Proof.Machine.execOpCrcWin h x e s
  | .opCrcReg h x => Sys2Proof.Machine.execOpCrcReg h x s
  | .opAtmLock h x => Sys2Proof.Machine.execOpAtmLock h x s
  | .opAtmUnlock h x => Sys2Proof.Machine.execOpAtmUnlock h x s
  | .opAtmAdd h x => Sys2Proof.Machine.execOpAtmAdd h x s
  | .opAtmSwap h x => Sys2Proof.Machine.execOpAtmSwap h x s
  | .opAtmCas h x => Sys2Proof.Machine.execOpAtmCas h x s
  | .opSqdLd h x e => Sys2Proof.Machine.execOpSqdLd h x e s
  | .opSqdSt h x e => Sys2Proof.Machine.execOpSqdSt h x e s
  | .opSqdAdd h x e => Sys2Proof.Machine.execOpSqdAdd h x e s
  | .opSqdCas h x e => Sys2Proof.Machine.execOpSqdCas h x e s
  | .opRdpr h rd n => Sys2Proof.Machine.execOpRdpr h rd n s
  | .opWrpr h n ra => Sys2Proof.Machine.execOpWrpr h n ra s
  | .opWdkick h ra => Sys2Proof.Machine.execOpWdkick h ra s
  | .opPeerrst h ra => Sys2Proof.Machine.execOpPeerrst h ra s
  | .opRfe h => Sys2Proof.Machine.execOpRfe h s
  | .opWqtake h rd => Sys2Proof.Machine.execOpWqtake h rd s
  | .opWqdone h ra => Sys2Proof.Machine.execOpWqdone h ra s
  | .opTstart h rd ra rb => Sys2Proof.Machine.execOpTstart h rd ra rb s
  | .opCinv h ra rb => Sys2Proof.Machine.execOpCinv h ra rb s
  | .opCwb h ra rb => Sys2Proof.Machine.execOpCwb h ra rb s
  | .opIlock h ra rb => Sys2Proof.Machine.execOpIlock h ra rb s
  | .opSvc h n => Sys2Proof.Machine.execOpSvc h n s
  | .registerWrite p o idx ty b => Sys2Proof.Machine.execRegisterWrite p o idx ty b s
  | .powerOn bib grade dieIds => Sys2Proof.Machine.execPowerOn bib grade dieIds s
  | .resetNEdge lowNs straps => Sys2Proof.Machine.execResetNEdge lowNs straps s
  | .pllLockTimeout => Sys2Proof.Machine.execPllLockTimeout s
  | .deviceReset c => Sys2Proof.Machine.execDeviceReset c s
  | .firmwareVerified slot good dram => Sys2Proof.Machine.execFirmwareVerified slot good dram s
  | .persistStore => Sys2Proof.Machine.execPersistStore s
  | .timeTick => Sys2Proof.Machine.execTimeTick s
  | .lapBoundary => Sys2Proof.Machine.execLapBoundary s
  | .splitBoundary port => Sys2Proof.Machine.execSplitBoundary port s
  | .missedLaunch q => Sys2Proof.Machine.execMissedLaunch q s
  | .announceTick => Sys2Proof.Machine.execAnnounceTick s
  | .anchorTakeover => Sys2Proof.Machine.execAnchorTakeover s
  | .announceAgeout => Sys2Proof.Machine.execAnnounceAgeout s
  | .syncTick port => Sys2Proof.Machine.execSyncTick port s
  | .offTheMarkEntry => Sys2Proof.Machine.execOffTheMarkEntry s
  | .ppsEdge fine => Sys2Proof.Machine.execPpsEdge fine s
  | .ppsTimeout => Sys2Proof.Machine.execPpsTimeout s
  | .ptpMessageReceive => Sys2Proof.Machine.execPtpMessageReceive s
  | .ppsOutRise => Sys2Proof.Machine.execPpsOutRise s
  | .ppsOutFall => Sys2Proof.Machine.execPpsOutFall s
  | .gunTimeStep p v => Sys2Proof.Machine.execGunTimeStep p v s
  | .anchorRank p v => Sys2Proof.Machine.execAnchorRank p v s
  | .lapLengthPending p v => Sys2Proof.Machine.execLapLengthPending p v s
  | .swapLap p v => Sys2Proof.Machine.execSwapLap p v s
  | .gateListPending p idx b => Sys2Proof.Machine.execGateListPending p idx b s
  | .rxWindowsPending p idx b => Sys2Proof.Machine.execRxWindowsPending p idx b s
  | .sleepEntry port => Sys2Proof.Machine.execSleepEntry port s
  | .preWake port => Sys2Proof.Machine.execPreWake port s
  | .wakeGrant => Sys2Proof.Machine.execWakeGrant s
  | .rampEnd => Sys2Proof.Machine.execRampEnd s
  | .laneWakeComplete port => Sys2Proof.Machine.execLaneWakeComplete port s
  | .frameArrival port sub b flits fine => Sys2Proof.Machine.execFrameArrival port sub b flits fine s
  | .frameEnd port sub k => Sys2Proof.Machine.execFrameEnd port sub k s
  | .codewordReceive port header errs => Sys2Proof.Machine.execCodewordReceive port header errs s
  | .lossOfSignal port lane => Sys2Proof.Machine.execLossOfSignal port lane s
  | .noValidUnitTimeout port => Sys2Proof.Machine.execNoValidUnitTimeout port s
  | .holdTimeExpiry port cls => Sys2Proof.Machine.execHoldTimeExpiry port cls s
  | .signalDetect port lanes => Sys2Proof.Machine.execSignalDetect port lanes s
  | .trainTimeout port => Sys2Proof.Machine.execTrainTimeout port s
  | .trainComplete port polarity reversed => Sys2Proof.Machine.execTrainComplete port polarity reversed s
  | .alignComplete port failRx failTx => Sys2Proof.Machine.execAlignComplete port failRx failTx s
  | .capabilityExchange port c => Sys2Proof.Machine.execCapabilityExchange port c s
  | .portEnable p idx v => Sys2Proof.Machine.execPortEnable p idx v s
  | .expectedBib p idx v => Sys2Proof.Machine.execExpectedBib p idx v s
  | .creditInit p idx v => Sys2Proof.Machine.execCreditInit p idx v s
  | .controlFlitSend port => Sys2Proof.Machine.execControlFlitSend port s
  | .creditTick port => Sys2Proof.Machine.execCreditTick port s
  | .idle port flit => Sys2Proof.Machine.execIdle port flit s
  | .credit port flit => Sys2Proof.Machine.execCredit port flit s
  | .announce port flit => Sys2Proof.Machine.execAnnounce port flit s
  | .sync port flit fine => Sys2Proof.Machine.execSync port flit fine s
  | .reply port flit fine => Sys2Proof.Machine.execReply port flit fine s
  | .lapMarker port flit => Sys2Proof.Machine.execLapMarker port flit s
  | .missedSlab port flit => Sys2Proof.Machine.execMissedSlab port flit s
  | .sleep port flit => Sys2Proof.Machine.execSleep port flit s
  | .abort port flit => Sys2Proof.Machine.execAbort port flit s
  | .linkRetrainRequest port flit => Sys2Proof.Machine.execLinkRetrainRequest port flit s
  | .linkFallbackRequest port flit => Sys2Proof.Machine.execLinkFallbackRequest port flit s
  | .pfcReceive port mask durations => Sys2Proof.Machine.execPfcReceive port mask durations s
  | .pauseReceive port duration => Sys2Proof.Machine.execPauseReceive port duration s
  | .pauseExpiry port prio => Sys2Proof.Machine.execPauseExpiry port prio s
  | .parseWalk fid e => Sys2Proof.Machine.execParseWalk fid e s
  | .cardWrite fid => Sys2Proof.Machine.execCardWrite fid s
  | .fragHoldExpiry fid => Sys2Proof.Machine.execFragHoldExpiry fid s
  | .fragEntryExpiry n => Sys2Proof.Machine.execFragEntryExpiry n s
  | .runStart tid e => Sys2Proof.Machine.execRunStart tid e s
  | .dropCardRun tid => Sys2Proof.Machine.execDropCardRun tid s
  | .graphCommit p v => Sys2Proof.Machine.execGraphCommit p v s
  | .parseGraphPending p b => Sys2Proof.Machine.execParseGraphPending p b s
  | .startType p idx v => Sys2Proof.Machine.execStartType p idx v s
  | .odBlock p idx v => Sys2Proof.Machine.execOdBlock p idx v s
  | .maskSet p idx b => Sys2Proof.Machine.execMaskSet p idx b s
  | .ruleBatch p b => Sys2Proof.Machine.execRuleBatch p b s
  | .edit p idx b => Sys2Proof.Machine.execEdit p idx b s
  | .hashTestSeed p b => Sys2Proof.Machine.execHashTestSeed p b s
  | .bankMap p b => Sys2Proof.Machine.execBankMap p b s
  | .trieLoad p idx b => Sys2Proof.Machine.execTrieLoad p idx b s
  | .trieBatch p b => Sys2Proof.Machine.execTrieBatch p b s
  | .trieFlip => Sys2Proof.Machine.execTrieFlip s
  | .nodeFree => Sys2Proof.Machine.execNodeFree s
  | .learnStatic p b => Sys2Proof.Machine.execLearnStatic p b s
  | .learnFlush p idx v => Sys2Proof.Machine.execLearnFlush p idx v s
  | .ageingVisit => Sys2Proof.Machine.execAgeingVisit s
  | .group p idx b => Sys2Proof.Machine.execGroup p idx b s
  | .reseedLap p v => Sys2Proof.Machine.execReseedLap p v s
  | .polarWindowEnd => Sys2Proof.Machine.execPolarWindowEnd s
  | .auditCompare tbl n e differs poisoned => Sys2Proof.Machine.execAuditCompare tbl n e differs poisoned s
  | .tableEntryRestore tbl n poisoned => Sys2Proof.Machine.execTableEntryRestore tbl n poisoned s
  | .relaySetPending p idx b => Sys2Proof.Machine.execRelaySetPending p idx b s
  | .shellIssue t lap lane k => Sys2Proof.Machine.execShellIssue t lap lane k s
  | .buildStart u => Sys2Proof.Machine.execBuildStart u s
  | .buildComplete u => Sys2Proof.Machine.execBuildComplete u s
  | .streamUnderrun port => Sys2Proof.Machine.execStreamUnderrun port s
  | .exchangeDeadline port win lap => Sys2Proof.Machine.execExchangeDeadline port win lap s
  | .threadFree tid => Sys2Proof.Machine.execThreadFree tid s
  | .helperResult core tag => Sys2Proof.Machine.execHelperResult core tag s
  | .stopwatchExpiry tid => Sys2Proof.Machine.execStopwatchExpiry tid s
  | .tokenTimeout tid => Sys2Proof.Machine.execTokenTimeout tid s
  | .localStoreRewrite sq idx addr => Sys2Proof.Machine.execLocalStoreRewrite sq idx addr s
  | .imagePending p idx b => Sys2Proof.Machine.execImagePending p idx b s
  | .imageCommit p v => Sys2Proof.Machine.execImageCommit p v s
  | .drainComplete sq => Sys2Proof.Machine.execDrainComplete sq s
  | .drainLimitExpiry sq => Sys2Proof.Machine.execDrainLimitExpiry sq s
  | .initTimeout sq => Sys2Proof.Machine.execInitTimeout sq s
  | .squadFreq p idx v => Sys2Proof.Machine.execSquadFreq p idx v s
  | .squadFreqChangeComplete sq => Sys2Proof.Machine.execSquadFreqChangeComplete sq s
  | .squadMode p idx v => Sys2Proof.Machine.execSquadMode p idx v s
  | .squadWakeComplete sq => Sys2Proof.Machine.execSquadWakeComplete sq s
  | .squadEvent p idx v => Sys2Proof.Machine.execSquadEvent p idx v s
  | .handover od => Sys2Proof.Machine.execHandover od s
  | .egressSelection port sub => Sys2Proof.Machine.execEgressSelection port sub s
  | .frameLaunch port sub => Sys2Proof.Machine.execFrameLaunch port sub s
  | .frameTransmitEnd port sub e => Sys2Proof.Machine.execFrameTransmitEnd port sub e s
  | .openHalfExpiry part grp => Sys2Proof.Machine.execOpenHalfExpiry part grp s
  | .pacerRefill => Sys2Proof.Machine.execPacerRefill s
  | .partitionSizes p b => Sys2Proof.Machine.execPartitionSizes p b s
  | .queueDesc p idx b => Sys2Proof.Machine.execQueueDesc p idx b s
  | .queueBlock p idx v => Sys2Proof.Machine.execQueueBlock p idx v s
  | .queueRing p idx b => Sys2Proof.Machine.execQueueRing p idx b s
  | .queuePacer p idx b => Sys2Proof.Machine.execQueuePacer p idx b s
  | .tenantPacer p idx b => Sys2Proof.Machine.execTenantPacer p idx b s
  | .marshal p idx b => Sys2Proof.Machine.execMarshal p idx b s
  | .hostReserve p idx v => Sys2Proof.Machine.execHostReserve p idx v s
  | .doorbellWrite function off v descs => Sys2Proof.Machine.execDoorbellWrite function off v descs s
  | .txDescriptorFetch q reads => Sys2Proof.Machine.execTxDescriptorFetch q reads s
  | .rxDmaDelivery q => Sys2Proof.Machine.execRxDmaDelivery q s
  | .msixModerationExpiry q => Sys2Proof.Machine.execMsixModerationExpiry q s
  | .bar2Access off len wr => Sys2Proof.Machine.execBar2Access off len wr s
  | .pcieFlr function => Sys2Proof.Machine.execPcieFlr function s
  | .pcieReset fundamental => Sys2Proof.Machine.execPcieReset fundamental s
  | .lockRegisterRead function l => Sys2Proof.Machine.execLockRegisterRead function l s
  | .lockRegisterWrite function l => Sys2Proof.Machine.execLockRegisterWrite function l s
  | .lockAttempt p l => Sys2Proof.Machine.execLockAttempt p l s
  | .lockUnlock p l => Sys2Proof.Machine.execLockUnlock p l s
  | .lockConfig p idx v => Sys2Proof.Machine.execLockConfig p idx v s
  | .atomicBlock p idx v => Sys2Proof.Machine.execAtomicBlock p idx v s
  | .globalOpStart p t flags lap => Sys2Proof.Machine.execGlobalOpStart p t flags lap s
  | .globalOpHold p t flags lap => Sys2Proof.Machine.execGlobalOpHold p t flags lap s
  | .globalOpFreeze p t flags lap => Sys2Proof.Machine.execGlobalOpFreeze p t flags lap s
  | .globalOpSnapshot p t flags lap => Sys2Proof.Machine.execGlobalOpSnapshot p t flags lap s
  | .globalOpReset p t flags lap => Sys2Proof.Machine.execGlobalOpReset p t flags lap s
  | .globalOpFault p t flags lap => Sys2Proof.Machine.execGlobalOpFault p t flags lap s
  | .waveSchedule port flit => Sys2Proof.Machine.execWaveSchedule port flit s
  | .tenantResetComplete t => Sys2Proof.Machine.execTenantResetComplete t s
  | .photoCaptureComplete t => Sys2Proof.Machine.execPhotoCaptureComplete t s
  | .photoRestore p idx v => Sys2Proof.Machine.execPhotoRestore p idx v s
  | .waveJoin port flit => Sys2Proof.Machine.execWaveJoin port flit s
  | .waveLeave port flit => Sys2Proof.Machine.execWaveLeave port flit s
  | .waveBarrier port flit => Sys2Proof.Machine.execWaveBarrier port flit s
  | .waveHalt port flit => Sys2Proof.Machine.execWaveHalt port flit s
  | .waveBroadcast port flit => Sys2Proof.Machine.execWaveBroadcast port flit s
  | .wavePhotoDone port flit => Sys2Proof.Machine.execWavePhotoDone port flit s
  | .barrierArrive p idx v => Sys2Proof.Machine.execBarrierArrive p idx v s
  | .broadcastSend p idx v => Sys2Proof.Machine.execBroadcastSend p idx v s
  | .haltRequest p idx v => Sys2Proof.Machine.execHaltRequest p idx v s
  | .faultLogClear p idx v => Sys2Proof.Machine.execFaultLogClear p idx v s
  | .traceExtract t lap slab => Sys2Proof.Machine.execTraceExtract t lap slab s
  | .mirrorWrite t => Sys2Proof.Machine.execMirrorWrite t s
  | .traceRing p idx b => Sys2Proof.Machine.execTraceRing p idx b s
  | .traceArm p idx v => Sys2Proof.Machine.execTraceArm p idx v s
  | .traceTrigger p idx v => Sys2Proof.Machine.execTraceTrigger p idx v s
  | .snapArea p idx b => Sys2Proof.Machine.execSnapArea p idx b s
  | .snapUpload p idx v => Sys2Proof.Machine.execSnapUpload p idx v s
  | .uploadSubmit t => Sys2Proof.Machine.execUploadSubmit t s
  | .dramRead r a len e => Sys2Proof.Machine.execDramRead r a len e s
  | .dramWrite r a b => Sys2Proof.Machine.execDramWrite r a b s
  | .refresh ch => Sys2Proof.Machine.execRefresh ch s
  | .dimmTempRead ch mC => Sys2Proof.Machine.execDimmTempRead ch mC s
  | .scrubRead a e => Sys2Proof.Machine.execScrubRead a e s
  | .scrubPassEnd ch secs => Sys2Proof.Machine.execScrubPassEnd ch secs s
  | .dramSweep p idx v => Sys2Proof.Machine.execDramSweep p idx v s
  | .sweepComplete ch delays => Sys2Proof.Machine.execSweepComplete ch delays s
  | .interruptEntry k e => Sys2Proof.Machine.execInterruptEntry k e s
  | .watchdogExpiry k => Sys2Proof.Machine.execWatchdogExpiry k s
  | .hardwareCoreReset k => Sys2Proof.Machine.execHardwareCoreReset k s
  | .timerCompare k => Sys2Proof.Machine.execTimerCompare k s
  | .workQueueRefill q => Sys2Proof.Machine.execWorkQueueRefill q s
  | .extModule p b => Sys2Proof.Machine.execExtModule p b s
  | .extCall p b => Sys2Proof.Machine.execExtCall p b s
  | .extTick => Sys2Proof.Machine.execExtTick s
  | .request path msg => Sys2Proof.Machine.execRequest path msg s
  | .assemblyTimeout pi => Sys2Proof.Machine.execAssemblyTimeout pi s
  | .sessionIdleTimeout pi => Sys2Proof.Machine.execSessionIdleTimeout pi s
  | .sessionLevel p v => Sys2Proof.Machine.execSessionLevel p v s
  | .expertRights p v => Sys2Proof.Machine.execExpertRights p v s
  | .attentionLog p => Sys2Proof.Machine.execAttentionLog p s
  | .mailboxDoorbell function len req => Sys2Proof.Machine.execMailboxDoorbell function len req s
  | .fieldFrameReceive fcsOk b => Sys2Proof.Machine.execFieldFrameReceive fcsOk b s
  | .fieldCollision => Sys2Proof.Machine.execFieldCollision s
  | .epochStart e window => Sys2Proof.Machine.execEpochStart e window s
  | .callRoomQuery e plen window pfx src => Sys2Proof.Machine.execCallRoomQuery e plen window pfx src s
  | .answerSend => Sys2Proof.Machine.execAnswerSend s
  | .answerAbandon => Sys2Proof.Machine.execAnswerAbandon s
  | .assign e node bib src => Sys2Proof.Machine.execAssign e node bib src s
  | .epochEnd e found => Sys2Proof.Machine.execEpochEnd e found s
  | .answer bib e node => Sys2Proof.Machine.execAnswer bib e node s
  | .assigned bib e node => Sys2Proof.Machine.execAssigned bib e node s
  | .queryListenEnd noise => Sys2Proof.Machine.execQueryListenEnd noise s
  | .callRoomRound => Sys2Proof.Machine.execCallRoomRound s
  | .deviceId p v => Sys2Proof.Machine.execDeviceId p v s
  | .deviceResetRequest p => Sys2Proof.Machine.execDeviceResetRequest p s
  | .starterDomainResetRequest p => Sys2Proof.Machine.execStarterDomainResetRequest p s
  | .starterDomainReset => Sys2Proof.Machine.execStarterDomainReset s
  | .managementDomainResetRequest p => Sys2Proof.Machine.execManagementDomainResetRequest p s
  | .squadResetRequest p sq => Sys2Proof.Machine.execSquadResetRequest p sq s
  | .portResetRequest p port => Sys2Proof.Machine.execPortResetRequest p port s
  | .jtagRzReset => Sys2Proof.Machine.execJtagRzReset s
  | .errorLogClear p v => Sys2Proof.Machine.execErrorLogClear p v s
  | .calBlock p b => Sys2Proof.Machine.execCalBlock p b s
  | .calSectionWrite p o idx b => Sys2Proof.Machine.execCalSectionWrite p o idx b s
  | .calCommit p v => Sys2Proof.Machine.execCalCommit p v s
  | .calDiscard p v => Sys2Proof.Machine.execCalDiscard p v s
  | .persistErase p v => Sys2Proof.Machine.execPersistErase p v s
  | .fwImage p idx b signed => Sys2Proof.Machine.execFwImage p idx b signed s
  | .dieTempSample temps => Sys2Proof.Machine.execDieTempSample temps s
  | .railTelemetry readings => Sys2Proof.Machine.execRailTelemetry readings s
  | .avsRecompute r => Sys2Proof.Machine.execAvsRecompute r s
  | .pmbAlert faults => Sys2Proof.Machine.execPmbAlert faults s
  | .tclkInLoss => Sys2Proof.Machine.execTclkInLoss s
  | .tclkInReturn => Sys2Proof.Machine.execTclkInReturn s
  | .sdsRefclkLoss die => Sys2Proof.Machine.execSdsRefclkLoss die s
  | .sdsRefclkReturn die => Sys2Proof.Machine.execSdsRefclkReturn die s
  | .wakeRate p v => Sys2Proof.Machine.execWakeRate p v s
  | .patrolRead w e => Sys2Proof.Machine.execPatrolRead w e s
  | .powerLoss => Sys2Proof.Machine.execPowerLoss s
  | .flashOperationComplete ok => Sys2Proof.Machine.execFlashOperationComplete ok s
  | .epochSearchStart => Sys2Proof.Machine.execEpochSearchStart s
  | .assignResend => Sys2Proof.Machine.execAssignResend s
  | .traceWriteTimeout t => Sys2Proof.Machine.execTraceWriteTimeout t s
  | .reservationRefill => Sys2Proof.Machine.execReservationRefill s
  | .dlActiveChange active rate width => Sys2Proof.Machine.execDlActiveChange active rate width s
  | .autoNegotiationComplete port => Sys2Proof.Machine.execAutoNegotiationComplete port s

end Sys2Proof.Machine
end

