-- ==== Sys2Proof/WellFormed.lean ====
section
/-! DEFINITION. Which commands are well formed: every principal, core, thread, port, tenant, squad, queue, channel, function, lock and die
that a command names exists. -/

namespace Sys2Proof

/-- A principal that Table 13.1 knows. -/
def Principal.ok : Principal → Bool
  | .tenant t => t < 256
  | .fw k => k < 4
  | .host | .field => true

/-- A thread of the 1,536 of R192, or one of the four Starter cores. -/
def CoreRef.ok : CoreRef → Bool
  | .strider tid => tid < 1536
  | .starter k => k < 4

/-- A path of Table 13.1. -/
def Path.ok : Path → Bool
  | .mailbox f => f < 257
  | .inband port sub tenant => port < 16 && sub < 8 && tenant < 256
  | .fieldNet => true

/-- A port instance (R132), port P included. -/
def portOk (p : Nat) : Bool := p < 17

/-- Whether a command is well formed. -/
def Instr.wf : Instr → Bool
  | .opMov h _ _ => h.core.ok
  | .opAdd h _ _ _ => h.core.ok
  | .opSub h _ _ _ => h.core.ok
  | .opAddc h _ _ _ => h.core.ok
  | .opSubb h _ _ _ => h.core.ok
  | .opAnd h _ _ _ => h.core.ok
  | .opOr h _ _ _ => h.core.ok
  | .opXor h _ _ _ => h.core.ok
  | .opAndn h _ _ _ => h.core.ok
  | .opShl h _ _ _ => h.core.ok
  | .opShr h _ _ _ => h.core.ok
  | .opSar h _ _ _ => h.core.ok
  | .opRol h _ _ _ => h.core.ok
  | .opMul h _ _ _ => h.core.ok
  | .opMulhu h _ _ _ => h.core.ok
  | .opMin h _ _ _ => h.core.ok
  | .opMax h _ _ _ => h.core.ok
  | .opMinu h _ _ _ => h.core.ok
  | .opMaxu h _ _ _ => h.core.ok
  | .opPopc h _ _ => h.core.ok
  | .opClz h _ _ => h.core.ok
  | .opCmp h _ _ => h.core.ok
  | .opFsh h _ _ _ _ => h.core.ok
  | .opMovi h _ _ => h.core.ok
  | .opMovu h _ _ => h.core.ok
  | .opAddi h _ _ _ => h.core.ok
  | .opAndi h _ _ _ => h.core.ok
  | .opOri h _ _ _ => h.core.ok
  | .opXori h _ _ _ => h.core.ok
  | .opShli h _ _ _ => h.core.ok
  | .opShri h _ _ _ => h.core.ok
  | .opSari h _ _ _ => h.core.ok
  | .opRoli h _ _ _ => h.core.ok
  | .opCmpi h _ _ => h.core.ok
  | .opExt h _ _ _ _ => h.core.ok
  | .opExts h _ _ _ _ => h.core.ok
  | .opDep h _ _ _ _ => h.core.ok
  | .opBeq h _ _ _ => h.core.ok
  | .opBne h _ _ _ => h.core.ok
  | .opBlt h _ _ _ => h.core.ok
  | .opBge h _ _ _ => h.core.ok
  | .opBltu h _ _ _ => h.core.ok
  | .opBgeu h _ _ _ => h.core.ok
  | .opBeqz h _ _ => h.core.ok
  | .opBnez h _ _ => h.core.ok
  | .opBbs h _ _ _ => h.core.ok
  | .opBbc h _ _ _ => h.core.ok
  | .opBcc h _ _ => h.core.ok
  | .opBr h _ => h.core.ok
  | .opCall h _ => h.core.ok
  | .opJr h _ => h.core.ok
  | .opCallr h _ => h.core.ok
  | .opRet h => h.core.ok
  | .opLd8 h _ _ _ => h.core.ok
  | .opLd8s h _ _ _ => h.core.ok
  | .opLd16 h _ _ _ => h.core.ok
  | .opLd16s h _ _ _ => h.core.ok
  | .opLd32 h _ _ _ => h.core.ok
  | .opLd32s h _ _ _ => h.core.ok
  | .opLd40 h _ _ _ => h.core.ok
  | .opSt8 h _ _ => h.core.ok
  | .opSt16 h _ _ => h.core.ok
  | .opSt32 h _ _ => h.core.ok
  | .opSt40 h _ _ => h.core.ok
  | .opMova h _ _ => h.core.ok
  | .opMovm h _ _ => h.core.ok
  | .opRda h _ _ => h.core.ok
  | .opRdm h _ _ => h.core.ok
  | .opAdda h _ _ => h.core.ok
  | .opMtl h _ _ => h.core.ok
  | .opMfl h _ _ => h.core.ok
  | .opLoop h _ _ _ => h.core.ok
  | .opLoopi h _ _ _ => h.core.ok
  | .opDand h _ _ _ => h.core.ok
  | .opDor h _ _ _ => h.core.ok
  | .opDxor h _ _ _ => h.core.ok
  | .opDnot h _ _ => h.core.ok
  | .opDres h _ _ _ => h.core.ok
  | .opXcnt h _ _ => h.core.ok
  | .opDadj h _ _ _ => h.core.ok
  | .opText h _ _ _ => h.core.ok
  | .opTins h _ _ _ => h.core.ok
  | .opTexp h _ _ _ => h.core.ok
  | .opTcmp h _ _ _ => h.core.ok
  | .opMth h _ _ => h.core.ok
  | .opMfh h _ _ => h.core.ok
  | .opHwait h _ _ => h.core.ok
  | .opYield h => h.core.ok
  | .opSwait h _ => h.core.ok
  | .opWfe h => h.core.ok
  | .opPrio h _ => h.core.ok
  | .opEnd h => h.core.ok
  | .opRdtime h _ => h.core.ok
  | .opNop h => h.core.ok
  | .opRdcr h _ _ => h.core.ok
  | .opWrcr h _ _ => h.core.ok
  | .opRett h => h.core.ok
  | .opLsbot h _ => h.core.ok
  | .opLsins h _ => h.core.ok
  | .opLkpTrie h _ _ => h.core.ok
  | .opLkpLearnLookup h _ _ => h.core.ok
  | .opLkpLearn h _ _ => h.core.ok
  | .opLkpGroup h _ => h.core.ok
  | .opLkpFragRead h _ => h.core.ok
  | .opLkpFragWrite h _ => h.core.ok
  | .opXchQuery h _ => h.core.ok
  | .opXchState h _ => h.core.ok
  | .opBufAlloc h _ => h.core.ok
  | .opBufFree h _ => h.core.ok
  | .opBufRef h _ => h.core.ok
  | .opBufRead h _ => h.core.ok
  | .opBufWrite h _ => h.core.ok
  | .opOrdRelease h _ => h.core.ok
  | .opOrdDrop h _ => h.core.ok
  | .opOrdToken h _ => h.core.ok
  | .opCrcWin h _ _ => h.core.ok
  | .opCrcReg h _ => h.core.ok
  | .opAtmLock h _ => h.core.ok
  | .opAtmUnlock h _ => h.core.ok
  | .opAtmAdd h _ => h.core.ok
  | .opAtmSwap h _ => h.core.ok
  | .opAtmCas h _ => h.core.ok
  | .opSqdLd h _ _ => h.core.ok
  | .opSqdSt h _ _ => h.core.ok
  | .opSqdAdd h _ _ => h.core.ok
  | .opSqdCas h _ _ => h.core.ok
  | .opRdpr h _ _ => h.core.ok
  | .opWrpr h _ _ => h.core.ok
  | .opWdkick h _ => h.core.ok
  | .opPeerrst h _ => h.core.ok
  | .opRfe h => h.core.ok
  | .opWqtake h _ => h.core.ok
  | .opWqdone h _ => h.core.ok
  | .opTstart h _ _ _ => h.core.ok
  | .opCinv h _ _ => h.core.ok
  | .opCwb h _ _ => h.core.ok
  | .opIlock h _ _ => h.core.ok
  | .opSvc h _ => h.core.ok
  | .registerWrite p _ _ _ _ => p.ok
  | .powerOn _ _ _ => true
  | .resetNEdge _ _ => true
  | .pllLockTimeout => true
  | .deviceReset _ => true
  | .firmwareVerified slot _ _ => slot < 2
  | .persistStore => true
  | .timeTick => true
  | .lapBoundary => true
  | .splitBoundary port => portOk port
  | .missedLaunch q => q < 16384
  | .announceTick => true
  | .anchorTakeover => true
  | .announceAgeout => true
  | .syncTick port => portOk port
  | .offTheMarkEntry => true
  | .ppsEdge _ => true
  | .ppsTimeout => true
  | .ptpMessageReceive => true
  | .ppsOutRise => true
  | .ppsOutFall => true
  | .gunTimeStep p _ => p.ok
  | .anchorRank p _ => p.ok
  | .lapLengthPending p _ => p.ok
  | .swapLap p _ => p.ok
  | .gateListPending p _ _ => p.ok
  | .rxWindowsPending p _ _ => p.ok
  | .sleepEntry port => portOk port
  | .preWake port => portOk port
  | .wakeGrant => true
  | .rampEnd => true
  | .laneWakeComplete port => portOk port
  | .frameArrival port sub _ _ _ => portOk port && sub < 8
  | .frameEnd port sub _ => portOk port && sub < 8
  | .codewordReceive port _ _ => portOk port
  | .lossOfSignal port _ => portOk port
  | .noValidUnitTimeout port => portOk port
  | .holdTimeExpiry port _ => portOk port
  | .signalDetect port _ => portOk port
  | .trainTimeout port => portOk port
  | .trainComplete port _ _ => portOk port
  | .alignComplete port _ _ => portOk port
  | .capabilityExchange port _ => portOk port
  | .portEnable p _ _ => p.ok
  | .expectedBib p _ _ => p.ok
  | .creditInit p _ _ => p.ok
  | .controlFlitSend port => portOk port
  | .creditTick port => portOk port
  | .idle port _ => portOk port
  | .credit port _ => portOk port
  | .announce port _ => portOk port
  | .sync port _ _ => portOk port
  | .reply port _ _ => portOk port
  | .lapMarker port _ => portOk port
  | .missedSlab port _ => portOk port
  | .sleep port _ => portOk port
  | .abort port _ => portOk port
  | .linkRetrainRequest port _ => portOk port
  | .linkFallbackRequest port _ => portOk port
  | .pfcReceive port _ _ => portOk port
  | .pauseReceive port _ => portOk port
  | .pauseExpiry port _ => portOk port
  | .parseWalk _ _ => true
  | .cardWrite _ => true
  | .fragHoldExpiry _ => true
  | .fragEntryExpiry _ => true
  | .runStart tid _ => tid < 1536
  | .dropCardRun tid => tid < 1536
  | .graphCommit p _ => p.ok
  | .parseGraphPending p _ => p.ok
  | .startType p _ _ => p.ok
  | .odBlock p _ _ => p.ok
  | .maskSet p _ _ => p.ok
  | .ruleBatch p _ => p.ok
  | .edit p _ _ => p.ok
  | .hashTestSeed p _ => p.ok
  | .bankMap p _ => p.ok
  | .trieLoad p _ _ => p.ok
  | .trieBatch p _ => p.ok
  | .trieFlip => true
  | .nodeFree => true
  | .learnStatic p _ => p.ok
  | .learnFlush p _ _ => p.ok
  | .ageingVisit => true
  | .group p _ _ => p.ok
  | .reseedLap p _ => p.ok
  | .polarWindowEnd => true
  | .auditCompare _ _ _ _ _ => true
  | .tableEntryRestore _ _ _ => true
  | .relaySetPending p _ _ => p.ok
  | .shellIssue t _ _ _ => t < 256
  | .buildStart _ => true
  | .buildComplete _ => true
  | .streamUnderrun port => portOk port
  | .exchangeDeadline port _ _ => portOk port
  | .threadFree tid => tid < 1536
  | .helperResult core _ => core.ok
  | .stopwatchExpiry tid => tid < 1536
  | .tokenTimeout tid => tid < 1536
  | .localStoreRewrite sq _ _ => sq < 12
  | .imagePending p _ _ => p.ok
  | .imageCommit p _ => p.ok
  | .drainComplete sq => sq < 12
  | .drainLimitExpiry sq => sq < 12
  | .initTimeout sq => sq < 12
  | .squadFreq p _ _ => p.ok
  | .squadFreqChangeComplete sq => sq < 12
  | .squadMode p _ _ => p.ok
  | .squadWakeComplete sq => sq < 12
  | .squadEvent p _ _ => p.ok
  | .handover _ => true
  | .egressSelection port sub => portOk port && sub < 8
  | .frameLaunch port sub => portOk port && sub < 8
  | .frameTransmitEnd port sub _ => portOk port && sub < 8
  | .openHalfExpiry _ _ => true
  | .pacerRefill => true
  | .partitionSizes p _ => p.ok
  | .queueDesc p _ _ => p.ok
  | .queueBlock p _ _ => p.ok
  | .queueRing p _ _ => p.ok
  | .queuePacer p _ _ => p.ok
  | .tenantPacer p _ _ => p.ok
  | .marshal p _ _ => p.ok
  | .hostReserve p _ _ => p.ok
  | .doorbellWrite function _ _ _ => function < 257
  | .txDescriptorFetch q _ => q < 16384
  | .rxDmaDelivery q => q < 16384
  | .msixModerationExpiry q => q < 16384
  | .bar2Access _ _ _ => true
  | .pcieFlr function => function < 257
  | .pcieReset _ => true
  | .lockRegisterRead function l => function < 257 && l < 64
  | .lockRegisterWrite function l => function < 257 && l < 64
  | .lockAttempt p l => p.ok && l < 64
  | .lockUnlock p l => p.ok && l < 64
  | .lockConfig p _ _ => p.ok
  | .atomicBlock p _ _ => p.ok
  | .globalOpStart p t _ _ => p.ok && t < 256
  | .globalOpHold p t _ _ => p.ok && t < 256
  | .globalOpFreeze p t _ _ => p.ok && t < 256
  | .globalOpSnapshot p t _ _ => p.ok && t < 256
  | .globalOpReset p t _ _ => p.ok && t < 256
  | .globalOpFault p t _ _ => p.ok && t < 256
  | .waveSchedule port _ => portOk port
  | .tenantResetComplete t => t < 256
  | .photoCaptureComplete t => t < 256
  | .photoRestore p _ _ => p.ok
  | .waveJoin port _ => portOk port
  | .waveLeave port _ => portOk port
  | .waveBarrier port _ => portOk port
  | .waveHalt port _ => portOk port
  | .waveBroadcast port _ => portOk port
  | .wavePhotoDone port _ => portOk port
  | .barrierArrive p _ _ => p.ok
  | .broadcastSend p _ _ => p.ok
  | .haltRequest p _ _ => p.ok
  | .faultLogClear p _ _ => p.ok
  | .traceExtract t _ _ => t < 256
  | .mirrorWrite t => t < 256
  | .traceRing p _ _ => p.ok
  | .traceArm p _ _ => p.ok
  | .traceTrigger p _ _ => p.ok
  | .snapArea p _ _ => p.ok
  | .snapUpload p _ _ => p.ok
  | .uploadSubmit t => t < 256
  | .dramRead _ _ _ _ => true
  | .dramWrite _ _ _ => true
  | .refresh ch => ch < 4
  | .dimmTempRead ch _ => ch < 4
  | .scrubRead _ _ => true
  | .scrubPassEnd ch _ => ch < 4
  | .dramSweep p _ _ => p.ok
  | .sweepComplete ch _ => ch < 4
  | .interruptEntry k _ => k < 4
  | .watchdogExpiry k => k < 4
  | .hardwareCoreReset k => k < 4
  | .timerCompare k => k < 4
  | .workQueueRefill q => q < 7
  | .extModule p _ => p.ok
  | .extCall p _ => p.ok
  | .extTick => true
  | .request path _ => path.ok
  | .assemblyTimeout _ => true
  | .sessionIdleTimeout _ => true
  | .sessionLevel p _ => p.ok
  | .expertRights p _ => p.ok
  | .attentionLog p => p.ok
  | .mailboxDoorbell function _ _ => function < 257
  | .fieldFrameReceive _ _ => true
  | .fieldCollision => true
  | .epochStart _ _ => true
  | .callRoomQuery _ _ _ _ _ => true
  | .answerSend => true
  | .answerAbandon => true
  | .assign _ _ _ _ => true
  | .epochEnd _ _ => true
  | .answer _ _ _ => true
  | .assigned _ _ _ => true
  | .queryListenEnd _ => true
  | .callRoomRound => true
  | .deviceId p _ => p.ok
  | .deviceResetRequest p => p.ok
  | .starterDomainResetRequest p => p.ok
  | .starterDomainReset => true
  | .managementDomainResetRequest p => p.ok
  | .squadResetRequest p sq => p.ok && sq < 12
  | .portResetRequest p port => p.ok && portOk port
  | .jtagRzReset => true
  | .errorLogClear p _ => p.ok
  | .calBlock p _ => p.ok
  | .calSectionWrite p _ _ _ => p.ok
  | .calCommit p _ => p.ok
  | .calDiscard p _ => p.ok
  | .persistErase p _ => p.ok
  | .fwImage p _ _ _ => p.ok
  | .dieTempSample _ => true
  | .railTelemetry _ => true
  | .avsRecompute _ => true
  | .pmbAlert _ => true
  | .tclkInLoss => true
  | .tclkInReturn => true
  | .sdsRefclkLoss die => die < 5
  | .sdsRefclkReturn die => die < 5
  | .wakeRate p _ => p.ok
  | .patrolRead _ _ => true
  | .powerLoss => true
  | .flashOperationComplete _ => true
  | .epochSearchStart => true
  | .assignResend => true
  | .traceWriteTimeout t => t < 256
  | .reservationRefill => true
  | .dlActiveChange _ _ _ => true
  | .autoNegotiationComplete port => portOk port

end Sys2Proof
end

