-- ==== Sys2Proof/Safety.lean ====
section
/-! DEFINITION. The words that the statements use: a command that runs, an instruction that issues and what it leaves, an accepted
write of the dictionary, and the invariant. -/

namespace Sys2Proof.Machine

/-- The command answers a next state, of which P holds. -/
def Runs (c : Instr) (s : State) (P : State → Prop) : Prop := ∃ t, exec c s = .next t ∧ P t

/-- The byte memories of the device: the pinned program, the local and squad stores and the frame windows (R193), the Starter store and the mask ROM (R352),
DRAM (R327) and the cells of the buffer pool (R261). -/
def State.memories (s : State) : List Mem :=
  [s.strider.pinned, s.strider.lstore, s.strider.sstore, s.strider.windows, s.starter.store, s.starter.rom, s.dram.data, s.buf.pool.data]

/-- Every command that waits is well formed, and every memory is in its canonical form. -/
def State.Inv (s : State) : Prop := s.pending.all Instr.wf = true ∧ s.memories.all memWf = true

/-! ## Instructions -/

/-- Whether who executes is a Starter core, which interlocks (R354). -/
def interlocks : CoreRef → Bool
  | .starter _ => true
  | .strider _ => false

/-- It is the turn of who executes (R199, R353), the instruction is fetched (R195, R219, R229, R352, R357), and no fault comes before it
does anything (R215, R216, R232, R235); `u` is the state in which it issues. -/
def Issues (s : State) (h : Hdr) (kind : Kind) (u : State) : Prop :=
  s.fetched h = some u ∧ u.fetchOk h.core (u.ctx h.core).pc (hdrSize h) = true ∧ u.preFault h kind (u.ctx h.core) = none

/-- The registers that an instruction sees which issues in `u`: the instruction is counted (R215). -/
def State.sees (u : State) (h : Hdr) : Ctx := (u.countIssue h.core).ctx h.core

/-- What an instruction leaves that issues in `u`, makes `v` of the state, and has writes on their way: a destination, its value
and its distance (Table 8.8). -/
def State.leaves (u : State) (h : Hdr) (v : State) (ws : List (Dest × W40 × Nat)) : State :=
  v.setCtx h.core (finish (v.ctx h.core) ((u.ctx h.core).issued + 1) (hdrSize h) (interlocks h.core) ws none)

/-- The same for an instruction that touches nothing but registers. -/
def State.computes (u : State) (h : Hdr) (ws : List (Dest × W40 × Nat)) : State := u.leaves h (u.countIssue h.core) ws

/-- What a control transfer leaves that issues in `u` and makes `v` of the state: the next instruction is its delay slot. -/
def State.transfers (u : State) (h : Hdr) (v : State) (taken : Bool) (target : Addr) : State :=
  let c := u.ctx h.core
  let c' := finish (v.ctx h.core) (c.issued + 1) (hdrSize h) (interlocks h.core) [] (some (if taken then .taken target c.pc else .notTaken c.pc))
  v.setCtx h.core { c' with undo := some ⟨c.link, c.reserved, c.trapFill, c.ls, c.le, c.lc⟩ }

/-- What loop and loopi leave: the next instruction is the setup slot, after which a count of 0 goes on at `skip`. -/
def State.loops (u : State) (h : Hdr) (ws : List (Dest × W40 × Nat)) (skip : Option Addr) : State :=
  let c := u.ctx h.core
  let v := u.countIssue h.core
  let c' := finish (v.ctx h.core) (c.issued + 1) (hdrSize h) (interlocks h.core) ws (some (.setup c.pc skip))
  v.setCtx h.core { c' with undo := some ⟨c.link, c.reserved, c.trapFill, c.ls, c.le, c.lc⟩ }

/-- A helper command (R249 to R251): it passes the checks of R250 for its helper and its allowed operand and result counts, issues, none of its
operand and result registers is pending, and its queue has room (R204). -/
def Commands (s u : State) (h : Hdr) (x : HArgs) (helper : Nat) (nops nrs : List Nat) : Prop :=
  Issues s { h with enc := s.helperEnc h x helper nops nrs } .plain u ∧
  (∀ n, n ∈ hregs x.hb.toNat x.nop.toNat ∨ n ∈ hregs x.hd.toNat x.nr.toNat → n ∉ (u.sees h).pendH) ∧
  (u.countIssue h.core).helperFull helper h.core = false

/-- Operand k of a command that issues in `u`. -/
def State.opnd (u : State) (h : Hdr) (x : HArgs) (k : Nat) : Nat :=
  if k < x.nop.toNat then (tabGet (u.sees h).h (x.hb.toNat + k) 0).toNat else 0

/-- What a helper command leaves that issues in `u`, makes `v` of the state, and answers values: its result registers are pending, and the
results are due (R204, R251). -/
def State.commands (u : State) (h : Hdr) (x : HArgs) (helper : Nat) (v : State) (vs : List Nat) (token : Bool := false) : State :=
  u.leaves h (v.setCtx h.core ((v.ctx h.core).expect helper x.hd.toNat x.nr.toNat vs token v.time.gun)) []

/-- The write of a result. -/
def wr (rd : BitVec 5) (v : W40) (d : Nat := 1) : Dest × W40 × Nat := (.w rd.toNat, v, d)

/-- The write of flags: the flags named take their values, the others keep theirs (R245). -/
def fl (f : FlagSet) (d : Nat := 1) : Dest × W40 × Nat := (.flags, f.code, d)

/-- Z and N of a result (R245). -/
def flZN (v : W40) (d : Nat := 1) : Dest × W40 × Nat := fl { z := some (v == 0), n := some v.msb } d

/-- The flags of a + b + carry (R245): C the carry out of bit 39, V signed overflow. -/
def sumFlags (a b : W40) (cin : Nat) : FlagSet :=
  let r := a + b + BitVec.ofNat 40 cin
  let i := a.toInt + b.toInt + cin
  { z := some (r == 0), n := some r.msb, c := some (decide (2 ^ 40 ≤ a.toNat + b.toNat + cin)),
    v := some (decide (i < -2 ^ 39 ∨ 2 ^ 39 ≤ i)) }

/-- The flags of a − b − borrow (R245): C that no borrow occurred, V signed overflow. -/
def diffFlags (a b : W40) (bin : Nat) : FlagSet :=
  let r := a - b - BitVec.ofNat 40 bin
  let i := a.toInt - b.toInt - bin
  { z := some (r == 0), n := some r.msb, c := some (decide (b.toNat + bin ≤ a.toNat)),
    v := some (decide (i < -2 ^ 39 ∨ 2 ^ 39 ≤ i)) }

/-- The flags of a shift by n whose last bit out is `out` (R245): C is unchanged by a shift of 0. -/
def shiftFlags (r : W40) (n : Nat) (out : Bool) : FlagSet :=
  { z := some (r == 0), n := some r.msb, c := if n = 0 then none else some out }

/-- The flags of a four-state result: Z of the result, and X where a source has a digit that is X or Z (R248). -/
def digitSet (r : W40) (x : Bool) : FlagSet := { z := some (r == 0), x := some x }

/-- Whether some digit of a register is X or Z (R6). -/
def hasXZ (a : W40) (n : Nat := 20) : Bool := (List.range n).any (fun k => 2 ≤ a.toNat / 4 ^ k % 4)

/-! ## The Psiot link -/

/-- A control flit of type `ty` whose check holds comes in on port p, which is in a state that takes it; `v` is the state in which it acts: any
flit but an ABORT ends a frame that is coming in there (R110, R112). -/
def FlitIn (s : State) (p ty : Nat) (flit : Blob) (v : State) : Prop :=
  isPsiot p = true ∧ (s.port p).passes = true ∧ flitOk flit = true ∧ flitType flit = ty ∧ v = if ty = 9 then s else s.endFrame p 0 .cut

/-! ## The dictionary -/

/-- A write of object `o`, instance `i`, that passes the checks of R388 before the object's own rules, in a device state that bars
none. -/
def Accepts (s : State) (p : Principal) (o i ty : Nat) (b : Blob) : Prop :=
  s.checkWrite p o i ty b = (s, none) ∧ s.bars o b = none

/-- The same for a command that writes a number. -/
def AcceptsNum (s : State) (p : Principal) (o i v : Nat) : Prop := Accepts s p o i (typeCode o) (numBytes o v)

/-- The same for a command that writes a blob. -/
def AcceptsBlob (s : State) (p : Principal) (o i : Nat) (b : Blob) : Prop := Accepts s p o i (typeCode o) b

/-- The command is a write that answers a result and makes `v` of the state. -/
def Writes (c : Instr) (s : State) (r : Result) (v : State) : Prop := exec c s = .next { v with reply := ⟨r, [], 0⟩ }

/-- The same for a write that waits its turn elsewhere: it answers BUSY with a retry hint that the spec leaves open (R388, R390). -/
def WritesBusy (c : Instr) (s v : State) : Prop := ∃ n, n < 65536 ∧ exec c s = .next { v with free := v.free + 1, reply := ⟨.busy, [], n⟩ }

/-- The same for a blob that is stored: a new generation of it begins (R380). -/
def WritesBlob (c : Instr) (s : State) (r : Result) (o i : Nat) (v : State) : Prop := Writes c s r (v.bumpGen o i)

end Sys2Proof.Machine
end

