-- ==== Sys2Proof/Certificates/Slice0/Obligations.lean ====
section
/-! DEFINITION. The statements for the provers. A statement about a command says that it answers a next state and what holds of that
state; an instruction's next state is written with `computes`, `leaves`, `transfers` and `loops` of Safety.lean, and what those
leave of a register, a flag and everything else is said once, in the Landing and Frame statements. -/

open Sys2Proof Sys2Proof.Machine


/-! ## Strider and Starter instructions (chapter 08) -/

/-- R245, R246, Table 8.10: add, addi, addc, sub, subb, cmp and cmpi write the sum or difference and Z, N, C, V: C is the carry out
of bit 39, or that no borrow occurred; V is signed overflow; addc adds C, subb subtracts 1 − C. -/
def Obligations.AddSubResults : Prop :=
  ∀ (s u : State) (h : Hdr) (rd ra rb : BitVec 5) (imm : W40), Issues s h .plain u →
    let c := u.sees h
    let a := c.r ra
    let b := c.r rb
    exec (.opAdd h rd ra rb) s = .next (u.computes h [wr rd (a + b), fl (sumFlags a b 0)]) ∧
    exec (.opAddi h rd ra imm) s = .next (u.computes h [wr rd (a + imm), fl (sumFlags a imm 0)]) ∧
    exec (.opAddc h rd ra rb) s =
      .next (u.computes h [wr rd (a + b + BitVec.ofNat 40 (nat01 c.flags.c)), fl (sumFlags a b (nat01 c.flags.c))]) ∧
    exec (.opSub h rd ra rb) s = .next (u.computes h [wr rd (a - b), fl (diffFlags a b 0)]) ∧
    exec (.opSubb h rd ra rb) s =
      .next (u.computes h [wr rd (a - b - BitVec.ofNat 40 (nat01 !c.flags.c)), fl (diffFlags a b (nat01 !c.flags.c))]) ∧
    exec (.opCmp h ra rb) s = .next (u.computes h [fl (diffFlags a b 0)]) ∧
    exec (.opCmpi h ra imm) s = .next (u.computes h [fl (diffFlags a imm 0)])

/-- R233, R246, Tables 8.8 and 8.10: the moves, the bitwise operations, the products at distance 3, the minima and maxima, and the bit
counts, each with the flags its row names. -/
def Obligations.LogicAndProductResults : Prop :=
  ∀ (s u : State) (h : Hdr) (rd ra rb : BitVec 5) (i14 : BitVec 14) (i19 : BitVec 19) (imm : W40), Issues s h .plain u →
    let c := u.sees h
    let a := c.r ra
    let b := c.r rb
    let z := i14.setWidth 40
    let both := fun (v : W40) => Host.Outcome.next (u.computes h [wr rd v, flZN v])
    exec (.opMov h rd ra) s = .next (u.computes h [wr rd a]) ∧
    exec (.opMovi h rd imm) s = .next (u.computes h [wr rd imm]) ∧
    (∃ v : W40, exec (.opMovu h rd i19) s = .next (u.computes h [wr rd v]) ∧
      v.extractLsb' 21 19 = i19 ∧ v.extractLsb' 0 21 = (c.r rd).extractLsb' 0 21) ∧
    exec (.opAnd h rd ra rb) s = both (a &&& b) ∧ exec (.opAndi h rd ra i14) s = both (a &&& z) ∧
    exec (.opOr h rd ra rb) s = both (a ||| b) ∧ exec (.opOri h rd ra i14) s = both (a ||| z) ∧
    exec (.opXor h rd ra rb) s = both (a ^^^ b) ∧ exec (.opXori h rd ra i14) s = both (a ^^^ z) ∧
    exec (.opAndn h rd ra rb) s = both (a &&& ~~~b) ∧
    (∃ lo hi : W40, a.toNat * b.toNat = hi.toNat * 2 ^ 40 + lo.toNat ∧
      exec (.opMul h rd ra rb) s = .next (u.computes h [wr rd lo 3, flZN lo 3]) ∧
      exec (.opMulhu h rd ra rb) s = .next (u.computes h [wr rd hi 3, flZN hi 3])) ∧
    (∃ v w : W40, v.toInt = min a.toInt b.toInt ∧ w.toInt = max a.toInt b.toInt ∧
      exec (.opMin h rd ra rb) s = both v ∧ exec (.opMax h rd ra rb) s = both w) ∧
    (∃ v w : W40, v.toNat = min a.toNat b.toNat ∧ w.toNat = max a.toNat b.toNat ∧
      exec (.opMinu h rd ra rb) s = both v ∧ exec (.opMaxu h rd ra rb) s = both w) ∧
    (∃ v : W40, v.toNat = ((List.range 40).filter a.getLsbD).length ∧
      exec (.opPopc h rd ra) s = .next (u.computes h [wr rd v, fl { z := some (v == 0) }])) ∧
    (∃ v : W40, v.toNat ≤ 40 ∧ (∀ k, 40 - v.toNat ≤ k → a.getLsbD k = false) ∧ (v.toNat < 40 → a.getLsbD (39 - v.toNat) = true) ∧
      exec (.opClz h rd ra) s = .next (u.computes h [wr rd v, fl { z := some (v == 0) }]))

/-- R245, R246, Table 8.10: the shifts, rotates and the funnel shift: by ws2[5:0] or by n, 40 or more giving 0, or copies of bit 39 for
sar, C the last bit shifted out and unchanged by a shift of 0; rotates modulo 40; a shift count n above 40 is undefined and faults
ILLEGAL (R232). -/
def Obligations.ShiftResults : Prop :=
  ∀ (s u : State) (h : Hdr) (rd ra rb : BitVec 5) (n : BitVec 6), Issues s h .plain u →
    let c := u.sees h
    let a := c.r ra
    let m := (c.r rb).toNat % 64
    let left := fun (k : Nat) => let r := a <<< k
      Host.Outcome.next (u.computes h [wr rd r, fl (shiftFlags r k (decide (k ≤ 40) && a.getLsbD (40 - k)))])
    let right := fun (k : Nat) => let r := a >>> k
      Host.Outcome.next (u.computes h [wr rd r, fl (shiftFlags r k (a.getLsbD (k - 1)))])
    let arith := fun (k : Nat) => let r := BitVec.ofInt 40 (a.toInt / 2 ^ k)
      Host.Outcome.next (u.computes h [wr rd r, fl (shiftFlags r k (if k ≤ 40 then a.getLsbD (k - 1) else a.msb))])
    let rotate := fun (k : Nat) => let r := (a <<< (k % 40)) ||| (a >>> (40 - k % 40))
      Host.Outcome.next (u.computes h [wr rd r, flZN r])
    let illegal := Host.Outcome.next ((u.countIssue h.core).faultAt h.core 1 0 h.frame)
    exec (.opShl h rd ra rb) s = left m ∧ exec (.opShr h rd ra rb) s = right m ∧
    exec (.opSar h rd ra rb) s = arith m ∧ exec (.opRol h rd ra rb) s = rotate m ∧
    exec (.opShli h rd ra n) s = (if n.toNat ≤ 40 then left n.toNat else illegal) ∧
    exec (.opShri h rd ra n) s = (if n.toNat ≤ 40 then right n.toNat else illegal) ∧
    exec (.opSari h rd ra n) s = (if n.toNat ≤ 40 then arith n.toNat else illegal) ∧
    exec (.opRoli h rd ra n) s = (if n.toNat ≤ 40 then rotate n.toNat else illegal) ∧
    (n.toNat ≤ 40 → ∃ v : W40, exec (.opFsh h rd ra rb n) s = .next (u.computes h [wr rd v]) ∧
      ∀ k < 40, v.getLsbD k = if k < n.toNat then (c.r rb).getLsbD (40 - n.toNat + k) else a.getLsbD (k - n.toNat)) ∧
    (40 < n.toNat → exec (.opFsh h rd ra rb n) s = illegal)

/-- R8, R246, Tables 8.11 and 8.18: the field and ten instructions; a field whose len or pos + len exceeds 40 faults ILLEGAL. -/
def Obligations.FieldAndTenResults : Prop :=
  ∀ (s u : State) (h : Hdr) (rd ra : BitVec 5) (pos lenM1 : BitVec 6) (k : BitVec 2), Issues s h .plain u →
    let c := u.sees h
    let a := c.r ra
    let p := pos.toNat
    let len := lenM1.toNat + 1
    let field := fun (j : Nat) => decide (j < len) && a.getLsbD (p + j)
    let illegal := Host.Outcome.next ((u.countIssue h.core).faultAt h.core 1 0 h.frame)
    (p + len ≤ 40 →
      (∃ v : W40, exec (.opExt h rd ra pos lenM1) s = .next (u.computes h [wr rd v, fl { z := some (v == 0) }]) ∧
        ∀ j < 40, v.getLsbD j = field j) ∧
      (∃ v : W40, exec (.opExts h rd ra pos lenM1) s = .next (u.computes h [wr rd v, flZN v]) ∧
        ∀ j < 40, v.getLsbD j = if j < len then a.getLsbD (p + j) else a.getLsbD (p + len - 1)) ∧
      (∃ v : W40, exec (.opDep h rd ra pos lenM1) s = .next (u.computes h [wr rd v]) ∧
        ∀ j < 40, v.getLsbD j = if p ≤ j ∧ j < p + len then a.getLsbD (j - p) else (c.r rd).getLsbD j)) ∧
    (40 < p + len → exec (.opExt h rd ra pos lenM1) s = illegal ∧ exec (.opExts h rd ra pos lenM1) s = illegal ∧
      exec (.opDep h rd ra pos lenM1) s = illegal) ∧
    (∃ v : W40, exec (.opText h rd ra k) s = .next (u.computes h [wr rd v]) ∧ v.toNat = a.toNat / 2 ^ (10 * k.toNat) % 2 ^ 10) ∧
    (∃ v : W40, exec (.opTins h rd ra k) s = .next (u.computes h [wr rd v]) ∧
      ∀ j < 40, v.getLsbD j = if j / 10 = k.toNat then a.getLsbD (j % 10) else (c.r rd).getLsbD j) ∧
    (∃ v : W40, exec (.opTexp h rd ra k) s = .next (u.computes h [wr rd v]) ∧
      ∀ j < 40, v.getLsbD j = (decide (j < 20) && decide (j % 2 = 0) && a.getLsbD (10 * k.toNat + j / 2))) ∧
    (∃ v : W40, exec (.opTcmp h rd ra k) s = .next (u.computes h [wr rd v, fl { x := some (hasXZ a 10) }]) ∧
      ∀ j < 40, v.getLsbD j = if j / 10 = k.toNat then !a.getLsbD (2 * (j % 10) + 1) && a.getLsbD (2 * (j % 10)) else (c.r rd).getLsbD j)

/-- R246, R248, Tables 8.16 and 8.17: the four-state instructions, digit by digit: Z and X are digits 2 and 3; Z of the result, and X where a
source digit is X or Z. -/
def Obligations.FourStateResults : Prop :=
  ∀ (s u : State) (h : Hdr) (rd ra rb : BitVec 5), Issues s h .plain u →
    let c := u.sees h
    let a := c.r ra
    let b := c.r rb
    let dig := fun (v : W40) (k : Nat) => v.toNat / 4 ^ k % 4
    let two := fun (i : Instr) (f : Nat → Nat → Nat) => ∃ v : W40,
      exec i s = .next (u.computes h [wr rd v, fl (digitSet v (hasXZ a || hasXZ b))]) ∧ ∀ k < 20, dig v k = f (dig a k) (dig b k)
    two (.opDand h rd ra rb) (fun x y => if x = 0 ∨ y = 0 then 0 else if x = 1 ∧ y = 1 then 1 else 3) ∧
    two (.opDor h rd ra rb) (fun x y => if x = 1 ∨ y = 1 then 1 else if x = 0 ∧ y = 0 then 0 else 3) ∧
    two (.opDxor h rd ra rb) (fun x y => if 2 ≤ x ∨ 2 ≤ y then 3 else if x = y then 0 else 1) ∧
    two (.opDres h rd ra rb) (fun x y => if x = 2 then y else if y = 2 then x else if x = y then x else 3) ∧
    (∃ v : W40, exec (.opDnot h rd ra) s = .next (u.computes h [wr rd v, fl (digitSet v (hasXZ a))]) ∧
      ∀ k < 20, dig v k = if dig a k = 0 then 1 else if dig a k = 1 then 0 else 3) ∧
    (∃ v : W40, exec (.opXcnt h rd ra) s = .next (u.computes h [wr rd v, fl (digitSet v (hasXZ a))]) ∧
      v.toNat = ((List.range 20).filter (fun k => 2 ≤ dig a k)).length) ∧
    (∃ v : W40, exec (.opDadj h rd ra rb) s = .next (u.computes h [wr rd v, fl (digitSet v (hasXZ a || hasXZ b))]) ∧
      ∀ k < 20, dig v k = if 2 ≤ dig a k ∨ 2 ≤ dig b k then 3 else dig (c.r rd) k % 2)

/-- R233, R246, Table 8.15: the address and loop registers: mova, movm, adda and mtl at distance 2, adda modulo 2³² and without the ring
rule; rda, rdm and mfl zero-extended; a loop register that does not exist faults ILLEGAL. R237, R238, Table 8.9: the addressing modes. Addresses are formed modulo 2³²; only the post-modifying modes change An, at distance 1, and by
the ring rule: without a ring the step is added; with LEN l and BR = 0 the offset moves modulo l within the block of the smallest power of two not below l. -/
def Obligations.AddressRegisters : Prop :=
  (∀ (s u : State) (h : Hdr) (rd ra : BitVec 5) (n : BitVec 2) (r : LReg), Issues s h .plain u →
    let c := u.sees h
    let illegal := Host.Outcome.next ((u.countIssue h.core).faultAt h.core 1 0 h.frame)
    exec (.opMova h n ra) s = .next (u.computes h [(.a n.toNat, c.r ra, 2)]) ∧
    exec (.opMovm h n ra) s = .next (u.computes h [(.m n.toNat, c.r ra, 2)]) ∧
    exec (.opAdda h n ra) s =
      .next (u.computes h [(.a n.toNat, BitVec.ofNat 40 ((tabGet c.a n.toNat 0 + (c.r ra).setWidth 32).toNat), 2)]) ∧
    exec (.opRda h rd n) s = .next (u.computes h [wr rd (BitVec.ofNat 40 (tabGet c.a n.toNat 0).toNat)]) ∧
    exec (.opRdm h rd n) s = .next (u.computes h [wr rd (BitVec.ofNat 40 (tabGet c.m n.toNat 0).toNat)]) ∧
    (match r with
      | .ls l => (l ≠ 3 → exec (.opMtl h r ra) s = .next (u.computes h [(.ls l.toNat, c.r ra, 2)]) ∧
          exec (.opMfl h rd r) s = .next (u.computes h [wr rd (BitVec.ofNat 40 (tabGet c.ls l.toNat 0).toNat)])) ∧
        (l = 3 → exec (.opMtl h r ra) s = illegal ∧ exec (.opMfl h rd r) s = illegal)
      | .le l => (l ≠ 3 → exec (.opMtl h r ra) s = .next (u.computes h [(.le l.toNat, c.r ra, 2)]) ∧
          exec (.opMfl h rd r) s = .next (u.computes h [wr rd (BitVec.ofNat 40 (tabGet c.le l.toNat 0).toNat)])) ∧
        (l = 3 → exec (.opMtl h r ra) s = illegal ∧ exec (.opMfl h rd r) s = illegal)
      | .lc l => (l ≠ 3 → exec (.opMtl h r ra) s = .next (u.computes h [(.lc l.toNat, c.r ra, 2)]) ∧
          exec (.opMfl h rd r) s = .next (u.computes h [wr rd (BitVec.ofNat 40 (tabGet c.lc l.toNat 0))])) ∧
        (l = 3 → exec (.opMtl h r ra) s = illegal ∧ exec (.opMfl h rd r) s = illegal))) ∧
  (∀ (c : Ctx) (an : BitVec 2) (wi : BitVec 5) (d step : Addr),
    let a := tabGet c.a an.toNat 0
    let m := tabGet c.m an.toNat 0
    let off := (c.r wi).setWidth 32
    let next := fun (x : Addr) => [(Dest.a an.toNat, (BitVec.ofNat 40 (postMod a m x).toNat : W40), 1)]
    c.address (.disp an d) = (a + d, []) ∧ c.address (.post an d) = (a, next d) ∧
    c.address (.index an wi) = (a + off, []) ∧ c.address (.postIndex an wi) = (a, next off) ∧
    (m.toNat % 2 ^ 17 = 0 → postMod a m step = a + step) ∧
    (∀ l k, l = m.toNat % 2 ^ 17 → 0 < l → l ≤ 2 ^ k → (∀ j < k, 2 ^ j < l) → m.toNat < 2 ^ 31 →
      (postMod a m step).toNat = a.toNat / 2 ^ k * 2 ^ k + (((a.toNat % 2 ^ k : Nat) + step.toInt) % (l : Int)).toNat))

/-- R233, R234, Table 8.8: what an instruction counted n finds at its end. A destination takes the last of the writes, in issue order,
whose distance has passed, and keeps its value where there is none; the other writes stay under way. W0 stays zero. The flags take the
named bits of each such write in turn. R245, R233: a flag write of one distance changes the flags it names, and no other. -/
def Obligations.LandingResults : Prop :=
  (∀ (c : Ctx) (n size : Nat) (lock : Bool) (ws : List (Dest × W40 × Nat)),
    let all := c.writes ++ ws.map (fun e => ⟨e.1, e.2.1, n + (if lock then 1 else e.2.2)⟩)
    let last := fun (d : Dest) => ((all.filter (fun w => decide (w.dst = d) && decide (w.due ≤ n + 1))).getLast?).map PendWrite.value
    ∀ opens, let t := finish c n size lock ws opens
    t.rw 0 = 0 ∧
    (∀ k, k ≠ 0 → t.rw k = (last (.w k)).getD (c.rw k)) ∧
    (∀ k, tabGet t.a k 0 = ((last (.a k)).map (BitVec.setWidth 32)).getD (tabGet c.a k 0)) ∧
    (∀ k, tabGet t.m k 0 = ((last (.m k)).map (fun v => v.setWidth 32 &&& 0x8001FFFF)).getD (tabGet c.m k 0)) ∧
    (∀ k, tabGet t.ls k 0 = ((last (.ls k)).map (BitVec.setWidth 32)).getD (tabGet c.ls k 0)) ∧
    (∀ k, tabGet t.le k 0 = ((last (.le k)).map (BitVec.setWidth 32)).getD (tabGet c.le k 0)) ∧
    t.lsmem = ((last .lsmem).map (fun v => v.toNat % 2 ^ 16)).getD c.lsmem ∧
    t.flags = ((all.filter (fun w => decide (w.dst = .flags) && decide (w.due ≤ n + 1))).map PendWrite.value).foldl Flags.apply c.flags ∧
    t.writes = all.filter (fun w => decide (n + 1 < w.due))) ∧
  (∀ (g : Flags) (f : FlagSet),
    g.apply f.code = ⟨f.x.getD g.x, f.v.getD g.v, f.c.getD g.c, f.n.getD g.n, f.z.getD g.z⟩)

/-- R239 to R241, R245: the frame of an instruction. Beyond what its body made of the state, an instruction that computes, transfers or loops changes
only the context of its own thread or core: in it only the destinations of its writes and of the writes under way, the loop counts, the
pc, the slot and what the slot may undo; every other register, flag, thread, core, memory and object stays as it was. R215, R225, R370: counting an issued instruction changes nothing but the counts of its thread or core and, for a thread, the issue slots of its
squad, one more of which is used at the present time. -/
def Obligations.InstructionFrames : Prop :=
  (∀ (u v t : State) (h : Hdr) (ws : List (Dest × W40 × Nat)),
    (t = u.leaves h v ws ∨ (∃ taken a, ws = [] ∧ t = u.transfers h v taken a) ∨ (v = u.countIssue h.core ∧ ∃ skip, t = u.loops h ws skip)) →
    let c := v.ctx h.core
    let d := t.ctx h.core
    let dests := c.writes.map PendWrite.dst ++ ws.map Prod.fst
    { t with strider.threads := v.strider.threads, starter.cores := v.starter.cores } = v ∧
    (∀ r, r ≠ h.core → t.ctx r = v.ctx r) ∧
    (∀ x, { t.thread x with ctx := (v.thread x).ctx } = v.thread x) ∧
    (∀ k, { t.core k with ctx := (v.core k).ctx } = v.core k) ∧
    d.h = c.h ∧ d.pendH = c.pendH ∧ d.link = c.link ∧ d.reserved = c.reserved ∧ d.trapFill = c.trapFill ∧
    d.issued = c.issued ∧ d.results = c.results ∧
    (∀ k, Dest.w k ∉ dests → d.rw k = c.rw k) ∧
    (∀ k, Dest.a k ∉ dests → tabGet d.a k 0 = tabGet c.a k 0) ∧
    (∀ k, Dest.m k ∉ dests → tabGet d.m k 0 = tabGet c.m k 0) ∧
    (∀ k, Dest.ls k ∉ dests → tabGet d.ls k 0 = tabGet c.ls k 0) ∧
    (∀ k, Dest.le k ∉ dests → tabGet d.le k 0 = tabGet c.le k 0) ∧
    (Dest.flags ∉ dests → d.flags = c.flags) ∧ (Dest.lsmem ∉ dests → d.lsmem = c.lsmem)) ∧
  (∀ (u : State) (r : CoreRef),
    let t := u.countIssue r
    t.ctx r = { u.ctx r with issued := (u.ctx r).issued + 1 } ∧ (∀ q, q ≠ r → t.ctx q = u.ctx q) ∧
    { t with strider.threads := u.strider.threads, strider.squads := u.strider.squads, starter.cores := u.starter.cores } = u ∧
    (∀ x, { t.thread x with ctx := (u.thread x).ctx } = u.thread x) ∧
    (∀ k, { t.squad k with slots := (u.squad k).slots } = u.squad k) ∧
    (∀ k, (∀ x, r = .strider x → squadOf x ≠ k) → t.squad k = u.squad k) ∧
    (∀ x, r = .strider x → (u.squad (squadOf x)).slots = [] → (t.squad (squadOf x)).slots = [(u.time.gun, 1)]) ∧
    (∀ x n l, r = .strider x → (u.squad (squadOf x)).slots = (u.time.gun, n) :: l → (t.squad (squadOf x)).slots = (u.time.gun, n + 1) :: l) ∧
    (∀ k, { t.core k with ctx := (u.core k).ctx, userCount := (u.core k).userCount } = u.core k))

/-- R231, R235, R246, Tables 8.12 and 8.13: a branch goes to pc plus its displacement if its condition holds, and either way the next instruction is its
delay slot; a bit above 39 and the conditions 12 to 31 are undefined and fault ILLEGAL (R232); jr goes to ws[31:0]. R239: loop and loopi set LSn to the address after the setup slot, LEn to p + 2·END and LCn to the count, at distance 2; with a count of 0
execution goes on after the instruction at LEn once the setup slot is done; level 3 does not exist and an LEn below LSn is refused: both fault ILLEGAL. -/
def Obligations.TransferResults : Prop :=
  (∀ (s u : State) (h : Hdr) (ra rb : BitVec 5) (bit : BitVec 6) (cond : BitVec 5) (d : Addr), Issues s h .control u →
    let c := u.sees h
    let a := c.r ra
    let b := c.r rb
    let f := c.flags
    let go := fun (taken : Bool) => Host.Outcome.next (u.transfers h (u.countIssue h.core) taken (c.pc + d))
    let illegal := Host.Outcome.next ((u.countIssue h.core).faultAt h.core 1 0 h.frame)
    exec (.opBeq h ra rb d) s = go (decide (a = b)) ∧ exec (.opBne h ra rb d) s = go (decide (a ≠ b)) ∧
    exec (.opBlt h ra rb d) s = go (decide (a.toInt < b.toInt)) ∧ exec (.opBge h ra rb d) s = go (decide (b.toInt ≤ a.toInt)) ∧
    exec (.opBltu h ra rb d) s = go (decide (a.toNat < b.toNat)) ∧ exec (.opBgeu h ra rb d) s = go (decide (b.toNat ≤ a.toNat)) ∧
    exec (.opBeqz h ra d) s = go (decide (a = 0)) ∧ exec (.opBnez h ra d) s = go (decide (a ≠ 0)) ∧
    exec (.opBbs h ra bit d) s = (if bit.toNat < 40 then go (a.getLsbD bit.toNat) else illegal) ∧
    exec (.opBbc h ra bit d) s = (if bit.toNat < 40 then go (!a.getLsbD bit.toNat) else illegal) ∧
    exec (.opBcc h cond d) s =
      (match [f.z, !f.z, f.c, !f.c, f.n, !f.n, f.v, !f.v, f.n != f.v, f.n == f.v, f.x, !f.x][cond.toNat]? with
        | some t => go t
        | none => illegal) ∧
    exec (.opBr h d) s = go true ∧
    exec (.opJr h ra) s = .next (u.transfers h (u.countIssue h.core) true (a.setWidth 32))) ∧
  (∀ (s u : State) (h : Hdr) (lv : BitVec 2) (rs : BitVec 5) (last : BitVec 17) (n10 : BitVec 10) (last12 : BitVec 12), Issues s h .control u →
    let c := u.sees h
    let w := u.countIssue h.core
    let after := fun (a : Addr) => a + (if w.parcel h.core a / 2 ^ 14 = 3 then 4 else 2)
    let start := after (c.pc + BitVec.ofNat 32 (hdrSize h))
    let illegal := Host.Outcome.next (w.faultAt h.core 1 0 h.frame)
    let sets := fun (stop : Addr) (count : Nat) => if lv = 3 ∨ stop.toNat < start.toNat then illegal else
      .next (u.loops h [(.ls lv.toNat, BitVec.ofNat 40 start.toNat, 2), (.le lv.toNat, BitVec.ofNat 40 stop.toNat, 2),
        (.lc lv.toNat, BitVec.ofNat 40 count, 2)] (if count = 0 then some (after stop) else none))
    exec (.opLoop h lv rs last) s = sets (c.pc + BitVec.ofNat 32 (2 * last.toNat)) ((c.r rs).toNat % 2 ^ 24) ∧
    exec (.opLoopi h lv n10 last12) s = sets (c.pc + BitVec.ofNat 32 (2 * last12.toNat)) n10.toNat)

/-- R241 to R244: call and callr push the address that follows the delay slot, ret pops it; with eight entries a call takes the spill
trap, and with none a ret takes the fill trap if LSMEM is not 0, else it faults LINK_STACK and has not issued; while TRAP = 1 each faults LINK_STACK; rett returns to the reserved
entry and clears TRAP, and faults ILLEGAL with TRAP = 0; lsbot and lsins take and give the oldest ordinary entry. R242, R243: a link-stack trap has not issued: the reserved entry takes the transfer's own address, TSTAT becomes TRAP = 1 with KIND 0 for
a spill and 1 for a fill, and execution goes on at entry 254 or 255 of the image; where that entry is not VALID the thread faults LINK_STACK (R244). -/
def Obligations.LinkResults : Prop :=
  (∀ (s u : State) (h : Hdr) (rd ra : BitVec 5) (d : Addr),
    let c := u.sees h
    let w := u.countIssue h.core
    let slotAt := c.pc + BitVec.ofNat 32 (hdrSize h)
    let after := slotAt + (if w.parcel h.core slotAt / 2 ^ 14 = 3 then 4 else 2)
    let fault := fun cause => Host.Outcome.next (w.faultAt h.core cause 0 h.frame)
    let pushed := w.setCtx h.core { c with link := after :: c.link }
    (Issues s h .control u →
      (c.reserved = none → c.link.length < 8 →
        exec (.opCall h d) s = .next (u.transfers h pushed true (c.pc + d)) ∧
        exec (.opCallr h ra) s = .next (u.transfers h pushed true ((c.r ra).setWidth 32))) ∧
      (c.reserved = none → 8 ≤ c.link.length →
        exec (.opCall h d) s = .next (u.linkTrap h.core false h.frame) ∧ exec (.opCallr h ra) s = .next (u.linkTrap h.core false h.frame)) ∧
      (∀ a r, c.reserved = none → c.link = a :: r →
        exec (.opRet h) s = .next (u.transfers h (w.setCtx h.core { c with link := r }) true a)) ∧
      (c.reserved = none → c.link = [] →
        exec (.opRet h) s = .next (if c.lsmem = 0 then u.faultAt h.core 4 0 h.frame else u.linkTrap h.core true h.frame)) ∧
      (c.reserved.isSome → exec (.opCall h d) s = fault 4 ∧ exec (.opCallr h ra) s = fault 4 ∧ exec (.opRet h) s = fault 4) ∧
      (∀ a, c.reserved = some a →
        exec (.opRett h) s = .next (u.transfers h (w.setCtx h.core { c with reserved := none, trapFill := false }) true a)) ∧
      (c.reserved = none → exec (.opRett h) s = fault 1)) ∧
    (Issues s h .plain u →
      (∀ l a, c.link = l ++ [a] →
        exec (.opLsbot h rd) s = .next (u.leaves h (w.setCtx h.core { c with link := l }) [wr rd (BitVec.ofNat 40 a.toNat)])) ∧
      (c.link = [] → exec (.opLsbot h rd) s = fault 4) ∧
      (c.link.length < 8 →
        exec (.opLsins h ra) s = .next (u.leaves h (w.setCtx h.core { c with link := c.link ++ [(c.r ra).setWidth 32] }) [])) ∧
      (8 ≤ c.link.length → exec (.opLsins h ra) s = fault 4))) ∧
  (∀ (u : State) (x : Nat) (fill : Bool) (e' : Ecc), (u.thread x).kind ≠ .relay →
    let c := u.ctx (.strider x)
    let e := (u.squad (squadOf x)).entry? (if fill then 255 else 254)
    (∀ a b, e = some (a, b) →
      u.linkTrap (.strider x) fill e' =
        u.setCtx (.strider x) { c with reserved := some c.pc, trapFill := fill, pc := BitVec.ofNat 32 a, fetched := 0 }) ∧
    (e = none → u.linkTrap (.strider x) fill e' = u.stopThread x 4 0))

/-- R235, R240: where execution goes on. After the delay slot of a taken transfer it is the target, with no loop test. Otherwise the loop test is
applied from level 2 down, for the address of the owner of the slot if a loop ends there, else for the instruction's own: a level with LE there
and LC above 1 counts down and goes to its LS; one with LC = 1 ends. Where no level goes on, execution goes on at the next instruction, and after the
setup slot of a loop whose count is 0 at the address that follows its body (R239). -/
def Obligations.WhereExecutionGoesOn : Prop :=
  ∀ (c : Ctx) (n size : Nat) (lock : Bool) (ws : List (Dest × W40 × Nat)),
    let t := finish c n size lock ws none
    let e := (c.addWrites n lock ws).land n
    let next := c.pc + BitVec.ofNat 32 size
    let goesOn := match c.slot with
      | .setup _ (some a) => a
      | _ => next
    (∀ target o, c.slot = .taken target o → t.pc = target ∧ t.lc = e.lc) ∧
    (∀ at_, (c.slot = .none ∧ at_ = c.pc) ∨ (∃ o, (c.slot = .notTaken o ∨ ∃ skip, c.slot = .setup o skip) ∧ at_ = if e.endsAt o then o else c.pc) →
      let ends := fun (lv : Nat) => decide (tabGet e.lc lv 0 ≠ 0) && decide (tabGet e.le lv 0 = at_)
      let again := fun (lv : Nat) => ends lv && decide (1 < tabGet e.lc lv 0)
      (again 2 → t.pc = tabGet e.ls 2 0 ∧ tabGet t.lc 2 0 = tabGet e.lc 2 0 - 1) ∧
      (!again 2 → again 1 → t.pc = tabGet e.ls 1 0 ∧ tabGet t.lc 1 0 = tabGet e.lc 1 0 - 1 ∧ (ends 2 → tabGet t.lc 2 0 = 0)) ∧
      (!again 2 → !again 1 → again 0 → t.pc = tabGet e.ls 0 0 ∧ tabGet t.lc 0 0 = tabGet e.lc 0 0 - 1 ∧
        (ends 1 → tabGet t.lc 1 0 = 0) ∧ (ends 2 → tabGet t.lc 2 0 = 0)) ∧
      (!again 2 → !again 1 → !again 0 → t.pc = goesOn ∧ ∀ lv < 3, ends lv → tabGet t.lc lv 0 = 0)) ∧
    t.slot = .none ∧
    (∀ sl, (finish c n size lock ws (some sl)).pc = next ∧ (finish c n size lock ws (some sl)).slot = sl)

/-- R233, R236, R246, Table 8.14: a load that its range accepts reads big-endian bytes from the address of its mode and writes them to its
register at distance 3, zero-extended or, in ld8s, ld16s and ld32s, sign-extended; a corrected ECC error is recorded on the way (R219). One
that its range refuses faults ADDRESS, and an uncorrectable word faults with cause 0Ch, as does a Starter core's read of poisoned DRAM (R336). R236, R246, Table 8.14: a store that its range accepts stores the low bits of its source, big-endian, at the address of its mode; one that
its range refuses faults ADDRESS. -/
def Obligations.LoadStoreResults : Prop :=
  (∀ (s u v : State) (h : Hdr) (rd : BitVec 5) (m : AMode) (e : Ecc) (b : Blob), Issues s h .plain u →
    let c := u.sees h
    let w := u.countIssue h.core
    let a := (c.address m).1
    let unit := match h.core with | .strider x => squadOf x | .starter _ => 30
    let value := b.foldl (fun (n : Nat) x => n * 256 + x.toNat) 0
    let loads := fun (i : Instr) (n : Nat) (toInt : Int) =>
      (w.load h.core a n = .ok b v → w.readPoisoned h.core .load a.toNat n = true → exec i s = .next (w.faultAt h.core 0x0C a.toNat h.frame)) ∧
      (w.load h.core a n = .ok b v → w.readPoisoned h.core .load a.toNat n = false →
        (e ≠ .uncorrectable → ∃ x : W40, x.toInt = toInt ∧
          exec i s = .next (u.leaves h (v.sramEvent unit a.toNat e) ((c.address m).2 ++ [wr rd x 3]))) ∧
        (e = .uncorrectable → exec i s = .next ((v.sramEvent unit a.toNat e).faultAt h.core 0x0C a.toNat h.frame))) ∧
      (w.load h.core a n = .fault → exec i s = .next (w.faultAt h.core 3 a.toNat h.frame)) ∧
      (∀ d, w.load h.core a n = .device d → exec i s = .fault (.starterDevice d))
    let signed := fun (n : Nat) => if value < 2 ^ (8 * n - 1) then (value : Int) else (value : Int) - 2 ^ (8 * n)
    loads (.opLd8 h rd m e) 1 value ∧ loads (.opLd16 h rd m e) 2 value ∧ loads (.opLd32 h rd m e) 4 value ∧
    loads (.opLd8s h rd m e) 1 (signed 1) ∧ loads (.opLd16s h rd m e) 2 (signed 2) ∧ loads (.opLd32s h rd m e) 4 (signed 4) ∧
    loads (.opLd40 h rd m e) 5 (signed 5)) ∧
  (∀ (s u v : State) (h : Hdr) (rs : BitVec 5) (m : AMode) (o : Blob), Issues s h .plain u →
    let c := u.sees h
    let w := u.countIssue h.core
    let a := (c.address m).1
    let low := fun (n : Nat) => (List.range n).map (fun i => BitVec.ofNat 8 ((c.r rs).toNat / 256 ^ (n - 1 - i)))
    let stores := fun (i : Instr) (n : Nat) =>
      (w.store h.core a (low n) = .ok o v → exec i s = .next (u.leaves h v (c.address m).2)) ∧
      (w.store h.core a (low n) = .fault → exec i s = .next (w.faultAt h.core 3 a.toNat h.frame)) ∧
      (∀ d, w.store h.core a (low n) = .device d → exec i s = .fault (.starterDevice d))
    stores (.opSt8 h rs m) 1 ∧ stores (.opSt16 h rs m) 2 ∧ stores (.opSt32 h rs m) 4 ∧ stores (.opSt40 h rs m) 5)

/-- R193, R196, R236, Table 7.2: what a thread's loads and stores reach. A 40-bit access that crosses an 8-byte boundary is refused, and so is one
with a byte outside the ranges of its kind. A load reads the bytes of its squad's local store or of its window and changes nothing. A store changes
exactly the bytes at its addresses, and every byte of local store and of windows outside them reads as before. Beyond that either only notes that the
access took the local store's port (R195). Table 7.2: where a thread's addresses lead, and which accesses each range accepts. -/
def Obligations.ThreadMemory : Prop :=
  (∀ (s : State) (x : Nat) (a : Addr) (n : Nat) (b : Blob),
    let at_ := fun (i : Nat) => (a + BitVec.ofNat 32 i).toNat
    let place := fun (kind : Acc) (i : Nat) => striderPlace x (s.thread x).released kind (at_ i)
    let refused := fun (kind : Acc) (k : Nat) => (k = 5 ∧ 8 < a.toNat % 8 + 5) ∨ ∃ i < k, place kind i = none
    (refused .load n → s.load (.strider x) a n = .fault) ∧
    (¬ refused .load n → ∃ r t, s.load (.strider x) a n = .ok r t ∧ { t with strider.portBusy := s.strider.portBusy } = s ∧ r.length = n ∧
      ∀ i < n, (∀ p, place .load i = some (.pinned p) → r[i]? = some (memRead s.strider.pinned p)) ∧ (∀ p, place .load i = some (.lstore p) → r[i]? = some (memRead s.strider.lstore p)) ∧
        (∀ p, place .load i = some (.window p) → r[i]? = some (memRead s.strider.windows p))) ∧
    (refused .store b.length → s.store (.strider x) a b = .fault) ∧
    (b.length ≤ 5 → ¬ refused .store b.length → ∃ t, s.store (.strider x) a b = .ok [] t ∧
      (∀ i < b.length, (∀ p, place .store i = some (.lstore p) → some (memRead t.strider.lstore p) = b[i]?) ∧
        (∀ p, place .store i = some (.window p) → some (memRead t.strider.windows p) = b[i]?)) ∧
      (∀ p, (∀ i < b.length, place .store i ≠ some (.lstore p)) → memRead t.strider.lstore p = memRead s.strider.lstore p) ∧
      (∀ p, (∀ i < b.length, place .store i ≠ some (.window p)) → memRead t.strider.windows p = memRead s.strider.windows p) ∧
      { t with
        strider.lstore := s.strider.lstore, strider.windows := s.strider.windows, strider.threads := s.strider.threads,
        strider.portBusy := s.strider.portBusy } = s ∧
      (∀ y, (t.thread y).ctx = (s.thread y).ctx))) ∧
  (∀ (x a : Nat) (released : Bool) (kind : Acc),
    let own := x / 8 * 65536 + a
    (a < 0x2000 → striderPlace x released kind a = if kind = .store then none else some (.pinned a)) ∧
    (0x2000 ≤ a → a < 0x10000 → striderPlace x released kind a = some (.lstore own)) ∧
    (0x10000 ≤ a → a < 0x10100 → striderPlace x released kind a =
      if kind = .load ∨ (kind = .store ∧ released = false) then some (.window (320 * x + (a - 0x10000))) else none) ∧
    (0x10100 ≤ a → a < 0x10140 → striderPlace x released kind a =
      if kind = .load then some (.window (320 * x + (a - 0x10000))) else none) ∧
    (0x10140 ≤ a → striderPlace x released kind a = none))

/-- R200 to R203, R205, R212, R228, R246, R247, R354, Table 8.19: the thread and system instructions. Nop does nothing; yield sends a
thread behind its priority; swait goes on once the time is reached and waits otherwise, up to the stopwatch limit; wfe takes a set latch or waits;
prio is clamped to the dispatch priority; end ends a run whose frame is released; rdtime reads NS[39:0]; the control registers read as Table 8.3 says, and
only FLAGS and LSMEM are written, at distance 3. -/
def Obligations.ThreadInstructionResults : Prop :=
  ∀ (s u : State) (h : Hdr) (rd ra n5 : BitVec 5) (n2 : BitVec 2) (x k : Nat),
    let c := u.sees h
    let w := u.countIssue h.core
    let go := fun (v : State) => Host.Outcome.next (u.leaves h v [])
    let illegal := Host.Outcome.next (w.faultAt h.core 1 0 h.frame)
    (Issues s h .plain u →
      exec (.opNop h) s = .next (u.computes h []) ∧
      (h.core = .strider x → exec (.opYield h) s = go (w.stampReady x)) ∧ (h.core = .starter k → exec (.opYield h) s = go w) ∧
      (let now := (w.readTime h.core).1
       let v := (w.readTime h.core).2
       let d := stopwatchAhead (c.r ra) now
       (d = 0 → (h.core = .starter k → (u.core k).u = false) → exec (.opSwait h ra) s = go v) ∧
       (h.core = .strider x → d ≠ 0 → d ≤ v.cfg Obj.STOPWATCH_LIMIT →
         exec (.opSwait h ra) s = go (v.modThread x (fun t => { t with st := .waiting, wait := .stopwatch (c.r ra) }))) ∧
       (h.core = .strider x → v.cfg Obj.STOPWATCH_LIMIT < d → exec (.opSwait h ra) s = .next (v.faultAt h.core 9 0 h.frame)) ∧
       exec (.opRdtime h rd) s = .next (u.leaves h v [wr rd now])) ∧
      (h.core = .strider x → (u.squad (squadOf x)).st = .loading ∨ (u.squad (squadOf x)).st = .test →
        exec (.opWfe h) s = if (u.thread x).latch then go (w.modThread x (fun t => { t with latch := false }))
          else go (w.modThread x (fun t => { t with st := .waiting, wait := .event }))) ∧
      (h.core = .strider x → (u.squad (squadOf x)).st = .running → exec (.opWfe h) s = .next (w.faultAt h.core 0x0A 0 h.frame)) ∧
      (h.core = .starter k → (u.core k).u = false →
        exec (.opWfe h) s = if (u.core k).eventLatch then go (w.modCore k (fun c => { c with eventLatch := false }))
          else go (w.modCore k (fun c => { c with waiting := true }))) ∧
      (h.core = .strider x → exec (.opPrio h n2) s = go (w.modThread x (fun t => { t with prio := min n2.toNat t.dispPrio }))) ∧
      (h.core = .starter k → exec (.opPrio h n2) s = go w) ∧
      (n5 = 0 → exec (.opRdcr h rd n5) s = .next (u.computes h [wr rd (BitVec.ofNat 40
        (16 * nat01 c.flags.x + 8 * nat01 c.flags.v + 4 * nat01 c.flags.c + 2 * nat01 c.flags.n + nat01 c.flags.z))])) ∧
      (n5 = 1 → exec (.opRdcr h rd n5) s = .next (u.computes h [wr rd (BitVec.ofNat 40 (2 * nat01 c.reserved.isSome + nat01 c.trapFill))])) ∧
      (n5 = 2 → exec (.opRdcr h rd n5) s = .next (u.computes h [wr rd (BitVec.ofNat 40 c.lsmem)])) ∧
      (n5 = 3 → exec (.opRdcr h rd n5) s = .next (u.computes h [wr rd (BitVec.ofNat 40 (c.link.length + nat01 c.reserved.isSome))])) ∧
      (n5 = 4 → exec (.opRdcr h rd n5) s = .next (u.computes h [wr rd (BitVec.ofNat 40 (min c.issued 0xFFFFFFFF))])) ∧
      (n5 = 5 → h.core = .strider x → exec (.opRdcr h rd n5) s = .next (u.computes h [wr rd (BitVec.ofNat 40 (u.thread x).prio)])) ∧
      (6 < n5.toNat → exec (.opRdcr h rd n5) s = illegal) ∧
      (n5 = 0 → ∀ g : Flags, ∃ v : W40, exec (.opWrcr h n5 ra) s = .next (u.computes h [(.flags, v, 3)]) ∧
        g.apply v = ⟨(c.r ra).getLsbD 4, (c.r ra).getLsbD 3, (c.r ra).getLsbD 2, (c.r ra).getLsbD 1, (c.r ra).getLsbD 0⟩) ∧
      (n5 = 2 → exec (.opWrcr h n5 ra) s = .next (u.computes h [(.lsmem, c.r ra, 3)])) ∧
      (n5 ≠ 0 → n5 ≠ 2 → exec (.opWrcr h n5 ra) s = illegal)) ∧
    (Issues s h .control u →
      (h.core = .strider x → (u.thread x).fid = none ∨ (u.thread x).released = true →
        exec (.opEnd h) s = go (w.modThread x (fun t => { t with st := .ending }))) ∧
      (h.core = .strider x → (u.thread x).fid ≠ none → (u.thread x).released = false → exec (.opEnd h) s = .next (w.faultAt h.core 7 0 h.frame)) ∧
      (h.core = .starter k → exec (.opEnd h) s = go w))

/-- R200, R246: mth and mfh move to and from a helper register, hwait waits for a run of them; each stalls long while a register it names is
pending, and a run past H15 faults ILLEGAL. R204, R205, R251: the scoreboard. A command that has result registers marks all of them pending and notes the result that is due. When its
result returns, all are filled and cleared together; on a thread that is ENDING the result is discarded. A token returns only once it is due (R214). R200, R250, R251: where a helper command stops. It waits while a register it names is pending; a helper or count that its row does not allow
faults HELPER, and registers past H15 fault ILLEGAL. -/
def Obligations.HelperCommands : Prop :=
  (∀ (s u : State) (h : Hdr) (rd ra : BitVec 5) (hn hb : BitVec 4) (n : BitVec 3), Issues s h .plain u →
    let c := u.sees h
    let w := u.countIssue h.core
    (hn.toNat ∉ c.pendH →
      exec (.opMth h hn ra) s = .next (u.leaves h (w.setCtx h.core { c with h := tabPut c.h hn.toNat 0 (c.r ra) }) []) ∧
      exec (.opMfh h rd hn) s = .next (u.computes h [wr rd (tabGet c.h hn.toNat 0)])) ∧
    (hn.toNat ∈ c.pendH →
      exec (.opMth h hn ra) s = .next (u.stall h.core (.regs [hn.toNat])) ∧ exec (.opMfh h rd hn) s = .next (u.stall h.core (.regs [hn.toNat]))) ∧
    (hb.toNat + n.toNat ≤ 16 → (∀ k < n.toNat, hb.toNat + k ∉ c.pendH) → exec (.opHwait h hb n) s = .next (u.computes h [])) ∧
    (hb.toNat + n.toNat ≤ 16 → (∃ k < n.toNat, hb.toNat + k ∈ c.pendH) →
      exec (.opHwait h hb n) s = .next (u.stall h.core (.regs ((List.range n.toNat).map (hb.toNat + ·))))) ∧
    (16 < hb.toNat + n.toNat → exec (.opHwait h hb n) s = .next (w.faultAt h.core 1 0 h.frame))) ∧
  ((∀ (c : Ctx) (helper hd nr : Nat) (vs : List Nat) (token : Bool) (now : Time), 0 < nr →
    let d := c.expect helper hd nr vs token now
    (∀ k < nr, hd + k ∈ d.pendH) ∧ (∀ n ∈ c.pendH, n ∈ d.pendH) ∧ d.h = c.h ∧
    ∃ r, d.results = c.results ++ [r] ∧ r.tag = hd ∧ r.since = now ∧ r.values.length = nr ∧ ∀ k < nr, r.values[k]? = some (BitVec.ofNat 40 (vs.getD k 0))) ∧
  (∀ (s : State) (core : CoreRef) (tag : Nat) (r : InFlight),
    (s.ctx core).results.find? (fun q => q.tag == tag) = some r → (r.token = true → s.tokenDue core = true) →
    ∃ t, exec (.helperResult core tag) s = .next t ∧
      (s.discards core = false → (∀ k < r.values.length, tabGet (t.ctx core).h (r.hd + k) 0 = r.values.getD k 0) ∧
        (∀ n, (∀ k < r.values.length, n ≠ r.hd + k) → tabGet (t.ctx core).h n 0 = tabGet (s.ctx core).h n 0 ∧
          (n ∈ (t.ctx core).pendH ↔ n ∈ (s.ctx core).pendH)) ∧
        (∀ k < r.values.length, r.hd + k ∉ (t.ctx core).pendH)) ∧
      (s.discards core = true → (t.ctx core).h = (s.ctx core).h) ∧
      (t.ctx core).results = (s.ctx core).results.erase r)) ∧
  (∀ (s u : State) (h : Hdr) (x : HArgs) (helper : Nat) (nops nrs : List Nat) (cmd : State → List Nat → Option (List Nat × State)) (token : Bool),
    (Issues s { h with enc := s.helperEnc h x helper nops nrs } .plain u →
      (∃ n, (n ∈ hregs x.hb.toNat x.nop.toNat ∨ n ∈ hregs x.hd.toNat x.nr.toNat) ∧ n ∈ (u.sees h).pendH) →
      s.helperInstr h x helper nops nrs cmd token =
        .next (u.stall h.core (.regs (hregs x.hb.toNat x.nop.toNat ++ hregs x.hd.toNat x.nr.toNat)))) ∧
    (h.enc = .ok → 16 < x.hb.toNat + x.nop.toNat ∨ 16 < x.hd.toNat + x.nr.toNat → s.helperEnc h x helper nops nrs = .illegal) ∧
    (h.enc = .ok → x.hb.toNat + x.nop.toNat ≤ 16 → x.hd.toNat + x.nr.toNat ≤ 16 → s.inUser h.core = false →
      x.nop.toNat ∉ nops ∨ x.nr.toNat ∉ nrs ∨ s.helperReach helper h.core = false → s.helperEnc h x helper nops nrs = .helper))

/-- R252, Table 8.20: the LKP commands: which key, trie, group or entry their operands name, with the frame's tenant in place of the operand's
but in frames of tenant 0; FRAG_WRITE takes effect only from the thread of the first fragment, while its entry is PENDING and before its release. R167 to R170, Table 6.3: a lookup of a route trie reads its entries from the root on, and where its nodes lie apart in their stages it answers the longest of its prefixes that cover the key, and misses where none does; R176: a learn lookup answers an entry of the key only, and finds one that lies
in a bucket of the key or the stash. -/
def Obligations.LookupResults : Prop :=
  (∀ (s u : State) (h : Hdr) (x : HArgs) (e : Ecc),
    let w := u.countIssue h.core
    let o := u.opnd h x
    let ten := w.lkpTenant h.core
    let lo := fun (v : Nat) => v % 2 ^ 32
    let key : LearnKey := { ktype := o 0 / 2 ^ 36 % 16, tenant := if ten = 0 then o 0 / 2 ^ 28 % 256 else ten, fid := o 0 / 2 ^ 16 % 4096,
                            address := o 0 % 2 ^ 16 * 2 ^ 32 + lo (o 1) }
    (Commands s u h x 0 [1, 4] [2] → x.nop = 1 →
      let r := w.lkpTrie ten (o 0 / 2 ^ 32 % 64) (lo (o 0)) true e
      exec (.opLkpTrie h x e) s = .next (u.commands h x 0 r.2 r.1)) ∧
    (Commands s u h x 0 [1, 4] [2] → x.nop = 4 →
      let r := w.lkpTrie ten (o 0 / 2 ^ 32 % 64) (lo (o 0) * 2 ^ 96 + lo (o 1) * 2 ^ 64 + lo (o 2) * 2 ^ 32 + lo (o 3)) false e
      exec (.opLkpTrie h x e) s = .next (u.commands h x 0 r.2 r.1)) ∧
    (Commands s u h x 0 [2] [1] →
      let r := w.lkpLookup key e
      exec (.opLkpLearnLookup h x e) s = .next (u.commands h x 0 r.2 [r.1])) ∧
    (Commands s u h x 0 [3] [0, 1] →
      let r := w.lkpLearn key (o 2 / 2 ^ 16 % 256) (o 2 % 2 ^ 16) e
      exec (.opLkpLearn h x e) s = .next (u.commands h x 0 r.2 [r.1])) ∧
    (Commands s u h x 0 [1] [1] → ∀ f fr c, w.runFid h.core = some f → w.frame? f = some fr → fr.card = some c →
      let r := w.lkpGroup (some f) (o 0 % 4096) ten (w.frameKey fr c)
      exec (.opLkpGroup h x) s = .next (u.commands h x 0 r.2 [r.1])) ∧
    (Commands s u h x 0 [1] [1] → w.runFid h.core = none →
      ∃ key, let r := ({ w with free := w.free + 1 } : State).lkpGroup none (o 0 % 4096) ten key
      exec (.opLkpGroup h x) s = .next (u.commands h x 0 r.2 [r.1])) ∧
    (Commands s u h x 0 [0] [2] →
      (w.cardFrag h.core = none → exec (.opLkpFragRead h x) s = .next (u.commands h x 0 w [0, 0])) ∧
      (∀ n g, w.cardFrag h.core = some (n, g) →
        exec (.opLkpFragRead h x) s = .next (u.commands h x 0 w
          [2 ^ 39 + (match g.st with | .pending => 0 | .decided => 1 | .dropped => 2) * 2 ^ 37, g.verdict.toNat]))) ∧
    (Commands s u h x 0 [1] [0, 1] → ∀ tid, h.core = .strider tid →
      (∀ n g, w.cardFrag h.core = some (n, g) → g.st = .pending → w.runFid h.core = some g.first → (u.thread tid).released = false →
        exec (.opLkpFragWrite h x) s =
          .next (u.commands h x 0 { w with parser.frags := tabSet w.parser.frags n { g with verdict := BitVec.ofNat 40 (o 0) } } [2 ^ 39])) ∧
      ((∀ n g, w.cardFrag h.core = some (n, g) → g.st ≠ .pending ∨ w.runFid h.core ≠ some g.first ∨ (u.thread tid).released = true) →
        exec (.opLkpFragWrite h x) s = .next (u.commands h x 0 w [0])))) ∧
  (∀ (s : State) (t : Trie) (key : Nat) (k : LearnKey),
    let cover := fun (p : TriePrefix) => p.bits / 2 ^ (t.width - p.plen) = key / 2 ^ (t.width - p.plen)
    let size := fun (x : Nat) => 2 ^ (t.strides.getD (x % 16) 0)
    let placed := (∀ x ∈ t.nodes, ∃ a, tabGet? t.places (nodeKey x) = some a ∧ a < 2 ^ 22) ∧ (∀ x ∈ t.places, ∃ y ∈ t.nodes, x.1 = nodeKey y) ∧
      ∀ x ∈ t.places, ∀ y ∈ t.places, x.1 % 16 = y.1 % 16 → x ≠ y → x.2 + size x.1 ≤ y.2 ∨ y.2 + size y.1 ≤ x.2
    (t.strides ≠ [] → t.strides.length ≤ 12 → t.strides.sum ≤ t.width → key < 2 ^ t.width → placed →
      (∀ p ∈ t.prefixes, p.plen ≤ t.strides.sum ∧ p.bits < 2 ^ t.width ∧ p.value < 2 ^ 32) →
      (t.lookup key = none ↔ ∀ p ∈ t.prefixes, ¬ cover p) ∧
      (∀ l v, t.lookup key = some (l, v) → (∃ p ∈ t.prefixes, cover p ∧ p.plen = l ∧ p.value = v) ∧ ∀ q ∈ t.prefixes, cover q → q.plen ≤ l)) ∧
    (∀ x e, s.findLearn k = some (x, e) → e.key = k ∧ (x, e) ∈ s.learnEntries) ∧
    (∀ n e, e.key = k → s.learnAt n = some e → n / 4 = (s.learnBuckets k).1 ∨ n / 4 = (s.learnBuckets k).2 → s.findLearn k ≠ none) ∧
    (∀ n e, e.key = k → (n, e) ∈ s.tables.stash → s.findLearn k ≠ none))

/-- R253, R254, Tables 8.21 and 8.22: XCH QUERY and STATE answer the Exchanger's judgement and the state of a slab. BUF ALLOC never waits: it gives a baton, or
OK = 0 where the partition cannot serve it; FREE releases a reference; REF adds some, or sets SATURATED where the count would pass 255; READ
gives zero beyond the chain; WRITE discards bytes beyond it and gives OK = 0 for them. -/
def Obligations.XchBufResults : Prop :=
  ∀ (s u : State) (h : Hdr) (x : HArgs),
    let w := u.countIssue h.core
    let o := u.opnd h x
    let b := o 0 % 2 ^ 32
    let ok := fun (v : Bool) => nat01 v * 2 ^ 39
    (Commands s u h x 1 [0] [1] →
      exec (.opXchQuery h x) s = .next (u.commands h x 1 (w.xchQuery (w.runFid h.core)).2 [(w.xchQuery (w.runFid h.core)).1])) ∧
    (Commands s u h x 1 [1] [1] → exec (.opXchState h x) s = .next (u.commands h x 1 w [w.xchState (w.lkpTenant h.core) (o 0)])) ∧
    (Commands s u h x 2 [1] [1] →
      let k := o 0 / 2 ^ 32 % 4
      let n := o 0 % 2 ^ 14
      (∀ v a, 0 < n → w.sharedFits k (cellsFor n) = true → w.allocCells k (cellsFor n) = some (a, v) →
        exec (.opBufAlloc h x) s = .next (u.commands h x 2
          ({ v with buf.pool.allocs := tabSet v.buf.pool.allocs (bCell a) (k, cellsFor n) }.modBatons h.core (· ++ [a])) [2 ^ 39 + a])) ∧
      (0 < n → w.sharedFits k (cellsFor n) = false ∨ w.allocCells k (cellsFor n) = none →
        exec (.opBufAlloc h x) s = .next (u.commands h x 2 (w.count Obj.ALLOC_FAILS k) [0])) ∧
      (n = 0 → exec (.opBufAlloc h x) s = .next (u.commands h x 2 w [0]))) ∧
    (Commands s u h x 2 [1] [0, 1] →
      ((w.decRef b).1 = true →
        exec (.opBufFree h x) s = .next (u.commands h x 2 ((w.decRef b).2.modBatons h.core (fun l => l.erase b)) [2 ^ 39])) ∧
      ((w.decRef b).1 = false → exec (.opBufFree h x) s = .next (u.commands h x 2 (w.decRef b).2 [0]))) ∧
    (Commands s u h x 2 [1] [1] →
      let n := o 0 / 2 ^ 32 % 256
      let c := w.cell (bCell b)
      (n = 0 → exec (.opBufRef h x) s = .next (u.commands h x 2 w [0])) ∧
      (0 < n → w.batonOk b = true → c.refs + n ≤ 255 → exec (.opBufRef h x) s =
        .next (u.commands h x 2 (w.setCell (bCell b) { c with refs := c.refs + n }) [2 ^ 39 + (c.refs + n)])) ∧
      (0 < n → w.batonOk b = true → 255 < c.refs + n →
        exec (.opBufRef h x) s = .next (u.commands h x 2 (w.count Obj.REF_SATURATIONS) [2 ^ 38 + c.refs])) ∧
      (0 < n → w.batonOk b = false → exec (.opBufRef h x) s = .next (u.commands h x 2 (w.refuseBaton b) [0]))) ∧
    (Commands s u h x 2 [2] [1, 2, 3, 4, 5, 6, 7] → w.batonOk b = false →
      ∃ vs : List Nat, exec (.opBufRead h x) s = .next (u.commands h x 2 { w.refuseBaton b with free := w.free + 1 } vs)) ∧
    (Commands s u h x 2 [3, 4, 5, 6, 7] [0, 1] → w.batonOk b = false →
      exec (.opBufWrite h x) s = .next (u.commands h x 2 (w.refuseBaton b) [0])) ∧
    (Commands s u h x 2 [2] [1, 2, 3, 4, 5, 6, 7] → w.batonOk b = true →
      ∃ vs : List Nat, exec (.opBufRead h x) s = .next (u.commands h x 2 w vs) ∧ vs.length = x.nr.toNat ∧
        ∀ k < 5 * x.nr.toNat, ∃ y, vs[k / 5]? = some y ∧ y / 256 ^ (4 - k % 5) % 256 =
          if o 1 % 2 ^ 14 + k < w.batonSpan b then (memRead w.buf.pool.data (w.batonAddr b (o 1 % 2 ^ 14 + k))).toNat else 0) ∧
    (Commands s u h x 2 [3, 4, 5, 6, 7] [0, 1] → w.batonOk b = true →
      let bytes := (List.range (x.nop.toNat - 2)).flatMap (fun k => beBytes 5 (o (k + 2)))
      let off := o 1 % 2 ^ 14
      exec (.opBufWrite h x) s =
        .next (u.commands h x 2 (w.writeBaton b off (bytes.take (w.batonSpan b - off))) [ok (decide (off + bytes.length ≤ w.batonSpan b))]))

/-- R212, R214, R255 to R259, Tables 8.23 to 8.26: the first RELEASE or DROP of a run writes its window back and posts its frame's release; a second one
faults RELEASE_TWICE; TOKEN returns later. The CRC commands answer the running value, or ERROR for a bad kind, range or count; an uncorrectable word of the window faults with ECC (R219). LOCK and UNLOCK act as the
thread's or core's master; ADD, SWAP and CAS answer the old word, or 0 outside the tenant's block, and ADD wraps at 40 bits. The SQD commands act on the squad
store, and set RANGE or ERROR. -/
def Obligations.OrdCrcAtmSqdResults : Prop :=
  ∀ (s u : State) (h : Hdr) (x : HArgs) (e : Ecc),
    let w := u.countIssue h.core
    let o := u.opnd h x
    let queues := (List.range (x.nop.toNat - 1)).map (fun k => o (k + 1) % 2 ^ 14)
    let regs := (List.range (x.nop.toNat - 1)).flatMap (fun k => beBytes 5 (o (k + 1)))
    let kind := o 0 / 2 ^ 38 % 4
    let final := (o 0).testBit 37
    let word := w.atomIndex (w.runTenant h.core) (o 0 % 2 ^ 16)
    (∀ tid, h.core = .strider tid →
      let gone := (w.writeBack tid).modThread tid (fun t => { t with released := true })
      let posted := fun (r : Release) => match (gone.thread tid).fid with | some f => gone.postRelease f r | none => gone
      (Commands s u h x 3 [2, 3, 4, 5, 6, 7] [0] →
        ((u.thread tid).released = false → exec (.opOrdRelease h x) s =
          .next (u.commands h x 3 (posted (.toQueues queues (o 0 / 2 ^ 27 % 2 ^ 12) ((o 0).testBit 39))) [])) ∧
        ((u.thread tid).released = true → exec (.opOrdRelease h x) s = .next (w.faultAt h.core 8 0 h.frame))) ∧
      (Commands s u h x 3 [0] [0] →
        ((u.thread tid).released = false → exec (.opOrdDrop h x) s =
          .next (u.commands h x 3 ((posted .drop).count Obj.PROGRAM_DROPS (squadOf tid)) [])) ∧
        ((u.thread tid).released = true → exec (.opOrdDrop h x) s = .next (w.faultAt h.core 8 0 h.frame)))) ∧
    (Commands s u h x 3 [0] [1] → exec (.opOrdToken h x) s = .next (u.commands h x 3 w [0] true)) ∧
    (∀ tid, h.core = .strider tid → Commands s u h x 4 [2] [1] →
      let off := o 0 % 256
      let len := o 0 / 256 % 512
      let v := w.sramEvent (squadOf tid) (0x10000 + off) e
      (kind = 3 ∨ 256 < off + len → exec (.opCrcWin h x e) s = .next (u.commands h x 4 w [2 ^ 39])) ∧
      (kind ≠ 3 → off + len ≤ 256 → e ≠ .uncorrectable → exec (.opCrcWin h x e) s = .next (u.commands h x 4 v
        [checkRun kind final (o 1 % 2 ^ 32) (memReadN w.strider.windows (320 * tid + off) len)])) ∧
      (kind ≠ 3 → off + len ≤ 256 → e = .uncorrectable →
        exec (.opCrcWin h x e) s = .next (v.faultAt h.core 0x0C (0x10000 + off) h.frame))) ∧
    (Commands s u h x 4 [2, 3, 4, 5, 6, 7] [1] →
      let count := o 0 / 2 ^ 32 % 32
      exec (.opCrcReg h x) s = .next (u.commands h x 4 w
        [if kind = 3 ∨ count = 0 ∨ 5 * (x.nop.toNat - 1) < count then 2 ^ 39 else checkRun kind final (o 0 % 2 ^ 32) (regs.take count)])) ∧
    (Commands s u h x 5 [1] [1] →
      let may := match h.core with
        | .strider _ => w.mayLockThread (w.runTenant h.core) (o 0 % 64)
        | .starter _ => w.mayLock (midOf h.core) (o 0 % 64)
      let r := w.attempt (midOf h.core) (o 0 % 64) may
      exec (.opAtmLock h x) s = .next (u.commands h x 5 r.2.2 [nat01 r.1 * 2 ^ 39 + nat01 r.2.1 * 2 ^ 38])) ∧
    (Commands s u h x 5 [1] [0, 1] →
      let r := w.unlockBy (midOf h.core) (o 0 % 64)
      exec (.opAtmUnlock h x) s = .next (u.commands h x 5 r.2 [nat01 r.1 * 2 ^ 39])) ∧
    (∀ i, word = some i →
      (Commands s u h x 5 [2] [1] →
        exec (.opAtmAdd h x) s =
          .next (u.commands h x 5 { w with ten.atoms := tabPut w.ten.atoms i 0 ((w.atom i + o 1) % 2 ^ 40) } [w.atom i]) ∧
        exec (.opAtmSwap h x) s = .next (u.commands h x 5 { w with ten.atoms := tabPut w.ten.atoms i 0 (o 1) } [w.atom i])) ∧
      (Commands s u h x 5 [3] [1] → exec (.opAtmCas h x) s = .next (u.commands h x 5
        (if w.atom i = o 1 then { w with ten.atoms := tabPut w.ten.atoms i 0 (o 2) } else w) [w.atom i]))) ∧
    (word = none → Commands s u h x 5 [2] [1] →
      exec (.opAtmAdd h x) s = .next (u.commands h x 5 (w.count Obj.ATOMIC_RANGE_ERRORS) [0]) ∧
      exec (.opAtmSwap h x) s = .next (u.commands h x 5 (w.count Obj.ATOMIC_RANGE_ERRORS) [0])) ∧
    (∀ tid, h.core = .strider tid →
      let size := o 0 / 2 ^ 38 % 4
      let n := [1, 2, 4, 5].getD size 1
      let a := o 0 % 2 ^ 21
      let base := squadOf tid * 2 ^ 21
      let bad := fun (atomic : Bool) => o 0 / 2 ^ 21 % 2 ^ 17 ≠ 0 ∨ (size = 3 ∧ 8 < a % 8 + 5) ∨ (atomic = true ∧ size < 2)
      let v := w.sramEvent (12 + squadOf tid) a e
      let old := beNat (memReadN w.strider.sstore (base + a) n)
      let puts := fun (y : Nat) => { v with strider.sstore := memWriteN v.strider.sstore (base + a) (beBytes n y) }
      (Commands s u h x 6 [1] [1, 2] → bad false → exec (.opSqdLd h x e) s = .next (u.commands h x 6 w [0, 2 ^ 38])) ∧
      (Commands s u h x 6 [2] [0, 1] → bad false → exec (.opSqdSt h x e) s = .next (u.commands h x 6 w [2 ^ 38])) ∧
      (Commands s u h x 6 [2] [1, 2] → bad true → exec (.opSqdAdd h x e) s = .next (u.commands h x 6 w [0, 2 ^ 38])) ∧
      (Commands s u h x 6 [3] [1, 2] → bad true → exec (.opSqdCas h x e) s = .next (u.commands h x 6 w [0, 2 ^ 38])) ∧
      (e ≠ .uncorrectable → a + n ≤ 2 ^ 21 →
        (Commands s u h x 6 [1] [1, 2] → ¬ bad false → exec (.opSqdLd h x e) s = .next (u.commands h x 6 v [old, 0])) ∧
        (Commands s u h x 6 [2] [0, 1] → ¬ bad false → exec (.opSqdSt h x e) s = .next (u.commands h x 6 (puts (o 1)) [0])) ∧
        (Commands s u h x 6 [2] [1, 2] → ¬ bad true → exec (.opSqdAdd h x e) s = .next (u.commands h x 6 (puts (old + o 1)) [old, 0])) ∧
        (Commands s u h x 6 [3] [1, 2] → ¬ bad true → exec (.opSqdCas h x e) s =
          .next (u.commands h x 6 (if old = o 1 % 256 ^ n then puts (o 2) else v) [old, 0]))))

/-! ## The Starter complex (chapter 12) -/

/-- R355, R356, R365, R367, Tables 12.2 to 12.4: the privileged instructions of a Starter core in privileged mode: rdpr and wrpr of each register, WDKICK and
PEERRST, wqtake and wqdone, tstart, and the cache instructions. -/
def Obligations.PrivilegedResults : Prop :=
  ∀ (s u : State) (h : Hdr) (rd ra rb n5 : BitVec 5) (k : Nat), h.core = .starter k → (s.core k).u = false → Issues s h .plain u →
    let c := u.core k
    let r := u.sees h
    let w := u.countIssue h.core
    let reads := fun (n : Nat) (v : W40) => n5.toNat = n → exec (.opRdpr h rd n5) s = .next (u.computes h [wr rd v])
    let writes := fun (n : Nat) (f : Core → Core) => n5.toNat = n → exec (.opWrpr h n5 ra) s = .next (u.leaves h (w.modCore k f) [])
    let v := r.r ra
    let low := v.setWidth 32
    reads 0 (BitVec.ofNat 40 c.status) ∧ reads 1 (BitVec.ofNat 40 c.vbar.toNat) ∧ reads 2 (BitVec.ofNat 40 c.splim.toNat) ∧
    reads 3 c.ksp ∧ reads 4 c.usp ∧ reads 5 (BitVec.ofNat 40 c.cause) ∧ reads 6 (BitVec.ofNat 40 c.faddr) ∧ reads 7 (BitVec.ofNat 40 k) ∧
    reads 9 c.tcmp ∧ reads 12 (BitVec.ofNat 40 c.ubase.toNat) ∧ reads 13 (BitVec.ofNat 40 c.ulimit.toNat) ∧ reads 14 (BitVec.ofNat 40 c.dwin) ∧
    (n5.toNat = 10 → exec (.opRdpr h rd n5) s =
      .next (u.leaves h (w.modCore k (fun c => c.clearPend true)) [wr rd (BitVec.ofNat 40 (c.lockPend % 2 ^ 32))])) ∧
    (n5.toNat = 11 → exec (.opRdpr h rd n5) s =
      .next (u.leaves h (w.modCore k (fun c => c.clearPend false)) [wr rd (BitVec.ofNat 40 (c.lockPend / 2 ^ 32))])) ∧
    (15 < n5.toNat → exec (.opRdpr h rd n5) s = .next (w.faultAt h.core 1 0 h.frame) ∧ exec (.opWrpr h n5 ra) s = .next (w.faultAt h.core 1 0 h.frame)) ∧
    writes 0 (fun c => { c with
      il := v.toNat / 2 ^ 12 % 16, ie := v.getLsbD 8, u := v.getLsbD 7, fstk := v.getLsbD 6
      ctx := { c.ctx with flags := ⟨v.getLsbD 4, v.getLsbD 3, v.getLsbD 2, v.getLsbD 1, v.getLsbD 0⟩ } }) ∧
    writes 1 (fun c => { c with vbar := low &&& 0xFFFFFE00 }) ∧ writes 2 (fun c => { c with splim := low }) ∧
    writes 3 (fun c => { c with ksp := v }) ∧ writes 4 (fun c => { c with usp := v }) ∧
    writes 9 (fun c => { c with tcmp := v, irq := c.irq.filter (· != 25) }) ∧
    writes 12 (fun c => { c with ubase := low }) ∧ writes 13 (fun c => { c with ulimit := low }) ∧
    writes 14 (fun c => { c with dwin := v.toNat % 512 }) ∧
    (n5.toNat = 8 → exec (.opWrpr h n5 ra) s = exec (.opWdkick h ra) s) ∧ (n5.toNat = 15 → exec (.opWrpr h n5 ra) s = exec (.opPeerrst h ra) s) ∧
    exec (.opWdkick h ra) s = .next (u.leaves h (w.modCore k (fun c => { c with wdog := w.time.gun })) []) ∧
    exec (.opPeerrst h ra) s = .next (u.leaves h
      (if v.getLsbD 31 = true ∧ (w.core (v.toNat % 4)).st = .dnf then w.resetCore (v.toNat % 4) else w) []) ∧
    (w.takeWork k = none → exec (.opWqtake h rd) s = .next (u.computes h [wr rd 0, fl { z := some true }])) ∧
    (∀ n t, w.takeWork k = some (n, t) → exec (.opWqtake h rd) s =
      .next (u.leaves h (t.modCore k (fun c => { c with taken := c.taken ++ [n] })) [wr rd (BitVec.ofNat 40 n), fl { z := some false }])) ∧
    exec (.opWqdone h ra) s =
      .next (u.leaves h ((w.workDone v.toNat).modCore k (fun c => { c with taken := c.taken.filter (· != v.toNat) })) []) ∧
    (let x := v.toNat / 2 ^ 8 % 16 * 128 + v.toNat / 2 ^ 4 % 16 * 8 + v.toNat % 8
     let q := w.squad (squadOf x)
     let n := (r.r rb).toNat % 256
     (∀ a b, squadOf x < 12 → q.st = .test → (w.thread x).st = .free → (w.thread x).fid = none → q.entry? n = some (a, b) →
       exec (.opTstart h rd ra rb) s = .next (u.leaves h (w.startThread x (.test n) a 0 0) [wr rd 1, fl { z := some false }])) ∧
     (q.st ≠ .test ∨ (w.thread x).st ≠ .free ∨ q.entry? n = none →
       exec (.opTstart h rd ra rb) s = .next (u.computes h [wr rd 0, fl { z := some true }]))) ∧
    (let lines := (w.core k).linesIn low (r.r rb).toNat
     exec (.opCinv h ra rb) s = .next (u.leaves h (w.modCore k (fun c => { c with lines := c.lines.filter (fun e => decide (e.1 ∉ lines)) })) []) ∧
     exec (.opCwb h ra rb) s = .next (u.leaves h (lines.foldl (fun (t : State) l => t.cleanLine k l) w) [])) ∧
    (r.r rb = 0 → exec (.opIlock h ra rb) s = .next (u.leaves h (w.modCore k (fun c => { c with locked := [] })) [])) ∧
    (r.r rb ≠ 0 → ∃ ls : List Nat, exec (.opIlock h ra rb) s = .next (u.leaves h (w.modCore k (fun c => { c with locked := ls })) []) ∧
      ls.length ≤ 64 ∧ ((w.core k).locked.length ≤ 64 → ∀ l ∈ (w.core k).locked, l ∈ ls) ∧
      ∀ l ∈ ls, l ∈ (w.core k).locked ∨ (low.toNat / 64 ≤ l ∧ 64 * l < low.toNat + (r.r rb).toNat))

/-- R232, R355, R356: the privileged extensions are defined only on a Starter core, and in user mode only svc: elsewhere each is counted and raises PRIVILEGED, and does nothing of its own. An undefined
register number of rdpr or wrpr is ILLEGAL, the lower cause (R216), in user mode too. R358, R359, R370: svc on a Starter core takes the exception of vector 9 with the address of the next instruction stacked; on a Strider it raises PRIVILEGED. The detail is the model's free
value (log 34), and the service that the firmware gives the extension module follows (log 35). -/
def Obligations.PrivilegeAndSvc : Prop :=
  (∀ (s u : State) (h : Hdr) (rd ra rb n5 : BitVec 5), h.enc = .ok →
    ((∃ x, h.core = .strider x) ∨ ∃ k, h.core = .starter k ∧ (s.core k).u = true) →
    s.fetched h = some u → h.fetch ≠ .uncorrectable → u.readPoisoned h.core .fetch (u.ctx h.core).pc.toNat (hdrSize h) = false →
    u.fetchOk h.core (u.ctx h.core).pc (hdrSize h) = true →
    let raises := fun (cause : Nat) => Host.Outcome.next ((u.countIssue h.core).faultAt h.core cause 0 h.frame)
    (∀ i ∈ [Instr.opWdkick h ra, .opPeerrst h ra, .opWqtake h rd, .opWqdone h ra, .opTstart h rd ra rb,
        .opCinv h ra rb, .opCwb h ra rb, .opIlock h ra rb], exec i s = raises 2) ∧
    (∀ i ∈ [Instr.opRdpr h rd n5, .opWrpr h n5 ra],
      exec i s = raises (match h.core with | .starter _ => if 15 < n5.toNat then 1 else 2 | .strider _ => 2)) ∧
    ((u.ctx h.core).slot = .none → exec (.opRfe h) s = raises 2)) ∧
  (∀ (s u : State) (h : Hdr) (n : BitVec 14),
    (∀ k, h.core = .starter k → k < 4 → Issues s h .plain u →
      let c := u.sees h
      let next := finish c c.issued 4 true [] none
      let w := (u.countIssue h.core).setCtx h.core next
      let served := k = 3 ∧ (u.core k).u = true ∧ u.starter.running = true
      let t := ({ w with free := w.free + 1 } : State).takeException k 9 (Config.freeNat w.free % 256) next.pc.toNat none none h.frame
      (¬ served → exec (.opSvc h n) s = .next t) ∧
      (served → (t.core k).st = .running → (t.core k).cause / 256 = 9 →
        exec (.opSvc h n) s = .next (t.service n.toNat (u.core k).ksp))) ∧
    (∀ x, h.core = .strider x → h.enc = .ok → s.fetched h = some u → h.fetch ≠ .uncorrectable →
      u.fetchOk h.core (u.ctx h.core).pc (hdrSize h) = true →
      exec (.opSvc h n) s = .next ((u.countIssue h.core).faultAt h.core 2 0 h.frame)))

/-- R358, R359, Table 12.6: an exception on a valid stack. The frame of 64 bytes goes below the privileged stack pointer: the pc, STATUS and W1 to W6; W31 points at
it, CAUSE names vector and detail, U and IE clear, IL takes an interrupt's priority, user mode swaps the stack pointers, and execution goes
on at the vector's handler; every other byte of the Starter store stays. R359: an exception whose stacking fails, by a bad stack pointer or an uncorrectable error as its frame is written, becomes in normal stacking a stack fault on the
core's own fault stack, with FSTK set and FADDR the pointer; with FSTK set it sends the core to DNF with cause STACK, and so does a stack fault whose
own frame meets the error. -/
def Obligations.ExceptionEntries : Prop :=
  (∀ (s : State) (k v detail pc : Nat) (faddr prio : Option Nat),
    let c := s.core k
    let sp := (if c.u then c.ksp else c.ctx.rw 31).toNat % 2 ^ 32
    let base := 0x4FC000 + 0x1000 * k
    let t := s.takeException k v detail pc faddr prio .clean
    k < 4 → sp % 8 = 0 → (if c.fstk then base else max c.splim.toNat 0x100000) + 64 ≤ sp →
    sp ≤ (if c.fstk then base + 0x1000 else 0x4FC000) →
    (c.u = true → stopsModule v = false) → (t.core k).fetchable (t.vectorOf k v).1 = true →
    let d := t.core k
    d.ctx.pc = BitVec.ofNat 32 (t.vectorOf k v).1 ∧ d.ctx.rw 31 = BitVec.ofNat 40 (sp - 64) ∧ d.cause = v * 256 + detail ∧
    d.u = false ∧ d.ie = false ∧ d.fstk = c.fstk ∧ d.il = prio.getD c.il ∧ d.faddr = faddr.getD c.faddr ∧ d.ctx.flags = c.ctx.flags ∧
    (c.u = true → d.usp = c.ctx.rw 31) ∧ (c.u = false → d.usp = c.usp) ∧ d.ksp = c.ksp ∧ d.st = c.st ∧ d.ctx.slot = .none ∧
    (∀ n, n ≠ 31 → d.ctx.rw n = c.ctx.rw n) ∧
    memReadN t.starter.store (sp - 64) 64 =
      (beBytes 5 pc ++ [0, 0, 0]) ++ (beBytes 5 c.status ++ [0, 0, 0]) ++
        [1, 2, 3, 4, 5, 6].flatMap (fun n => beBytes 5 (c.ctx.rw n).toNat ++ [0, 0, 0]) ∧
    (∀ a, a < sp - 64 ∨ sp ≤ a → memRead t.starter.store a = memRead s.starter.store a) ∧
    (∀ j, j ≠ k → t.core j = s.core j)) ∧
  (∀ (s : State) (k v detail pc : Nat) (faddr prio : Option Nat) (e : Ecc),
    let c := s.core k
    let sp := (if c.u then c.ksp else c.ctx.rw 31).toNat % 2 ^ 32
    let base := 0x4FC000 + 0x1000 * k
    let lo := if c.fstk then base else max c.splim.toNat 0x100000
    let hi := if c.fstk then base + 0x1000 else 0x4FC000
    let out := sp % 8 ≠ 0 ∨ sp < lo + 64 ∨ hi < sp
    let t := s.takeException k v detail pc faddr prio e
    k < 4 → (out ∨ e = .uncorrectable) →
    (c.fstk = true → (t.core k).st = .dnf ∧ t.starter.store = s.starter.store) ∧
    (c.fstk = false → out → e = .uncorrectable → (t.core k).st = .dnf ∧ (t.core k).faddr = sp ∧ (t.core k).fstk = true) ∧
    (c.fstk = false → ¬ (out ∧ e = .uncorrectable) → (c.u = true → stopsModule v = false) → (t.core k).fetchable (t.vectorOf k 1).1 = true →
      (t.core k).ctx.pc = BitVec.ofNat 32 (t.vectorOf k 1).1 ∧ (t.core k).ctx.rw 31 = BitVec.ofNat 40 (base + 0x1000 - 64) ∧
      (t.core k).cause = 256 + detail ∧ (t.core k).faddr = sp ∧ (t.core k).fstk = true))

/-- R361: rfe restores W1 to W6, STATUS and the pc from the frame at W31 and takes W31 past it; where the restored U is 1 it swaps the stack pointers back.
A frame that reads with an uncorrectable error sends the core to DNF. R359, R361: an exception and the rfe of its handler, with nothing between, leave the pc, STATUS, W1 to W6 and W31 as they were, in privileged and in user mode. -/
def Obligations.RfeResults : Prop :=
  (∀ (s u v : State) (h : Hdr) (k : Nat) (f : Blob), h.core = .starter k → (s.core k).u = false → Issues s h .control u →
    let c := u.core k
    let w := u.countIssue h.core
    let at_ := fun (i n : Nat) => beNat ((f.drop i).take n)
    let status := at_ 8 5
    let user := status.testBit 7
    let poisoned := w.readPoisoned h.core .load ((c.ctx.rw 31).setWidth 32).toNat 64
    w.load h.core ((c.ctx.rw 31).setWidth 32) 64 = .ok f v →
    (h.frame = .uncorrectable ∨ poisoned = true → ∃ t, exec (.opRfe h) s = .next t ∧ (t.core k).st = .dnf) ∧
    (h.frame ≠ .uncorrectable → poisoned = false → ∃ t, exec (.opRfe h) s = .next t ∧
      let d := t.core k
      d.ctx.pc = BitVec.ofNat 32 (at_ 0 5) ∧ (∀ n, 1 ≤ n → n ≤ 6 → d.ctx.rw n = BitVec.ofNat 40 (at_ (8 + 8 * n) 5)) ∧
      d.il = status / 2 ^ 12 % 16 ∧ d.ie = status.testBit 8 ∧ d.u = user ∧ d.fstk = status.testBit 6 ∧
      d.ctx.flags = ⟨status.testBit 4, status.testBit 3, status.testBit 2, status.testBit 1, status.testBit 0⟩ ∧
      (user = false → d.ctx.rw 31 = c.ctx.rw 31 + 64 ∧ d.ksp = (v.core k).ksp) ∧
      (user = true → d.ksp = c.ctx.rw 31 + 64 ∧ d.ctx.rw 31 = (v.core k).usp) ∧
      (∀ n, 7 ≤ n → n ≠ 31 → d.ctx.rw n = (v.core k).ctx.rw n) ∧ d.ctx.slot = .none)) ∧
  (∀ (s u : State) (h : Hdr) (k v detail : Nat) (faddr : Option Nat),
    let c := s.core k
    let sp := (if c.u then c.ksp else c.ctx.rw 31).toNat
    let base := 0x4FC000 + 0x1000 * k
    let t := s.takeException k v detail c.ctx.pc.toNat faddr none .clean
    h.frame ≠ .uncorrectable → h.core = .starter k → k < 4 → c.il < 16 → sp % 8 = 0 → (if c.fstk then base else max c.splim.toNat 0x100000) + 64 ≤ sp →
    sp ≤ (if c.fstk then base + 0x1000 else 0x4FC000) → (c.u = true → stopsModule v = false) →
    (t.core k).fetchable (t.vectorOf k v).1 = true → Issues t h .control u →
    ∃ r, exec (.opRfe h) t = .next r ∧
      (r.core k).ctx.pc = c.ctx.pc ∧ (r.core k).status = c.status ∧ (r.core k).ctx.rw 31 = c.ctx.rw 31 ∧
      (r.core k).ksp = c.ksp ∧ ∀ n, n ≤ 6 → (r.core k).ctx.rw n = c.ctx.rw n)

/-- R358, R359, R362, R363, R364, R365, R441: the events of the Starter. A due interrupt of the highest priority, the lowest vector among equals, enters at a boundary that splits no transfer from its
slot; a watchdog not kicked in time sends its core to DNF; a core in DNF for 1.0 ms is reset and counted, and with no core running the whole domain is; the timer
raises vector 25; tokens arrive up to the burst. R364, R365: wqtake takes from the highest-priority queue that holds an untaken item and a token and is enabled on the core, spends one token and marks the item taken; the queue keeps it. -/
def Obligations.StarterEventResults : Prop :=
  (∀ (s : State) (k q v : Nat) (ecc : Ecc),
    (let c := s.core k
     let due := fun (n : Nat) => n ∈ s.pendingIrqs k ∧ c.il < s.irqPrio k n
     k < 4 → c.st = .running → c.ie = true → c.ctx.slot = .none → c.ctx.reserved = none →
     due v → (∀ n, due n → s.irqPrio k n < s.irqPrio k v ∨ (s.irqPrio k n = s.irqPrio k v ∧ v ≤ n)) →
     let e := (s.irqDetail k v).2.modCore k (fun c => { c with waiting := false })
     let t := e.takeException k v (s.irqDetail k v).1 c.ctx.pc.toNat none (some (s.irqPrio k v)) ecc
     exec (.interruptEntry k ecc) s = .next (if v = 28 ∧ (t.core k).cause / 256 = 28 then
       t.modCore k (fun c => { c with irq := c.irq.filter (· != 28) }) else t)) ∧
    (k < 4 → (s.core k).st = .running → (s.core k).wdog + s.cfg Obj.WATCHDOG_PERIOD * 1000 * ns ≤ s.time.gun →
      Runs (.watchdogExpiry k) s (fun t => t = s.enterDnf k 3 ∧ (t.core k).st = .dnf)) ∧
    (k < 4 → (s.core k).st = .dnf → (∃ j < 4, (s.core j).st = .running) → (s.core k).dnfAt + 1000000 * ns ≤ s.time.gun →
      Runs (.hardwareCoreReset k) s (fun t => t = (s.resetCore k).count Obj.HW_RECOVERIES k ∧
        (t.core k).st = .running ∧ (t.core k).ctx.pc = 0x100 ∧ (t.core k).u = false)) ∧
    (k < 4 → (∀ j < 4, (s.core j).st ≠ .running) → (s.core k).st = .dnf → exec (.hardwareCoreReset k) s = .next s.resetStarter) ∧
    exec .starterDomainReset s = .next s.resetStarter ∧
    (k < 4 → stopwatchAhead (s.core k).tcmp (BitVec.ofNat 40 (s.time.gun / ns)) = 0 →
      Runs (.timerCompare k) s (fun t => 25 ∈ (t.core k).irq)) ∧
    (q < 7 → Runs (.workQueueRefill q) s (fun t =>
      t.workq q = { s.workq q with tokens := min ((s.workq q).tokens + beAt (s.blb Obj.WORKQ_CONFIG q) 0 4) (beAt (s.blb Obj.WORKQ_CONFIG q) 4 2) }))) ∧
  (∀ (s t : State) (k n : Nat), s.takeWork k = some (n, t) →
    ∃ q, q < 7 ∧ s.queueRaises k q = true ∧ (∀ r < 7, s.queueRaises k r = true → s.queuePrio r ≤ s.queuePrio q) ∧
      (∃ i ∈ (s.workq q).items, i.handle = n ∧ i.taken = none ∧ (q ≠ 1 → (s.workq q).waiting.head? = some i)) ∧
      (t.workq q).tokens = (s.workq q).tokens - 1 ∧ (t.workq q).items.map WorkItem.handle = (s.workq q).items.map WorkItem.handle ∧
      (∀ i ∈ (t.workq q).items, i.handle = n → i.taken = some k) ∧ (∀ r, r ≠ q → t.workq r = s.workq r))

/-! ## Gun time, laps and gate lists (chapter 02) -/

/-- R31, R33, R46 to R49, Tables 2.1 and 14.7: gun time advances at a tick by 1.25 ns with the servo's rate and a slew within 120Ah, and never runs backwards; an
edge at 1PPS_IN, its absence, a PTP message and 1PPS_OUT do what R46 to R49 say; an accepted write of 120Bh steps gun time under R48's condition only. R46 to R48: the ordinary clock of the Anchor. The time engine takes the oldest PTP message released to it; away from the Anchor, or on a port that 1209h does not name, it
ignores it. A Sync of the master it follows, or its Follow_Up, gives an origin time; with a path delay known the offset is corrected, by whole seconds alone in modes 4 and 5; a
Delay_Req answers each Sync, and the Delay_Resp to the last one measures the delay. The places of the fields are those of IEEE 1588 (log 122). -/
def Obligations.GunTimeResults : Prop :=
  (∀ (s : State) (fine : Nat) (p : Principal) (v : Nat),
    let x := s.time
    let one := 1000000000 * 65536
    let pin := (((x.gun + fine % 16 * 5120 : Nat) : Int) - s.timePath 128).toNat
    let f := pin % one
    let o : Int := if f ≤ one / 2 then f else (f : Int) - one
    let near := o.natAbs ≤ 100000 * 65536
    let m := s.cfg Obj.EXT_ALIGN
    let judges := x.role = .anchor ∧ (m = 1 ∨ m = 4 ∨ m = 5)
    let edge := exec (.ppsEdge fine) s
    let lim : Int := (5368709120 * s.cfg Obj.SLEW_LIMIT / 1000000000 : Nat)
    let d := if x.role = .anchor then max (-lim) (min lim x.slew) else 0
    let total : Int := max 0 (5368709120 + x.acc + x.rate + d)
    let ticked : State := { s with
      time.gun := ((x.gun : Int) + total / 65536).toNat % 2 ^ 80, time.acc := total % 65536, time.slew := x.slew - d, time.ticks := x.ticks + 1 }
    let out := ((x.gun : Int) + s.timePath 132).toNat % one
    exec .timeTick s = .next ticked.noteEst.starterFlush ∧
    ((x.gun : Int) + total / 65536 < 2 ^ 80 → x.gun ≤ ticked.time.gun) ∧
    (¬ judges → edge = .next s) ∧ (judges → x.ppsFirst = true → edge = .next (s.acceptEdge o)) ∧
    (judges → x.ppsFirst = false → s.cfg Obj.PPS_STATE ≠ 2 → near → edge = .next (s.acceptEdge o)) ∧
    (judges → x.ppsFirst = false → s.cfg Obj.PPS_STATE ≠ 2 → ¬ near →
      let t : State := { s.count Obj.PPS_REJECTS with time.ppsBad := x.ppsBad + 1 }
      edge = .next (if 3 ≤ x.ppsBad + 1 then t.extHoldover else t)) ∧
    (judges → x.ppsFirst = false → s.cfg Obj.PPS_STATE = 2 → near →
      edge = .next (if 3 ≤ x.ppsGood + 1 then s.acceptEdge o else { s with time.ppsGood := x.ppsGood + 1, time.ppsPhases := [] })) ∧
    (judges → x.ppsFirst = false → s.cfg Obj.PPS_STATE = 2 → ¬ near →
      let l := (f :: x.ppsPhases).take 8
      edge = .next (if l.length = 8 ∧ l.Pairwise (fun a b => (a + one - b + 1000 * 65536) % one ≤ 2000 * 65536) then s.acceptEdge o
        else { s.count Obj.PPS_REJECTS with time.ppsGood := 0, time.ppsPhases := l })) ∧
    (exec .ppsTimeout s = .next (if judges ∧ x.ppsLast + 2000000000 ≤ x.ticks then s.extHoldover else s)) ∧
    (s.cfg Obj.PPS_STATE ≠ 2 → s.extHoldover.cfg Obj.PPS_STATE = 2 ∧ s.extHoldover.time.slew = 0 ∧ s.extHoldover.time.ppsPhases = []) ∧
    (∀ a : Int, (a.natAbs ≤ 1000000 * 65536 → s.correct a = { s with time.slew := -a * 65536 }) ∧
      (1000000 * 65536 < a.natAbs → s.allIdle = true → s.correct a = s.stepTo ((x.gun : Int) - a).toNat) ∧
      (1000000 * 65536 < a.natAbs → s.allIdle = false →
        s.correct a = ({ s with time.slew := -a * 65536 } : State).raise 1 none Obj.EXT_ALIGN)) ∧
    (s.cfg Obj.PPS_OUT_ENABLE = 1 → x.ppsOut = false → out < 10000 * 65536 →
      exec .ppsOutRise s = .next { s with time.ppsOut := true, out := s.out ++ [.pps true] }) ∧
    (s.cfg Obj.PPS_OUT_ENABLE ≠ 1 ∨ x.ppsOut = true ∨ 10000 * 65536 ≤ out → exec .ppsOutRise s = .next s) ∧
    (x.ppsOut = true → 10000 * 65536 ≤ out → exec .ppsOutFall s = .next { s with time.ppsOut := false, out := s.out ++ [.pps false] }) ∧
    (x.ppsOut = false ∨ out < 10000 * 65536 → exec .ppsOutFall s = .next s) ∧
    (AcceptsNum s p Obj.GUN_TIME_STEP 0 v →
      (x.role = .anchor ∧ s.allIdle = true → Writes (.gunTimeStep p v) s .ok (s.stepTo v) ∧ (s.stepTo v).time.gun = v ∧
        (s.stepTo v).time.lap = x.lap) ∧
      (¬ (x.role = .anchor ∧ s.allIdle = true) → Writes (.gunTimeStep p v) s .state s))) ∧
  (∀ (s : State) (g : PtpFrame) (gs : List PtpFrame), s.time.ptpIn = g :: gs →
    let r : State := { s with time.ptpIn := gs }
    let c := s.time.ptp
    let mode := s.cfg Obj.EXT_ALIGN
    let mine := s.time.role = .anchor ∧ (((mode = 2 ∨ mode = 4) ∧ g.port = 14) ∨ ((mode = 3 ∨ mode = 5) ∧ g.port = 15))
    (¬ mine → exec .ptpMessageReceive s = .next r) ∧ (ptpAt g.frame = none → exec .ptpMessageReceive s = .next r) ∧
    (∀ n, mine → ptpAt g.frame = some n →
      let m := g.frame.drop n
      let ty := beAt m 0 1 % 16
      let known := beAt m 1 1 % 16 = 2 ∧ beAt m 4 1 = s.cfg Obj.PTP_DOMAIN ∧ 44 ≤ m.length
      let followed := c.source = (m.drop 20).take 10
      let stamp := fun (k : Nat) => beAt m k 6 * (1000000000 * 65536) + beAt m (k + 6) 4 * 65536
      let corr := signed 64 (beAt m 8 8)
      let synced := fun (t1 : Int) (t2 : Time) =>
        let a := match c.delay with
          | some d => r.ptpCorrect ((t2 : Int) - t1 - d)
          | none => r
        ({ a with time.ptp.pair := some (t1, t2), time.ptp.sync := none } : State)
      let answers := fun (t : State) => exec .ptpMessageReceive s = .next t.starterFlush
      (¬ known → answers r) ∧ (known → ty ≠ 11 → ¬ followed → answers r) ∧
      (known → followed → ty = 0 → beAt m 6 1 / 2 % 2 = 0 → answers ((synced ((stamp 34 : Int) + corr) g.at_).ptpRequest g n)) ∧
      (known → followed → ty = 0 → beAt m 6 1 / 2 % 2 = 1 →
        answers (({ r with time.ptp.sync := some (beAt m 30 2, g.at_, corr) } : State).ptpRequest g n)) ∧
      (∀ t2 k, known → followed → ty = 8 → c.sync = some (beAt m 30 2, t2, k) → answers (synced ((stamp 34 : Int) + corr + k) t2)) ∧
      (∀ t1 t2 t3, known → followed → ty = 9 → 54 ≤ m.length → c.pair = some (t1, t2) → c.reqAt = some t3 → beAt m 30 2 = c.reqSeq →
        beAt m 44 8 = s.rel.boot.bib →
        answers { r with time.ptp.delay := some ((((t2 : Int) - t1) + ((stamp 34 : Int) - corr - t3)) / 2), time.ptp.reqAt := none }) ∧
      (known → ty = 11 → 64 ≤ m.length → c.source = [] →
        ∃ t, answers t ∧ t.time.ptp.source = (m.drop 20).take 10 ∧ t.time.ptp.heardAt = s.time.ticks)) ∧
    (∀ (t : State) (a : Int), (t.cfg Obj.EXT_ALIGN < 4 → t.ptpCorrect a = t.correct a) ∧
      (4 ≤ t.cfg Obj.EXT_ALIGN → ∀ k : Int, 2 * (a - k * (1000000000 * 65536)) < 1000000000 * 65536 → -(1000000000 * 65536) ≤ 2 * (a - k * (1000000000 * 65536)) →
        t.ptpCorrect a = if k = 0 then t else t.correct (k * (1000000000 * 65536)))))

/-- R39 to R41, R53: the choice of the Anchor. The best candidate is the least by rank, bib, hops and port of the valid announces and the device itself; an announce
and each tick evaluate it, 64 µs make the best candidate Anchor without a step of time or laps, 8 µs of silence from the parent are holdover, and rank 0 withdraws at once;
an estimate beyond 20 ns closes the relay gates. -/
def Obligations.AnchorChoice : Prop :=
  ∀ (s u : State) (port v : Nat) (flit : Blob) (p : Principal) (c : Candidate),
    let own : List Candidate := if 0 < s.cfg Obj.ANCHOR_RANK then [(s.cfg Obj.ANCHOR_RANK, s.rel.boot.bib, 0, 8)] else []
    let lost : State := { s.unlock with time.role := .holdover }
    (s.bestCand = none ↔ own ++ s.heardCands = []) ∧
    (s.bestCand = some c → c ∈ own ++ s.heardCands ∧ ∀ e ∈ own ++ s.heardCands, Candidate.below e c = false) ∧
    (FlitIn s port 2 flit u →
      let a := announceOf flit
      let ignored := 63 ≤ a.hops ∨ (a.bib = u.rel.boot.bib ∧ (u.time.role ≠ .anchor ∨ u.cfg Obj.ANCHOR_RANK = 0))
      (port < 8 → (u.port port).st = .up → ¬ ignored →
        exec (.announce port flit) s = .next ({ u with time.heard := tabSet u.time.heard port ⟨a, u.time.ticks⟩ } : State).evaluate) ∧
      (port < 8 → (u.port port).st = .up → ignored → exec (.announce port flit) s = .next u.evaluate) ∧
      (8 ≤ port ∨ (u.port port).st ≠ .up → exec (.announce port flit) s = .next u)) ∧
    (let e := s.evaluate
     (e.announceBody = none → exec .announceTick s = .next e) ∧
     ∀ b, e.announceBody = some b → exec .announceTick s =
       .next ((List.range 14).foldl (fun (t : State) q => if (t.port q).st = .up then t.queueCtl q (.announce b) else t) e)) ∧
    (∀ r i, s.bestCand = some (r, i, 0, 8) → s.time.role ≠ .anchor → s.time.lastBetter + 51200 ≤ s.time.ticks →
      ∃ t : State, exec .anchorTakeover s = .next t.serveWaves.starterFlush ∧ t.time.role = .anchor ∧ t.time.parent = none ∧ t.time.gun = s.time.gun ∧
        t.time.lap = s.time.lap ∧ t.time.next = s.time.next ∧ t.estimate = if s.time.tclkLost then none else some 0) ∧
    (s.time.ticks < s.time.lastBetter + 51200 → exec .anchorTakeover s = .next s) ∧
    (∀ q h, s.time.parent = some q → tabGet? s.time.heard q = some h →
      exec .announceAgeout s = .next (if h.arrived + 6400 ≤ s.time.ticks then lost.evaluate else s)) ∧
    (s.time.parent = none → exec .announceAgeout s = .next s) ∧
    (AcceptsNum s p Obj.ANCHOR_RANK 0 v → ∃ t, exec (.anchorRank p v) s = .next t ∧ t.reply = ⟨.ok, [], 0⟩ ∧ t.time.gun = s.time.gun ∧
      t.time.lap = s.time.lap ∧ t.time.next = s.time.next ∧ t.cfg Obj.ANCHOR_RANK = v ∧
      (v = 0 → s.heardCands = [] → t.time.role = .freeRun)) ∧
    (s.time.offMark = false → s.estBeyond 20 = true → ∃ t, exec .offTheMarkEntry s = .next t ∧ t.time.offMark = true ∧
      t.cfg Obj.OFF_THE_MARK = min (s.cfg Obj.OFF_THE_MARK + 1) (2 ^ 64 - 1) ∧ ∀ q k, k < 2 → q < 16 → t.classOpen q k = false) ∧
    (s.time.offMark = true ∨ s.estBeyond 20 = false → exec .offTheMarkEntry s = .next s)

/-- R32, R42 to R44, R50, R68, R110, R111: the two-way exchange. The initiating side of an UP port has a SYNC due, the other side answers it and takes its pin time to 78.125 ps, each
completes the mean delay from the four times, and a child that is not in holdover steers by its offset: a step on the first offset beyond 20 ns or where the lap state differs, else the
servo. A flit whose check fails is discarded and counted. -/
def Obligations.ExchangeResults : Prop :=
  ∀ (s u : State) (port fine : Nat) (flit : Blob),
    let mean := fun (b c d e : Int) => ((e - b) - (d - c)) / 2
    let seq := beAt flit 2 2
    let due := s.exchange port
    let x := u.exchange port
    let pin := (((u.time.gun + fine % 16 * 5120 : Nat) : Int) - u.timePath (8 * port + 4)).toNat
    let t1 := beAt flit 4 10
    let t4 := beAt flit 16 10
    let done := x.seq = beAt flit 14 2 ∧ x.t3 ≠ 0
    let y : Exchange := if done then { x with mean := some (mean x.t1 x.t2 x.t3 t4), t4 := t4, done := x.done + 1 } else x
    let z : Exchange := { y with seq := seq, t1 := t1, t2 := pin, t3 := 0 }
    let w := u.setExchange port z
    let child := u.time.parent = some port ∧ (u.time.role = .locked ∨ u.time.role = .acquiring)
    (port < 14 → (s.port port).st = .up → s.initiates port = true →
      exec (.syncTick port) s = .next (s.queueCtl port (.sync ((due.seq + 1) % 65536) due.seq due.t4))) ∧
    (14 ≤ port ∨ (s.port port).st ≠ .up ∨ s.initiates port = false → exec (.syncTick port) s = .next s) ∧
    (isPsiot port = true → (s.port port).passes = true → flitOk flit = false →
      let bad := Host.Outcome.next ((s.endFrame port 0 .cut).count Obj.CONTROL_ERRORS port)
      exec (.sync port flit fine) s = bad ∧ exec (.reply port flit fine) s = bad ∧ exec (.announce port flit) s = bad) ∧
    (FlitIn s port 3 flit u → port < 8 → ¬ child → exec (.sync port flit fine) s = .next (w.queueCtl port (.reply seq pin))) ∧
    (FlitIn s port 3 flit u → port < 8 → y.mean = none → exec (.sync port flit fine) s = .next (w.queueCtl port (.reply seq pin))) ∧
    (∀ h m, FlitIn s port 3 flit u → port < 8 → child → y.mean = some m → tabGet? u.time.heard port = some h →
      let off := ((pin : Int) - t1) - w.delayIn port
      let far := (u.time.stepWanted = true ∧ 20 * 65536 < off.natAbs) ∨ u.lapAgrees h.body = false
      (far → ∃ t, exec (.sync port flit fine) s = .next t ∧ t.time.gun = ((u.time.gun : Int) - off).toNat ∧ t.time.est = off ∧
        t.time.adopt.isSome = true ∧ t.time.stepWanted = false) ∧
      (¬ far → ∃ t, exec (.sync port flit fine) s = .next t ∧ t.time.gun = u.time.gun ∧ t.time.stepWanted = false ∧
        (4 * 65536 < off.natAbs → t.time.role ≠ .locked ∨ u.time.role ≠ .locked) ∧
        (u.time.role = .locked → off.natAbs ≤ 4 * 65536 → t.time.role = .locked ∧ t.time.est = psToUnits h.body.offset + off) ∧
        (u.time.role ≠ .locked → u.time.lockRun + 1 < 1000 → t.time.role = u.time.role) ∧
        (off.natAbs < 65536 → 999 ≤ u.time.lockRun → t.time.role = .locked))) ∧
    (FlitIn s port 4 flit u → x.seq = seq → x.t1 ≠ 0 →
      let t2 := beAt flit 4 10
      let t3 := beAt flit 14 10
      exec (.reply port flit fine) s = .next (u.setExchange port
        { x with t2 := t2, t3 := t3, t4 := pin, t1 := 0, mean := some (mean x.t1 t2 t3 pin), done := x.done + 1 })) ∧
    (FlitIn s port 4 flit u → x.seq ≠ seq → exec (.reply port flit fine) s = .next u)

/-- R35, R37, R53, R62, R65, R311: the lap boundary. Before its time it does nothing; at its time the counter takes its new value, then the staged lists and lap length swap in at the swap lap,
then each port's first split takes effect, then the operations named for the lap act, and the next boundary lies one lap length on. -/
def Obligations.LapBoundaryResults : Prop :=
  ∀ (s : State),
    let idle := (List.range 16).map (fun p => s.splitIdle p (s.splitNow p) s.time.lap)
    let e := s.endLap s.time.lap
    let a := e.stepLap
    let b := a.swapLists
    let c : State := { b with time.next := b.time.lapStart + b.lapLen * 65536 }
    let n := b.time.lap
    let d := ((c.firstSplits idle).runOps n).markStates.withdrawLap n
    let f := d.tenantsNow.foldl State.presentRestore d
    let g := (f.trc.rings.map Prod.fst).foldl (fun (t : State) k => t.ringLapStart k n) f
    let h := g.tenantsNow.foldl (fun (t : State) k => t.releaseBarrier k n) g
    (s.time.gun < s.time.next → exec .lapBoundary s = .next s) ∧
    (s.time.next ≤ s.time.gun → exec .lapBoundary s = .next h.offMarkExit.reseed.starterFlush) ∧
    a.time.lapStart = e.time.next ∧ a.time.prevStart = e.time.lapStart ∧
    (e.time.adopt = none → a.time.lap = (e.time.lap + 1) % 2 ^ 48 ∧ a.lapLen = e.lapLen) ∧
    (∀ l k, e.time.adopt = some (l, k) → a.time.lap = l ∧ a.cfg Obj.LAP_LENGTH = k ∧ a.time.adopt = none) ∧
    (a.cfg Obj.SWAP_LAP ≠ a.time.lap → b = a) ∧
    (a.cfg Obj.SWAP_LAP = a.time.lap → b.time.staged = [] ∧ b.cfg Obj.SWAP_LAP = 2 ^ 48 - 1 ∧ b.time.lap = a.time.lap ∧
      (a.time.staged = [32] → b.cfg Obj.LAP_LENGTH = a.cfg Obj.LAP_LENGTH_PENDING ∧ b.cfg Obj.LAP_LENGTH_PENDING = a.lapLen) ∧
      (∀ k, k < 16 → a.time.staged = [k] → b.blb Obj.GATE_LIST k = a.blb Obj.GATE_LIST_PENDING k ∧
        b.blb Obj.GATE_LIST_PENDING k = a.blb Obj.GATE_LIST k ∧ b.blb Obj.RX_WINDOWS k = a.blb Obj.RX_WINDOWS k) ∧
      (∀ k, k < 16 → a.time.staged = [16 + k] → b.blb Obj.RX_WINDOWS k = a.blb Obj.RX_WINDOWS_PENDING k ∧
        b.time.formerRx = [(k, a.blb Obj.RX_WINDOWS k)]) ∧
      (∀ k, k < 16 → k ∉ a.time.staged → b.blb Obj.GATE_LIST k = a.blb Obj.GATE_LIST k)) ∧
    (∀ k, k < 16 → ((c.firstSplits idle).port k).gateRow = 0)

/-- R4, R34, R36, R55, R61 to R63, Tables 2.3 and 2.4: accepted writes of the schedule objects: what each refuses with RANGE or STATE, and that any other is stored, a gate list with its reserved
bits zero, and stages its list. -/
def Obligations.ScheduleWrites : Prop :=
  ∀ (s : State) (p : Principal) (i v : Nat) (b : Blob),
    let free := s.cfg Obj.SWAP_LAP = 2 ^ 48 - 1
    let xs := splitsOf b
    let sound := b.length % 8 = 0 ∧ 1 ≤ xs.length ∧ xs.length ≤ 4096 ∧ (∀ x ∈ xs, 10 ≤ x.dur ∧ (i < 14 ∨ x.gate % 4 = 0)) ∧
      (xs.map Split.dur).sum = if 32 ∈ s.time.staged then s.cfg Obj.LAP_LENGTH_PENDING else s.lapLen
    let stored := (List.range (b.length / 8)).flatMap (fun k =>
      let e := beAt b (8 * k) 8
      beBytes 8 (e / 2 ^ 39 * 2 ^ 39 + e % 2 ^ 24))
    let ws := windowsOf b
    let rising := b.length % 8 = 0 ∧ ws.length ≤ 4096 ∧ List.Pairwise (fun (x y : Window) => x.opens ≤ y.opens) ws ∧ ∀ w ∈ ws, w.length ≠ 0
    let lists := (List.range 16).map (fun q => if q ∈ s.time.staged then s.blb Obj.GATE_LIST_PENDING q else s.blb Obj.GATE_LIST q)
    let summed := ∀ l ∈ lists, ((splitsOf l).map Split.dur).sum = s.swapLen
    let ahead := (v + 2 ^ 48 - s.time.lap % 2 ^ 48) % 2 ^ 48
    let led := 2 ≤ ahead ∧ ahead ≤ 2 ^ 47 - 1 ∧ s.time.gun + (10000 + s.maxLead) * 65536 ≤ s.time.next + (ahead - 1) * s.lapLen * 65536
    (AcceptsNum s p Obj.LAP_LENGTH_PENDING 0 v →
      (v < 100 ∨ 16777215 < v → Writes (.lapLengthPending p v) s .range s) ∧
      (100 ≤ v → v ≤ 16777215 → ¬ free → Writes (.lapLengthPending p v) s .state s) ∧
      (100 ≤ v → v ≤ 16777215 → free → Writes (.lapLengthPending p v) s .ok ((s.writeNum Obj.LAP_LENGTH_PENDING 0 v).stage 32))) ∧
    (AcceptsBlob s p Obj.GATE_LIST_PENDING i b →
      (¬ sound → Writes (.gateListPending p i b) s .range s) ∧ (sound → ¬ free → Writes (.gateListPending p i b) s .state s) ∧
      (sound → free → WritesBlob (.gateListPending p i b) s .ok Obj.GATE_LIST_PENDING i
        ((s.writeBlob Obj.GATE_LIST_PENDING i stored).stage i))) ∧
    (AcceptsBlob s p Obj.RX_WINDOWS_PENDING i b →
      (¬ rising → Writes (.rxWindowsPending p i b) s .range s) ∧ (rising → ¬ free → Writes (.rxWindowsPending p i b) s .state s) ∧
      (rising → free → WritesBlob (.rxWindowsPending p i b) s .ok Obj.RX_WINDOWS_PENDING i
        ((s.writeBlob Obj.RX_WINDOWS_PENDING i b).stage (16 + i)))) ∧
    (AcceptsNum s p Obj.SWAP_LAP 0 v →
      (2 ^ 48 ≤ v → Writes (.swapLap p v) s .range s) ∧
      (v = 2 ^ 48 - 1 → Writes (.swapLap p v) s .ok (s.writeNum Obj.SWAP_LAP 0 v)) ∧
      (v < 2 ^ 48 - 1 → ¬ summed → Writes (.swapLap p v) s .range s) ∧
      (v < 2 ^ 48 - 1 → summed → ¬ led → Writes (.swapLap p v) s .state s) ∧
      (v < 2 ^ 48 - 1 → summed → led → Writes (.swapLap p v) s .ok (s.writeNum Obj.SWAP_LAP 0 v)))

/-- R56 to R58: when a frame may start. In a split of its class's gate bit, for C0 and C1 only in an active lap of the split's tenant and on the mark; and only where its end and the guard
of the interval's last split lie within the open interval, which runs on at least to the end of the split in force. R64, R65: the judgement of a slab. A slab off the mark or of another lap than the previous, current or next is late; one with a matching window is on time, a false start, an overrun, a
wide accept or late by its first flit and its end; one without is a wide accept before the latest deadline of its tenant's entries, else late. -/
def Obligations.LaunchAndJudgement : Prop :=
  (∀ (s : State) (p c f : Nat), p < 16 →
    let x := s.splitNow p
    let start := s.splitStart p (s.port p).gateRow
    (s.mayLaunch p c f = true → x.gate.testBit c = true ∧ s.rel.boot.halted = false ∧
      (c < 2 → s.time.offMark = false ∧ (x.tenant = 0 ∨ s.activeLap x.tenant s.time.lap = true))) ∧
    (∀ d g, s.interval p c = some (d, g, false) → x.dur ≤ d ∧
      (s.mayLaunch p c f = true → s.time.gun + f + g * 65536 ≤ start + d * 65536) ∧
      (s.classOpen p c = true → s.time.gun + f + g * 65536 ≤ start + d * 65536 → s.mayLaunch p c f = true)) ∧
    (2 ≤ c → (s.interval p c = none ↔ x.gate.testBit c = false)) ∧
    (∀ y ys, (s.gateListIn p 0).drop ((s.port p).gateRow + 1) = y :: ys → s.splitOpens x c s.time.lap = true →
      s.splitOpens y c s.time.lap = false → s.interval p c = some (x.dur, x.guard, false))) ∧
  (∀ (s : State) (p t n : Nat) (tf tl : Int),
    let laps := n = s.time.lap ∨ n = (s.time.lap + 1) % 2 ^ 48 ∨ n = (s.time.lap + 2 ^ 48 - 1) % 2 ^ 48
    let g : Int := s.cfg Obj.GRACE p * 65536
    let op := fun (w : Window) => s.lapStartOf n + w.opens * 65536 + s.delayIn p
    let cl := fun (w : Window) => op w + w.length * 65536
    let dl := fun (w : Window) => cl w + w.deadline * 65536
    let ws := (s.windowsIn p n).filter (fun w => w.tenant == t || w.tenant == 0)
    let fits := fun (w : Window) => op w - g ≤ tf ∧ tf ≤ cl w + g
    let j := s.judge p t n tf tl
    (s.time.offMark = true ∨ ¬ laps → j = .late) ∧
    (s.time.offMark = false → s.relayOpen p = true → s.time.lap < 2 ^ 48 → laps →
      (∀ pre w post, ws = pre ++ w :: post → (∀ y ∈ pre, ¬ fits y) → fits w →
        (op w ≤ tf → tl ≤ cl w → j = .onTime) ∧ (tf < op w → tl ≤ cl w + g → j = .falseStart) ∧
        (op w ≤ tf → cl w < tl → tl ≤ cl w + g → j = .overrun) ∧ (cl w + g < tl → tl ≤ dl w → j = .wide) ∧
        (cl w + g < tl → dl w < tl → j = .late)) ∧
      ((∀ w ∈ ws, ¬ fits w) → (∃ w ∈ ws, tl ≤ dl w) → j = .wide) ∧
      ((∀ w ∈ ws, ¬ fits w) → (∀ w ∈ ws, dl w < tl) → j = .late)))

/-- R56, R66 to R69, R126, R436, R437: the splits and lane sleep. The next split takes effect at its start; lanes enter sleep at the first split of a run of at least 3.0 µs, after SLEEP with the run's end on a fabric or
endpoint port, ask for a wake per lane 2.0 µs before the end that the schedule then gives the run, and are awake 1.5 µs after the grant; the limiter never grants beyond the total slope of 110Ch and never out of order; a ramp that ends leaves the sum. -/
def Obligations.SleepResults : Prop :=
  ∀ (s : State) (port : Nat) (stop t : Time),
    let x := s.port port
    let k := x.gateRow + 1
    let idle := s.splitIdle port (s.splitNow port) s.time.lap
    let run := s.sleepRun port
    let rate := s.cfg Obj.WAKE_RATE
    let start := s.splitStart port x.gateRow
    let ends := start + (if idle then run else 0) * 65536
    let pend := sortBy (fun (w : Wake) => w.need * 512 + w.key) (s.rel.wakes.filter (fun w => w.ends.isNone))
    let act := s.rel.wakes.filter (fun w => w.ends.isSome)
    let got := grantWakes rate s.time.gun pend (activeSlope act)
    let sleeps := port < 16 ∧ x.st = .up ∧ x.sleep = .awake ∧ x.tx = [] ∧ idle = true ∧ s.sleepStarts port = true ∧ 3000 ≤ run
    (port < 16 → k < (s.gateListIn port 0).length → s.splitStart port k ≤ s.time.gun →
      ∃ u, exec (.splitBoundary port) s = .next u ∧ (u.port port).gateRow = k ∧ ∀ q, q ≠ port → u.port q = s.port q) ∧
    (s.time.gun < s.splitStart port k → exec (.splitBoundary port) s = .next s) ∧
    (sleeps → ∃ u, exec (.sleepEntry port) s = .next u ∧ (u.port port).sleep = .entering (start + run * 65536) ∧
      (u.port port).ctl = [] ∧ (u.port port).sleptAt = start + 500 * 65536 ∧ (14 ≤ port → u.out = s.out) ∧
      (port < 14 → x.ctl = [] → u.out = s.out ++ [.ctl port (flitBytes 8 0 (beBytes 10 (start + run * 65536))) (s.txTime port)])) ∧
    (¬ sleeps → exec (.sleepEntry port) s = .next s) ∧
    (x.sleep = .entering stop → ends ≤ s.time.gun + 2000 * 65536 →
      ∃ u, exec (.preWake port) s = .next u ∧ (u.port port).sleep = .preWake ends ∧
        u.rel.wakes = s.rel.wakes ++ (x.lanes port).map (fun l => ⟨ends, 12 + 16 * port + l, 250, 1000 * 65536, none, s.time.gun⟩) ∧
        u.cfg Obj.SLEEP_TIME port = min (s.cfg Obj.SLEEP_TIME port + (s.time.gun - x.sleptAt) / 65536) (2 ^ 64 - 1)) ∧
    (x.sleep = .entering stop → s.time.gun + 2000 * 65536 < ends → exec (.preWake port) s = .next s) ∧
    (∃ u, exec .wakeGrant s = .next u ∧ u.rel.wakes = act ++ got ++ pend.drop got.length ∧
      (activeSlope act ≤ rate → activeSlope (act ++ got) ≤ rate) ∧
      got = (pend.take got.length).map (fun w => { w with ends := some (s.time.gun + w.ramp) })) ∧
    (∃ u, exec .rampEnd s = .next u ∧ u = { s with rel.wakes := u.rel.wakes } ∧
      ∀ w, w ∈ u.rel.wakes ↔ w ∈ s.rel.wakes ∧ ∀ e, w.ends = some e → s.time.gun < e) ∧
    (x.sleep = .waking t → t + 1500 * 65536 ≤ s.time.gun →
      exec (.laneWakeComplete port) s = .next ((s.modPort port (fun y => { y with sleep := .awake })).noteAwake 0)) ∧
    (x.sleep = .waking t → s.time.gun < t + 1500 * 65536 → exec (.laneWakeComplete port) s = .next s)

/-! ## Ports and the Psiot link (chapter 04) -/

/-- R104, R115 to R119, R123, R132, Table 4.9: the port states. A port is in the state it is moved to; each event of a link moves it as Table 4.9 says and in no other state does anything; lanes that fail
make a direction fall back to the clean half, lanes 0 to 7 preferred; a port that enters EXCHANGE sends its capability three times; more than 15 symbols in error, 7 in low-latency mode, or a slip are an uncorrectable codeword,
and 64 in a row or three slips in 1.0 ms take the link down; a host sub-port that loses a lane goes down alone while another is left; an accepted write of 2000h or 2005h acts at once. -/
def Obligations.PortStateResults : Prop :=
  ∀ (s : State) (port lane v q errs rate width : Nat) (lanes failRx failTx pol : BitVec 16) (rev : Bool) (c : Capability) (active : Bool) (p : Principal)
    (st : PortState),
    let x := s.port port
    let full := if port = 14 ∨ port = 15 then 0xFF else 0xFFFF
    let host := port = 14 ∨ port = 15
    let got := lanes.toNat &&& full
    let half := got % 256 = 255 ∨ got / 256 = 255
    let failR := if x.fellBack = true then failRx.toNat &&& x.rxLanes else failRx.toNat ||| (0xFFFF - x.rxLanes)
    let init := (List.range 6).map (fun k => (k + 2, s.cfg Obj.CREDIT_INIT (8 * port + k + 2)))
    let hears := port < 16 ∧ x.st ≠ .disabled ∧ x.st ≠ .down ∧ x.rxSleepUntil ≤ s.time.gun
    let entered := fun (u : State) =>
      let w := u.setPortState port .exchange
      ({ w with out := w.out ++ List.replicate 3 (.capability port ⟨if port < 8 then 0 else 1, w.rel.boot.bib, w.cfg Obj.DEVICE_ID,
        if (w.port port).txLanes = 0xFFFF ∧ (w.port port).rxLanes = 0xFFFF then 16 else 8, w.cfg Obj.FEC_REQUEST port,
        (List.range 6).map (fun k => w.cfg Obj.CREDIT_INIT (8 * port + k + 2))⟩) } : State)
    let fell := fun (u : State) => (u.count Obj.FALLBACKS port).raise 2 none Obj.FALLBACKS port
    let m := if x.fec = 1 then 4 else 16
    let seq := q % m
    let limit := if x.fec = 1 then 7 else 15
    let receives := port < 14 ∧ (x.st = .exchange ∨ x.st = .up ∨ x.st = .isolated)
    let next := s.modPort port (fun y => { y with cwseq := some seq })
    let sub := lane * 2 ^ x.breakout / 8
    let lost := if sub ∈ x.subDown then x.subDown else sub :: x.subDown
    (port < 17 → ((s.setPortState port st).port port).st = st ∧ ∀ r, r ≠ port → ((s.setPortState port st).port r).st = (s.port r).st) ∧
    (x.st = .down → port < 16 → half → port / 4 ∉ s.rel.sdsLost → exec (.signalDetect port lanes) s = .next ((s.modPort port (fun y => { y with
      trainAt := s.time.ticks, rxLanes := got, txLanes := full, breakout := if host then s.cfg Obj.BREAKOUT port else 0,
      cwseq := none, uncRun := 0, slips := [], polarity := 0, reversed := false, fellBack := false })).setPortState port .train)) ∧
    (x.st ≠ .down ∨ ¬ half → exec (.signalDetect port lanes) s = .next s) ∧
    (exec (.trainComplete port pol rev) s = .next (if x.st = .train then
      (s.modPort port (fun y => { y with polarity := pol.toNat, reversed := rev })).setPortState port .align else s)) ∧
    (x.st = .train → x.trainAt + 200000000 ≤ s.time.ticks → x.rxLanes = full → exec (.trainTimeout port) s = .next (s.setPortState port .down)) ∧
    (x.st = .train → x.trainAt + 200000000 ≤ s.time.ticks → port < 14 → s.cfg Obj.FALLBACK port ≠ 0 → x.rxLanes = 0x00FF →
      exec (.trainTimeout port) s = .next (State.setPortState (fell (s.modPort port (fun y => { y with rxLanes := 0x00FF, fellBack := true }))) port .align)) ∧
    (x.st ≠ .train ∨ s.time.ticks < x.trainAt + 200000000 → exec (.trainTimeout port) s = .next s) ∧
    (x.st ≠ .align → exec (.alignComplete port failRx failTx) s = .next s) ∧
    (x.st = .align → host →
      exec (.alignComplete port failRx failTx) s = .next (s.setPortState port (if failRx = 0 ∧ failTx = 0 then .up else .down))) ∧
    (x.st = .align → ¬ host → failR = 0 → failTx = 0 → exec (.alignComplete port failRx failTx) s = .next (entered s)) ∧
    (x.st = .align → ¬ host → (failR ≠ 0 ∧ x.fellBack = true) ∨ (failR ≠ 0 ∧ s.cfg Obj.FALLBACK port = 0) →
      exec (.alignComplete port failRx failTx) s = .next (s.setPortState port .down)) ∧
    (x.st = .align → port < 14 → failR ≠ 0 → x.fellBack = false → failTx = 0 → s.cfg Obj.FALLBACK port ≠ 0 →
      ∀ h, (h = 0x00FF ∧ failR % 256 = 0) ∨ (h = 0xFF00 ∧ failR % 256 ≠ 0 ∧ failR / 256 % 256 = 0) →
      exec (.alignComplete port failRx failTx) s = .next (entered (fell (s.modPort port (fun y => { y with rxLanes := h, fellBack := true }))))) ∧
    (x.st = .exchange →
      let wrong := (s.cfg Obj.EXPECTED_BIB port ≠ 0 ∧ s.cfg Obj.EXPECTED_BIB port ≠ c.bib) ∨ (c.device ≠ 0 ∧ c.device = s.cfg Obj.DEVICE_ID) ∨
        c.profile ≠ (if port < 8 then 0 else 1)
      exec (.capabilityExchange port c) s = .next ((s.modPort port (fun y => { y with
        nb := some c, fec := if c.fec = 1 ∧ s.cfg Obj.FEC_REQUEST port = 1 then 1 else 0, limit := [], sent := [], freed := [], initial := init,
        rx := [], cwseq := none, uncRun := 0 })).setPortState port (if wrong then .isolated else .up))) ∧
    (x.st ≠ .exchange → exec (.capabilityExchange port c) s = .next s) ∧
    (host → x.st = .down ∨ x.st = .train ∨ x.st = .align → 3 ∉ s.rel.sdsLost → exec (.autoNegotiationComplete port) s = .next ((s.modPort port (fun y => { y with
      breakout := s.cfg Obj.BREAKOUT port, trainAt := if x.st = .down then s.time.ticks else y.trainAt, rxLanes := 0x00FF, txLanes := 0x00FF
      })).setPortState port .up)) ∧
    (host → x.st = .up → exec (.autoNegotiationComplete port) s = .next (s.modPort port (fun y => { y with subDown := [] }))) ∧
    ((s.port 16).st ≠ .disabled → exec (.dlActiveChange active rate width) s = .next (({ s with
      pcie.rate := if active = true then rate else 0, pcie.width := if active = true then width else 0,
      pcie.flitMode := active && rate == 64 } : State).setPortState 16 (if active then .up else .down))) ∧
    (∀ t, tabGet? x.holdFrom q = some t → let w := s.modPort port (fun y => { y with held := q :: y.held, holdFrom := tabDel y.holdFrom q })
      let qs := s.busyQueues.filter (fun n => decide (s.qPort n = port ∧ s.qClass n = q ∧ 2 ≤ q))
      exec (.holdTimeExpiry port q) s = .next (if s.time.gun < t + s.cfg Obj.DOWN_HOLD port * 65536 then s
        else qs.foldl (fun (y : State) n => y.flush n Obj.DOWN_DROPS (fun _ => true)) w)) ∧
    (tabGet? x.holdFrom q = none → exec (.holdTimeExpiry port q) s = .next s) ∧
    (AcceptsNum s p Obj.PORT_ENABLE port v →
      let w := s.writeNum Obj.PORT_ENABLE port v
      (v = 0 → Writes (.portEnable p port v) s .ok (w.setPortState port .disabled)) ∧
      (v = 1 → x.st = .disabled → s.rel.boot.firmware = true → s.rel.boot.halted = false →
        Writes (.portEnable p port v) s .ok (w.setPortState port .down)) ∧
      (v = 1 → x.st ≠ .disabled → Writes (.portEnable p port v) s .ok w) ∧ (1 < v → Writes (.portEnable p port v) s .range s)) ∧
    (AcceptsNum s p Obj.EXPECTED_BIB port v →
      let w := s.writeNum Obj.EXPECTED_BIB port v
      (x.st ≠ .isolated → x.st ≠ .up → Writes (.expectedBib p port v) s .ok w) ∧
      (∀ n, x.st = .up → port < 14 → x.nb = some n →
        Writes (.expectedBib p port v) s .ok (if w.isolates port n = true then w.setPortState port .isolated else w)) ∧
      (∀ n, x.st = .isolated → x.nb = some n → Writes (.expectedBib p port v) s .ok (if w.isolates port n = true then w else w.setPortState port .up))) ∧
    (hears → x.rxLanes.testBit lane = true → ¬ host ∨ x.st ≠ .up → exec (.lossOfSignal port lane) s = .next (s.setPortState port .down)) ∧
    (hears → x.rxLanes.testBit lane = true → host → x.st = .up → exec (.lossOfSignal port lane) s = .next (if 2 ^ x.breakout ≤ lost.length then
      s.setPortState port .down else ((s.endFrame port sub .cut).cutOff port sub).modPort port (fun y => { y with subDown := lost, sel := tabDel y.sel sub }))) ∧
    (¬ hears ∨ x.rxLanes.testBit lane = false → exec (.lossOfSignal port lane) s = .next s) ∧
    (hears → port < 14 → x.passes = true → exec (.noValidUnitTimeout port) s = .next (s.setPortState port .down)) ∧
    (¬ receives → exec (.codewordReceive port q errs) s = .next s) ∧
    (receives → limit < errs → exec (.codewordReceive port q errs) s =
      .next ((s.modPort port (fun y => { y with cwseq := x.cwseq.map (fun r => (r + 1) % m) })).badCodeword port)) ∧
    (receives → errs ≤ limit → (∀ r, x.cwseq = some r → (r + 1) % m = seq) →
      (errs = 0 → exec (.codewordReceive port q errs) s = .next ((next.modPort port (fun y => { y with uncRun := 0 })).endBurst port)) ∧
      (0 < errs → exec (.codewordReceive port q errs) s =
        .next (((next.count Obj.FEC_CORRECTED port).modPort port (fun y => { y with uncRun := 0 })).endBurst port))) ∧
    (receives → errs ≤ limit → ∀ r, x.cwseq = some r → (r + 1) % m ≠ seq →
      let w := (next.modPort port (fun y => { y with slips := s.time.gun :: x.slips.filter (fun t => s.time.gun ≤ t + 1000000 * 65536) })).badCodeword port
      exec (.codewordReceive port q errs) s = .next (if 3 ≤ (w.port port).slips.length then w.linkDown port else w)) ∧
    (receives → 63 ≤ x.uncRun → ((s.badCodeword port).port port).st = .down)

/-- R106, R110 to R113, R116 to R118, R125, R321: the control flits and pauses. A flit that fails its check or has a reserved TYPE only counts, in 200Fh, and any unit but an ABORT ends the frame that is coming in; one that passes takes effect on a Psiot
port that passes flits, from its fields of Table 4.7; due flits leave in the order of R112, at most two before a frame that is ready, and an IDLE where nothing is due; a pause of 2012h's mode is taken per priority of the frame's mask or on all eight and lapses at its end. -/
def Obligations.ControlFlitResults : Prop :=
  ∀ (s u : State) (port dur prio i v : Nat) (flit : Blob) (durations : List Nat) (mask : BitVec 8) (p : Principal),
    let x := s.port port
    let due := sortBy CtlFlit.rank x.ctl
    let host := port = 14 ∨ port = 15
    let lapse := fun (u q d : Nat) => u = s.time.gun + d * 512 * 65536 / max 1 (s.rateIn port) ∧ q < 8
    let sends := port < 14 ∧ x.passes = true ∧ x.sleep = .awake ∧ x.tx = []
    let sentBy := fun (fs : List CtlFlit) (w : State) => exec (.controlFlitSend port) s = .next (fs.foldl (fun (y : State) f => y.sendCtl port f) w)
    let key := port * 8 + beAt flit 1 1 / 32
    let lap := beAt flit 2 6
    let now := ((u.time.gun : Int) - u.timePath (8 * port + 4)).toNat
    (∀ ty vc body at_, flitOk (flitBytes ty vc body) = decide (ty % 256 ≤ 10) ∧ (flitBytes ty vc body).length = 40 ∧
      flitType (flitBytes ty vc body) = ty % 256 ∧ ∀ f : CtlFlit, f.bytes at_ = flitBytes f.code f.vc (f.body at_)) ∧
    (port < 14 → x.passes = true → flitOk flit = false → ∀ c ∈ [Instr.idle port flit, .credit port flit, .lapMarker port flit, .missedSlab port flit,
      .sleep port flit, .abort port flit, .linkRetrainRequest port flit, .linkFallbackRequest port flit],
      exec c s = .next ((s.endFrame port 0 .cut).count Obj.CONTROL_ERRORS port)) ∧
    (FlitIn s port 0 flit u → exec (.idle port flit) s = .next u) ∧
    (FlitIn s port 1 flit u → exec (.credit port flit) s =
      .next (u.modPort port (fun y => { y with limit := (List.range 6).map (fun k => (k + 2, beAt flit (2 + 4 * k) 4)) }))) ∧
    (FlitIn s port 8 flit u → exec (.sleep port flit) s = .next (u.modPort port (fun y => { y with rxSleepUntil := beAt flit 2 10 }))) ∧
    (FlitIn s port 6 flit u → exec (.missedSlab port flit) s = .next (u.takeNotice port (beAt flit 2 1) (beAt flit 4 2) (beAt flit 6 2))) ∧
    (FlitIn s port 9 flit u → tabGet? s.ingress (8 * port) ≠ none → exec (.abort port flit) s = .next (s.endFrame port 0 (.abort (beAt flit 2 1)))) ∧
    (FlitIn s port 9 flit u → tabGet? s.ingress (8 * port) = none → exec (.abort port flit) s = .next (s.count Obj.CONTROL_ERRORS port)) ∧
    (FlitIn s port 10 flit u → exec (.linkRetrainRequest port flit) s = .next (if beAt flit 2 1 = 1 then u.linkDown port else u)) ∧
    (FlitIn s port 10 flit u → beAt flit 2 1 ≠ 2 ∨ (u.port port).txLanes ≠ 0xFFFF ∨ u.cfg Obj.FALLBACK port = 0 →
      exec (.linkFallbackRequest port flit) s = .next u) ∧
    (FlitIn s port 10 flit u → beAt flit 2 1 = 2 → (u.port port).txLanes = 0xFFFF → u.cfg Obj.FALLBACK port ≠ 0 → exec (.linkFallbackRequest port flit) s =
      .next (((u.modPort port (fun y => { y with txLanes := if beAt flit 3 1 % 16 < 8 then 0xFF00 else 0x00FF })).count Obj.FALLBACKS port).raise 2 none
        Obj.FALLBACKS port)) ∧
    (FlitIn s port 5 flit u → ∃ w : State, exec (.lapMarker port flit) s = .next w ∧ (lap, key, now) ∈ w.ten.marks ∧ w.time = u.time ∧
      ∀ k ph, (u.tenant k).photo = some ph → ph.lap = lap → tabGet? ph.markers key = none →
        (w.tenant k).photo = some { ph with markers := tabSet ph.markers key now }) ∧
    (port < 14 → exec (.creditTick port) s =
      .next (s.queueCtl port (.credit ((List.range 6).map (fun k => (tabGet x.freed (k + 2) 0 + tabGet x.initial (k + 2) 0) % 2 ^ 32))))) ∧
    (sends → s.selHolds port 0 = false → sentBy (if due = [] then [.idle] else due) (s.modPort port (fun y => { y with ctl := [], ctlRun := 0 }))) ∧
    (sends → s.selHolds port 0 = true →
      let n := min due.length (2 - x.ctlRun)
      sentBy (due.take n) (s.modPort port (fun y => { y with ctl := due.drop n, ctlRun := x.ctlRun + n }))) ∧
    (x.passes = false ∨ x.sleep ≠ .awake ∨ x.tx ≠ [] → exec (.controlFlitSend port) s = .next s) ∧
    (∀ f, ∃ w, s.sendCtl port f = w ∧ w.out = s.out ++ [.ctl port (f.bytes (s.txTime port)) (s.txTime port)] ∧
      (w.port port).wireFree = s.txTime port + s.wireTime port 40) ∧
    List.Pairwise (fun (f g : CtlFlit) => f.rank ≤ g.rank) due ∧ List.Perm due x.ctl ∧
    (host → x.st = .up → s.cfg Obj.FLOW_CONTROL port = 1 → ∃ u, exec (.pfcReceive port mask durations) s = .next u ∧
      (∀ q, q < 8 → mask.getLsbD q = true → (s.cfg Obj.PFC_CONFIG port).testBit q = true → durations.getD q 0 ≠ 0 →
        ∃ e, tabGet? (u.port port).paused q = some e ∧ lapse e q (durations.getD q 0)) ∧
      (∀ q, q < 8 → mask.getLsbD q = false ∨ (s.cfg Obj.PFC_CONFIG port).testBit q = false → tabGet? (u.port port).paused q = tabGet? x.paused q)) ∧
    (host → x.st = .up → s.cfg Obj.FLOW_CONTROL port = 2 → dur ≠ 0 → ∃ u, exec (.pauseReceive port dur) s = .next u ∧
      ∀ q, q < 8 → ∃ e, tabGet? (u.port port).paused q = some e ∧ lapse e q dur) ∧
    (s.cfg Obj.FLOW_CONTROL port ≠ 1 → exec (.pfcReceive port mask durations) s = .next s) ∧
    (s.cfg Obj.FLOW_CONTROL port ≠ 2 → exec (.pauseReceive port dur) s = .next s) ∧
    (∀ e, tabGet? x.paused prio = some e → e ≤ s.time.gun →
      exec (.pauseExpiry port prio) s = .next (s.modPort port (fun y => { y with paused := tabDel y.paused prio }))) ∧
    (∀ e, tabGet? x.paused prio = some e → s.time.gun < e → exec (.pauseExpiry port prio) s = .next s) ∧
    (AcceptsNum s p Obj.CREDIT_INIT i v →
      let flits := ((List.range 6).map (fun k => if k + 2 = i % 8 then v else s.cfg Obj.CREDIT_INIT (8 * (i / 8) + k + 2))).sum
      let fits := flits ≤ 10000 ∧ (2 * v + 6) / 7 ≤ s.classReserve (i / 8) (i % 8) + s.sharedRegion (partOf (i % 8))
      (fits → Writes (.creditInit p i v) s .ok (s.writeNum Obj.CREDIT_INIT i v)) ∧ (¬ fits → Writes (.creditInit p i v) s .overcommit s))

/-! ## Frames in and out (chapters 04 and 09) -/

/-- R32, R105, R107 to R109, R112 to R114, R119, R123, R124, R127, R128, R262, R268, R269: a frame in. On a port and sub-port in service a new frame first ends one still being received, takes its pin time to 78.125 ps, and is charged and stored where its header
passes, the port takes its class and its credits cover it, else counted and dropped; at its end it is good, or bad for the first cause of R109 or R124 that applies, with the counter and the ABORT reason of
that cause. -/
def Obligations.FrameInResults : Prop :=
  ∀ (s : State) (port sub flits fine : Nat) (b : Blob) (k : EndKind) (fid : Nat) (f : Frame),
    let x := s.port port
    let key := port * 8 + sub
    let e := s.endFrame port sub .cut
    let pin := (((e.time.gun + fine % 16 * 5120 : Nat) : Int) - e.timePath (8 * port + 4)).toNat
    let g : Frame := { Frame.blank with
      src := 0, port := port, sub := sub, bytes := b, flits := flits, tf := pin, ended := .arriving, startType := e.cfg Obj.START_TYPE port,
      cls := fhClass b, phys := 32 + fhLength b, parseTenant := fhDest b / 2 ^ 24, tenant := fhDest b / 2 ^ 24 }
    let arrival := exec (.frameArrival port sub b flits fine) s
    let on := port < 14 ∧ sub = 0 ∧ 0 ∉ x.subDown ∧ (x.st = .up ∨ x.st = .isolated)
    let w := f.bytes
    let body := w.take (w.length - 4)
    let check := w.drop (w.length - 4)
    let len := fhLength w
    let good := headerOk w = true ∧ f.flits = flitsOf len ∧ w.length = 36 + len
    (15 < port ∨ s.subports port ≤ sub ∨ sub ∈ x.subDown ∨ ¬ (x.st = .up ∨ (x.st = .isolated ∧ port < 14)) → arrival = .next s) ∧
    (on → headerOk b = false → arrival = .next (e.enterFrame g true)) ∧
    (on → headerOk b = true → x.st = .isolated → g.cls ≠ 3 → arrival = .next ((e.count Obj.ISOLATED_DROPS port).enterFrame g true)) ∧
    (on → headerOk b = true → x.st = .up ∨ g.cls = 3 → 2 ≤ g.cls → (e.port port).freeFlits g.cls < flits →
      arrival = .next (((e.count Obj.CREDIT_VIOLATIONS port).raise 2 none Obj.CREDIT_VIOLATIONS port).enterFrame g true)) ∧
    (on → headerOk b = true → x.st = .up ∨ g.cls = 3 → g.cls < 2 ∨ flits ≤ (e.port port).freeFlits g.cls → arrival = .next (e.enterFrame g false)) ∧
    (x.st = .up → port = 14 ∨ port = 15 → sub < s.subports port → sub ∉ x.subDown → ∃ h : Frame,
      arrival = .next (e.enterFrame h (decide (b.length < 64))) ∧ h.bytes = b ∧ h.port = port ∧ h.sub = sub ∧ h.tf = pin ∧ h.phys = b.length - 4 ∧
      h.startType = e.cfg Obj.START_TYPE port) ∧
    (tabGet? s.ingress key = none → exec (.frameEnd port sub k) s = .next s) ∧
    (tabGet? s.ingress key = some fid → s.frame? fid = some f →
      let v : State := { s with ingress := tabDel s.ingress key }
      let r := match s.verdict f k with
        | none => v.goodEnd port fid
        | some (o, reason) => v.badEnd port fid f k o reason
      exec (.frameEnd port sub k) s = .next (match r.frame? fid with | some h => if h.baton = 0 then r.forget fid else r | none => r)) ∧
    (∀ n, s.verdict f (.abort n) = some (some Obj.STOMPS_RX, 1)) ∧ s.verdict f .cut = some (some Obj.HEADER_ERRORS, 1) ∧
    s.verdict f .over = some (some Obj.GIANTS, 4) ∧ s.verdict f .fec = some (none, 1) ∧
    (f.port < 14 → s.verdict f .whole =
      if 402 ≤ f.flits then some (some Obj.GIANTS, 4) else if ¬ good then some (some Obj.HEADER_ERRORS, 1)
      else if crc32 body ≠ beAt w (32 + len) 4 then some (some Obj.BAD_CRC, 1) else none) ∧
    (14 ≤ f.port → s.verdict f .whole =
      if w.length < 64 then some (some Obj.RUNTS, 1) else if s.cfg Obj.MAX_FRAME f.port < w.length then some (some Obj.GIANTS, 4)
      else if check = (fcs body).map (fun y => ~~~y) then some (some Obj.STOMPS_RX, 1)
      else if check ≠ fcs body then some (some Obj.BAD_CRC, 1) else none)

/-- R21, R58, R59, R93, R105, R107, R278, R284, R285, R287, R128: a frame out. A free sub-port whose selection may not start selects of the queues whose head may start the lowest class and smallest tag; the selected head starts at its
nominal time, leaves padded to its flits, and only then is released, or kept where it is relay traffic; a C0 slab past its interval is a missed launch; a stream that overtakes its build is stomped with reason 2. R129 to R131, R269, R279 to R281: the rings of port P. A write to BAR0 is a doorbell, a word of an MSI-X table, or nothing; a doorbell that would post a negative number or names no ring only counts, any other posts its
descriptors and reads them; the transmit ring whose turn it is takes its next frame from its buffers and completes its descriptors, with ERROR where a read failed; a receive ring's selected head is written into the posted
buffers; and a due vector is raised, or pends while it is masked. -/
def Obligations.FrameOutResults : Prop :=
  (∀ (s : State) (p sub q : Nat) (w : OnWire) (f : Frame) (c : Copy) (rest : List Copy) (x : Shell),
    let u := s.modPort p (fun y => { y with sel := tabDel y.sel sub })
    let able := u.busyQueues.filter (fun r => u.qPort r == p && u.qSub r == sub && u.headMayStart r)
    let y := s.queue q
    (s.selHolds p sub = true → exec (.egressSelection p sub) s = .next s) ∧
    (s.selHolds p sub = true ↔ ∃ r, tabGet? (s.port p).sel sub = some r ∧ s.headMayStart r = true) ∧
    (s.selHolds p sub = false → able = [] → exec (.egressSelection p sub) s = .next u) ∧
    (s.selHolds p sub = false → able ≠ [] → ∃ t r, exec (.egressSelection p sub) s = .next t ∧ tabGet? (t.port p).sel sub = some r ∧ r ∈ able ∧
      (∀ o ∈ able, s.qClass r ≤ s.qClass o) ∧ tabGet (t.port p).vtime (sub * 8 + s.qClass r) 0 = s.ftag r) ∧
    (tabGet? (s.port p).sel sub = none → exec (.frameLaunch p sub) s = .next s) ∧
    (tabGet? (s.port p).sel sub = some q → y.copies = [] → exec (.frameLaunch p sub) s = .next u) ∧
    (tabGet? (s.port p).sel sub = some q → y.copies = c :: rest → p < 16 → tabGet? (s.port p).tx sub = none → (s.port p).sleep = .awake →
      s.headMayStart q = true → ∃ t, exec (.frameLaunch p sub) s = .next t ∧
        tabGet? (t.port p).tx sub = some ⟨q, s.qClass q, c, s.txTime p⟩ ∧
        (t.queue q).copies = rest ∧ (t.queue q).wire = y.wire ++ [c] ∧ tabGet? (t.port p).sel sub = none) ∧
    (tabGet? (s.port p).sel sub = some q → s.headMayStart q = false → y.copies ≠ [] → exec (.frameLaunch p sub) s = .next s) ∧
    (tabGet? (s.port p).tx sub = none → ∀ e, exec (.frameTransmitEnd p sub e) s = .next s) ∧
    (tabGet? (s.port p).tx sub = some w → s.frame? w.copy.fid = some f → f.whole = true → s.shellBuilt w.copy.fid = true →
      w.started + s.wireTime p w.copy.wire ≤ s.time.gun →
      let bytes := s.outBytes p f w.copy w.cls
      let wire := if p < 14 then bytes ++ List.replicate (40 * flitsOf (bytes.length - 36) - (36 + (bytes.length - 36))) 0 else bytes
      let sent := (((s.emit (.frame p sub w.copy.fid wire w.started)).count Obj.DEQUEUED w.q).countN Obj.BYTES_OUT w.q w.copy.wire).count
        Obj.FRAMES_TX p
      let marked := if w.copy.ce = true ∧ p < 14 then sent.count Obj.CE_MARKS w.q else sent
      let off := State.offWire (if f.relay then marked.captureOutput p w.copy.fid f else marked) p sub w
      exec (.frameTransmitEnd p sub .clean) s = .next (State.starterFlush (if w.cls = 0 then off.retain p w.copy else off.releaseCopy w.copy))) ∧
    (tabGet? (s.port p).tx sub = some w → s.frame? w.copy.fid = some f →
      exec (.frameTransmitEnd p sub .uncorrectable) s = .next ((s.sramEvent 28 (bCell w.copy.baton * 32) .uncorrectable).stomp p sub 1 false)) ∧
    (tabGet? (s.port p).tx sub = some w → ∀ reason, ∃ t, s.stomp p sub reason true = t ∧ ∃ post, t.out = s.out ++
      .stomp p sub w.copy.fid (s.sentBytes p w)
        (if p < 14 then flitBytes 9 0 (beBytes 1 reason) else (fcs (s.sentBytes p w)).map (fun z => ~~~z)) (p == 14 || p == 15) :: post) ∧
    (tabGet? (s.port p).tx 0 = some w → s.shellOf w.copy.fid = some x → x.built = false →
      256 * s.cellsFilled x ≤ (s.time.gun - w.started) * s.rateOut p / (8 * 65536) →
      exec (.streamUnderrun p) s = .next ((s.count Obj.UNDERRUNS x.t).stomp p 0 2 true)) ∧
    (s.qClass q ≠ 0 → exec (.missedLaunch q) s = .next s) ∧
    (s.qClass q = 0 → let o := s.takeOut q (s.missed (s.qPort q))
      exec (.missedLaunch q) s = .next (o.1.foldl (fun (t : State) d => t.missLaunch q d) o.2)) ∧
    (∀ m, s.qClass q = 0 → s.frame? c.fid = some f → f.relayLap = some m → (s.missed (s.qPort q) c = true ↔
      s.lapOver m = true ∨ (m = s.time.lap ∧ ∃ d, s.lastRelayEnd (s.qPort q) f.parseTenant m = some d ∧ s.time.lapStart + d * 65536 ≤ s.time.gun)))) ∧
  (∀ (s : State) (q fn off : Nat) (v : BitVec 64) (descs : List Blob) (f : Frame) (c : Copy) (rest : List Copy),
    let y := s.queue q
    let n := s.ringEntries q
    let tail := v.toNat % 65536 % n
    let slot := (off - 0x1000) / 8
    let table := if fn = 0 then 0x80000 else 0xC000
    let word := (off - table) / 8
    let inDoors := 0x1000 ≤ off ∧ off ≤ (if fn = 0 then 0x20FFF else 0x8FFF)
    let inTable := table ≤ off ∧ off < table + 16 * (if fn = 0 then 512 else 16)
    let entry := fun (k : Nat) => tabGet s.pcie.vectors (fn * 512 + k) (List.replicate 15 0 ++ [1])
    let write := exec (.doorbellWrite fn off v descs) s
    let ds := nextFrame y.posted
    let vec := beAt (s.blb Obj.QUEUE_RING q) 10 2
    let vf := s.qTenant q + 1
    let e := tabGet s.pcie.vectors (vf * 512 + vec) (List.replicate 15 0 ++ [1])
    let pieces := fun (a : Nat) (w : Blob) => (List.range ((w.length + 511) / 512)).map (fun k => Emission.dma (a + 512 * k) ((w.drop (512 * k)).take 512))
    (inDoors → s.slotQueue fn slot = none → write = .next (s.count Obj.DOORBELL_ERRORS)) ∧
    (inDoors → s.slotQueue fn slot = some q → n = 0 ∨ (tail + n - y.ringHead % n) % n < s.ringPosted q → write = .next (s.count Obj.DOORBELL_ERRORS)) ∧
    (inDoors → s.slotQueue fn slot = some q → 0 < n → s.ringPosted q ≤ (tail + n - y.ringHead % n) % n →
      let more := (tail + n - y.ringTail % n) % n
      let read : State := { s with out := s.out ++ (List.range more).map (fun k => .dmaRead (s.ringBase64 q + 16 * ((y.ringTail + k) % n)) 16) }
      write = .next ((read.modQueue q (fun z => { z with
        ringTail := tail, posted := z.posted ++ (List.range more).map (fun k => (descs.getD k []).take 16), armed := z.armed || v.getLsbD 31 })).txArrives q y.txReady)) ∧
    (inTable → let z := overwrite (entry (word / 2)) (8 * (word % 2)) (beBytes 8 v.toNat)
      let t : State := { s with pcie.vectors := tabSet s.pcie.vectors (fn * 512 + word / 2) z }
      write = .next (if fn * 512 + word / 2 ∈ s.pcie.pendingBits ∧ (beAt z 12 4).testBit 0 = false then
        ({ t with pcie.pendingBits := t.pcie.pendingBits.filter (· != fn * 512 + word / 2) } : State).raiseVector fn (word / 2) else t)) ∧
    (¬ inDoors → ¬ inTable → write = .next s) ∧
    (∀ t ts, y.raiseAt = t :: ts → t ≤ s.time.gun → let u := s.modQueue q (fun z => { z with raiseAt := ts })
      ((beAt e 12 4).testBit 0 = false → exec (.msixModerationExpiry q) s = .next (u.emit (.msix vf vec (beAt e 0 8) (beAt e 8 4)))) ∧
      ((beAt e 12 4).testBit 0 = true → ∃ t, exec (.msixModerationExpiry q) s = .next t ∧ t.out = s.out ∧ vf * 512 + vec ∈ t.pcie.pendingBits)) ∧
    (y.raiseAt = [] → exec (.msixModerationExpiry q) s = .next s) ∧
    (∀ reads, s.txTurn ≠ some q → exec (.txDescriptorFetch q reads) s = .next s) ∧
    (∀ reads : List (Blob × Bool), s.txTurn = some q → reads.map (fun r => r.1.length) = ds.map descLen → (∀ r ∈ reads, r.2 = false) →
      let data := (reads.map Prod.fst).flatten
      let k := partOf (s.qClass q)
      let m := if packs k data.length then 1 else cellsFor data.length
      14 ≤ data.length → data.length ≤ 16000 →
      (s.sharedFits k m = false → exec (.txDescriptorFetch q reads) s = .next s) ∧
      (∀ a u, s.sharedFits k m = true → s.allocFrame k data.length 15 = some (a, u) →
        ∃ t z, exec (.txDescriptorFetch q reads) s = .next t ∧
          t.frame? s.nextFid = some z ∧ z.bytes = data ∧ z.src = 2 ∧ z.cls = s.qClass q ∧ z.parseTenant = s.qTenant q ∧ z.baton = a ∧
          (t.queue q).posted = y.posted.drop ds.length)) ∧
    (∀ reads : List (Blob × Bool), s.txTurn = some q → reads.length = ds.length → (∃ r ∈ reads, r.2 = true) →
      ∃ t, exec (.txDescriptorFetch q reads) s = .next t ∧ t.frames = s.frames ∧ (t.queue q).posted = y.posted.drop ds.length) ∧
    (y.copies = [] → exec (.rxDmaDelivery q) s = .next s) ∧
    (tabGet? (s.port 16).sel (s.qSub q) ≠ some q ∨ s.headMayStart q = false → exec (.rxDmaDelivery q) s = .next s) ∧
    (∀ part parts, y.copies = c :: rest → s.frame? c.fid = some f → tabGet? (s.port 16).sel (s.qSub q) = some q → s.headMayStart q = true →
      fillBuffers (y.posted.map descLen) (s.outBytes 16 f c (s.qClass q)) = some (part :: parts) →
      ∃ t, exec (.rxDmaDelivery q) s = .next t ∧ (t.queue q).posted = y.posted.drop (1 + parts.length) ∧
        let ctl := 2 ^ 63 + (if parts = [] then 2 ^ 62 else 0) + part.length * 2 ^ 42 + (f.card.map Card.stamp).getD 0
        ∃ post, t.out = s.out ++ pieces (descAddr (y.posted.getD 0 [])) part ++ pieces (s.ringBase64 q + 16 * y.ringHead + 8) (beBytes 8 ctl) ++ post) ∧
    (∀ (sizes : List Nat) ps, fillBuffers sizes (s.outBytes 16 f c 0) = some ps →
      ps.flatten = s.outBytes 16 f c 0 ∧ ps.length ≤ sizes.length ∧ ∀ i, i + 1 < ps.length → (ps.getD i []).length = sizes.getD i 0))

/-! ## The pool, queues, marshals and pacers (chapter 09) -/

/-- R4, R264, R270, R272 to R274, R279, R282, R288, Tables 9.4 to 9.8: accepted writes of the pool's and queues' objects: what each refuses with RANGE, STATE or OVERCOMMIT, in that order, and
what a stored one sets, reserved fields as zero. -/
def Obligations.QueueWrites : Prop :=
  ∀ (s : State) (p : Principal) (i v : Nat) (b : Blob),
    let d := beAt b 0 16 / 2 ^ 35 * 2 ^ 35
    let fld := fun (x hi lo : Nat) => x / 2 ^ lo % 2 ^ (hi + 1 - lo)
    let port := fld d 126 122
    let cls := fld d 118 116
    let limit := fld d 91 78
    let sound := b.length = 16 ∧ port ≤ 16 ∧ (14 ≤ port → 2 ≤ cls) ∧ (port = 16 → cls ≠ 2) ∧ fld d 121 119 < s.subports port ∧
      fld d 115 108 = s.blockOwner i ∧ fld d 107 92 ≠ 0 ∧ limit ≠ 0 ∧ fld d 77 64 ≤ limit ∧
      (d.testBit 49 = true → beAt (s.blb Obj.MARSHAL (fld d 48 36)) 17 1 = fld d 115 108)
    let moved := s.queueBusy i = true ∧ fld d 126 108 ≠ fld (s.qdesc i) 126 108
    let was := if partOf (s.qClass i) = partOf cls then s.qReserve i else 0
    let tight := s.sharedRegion (partOf cls) < fld d 77 64 - was
    let desc := fun r u => Writes (.queueDesc p i b) s r u
    let w := s.writeBlob Obj.QUEUE_DESC i (beBytes 16 d)
    let base := v / 2 ^ 16 % 2 ^ 16
    let size := v % 2 ^ 13
    let inMine := fun (q : Nat) => fld (s.cfg Obj.QUEUE_BLOCK i) 31 16 ≤ q ∧ q < fld (s.cfg Obj.QUEUE_BLOCK i) 31 16 + fld (s.cfg Obj.QUEUE_BLOCK i) 12 0
    let apart := ∀ u, u < 256 → u ≠ i → blocksMeet (base, size) (fld (s.cfg Obj.QUEUE_BLOCK u) 31 16, fld (s.cfg Obj.QUEUE_BLOCK u) 12 0) = false
    let rate := beAt b 0 4
    let burst := beAt b 4 4
    let paced := rate ≤ 1600000 ∧ burst ≤ 16777215
    let ring := b.length = 24 ∧ s.qPort i = 16 ∧ beAt b 0 8 % 64 = 0 ∧ 4 ≤ beAt b 8 1 ∧ beAt b 8 1 ≤ 16 ∧ beAt b 9 1 ≤ 1 ∧ beAt b 10 2 < 16 ∧ beAt b 12 4 ≤ 1000000
    let bucket := b.length = 20 ∧ burst ≤ 1600000 ∧ rate ≤ burst ∧ 1 ≤ beAt b 8 4 ∧ beAt b 8 4 ≤ 16777215 ∧ 1 ≤ beAt b 12 4 ∧ beAt b 12 4 ≤ 16777215 ∧
      fld (beAt b 16 1) 2 1 ≠ 3
    let taken := beAt b 17 1 ≠ beAt (s.blb Obj.MARSHAL i) 17 1 ∧ ∃ q ∈ s.writtenQueues, s.qMarshal q = some i
    let full := rate + s.guaranteed (i % 16) (i / 16) ≤ s.guaranteeCapacity (i % 16)
    let want := (List.range 4).map (fun k => beAt b (4 * k) 4)
    (AcceptsBlob s p Obj.QUEUE_DESC i b →
      (¬ sound → desc .range s) ∧ (sound → moved → desc .state s) ∧ (sound → ¬ moved → tight → desc .overcommit s) ∧
      (sound → ¬ moved → ¬ tight → ∃ u, desc .ok (u.bumpGen Obj.QUEUE_DESC i) ∧ u.blob = w.blob ∧ u.buf.queues = s.buf.queues ∧
        (d.testBit 35 = false ∨ (s.qdesc i).testBit 35 = true → u = w))) ∧
    (AcceptsNum s p Obj.QUEUE_BLOCK i v →
      (4096 < size ∨ 16384 < base + size ∨ ¬ apart → Writes (.queueBlock p i v) s .range s) ∧
      (size ≤ 4096 → base + size ≤ 16384 → apart → (s.tenant i).st ≠ .idle ∨ (∃ q, base ≤ q ∧ q < base + size ∧ ¬ inMine q ∧ s.queueBusy q = true) →
        Writes (.queueBlock p i v) s .state s) ∧
      (size ≤ 4096 → base + size ≤ 16384 → apart → (s.tenant i).st = .idle → (∀ q, q < 65536 + 8192 → s.queueBusy q = false) →
        ∃ u, Writes (.queueBlock p i v) s .ok u ∧ u.cfg Obj.QUEUE_BLOCK i = base * 2 ^ 16 + size ∧
          ∀ q, base ≤ q → q < base + size → ¬ inMine q → u.qTenant q = i % 256 ∧ u.qEnable q = false)) ∧
    (AcceptsBlob s p Obj.QUEUE_RING i b →
      (¬ ring → Writes (.queueRing p i b) s .range s) ∧
      (ring → (s.queue i).ringHead ≠ (s.queue i).ringTail → Writes (.queueRing p i b) s .state s) ∧
      (ring → (s.queue i).ringHead = (s.queue i).ringTail →
        WritesBlob (.queueRing p i b) s .ok Obj.QUEUE_RING i (s.writeBlob Obj.QUEUE_RING i (b.take 16 ++ List.replicate 8 0)))) ∧
    (AcceptsBlob s p Obj.MARSHAL i b →
      (¬ bucket → Writes (.marshal p i b) s .range s) ∧ (bucket → taken → Writes (.marshal p i b) s .state s) ∧
      (bucket → ¬ taken → ∃ u, WritesBlob (.marshal p i b) s .ok Obj.MARSHAL i u ∧ u.blb Obj.MARSHAL i = b.take 16 ++ beBytes 1 (beAt b 16 1 % 16) ++ beBytes 1 (beAt b 17 1) ++ [0, 0] ∧
        tabGet? u.buf.marshals i = some ⟨beAt b 8 4 * (8000 * 65536), beAt b 12 4 * (8000 * 65536), s.time.gun⟩)) ∧
    (AcceptsBlob s p Obj.QUEUE_PACER i b →
      (b.length ≠ 8 ∨ ¬ paced → Writes (.queuePacer p i b) s .range s) ∧
      (b.length = 8 → paced → ∃ u, WritesBlob (.queuePacer p i b) s .ok Obj.QUEUE_PACER i u ∧ u.blb Obj.QUEUE_PACER i = b ∧
        (tabGet u.buf.qpacers i .reset) = { tabGet s.buf.qpacers i .reset with pend := some (rate, burst) })) ∧
    (AcceptsBlob s p Obj.TENANT_PACER i b →
      let g := (beAt b 8 1).testBit 0 = true
      (b.length ≠ 9 ∨ ¬ paced → Writes (.tenantPacer p i b) s .range s) ∧ (b.length = 9 → paced → g → ¬ full → Writes (.tenantPacer p i b) s .overcommit s) ∧
      (b.length = 9 → paced → ¬ g ∨ full → ∃ u, WritesBlob (.tenantPacer p i b) s .ok Obj.TENANT_PACER i u ∧ u.blb Obj.TENANT_PACER i = b.take 8 ++ beBytes 1 (beAt b 8 1 % 2) ∧
        (tabGet u.buf.tpacers i .reset) = { tabGet s.buf.tpacers i .reset with pend := some (rate, burst) })) ∧
    (AcceptsNum s p Obj.HOST_RESERVE i v →
      (s.sharedRegion 2 < v - s.cfg Obj.HOST_RESERVE i → Writes (.hostReserve p i v) s .overcommit s) ∧
      (v - s.cfg Obj.HOST_RESERVE i ≤ s.sharedRegion 2 → Writes (.hostReserve p i v) s .ok (s.writeNum Obj.HOST_RESERVE i v))) ∧
    (AcceptsBlob s p Obj.PARTITION_SIZES 0 b →
      let sets := s.relay.sets ++ s.relay.staged
      let demand := fun (k : Nat) => if k = 0 then (sets.map (fun e => e.2.demand)).sum
        else if k = 1 then (sets.map (fun e => if s.replay e.1 then e.2.retention else 0)).sum else 0
      let enough := ∀ k, k < 4 → s.reserved k + demand k ≤ beAt b (4 * k) 4
      (b.length ≠ 16 ∨ want.sum ≠ 65535 → Writes (.partitionSizes p b) s .range s) ∧
      (b.length = 16 → want.sum = 65535 → s.allIdle = false → Writes (.partitionSizes p b) s .state s) ∧
      (b.length = 16 → want.sum = 65535 → s.allIdle = true → ¬ enough → Writes (.partitionSizes p b) s .overcommit s) ∧
      (b.length = 16 → want.sum = 65535 → s.allIdle = true → enough → ∃ u, WritesBlob (.partitionSizes p b) s .ok Obj.PARTITION_SIZES 0 u ∧
        u.blb Obj.PARTITION_SIZES 0 = b ∧ ((List.range 4).map u.partSize).sum = ((List.range 4).map s.partSize).sum))

/-- R213, R263, R276, R277, R282, R289: an order domain hands over in sequence what its run released, dropping a frame whose card says so; each pacer gains RATE × T up to its burst at a refill, a new one starting
full; an open half left untaken for 1.0 µs loses its reference; a marshal colours by its two buckets. -/
def Obligations.QueueEvents : Prop :=
  ∀ (s : State) (n part grp fid m bytes pre : Nat) (r : Release) (f : Frame) (c : Card) (a : Nat) (t : Time),
    let x := s.od n
    let w := s.setOd n { x with hand := x.hand + 1, frames := tabDel x.frames x.hand, posted := tabDel x.posted x.hand }
    let h := w.handFrame fid f c r
    let key := part * 64 + grp
    let cfg := s.marshalCfg m
    let mk := s.marshal m
    let dt := s.time.gun - mk.last
    let one := 8000 * 65536
    let tc := min (cfg.2.2.1 * one) (mk.tc + cfg.1 * dt)
    let tp := min (cfg.2.2.2.1 * one) (mk.tp + cfg.2.1 * dt)
    let aware := cfg.2.2.2.2.testBit 0
    (tabGet? x.frames x.hand = none ∨ tabGet? x.posted x.hand = none → exec (.handover n) s = .next s) ∧
    (tabGet? x.frames x.hand = some fid → tabGet? x.posted x.hand = some r → w.frame? fid = some f → w.cardOf? fid = some c →
      exec (.handover n) s = .next (State.starterFlush (if c.flags.fragFirst then h.2.decideFrag fid h.1 else h.2))) ∧
    (∀ qs e set, r = .toQueues qs e set → c.flags.drop = true ∨ f.condemned = true → h = (true, (w.uncharge fid).dropAtRelease fid f)) ∧
    (r = .drop → h = (true, (w.uncharge fid).dropAtRelease fid f)) ∧
    (∃ u, exec .pacerRefill s = .next u ∧ u.buf.interval = s.cfg Obj.PACER_INTERVAL ∧
      ∀ q y, tabGet? s.buf.qpacers q = some y → ∃ z, tabGet? u.buf.qpacers q = some z ∧ z.pend = none ∧
        (z.rate, z.burst) = y.pend.getD (y.rate, y.burst) ∧
        z.tokens = if y.rate = 0 ∧ z.rate ≠ 0 then 8000 * (z.burst : Int) else min (8000 * (z.burst : Int)) (y.tokens + z.rate * s.buf.interval)) ∧
    (tabGet? s.buf.pool.openHalf key = some (a, t) → exec (.openHalfExpiry part grp) s =
      .next (if t + 1000 * 65536 ≤ s.time.gun then
        ({ s with buf.pool.openHalf := tabDel s.buf.pool.openHalf key } : State).release (batonOf a 1 true 1 (s.cell a).gen) else s)) ∧
    (tabGet? s.buf.pool.openHalf key = none → exec (.openHalfExpiry part grp) s = .next s) ∧
    ((s.meter m bytes pre).1 = if (aware = true ∧ 2 ≤ pre) ∨ tp < bytes * one then 2 else if (aware = true ∧ pre = 1) ∨ tc < bytes * one then 1 else 0) ∧
    tabGet? (s.meter m bytes pre).2.buf.marshals m = some (match (s.meter m bytes pre).1 with
      | 0 => ⟨tc - bytes * one, tp - bytes * one, s.time.gun⟩
      | 1 => ⟨tc, tp - bytes * one, s.time.gun⟩
      | _ => ⟨tc, tp, s.time.gun⟩)

/-! ## Parsing and classification (chapter 05) -/

/-- R65, R86, R135, R139 to R146, R148, R150 to R153: a frame is walked once, a relay slab after its judgement; its card is written once the window is filled or the frame has ended, in the order of arrival at its engine, from the
rule lookup, or from its fragment entry, or held; a held fragment and an entry lapse after their times. -/
def Obligations.ParseResults : Prop :=
  ∀ (s : State) (fid n : Nat) (e : Ecc) (f : Frame) (en : FragEntry) (t : Time) (c : Card), s.frame? fid = some f →
    let waits := f.walked = false ∧ f.baton ≠ 0 ∧ f.src ≠ 1
    let plain := f.src ≠ 0 ∨ 2 ≤ f.cls
    let g := s.graphOf f
    let w := windowBytes f.bytes f.phys
    let x := walk g w f.startType (if f.src = 0 ∧ isHost f.port = true ∧ f.ended = .arriving ∧ 256 < f.phys then none else some f.phys)
    let k := s.tenantBySource f g w x.headers
    let cls := if f.src = 0 then s.classOf g f.port w x.headers x.inner else f.cls
    let ready := f.walked = true ∧ f.card = none ∧ f.baton ≠ 0 ∧ f.src ≠ 1 ∧ (f.whole = true ∨ 256 ≤ f.phys) ∧ s.cardBehind fid f = false
    let r := s.resolvePending fid f
    let h := (r.frame? fid).getD f
    let b := h.baseCard
    (¬ waits → exec (.parseWalk fid e) s = .next s) ∧
    (waits → plain → ¬ (f.src = 0 ∧ cls < 2) → ∃ u i, exec (.parseWalk fid e) s = .next u ∧ u.frame? fid = some i ∧ i.walked = true ∧ i.headers = x.headers ∧
      i.inner = x.inner ∧ i.parseTenant = k ∧ i.cls = cls ∧ i.graph = some g ∧ i.frag = x.frag ∧ i.claim = x.claim ∧ i.bytes = f.bytes ∧
      (e = .uncorrectable → i.walkFlags.drop = true)) ∧
    (waits → f.src = 0 → f.cls < 2 → f.relayLap = none →
      let lap := s.lapOf (relayWordOf (fhWord f.bytes)).lap
      let j := s.judge f.port (fhDest f.bytes / 2 ^ 24) lap f.tf (f.tf + (s.port f.port).flitTime f.flits : Nat)
      (j = .late → exec (.parseWalk fid e) s = .next ((s.count Obj.LATE_DROPS f.port).dropArrival fid)) ∧
      (j = .onTime → exec (.parseWalk fid e) s = .next (State.walkFrame
        (s.modFrame fid (fun y => { y with relayLap := some lap, parseTenant := fhDest f.bytes / 2 ^ 24 })) fid
        { f with relayLap := some lap, parseTenant := fhDest f.bytes / 2 ^ 24 } e))) ∧
    (¬ ready → exec (.cardWrite fid) s = .next s) ∧
    (ready → h.src = 0 → h.cls < 2 → exec (.cardWrite fid) s = .next (r.sendCard fid { b with od := r.odIn b.tenant h.port } true)) ∧
    (ready → h.src ≠ 0 ∨ 2 ≤ h.cls → h.frag = none → exec (.cardWrite fid) s = .next ((r.ruleCard h b).2.sendCard fid (r.ruleCard h b).1 true)) ∧
    (∀ y key, ready → h.src ≠ 0 ∨ 2 ≤ h.cls → h.frag = some (y, 0) → h.fragKey? = some key → exec (.cardWrite fid) s = .next (r.firstFragment fid h b key)) ∧
    (∀ y z key, ready → h.src ≠ 0 ∨ 2 ≤ h.cls → h.frag = some (y, z + 1) → h.fragKey? = some key →
      exec (.cardWrite fid) s = .next (r.laterFragment fid h b (r.findFrag h.parseTenant key))) ∧
    (f.walkFlags.lenPending = false → r = s) ∧
    (en.st = .decided → r.laterFragment fid h b (some (n, en)) = r.sendCard fid { b with
      flags := { b.flags with fragLater := true }, od := en.od, program := en.program, edit := en.edit, metaW := en.metaW, results := en.results,
      fragEntry := n } true) ∧
    (f.heldAt = some t → f.card = some c → exec (.fragHoldExpiry fid) s =
      .next (if f.tf + s.cfg Obj.HOLD_TIME * 1000 * 65536 ≤ s.time.gun then ((s.unholdFrag fid).count Obj.HOLD_TIMEOUTS).fragExpire fid f c else s)) ∧
    (f.heldAt = none → exec (.fragHoldExpiry fid) s = .next s) ∧
    (tabGet? s.parser.frags n = some en → exec (.fragEntryExpiry n) s =
      .next (if en.created + s.cfg Obj.FRAG_LIFETIME * 1000 * 65536 ≤ s.time.gun then { s with parser.frags := tabDel s.parser.frags n } else s)) ∧
    (tabGet? s.parser.frags n = none → exec (.fragEntryExpiry n) s = .next s)

/-- R4, R138, R139, R148, R155, R157, R159, Tables 5.7 and 5.8: accepted writes of the parser's objects. A pending graph keeps R138 or is refused; a commit takes it for frames that arrive later alone; mask sets, rules and edits keep their conditions, a
batch of rules is applied whole or not at all, and a rule added is found under its key. -/
def Obligations.ParserWrites : Prop :=
  ∀ (s : State) (p : Principal) (i v : Nat) (b : Blob),
    let old := s.blb Obj.PARSE_GRAPH
    let others := ((List.range 16).filter (· != i)).map (s.blb Obj.MASK_SET ·)
    let n := beAt b 1 1
    let setOk := b.length = 96 ∧ (n = 255 ∨ (2 ≤ n ∧ n ≤ 16)) ∧ (∀ k, k < 8 → setField b k / 2 ^ 11 % 32 ≤ 16) ∧
      ((List.range 8).map (fun k => setField b k / 2 ^ 11 % 32)).sum ≤ 40 ∧ setSize b + (others.map setSize).sum ≤ 65536 ∧
      ¬ (setOn b = true ∧ ∃ o ∈ others, setOn o = true ∧ setGroup o = setGroup b ∧ setPrio o = setPrio b)
    let stored := beBytes 1 (beAt b 0 1 % 64 + beAt b 0 1 / 128 * 128) ++ (b.drop 1).take 5 ++ [0, 0] ++
      (List.range 8).flatMap (fun k => beBytes 4 (setField b k / 2 ^ 11 * 2 ^ 11)) ++ setMask b ++ List.replicate 15 0
    let count := beAt b 0 2
    let rec1 := ruleRecOf ((b.drop 8).take 64)
    let place := s.storedRule rec1.set rec1.rule.tenant rec1.rule.fullKey
    (AcceptsBlob s p Obj.PARSE_GRAPH_PENDING 0 b →
      (graphOk b s.startTypes = true → WritesBlob (.parseGraphPending p b) s .ok Obj.PARSE_GRAPH_PENDING 0 (s.writeBlob Obj.PARSE_GRAPH_PENDING 0 b)) ∧
      (graphOk b s.startTypes = false → Writes (.parseGraphPending p b) s .range s)) ∧
    (AcceptsNum s p Obj.GRAPH_COMMIT 0 v →
      (1 < v → Writes (.graphCommit p v) s .range s) ∧ (v = 0 → Writes (.graphCommit p v) s .ok s) ∧
      (v = 1 → ∃ u, Writes (.graphCommit p v) s .ok u ∧ u.blb Obj.PARSE_GRAPH = s.blb Obj.PARSE_GRAPH_PENDING ∧
        (∀ k f, s.frame? k = some f → ∃ h, u.frame? k = some h ∧ u.graphOf h = s.graphOf f) ∧ u.graphOf Frame.blank = s.blb Obj.PARSE_GRAPH_PENDING)) ∧
    (AcceptsNum s p Obj.START_TYPE i v →
      let ok := v ≤ 63 ∧ (graphType old v).valid = true
      (ok → Writes (.startType p i v) s .ok (s.writeNum Obj.START_TYPE i v)) ∧ (¬ ok → Writes (.startType p i v) s .range s)) ∧
    (AcceptsNum s p Obj.OD_BLOCK i v →
      let ok := v % 32 ≤ 16 ∧ v / 65536 % 65536 + 2 ^ (v % 32) ≤ 65536
      (¬ ok → Writes (.odBlock p i v) s .range s) ∧ (ok → (s.tenant i).st ≠ .idle → Writes (.odBlock p i v) s .state s) ∧
      (ok → (s.tenant i).st = .idle → Writes (.odBlock p i v) s .ok (s.writeNum Obj.OD_BLOCK i v))) ∧
    (AcceptsBlob s p Obj.MASK_SET i b →
      (¬ setOk → Writes (.maskSet p i b) s .range s) ∧ (setOk → s.setRules i ≠ [] → Writes (.maskSet p i b) s .state s) ∧
      (setOk → s.setRules i = [] → ∃ u, WritesBlob (.maskSet p i b) s .ok Obj.MASK_SET i u ∧ u.blb Obj.MASK_SET i = stored ∧
        u.parser.rules.map Prod.snd = s.parser.rules.map Prod.snd)) ∧
    (AcceptsBlob s p Obj.RULE_BATCH 0 b →
      (count = 0 ∨ 256 < count ∨ b.length ≠ 8 + 64 * count → Writes (.ruleBatch p b) s .range s) ∧
      (1 ≤ count → count ≤ 256 → b.length = 8 + 64 * count →
        (∃ k, k < count ∧ s.ruleRecOk (ruleRecOf ((b.drop (8 + 64 * k)).take 64)) = false) → Writes (.ruleBatch p b) s .range s) ∧
      (∃ r u, exec (.ruleBatch p b) s = .next u ∧ u.reply = ⟨r, [], 0⟩ ∧ (r ≠ .ok → u.parser = s.parser)) ∧
      (count = 1 → b.length = 72 → s.ruleRecOk rec1 = true → rec1.op = 2 → place = none → Writes (.ruleBatch p b) s .range s) ∧
      (count = 1 → b.length = 72 → s.ruleRecOk rec1 = true → rec1.op = 2 → ∀ k x, place = some (k, x) →
        WritesBlob (.ruleBatch p b) s .ok Obj.RULE_BATCH 0 { s with
          parser.rules := tabDel s.parser.rules k, tables.invalid := s.tables.invalid.filter (· != (6, k)) }) ∧
      (count = 1 → b.length = 72 → s.ruleRecOk rec1 = true → rec1.op = 1 → ∀ k x, place = some (k, x) →
        WritesBlob (.ruleBatch p b) s .ok Obj.RULE_BATCH 0 { s with
          parser.rules := tabSet s.parser.rules k rec1.rule, tables.invalid := s.tables.invalid.filter (· != (6, k)) })) ∧
    (AcceptsBlob s p Obj.EDIT i b →
      (editOk b = true → WritesBlob (.edit p i b) s .ok Obj.EDIT i (s.writeBlob Obj.EDIT i b)) ∧ (editOk b = false → Writes (.edit p i b) s .range s))

/-! ## Threads and squads (chapter 07) -/

/-- R198, R201, R202, R205, R210, R211, R213, R214, R216 to R219: a thread's runs. A card that reaches a free thread starts the entry that Table 7.5 selects, with the registers of R198; a DROP card posts a drop and frees the
thread; a thread that ended frees it once its results are back, and a reply that waited for the squad's reset may go; a waiter wakes at its stopwatch or at an event of its squad; an order token later than 4022h returns with TIMEOUT; a fault
ends the run and, once no result is due, drops the frame, frees its batons and counts. -/
def Obligations.ThreadResults : Prop :=
  ∀ (s : State) (x sq idx addr i v f n cause operand : Nat) (c : Card) (p : Principal) (r : InFlight) (ecc : Ecc),
    let t := s.thread x
    let q := s.squad (squadOf x)
    let prio := s.cfg Obj.DISPATCH_PRIORITY c.klass
    let fresh := fun (u : State) (kind : RunKind) (pc budget : Nat) =>
      (u.thread x).st = .ready ∧ (u.thread x).kind = kind ∧ (u.thread x).ctx.pc = BitVec.ofNat 32 pc ∧ (u.thread x).budget = budget ∧ (u.thread x).prio = prio ∧
      (u.thread x).fid = some f ∧ (∀ k, (u.thread x).ctx.rw k = 0) ∧ (u.thread x).ctx.issued = 0 ∧ (u.thread x).batons = []
    let a := addr / 8 * 8
    let starts := if ecc = .uncorrectable then .dropCard else s.entryOf c
    (t.st ≠ .free → exec (.runStart x ecc) s = .next s) ∧ (t.fid = none → exec (.runStart x ecc) s = .next s) ∧
    (t.st = .free → t.fid = some f → s.cardOf? f = some c → ∃ u, exec (.runStart x ecc) s = .next u ∧
      u.cfg Obj.RUNS (squadOf x) = min (s.cfg Obj.RUNS (squadOf x) + 1) (2 ^ 64 - 1) ∧
      (starts = .dropCard → (u.thread x).st = .waiting ∧ (u.thread x).kind = .dropCard) ∧
      (starts = .relay → fresh u .relay 0 1024) ∧
      (∀ e b, starts = .entry n → n < 254 → q.entry? n = some (e, b) →
        fresh u (.entry n) e (if b = 0 then s.cfg Obj.INSTR_BUDGET else b)) ∧
      (starts = .entry n → 254 ≤ n ∨ q.entry? n = none → (u.thread x).st = .ending ∧ (u.thread x).faulted = true)) ∧
    (c.flags.drop = true → s.entryOf c = .dropCard) ∧ (c.flags.drop = false → c.source = 1 ∨ (c.source = 0 ∧ c.cls < 2) → s.entryOf c = .relay) ∧
    (c.flags.drop = false → c.source ≠ 1 → c.source ≠ 0 ∨ 2 ≤ c.cls → s.entryOf c = .entry (if c.flags.slow then s.cfg Obj.SLOW_ENTRY c.tenant else c.program)) ∧
    (t.kind = .dropCard → t.st = .waiting → t.fid = some f → exec (.dropCardRun x) s = .next ((s.postRelease f .drop).freeThread x)) ∧
    (t.kind ≠ .dropCard ∨ t.st ≠ .waiting → exec (.dropCardRun x) s = .next s) ∧
    (t.st = .ending → t.ctx.results = [] → let u := ((t.stopped.map (s.finishStop x)).getD s).freeThread x
      exec (.threadFree x) s = .next (State.squadReply (if t.kind = .init ∧ (u.squad (squadOf x)).st = .loading then u.endLoad (squadOf x) (!t.faulted)
        else u) (squadOf x))) ∧
    (t.st ≠ .ending ∨ t.ctx.results ≠ [] → exec (.threadFree x) s = .next (s.squadReply (squadOf x))) ∧
    (∀ w, t.st = .waiting → t.wait = .stopwatch w → let y := s.readTime (.strider x)
      exec (.stopwatchExpiry x) s = .next (if stopwatchAhead w y.1 = 0 then y.2.stampReady x else y.2)) ∧
    (t.st ≠ .waiting → exec (.stopwatchExpiry x) s = .next s) ∧
    ((s.stampReady x).thread x = { t with st := .ready, wait := .none, readySince := s.strider.readyNo }) ∧
    (AcceptsNum s p Obj.SQUAD_EVENT i v →
      (v = 0 → Writes (.squadEvent p i v) s .ok s) ∧
      (v ≠ 0 → ∃ u, Writes (.squadEvent p i v) s .ok u ∧ ∀ y, squadOf y = i →
        ((s.thread y).st = .waiting → (s.thread y).wait = .event → (u.thread y).st = .ready ∧ (u.thread y).latch = (s.thread y).latch) ∧
        ((s.thread y).st ≠ .waiting ∨ (s.thread y).wait ≠ .event → u.thread y = { s.thread y with latch := true }))) ∧
    (s.tokenLate x r = true ↔ r.token = true ∧ s.tokenDue (.strider x) = false ∧ r.since + s.cfg Obj.TOKEN_LIMIT * 65536000 ≤ s.time.gun) ∧
    (t.ctx.results.find? (s.tokenLate x) = some r →
      let late : InFlight := { r with values := r.values.map (fun _ => 0x8000000000) }
      let w := s.modThread x (fun y => { y with ctx := { y.ctx with results := y.ctx.results.map (fun q => if q = r then late else q) } })
      exec (.tokenTimeout x) s = .next ((w.count Obj.TOKEN_TIMEOUTS).giveResult (.strider x) late)) ∧
    (t.ctx.results.find? (s.tokenLate x) = none → exec (.tokenTimeout x) s = .next s) ∧
    (0x2000 ≤ a → a < 0x10000 → ∃ u, exec (.localStoreRewrite sq idx addr) s = .next u ∧ ∀ k, k < 8 →
      memRead u.strider.lstore ((16 * sq + idx) * 65536 + a + k) = (match (s.squad sq).image with
        | some m => if m.base ≤ a + k then m.text.getD (a + k - m.base) 0 else 0
        | none => 0)) ∧
    (a < 0x2000 → exec (.localStoreRewrite sq idx addr) s = .next s) ∧
    (let due := t.ctx.results.filter (fun q => !q.token)
      let u := s.stopThread x cause operand
      (u.thread x).st = .ending ∧ (u.thread x).faulted = true ∧ (u.thread x).ctx.results = due ∧
      (due ≠ [] → (u.thread x).stopped ≠ none ∧ (u.thread x).batons = t.batons ∧ u.buf = s.buf ∧ u.ten = s.ten ∧ u.num = s.num) ∧
      (due = [] → (u.thread x).stopped = none ∧ (u.thread x).batons = [] ∧
        (cause < 0x0D → u.cfg Obj.THREAD_FAULTS (squadOf x) = min (s.cfg Obj.THREAD_FAULTS (squadOf x) + 1) (2 ^ 64 - 1))))

/-- R3, R220 to R224, R430, R434, R449: the squads. An image that keeps R220 is staged and swaps in squad by squad, each drained first; a load ends with its init entry or fails at 10 ms; the drain limit stops
what still runs; the reply to a squad reset waits until the squad neither drains nor loads; a clock change takes effect at its end and a mode write gates, runs or tests a squad. -/
def Obligations.SquadResults : Prop :=
  ∀ (s : State) (k i v : Nat) (b : Blob) (p : Principal),
    let q := s.squad k
    let named := (List.range 12).filter (fun j => v.testBit j)
    let clock := 1000 ≤ v ∧ v ≤ s.freqMax ∧ v % 25 = 0
    let w := s.writeNum Obj.SQUAD_FREQ i v
    let set := fun (u : State) => Writes (.squadMode p k v) s .ok u
    let m := s.writeNum Obj.SQUAD_MODE k v
    let drain := fun (g : DrainGoal) => m.modSquad k (fun q => { q with st := .draining, goal := g, drainFrom := s.time.gun })
    (AcceptsBlob s p Obj.IMAGE_PENDING i b →
      (imageOf b = none → Writes (.imagePending p i b) s .range s) ∧
      (∀ g, imageOf b = some g → WritesBlob (.imagePending p i b) s .ok Obj.IMAGE_PENDING i
        ((s.setBlb Obj.IMAGE_PENDING i b).modSquad i (fun q => { q with staged := some g })))) ∧
    (∀ g, imageOf b = some g → beAt b 4 2 = 1 ∧ 0x2000 ≤ g.base ∧ g.base + g.text.length ≤ 65536 ∧ b.length = 2076 + g.text.length ∧
      g.crc = crc32 (b.take (b.length - 4)) ∧ (∀ e, g.init = some e → g.base ≤ e ∧ e < g.base + g.text.length ∧ e % 2 = 0) ∧
      ∀ n e d, tabGet? g.entries n = some (e, d) → g.base ≤ e ∧ e < g.base + g.text.length ∧ e % 2 = 0) ∧
    (AcceptsNum s p Obj.IMAGE_COMMIT 0 v →
      (4096 ≤ v → Writes (.imageCommit p v) s .range s) ∧
      (v < 4096 → s.strider.swap ≠ none ∨ (∃ j ∈ named, (s.squad j).staged = none) → Writes (.imageCommit p v) s .state s) ∧
      (v < 4096 → s.strider.swap = none → (∀ j ∈ named, (s.squad j).staged ≠ none) → Writes (.imageCommit p v) s .ok (s.swapFrom v named))) ∧
    (∀ r rest, (s.squad r).st = .running → s.swapFrom v (r :: rest) =
      ({ s with strider.swap := some (v, r) } : State).modSquad r (fun q => { q with was := .running, st := .draining, goal := .swap, drainFrom := s.time.gun })) ∧
    (k < 12 → q.st = .draining → s.squadFree k = true →
      let ends := fun (u : State) => exec (.drainComplete k) s = .next (u.squadReply k)
      (q.goal = .gate → ends (s.setSquad k .gated)) ∧ (q.goal = .test → ends (s.setSquad k .test)) ∧
      (q.goal = .swap → let l := s.install k
        ends (if l.1 then l.2 else (l.2.swapped k).swapOn k)) ∧
      (q.goal = .reset → let l := s.startInit k
        ends (if l.1 then l.2 else l.2.setSquad k (l.2.squad k).was))) ∧
    (q.asked = false ∨ q.st = .draining ∨ q.st = .loading → s.squadReply k = s) ∧
    (q.asked = true → q.st ≠ .draining → q.st ≠ .loading → ((s.squadReply k).squad k).asked = false) ∧
    (q.st = .loadFailed → q.settled = .running) ∧
    (q.st ≠ .draining ∨ s.squadFree k = false → exec (.drainComplete k) s = .next (s.squadReply k)) ∧
    (k < 12 → q.st = .draining → q.drainFrom + s.cfg Obj.DRAIN_LIMIT * 65536000 ≤ s.time.gun → exec (.drainLimitExpiry k) s = .next (s.stopSquad k)) ∧
    (s.time.gun < q.drainFrom + s.cfg Obj.DRAIN_LIMIT * 65536000 → exec (.drainLimitExpiry k) s = .next s) ∧
    (k < 12 → q.st = .loading → q.loadFrom + 655360000000 ≤ s.time.gun → exec (.initTimeout k) s =
      .next (((((s.modSquad k (fun q => { q with st := .loadFailed })).raise 2 none Obj.SQUAD_STATE k).swapOn k)).squadReply k)) ∧
    (q.st ≠ .loading → exec (.initTimeout k) s = .next (s.squadReply k)) ∧
    (AcceptsNum s p Obj.SQUAD_FREQ i v → let y := s.squad i
      (¬ clock → Writes (.squadFreq p i v) s .range s) ∧
      (clock → y.freqTarget ≠ none → Writes (.squadFreq p i v) s .ok (w.modSquad i (fun q => { q with freqNext := some v }))) ∧
      (clock → y.freqTarget = none → y.freqActual = v → Writes (.squadFreq p i v) s .ok w) ∧
      (clock → y.freqTarget = none → y.freqActual ≠ v → Writes (.squadFreq p i v) s .ok (w.startFreq i v s.highestFreq)) ∧
      (v < y.freqActual → w.startFreq i v s.highestFreq = w.modSquad i (fun q => { q with freqTarget := some v, freqNext := none })) ∧
      (y.freqActual < v → y.st ≠ .gated → ∃ pre, (w.startFreq i v s.highestFreq).rel.wakes =
        pre ++ [⟨s.time.gun, i, 1000, (v - y.freqActual) * 1600 * 65536 / 1000, none, s.time.gun⟩])) ∧
    (q.freqTarget = none → exec (.squadFreqChangeComplete k) s = .next s) ∧
    (∀ f, q.freqTarget = some f → s.wakePending k = true → exec (.squadFreqChangeComplete k) s = .next s) ∧
    (∀ f, q.freqTarget = some f → s.wakePending k = false → ∃ u, exec (.squadFreqChangeComplete k) s = .next u ∧ (u.squad k).freqActual = f ∧
      (q.freqNext = none ∨ q.freqNext = some f → (u.squad k).freqTarget = none) ∧ (∀ n, q.freqNext = some n → n ≠ f → (u.squad k).freqTarget = some n)) ∧
    (AcceptsNum s p Obj.SQUAD_MODE k v →
      (2 < v → Writes (.squadMode p k v) s .range s) ∧
      (q.st = .running → (v = 0 → set (drain .gate)) ∧ (v = 1 → set m) ∧ (v = 2 → set (drain .test))) ∧
      (q.st = .test → (v = 0 → set (drain .gate)) ∧ (v = 1 → set (m.setSquad k .running)) ∧ (v = 2 → set m)) ∧
      (q.st = .gated → (v = 0 → set m) ∧ (v = 1 ∨ v = 2 → set (m.wakeSquad k))) ∧
      (q.st = .waking → (v = 0 → set { m.setSquad k .gated with rel.wakes := s.rel.wakes.filter (fun y => y.key != k) }) ∧ (v = 1 ∨ v = 2 → set m)) ∧
      (q.st = .loadFailed → (v = 0 → set (drain .gate)) ∧ (v = 1 → set (m.setSquad k .running)) ∧ (v = 2 → set (drain .test))) ∧
      (q.st = .draining → q.goal = .gate ∨ q.goal = .test → (v = 0 → set (m.modSquad k (fun q => { q with goal := .gate }))) ∧ (v = 1 → set (m.setSquad k .running)) ∧
        (v = 2 → set (m.modSquad k (fun q => { q with goal := .test })))) ∧
      (q.st = .loading ∨ (q.st = .draining ∧ (q.goal = .swap ∨ q.goal = .reset)) → v ≤ 2 → set (m.modSquad k (fun q => { q with was := modeState v })))) ∧
    (∀ g, q.st = .waking → q.wakeAt = some g → exec (.squadWakeComplete k) s =
      .next (if g + 5000 * 65536 ≤ s.time.gun then s.setSquad k (if s.cfg Obj.SQUAD_MODE k = 2 then .test else .running) else s)) ∧
    (q.st ≠ .waking → exec (.squadWakeComplete k) s = .next s)

/-! ## Tables and learning (chapter 06) -/

/-- R4, R165, R166, R171 to R174, R180 to R189: accepted writes and the events of the tables. A load or batch is accepted where its nodes fit and at most three wait, flips in order, and only then answers; replaced nodes come free 64 table cycles later; the audit goes through the tables in order, skips a trie table under a load or batch and every poisoned shadow, and counts each entry that differs; static
records, flushes and ageing change entries as R180 and R181 say; a group that fits is stored; an invalid entry is restored from its shadow or stays lost. -/
def Obligations.TableResults : Prop :=
  ∀ (s : State) (p : Principal) (i v n : Nat) (b : Blob) (tbl : ShadowTable) (e : Ecc) (differs poisoned : Bool) (j : TrieJob) (rest : List (Nat × TrieJob))
    (t : Trie) (x : LearnPlace × LearnEntry),
    let cnt := beAt b 16 4
    let strides := (List.range (beAt b 0 16 / 2 ^ 120 % 16)).map (fun k => beAt b 0 16 / 2 ^ (44 - 4 * k) % 16 + 1)
    let nib := fun (x : Nat) => beAt b 0 16 / 2 ^ x % 16
    let levels := nib 120
    let wide := (beAt b 0 16).testBit 126
    let job := fun (c : Instr) (r : Option Trie) (load : Bool) (m : Nat) =>
      let built := (jobNodes load (s.trieAfter m) r).1
      let fits := ∀ g, r = some g → ∀ d, d < 12 → g.entriesIn built d ≤ s.stageFree d
      (¬ fits → Writes c s .overcommit s) ∧ (fits → 4 ≤ s.tables.jobs.length → WritesBusy c s s) ∧
      (fits → s.tables.jobs.length < 4 → ∃ w q, exec c s = .next w ∧ w.tables.jobs = s.tables.jobs ++ [(m, ⟨s.tables.jobNo, m, q, load, built⟩)] ∧
        w.tables.tries = s.tables.tries ∧ w.reply = s.reply ∧ (r = none → q = none) ∧
        ∀ g, r = some g → ∃ h : Trie, q = some h ∧ h = { g with places := h.places } ∧ ∀ y ∈ built, ∃ a, tabGet? h.places (nodeKey y) = some a)
    let members := groupCount b
    let groupOk := 8 + 4 * members = b.length ∧ members ≤ 256 ∧ ∀ m, m < members →
      let q := groupMember b m / 2 ^ 26 % 32
      q ≤ 16 ∨ q = 31
    let groupBlob := b.take 2 ++ beBytes 1 (beAt b 2 1 / 128 * 128) ++ (b.drop 3).take 1 ++ [0, 0, 0, 0] ++
      (List.range members).flatMap (fun m => beBytes 4 (groupMember b m - groupMember b m / 2 ^ 24 % 4 * 2 ^ 24))
    let k := (ShadowTable.code tbl, n)
    let a := s.tables.audit
    let follows := a.table < k.1 ∨ (a.table = k.1 ∧ a.entry ≤ n) ∨ a.table = 9
    let unit := if k.1 < 2 then 24 else if k.1 < 5 then 27 else 26
    let y := s.sramEvent unit n e
    let bad := if k ∈ s.tables.shadowBad then s.tables.shadowBad else k :: s.tables.shadowBad
    let heard := { s with tables.polarSince := s.tables.polarSince.filter (fun z => (tabGet? s.tables.bytesOut z.1).isSome) }
    let ahead := (v + 2 ^ 48 - s.time.lap % 2 ^ 48) % 2 ^ 48
    let led := 1 ≤ ahead ∧ ahead ≤ 2 ^ 47 - 1 ∧ s.time.gun + 10000 * 65536 ≤ s.lapStartIn ahead
    (AcceptsBlob s p Obj.TRIE_LOAD i b →
      (b.length < 20 ∨ b.length ≠ 20 + 24 * cnt → Writes (.trieLoad p i b) s .range s) ∧
      (b.length = 20 → cnt = 0 → beAt b 0 16 < 2 ^ 127 → job (.trieLoad p i b) none true i) ∧
      (∀ ps, b.length = 20 + 24 * cnt → (beAt b 0 16).testBit 127 = true → 1 ≤ levels → levels ≤ 12 → (∀ d, d < 12 → levels ≤ d → nib (44 - 4 * d) = 0) →
        strides.sum ≤ (if wide then 128 else 32) → prefixesOf wide b 20 cnt = some ps → (∀ q ∈ ps, q.1 = 1 ∧ q.2.plen ≤ strides.sum) →
        job (.trieLoad p i b) (some ⟨wide, beAt b 0 16 / 2 ^ 112 % 256, strides, [], ps.map Prod.snd⟩) true i) ∧
      (20 ≤ b.length → b.length = 20 + 24 * cnt → beAt b 0 16 / 2 ^ 127 % 2 = 1 → strides = [] ∨ 128 < strides.sum → Writes (.trieLoad p i b) s .range s)) ∧
    (AcceptsBlob s p Obj.TRIE_BATCH 0 b → let m := beAt b 0 1
      let c := beAt b 2 2
      (s.trieAfter m = none → Writes (.trieBatch p b) s .range s) ∧
      (s.trieAfter m = some t → 64 ≤ m ∨ c = 0 ∨ 4096 < c ∨ b.length ≠ 8 + 24 * c ∨ prefixesOf t.wide b 8 c = none → Writes (.trieBatch p b) s .range s) ∧
      (∀ q, s.trieAfter m = some t → m < 64 → c = 1 → b.length = 32 → prefixesOf t.wide b 8 1 = some [(1, q)] → q.plen ≤ t.strides.sum →
        job (.trieBatch p b) (some { t with prefixes := t.prefixes.filter (fun y => !(q.plen == y.plen && q.bits == y.bits)) ++ [q] }) false m)) ∧
    (s.tables.jobs = [] → exec .trieFlip s = .next s) ∧
    (s.tables.jobs = (n, j) :: rest → ∃ w, exec .trieFlip s = .next w ∧ w.tables.jobs = rest ∧ tabGet? w.tables.tries n = j.result ∧
      (∀ m, m ≠ n → tabGet? w.tables.tries m = tabGet? s.tables.tries m) ∧ w.cfg Obj.TRIE_FLIPS n = (s.cfg Obj.TRIE_FLIPS n + 1) % 2 ^ 32 ∧
      ((∀ h ∈ s.mgmt.held, j.no ∉ h.jobs) → w.reply = ⟨.ok, [], 0⟩)) ∧
    (∃ w, exec .nodeFree s = .next w ∧ w = { s with tables.freeing := w.tables.freeing } ∧
      ∀ y, y ∈ w.tables.freeing ↔ y ∈ s.tables.freeing ∧ s.time.gun * 9 < y.since * 9 + 64 * 5 * 65536) ∧
    (AcceptsBlob s p Obj.BANK_MAP 0 b → let ok := b.length = 128 ∧ ∀ y ∈ b, y.toNat ≤ 11
      (¬ ok → Writes (.bankMap p b) s .range s) ∧ (ok → s.tables.tries ≠ [] ∨ s.tables.jobs ≠ [] → Writes (.bankMap p b) s .state s) ∧
      (ok → s.tables.tries = [] → s.tables.jobs = [] → WritesBlob (.bankMap p b) s .ok Obj.BANK_MAP 0 (s.writeBlob Obj.BANK_MAP 0 b))) ∧
    (s.noDram = true ∨ ¬ follows ∨ (k.1 ≤ 1 ∧ s.tables.jobs ≠ []) → exec (.auditCompare tbl n e differs poisoned) s = .next s) ∧
    (s.noDram = false → follows → 2 ≤ k.1 ∨ s.tables.jobs = [] → exec (.auditCompare tbl n e differs poisoned) s =
      .next (((s.auditAt k.1 n).auditEntry k.1 n e differs poisoned).auditDone k.1 n)) ∧
    ((s.auditAt k.1 n).tables.audit.table = k.1 ∧ (s.auditAt k.1 n).tables.audit.entry = n + 1) ∧
    (e = .uncorrectable → k ∈ (s.auditEntry k.1 n e differs poisoned).tables.invalid) ∧
    (e ≠ .uncorrectable → poisoned = true ∨ k ∈ s.tables.shadowBad →
      s.auditEntry k.1 n e differs poisoned = ({ y with tables.shadowBad := bad } : State).count Obj.AUDIT_POISON_SKIPS) ∧
    (e ≠ .uncorrectable → poisoned = false → k ∉ s.tables.shadowBad → s.auditEntry k.1 n e differs poisoned = if differs then
      (({ y with tables.audit.mismatch := true } : State).count Obj.AUDIT_MISMATCHES).logError 3 1 2 none Obj.AUDIT_MISMATCHES 0 (k.1 * 2 ^ 56 + n) else y) ∧
    (k ≠ (9, 65535) → s.auditDone k.1 n = s) ∧
    (k = (9, 65535) → (s.auditDone k.1 n).starter.rebuilding = false ∧ (s.auditDone k.1 n).tables.audit =
      ⟨9, 65536, false, s.time.gun, (s.time.gun - s.tables.audit.since) / 65536000 % 2 ^ 32⟩) ∧
    (k ∉ s.tables.invalid ∨ k ∈ s.tables.shadowBad → exec (.tableEntryRestore tbl n poisoned) s = .next s) ∧
    (k ∈ s.tables.invalid → k ∉ s.tables.shadowBad → ∃ w, exec (.tableEntryRestore tbl n false) s = .next w ∧ k ∉ w.tables.invalid ∧
      (∀ y, y ≠ k → (y ∈ w.tables.invalid ↔ y ∈ s.tables.invalid)) ∧
      w.cfg Obj.TABLE_ECC_REPAIRS = min (s.cfg Obj.TABLE_ECC_REPAIRS + 1) (2 ^ 64 - 1)) ∧
    (k ∈ s.tables.invalid → k ∉ s.tables.shadowBad → ∃ w, exec (.tableEntryRestore tbl n true) s = .next w ∧ k ∈ w.tables.invalid ∧ k ∈ w.tables.shadowBad ∧
      w.cfg Obj.TABLE_ENTRIES_LOST = min (s.cfg Obj.TABLE_ENTRIES_LOST + 1) (2 ^ 64 - 1)) ∧
    (exec .ageingVisit s = .next (if s.cfg Obj.AGE_INTERVAL = 0 then s else (s.learnEntries.map (fun z => z.2.key)).foldl (fun (u : State) q =>
      match u.findLearn q with | some z => u.ageOne z | none => u) s)) ∧
    (x.2.fixed = true → s.ageOne x = s) ∧ (x.2.fixed = false → x.2.hit = true → s.ageOne x = s.putLearn x.1 { x.2 with hit := false, age := 0 }) ∧
    (x.2.fixed = false → x.2.hit = false → x.2.age < 2 → s.ageOne x = s.putLearn x.1 { x.2 with age := x.2.age + 1 }) ∧
    (x.2.fixed = false → x.2.hit = false → 2 ≤ x.2.age → s.ageOne x = ((s.dropLearn x.1).count Obj.AGED).postLearn x.2 .aged) ∧
    (AcceptsBlob s p Obj.LEARN_STATIC 0 b → let c := beAt b 0 2
      (c = 0 ∨ 1024 < c ∨ b.length ≠ 8 + 16 * c → Writes (.learnStatic p b) s .range s) ∧
      (∀ r, c = 1 → b.length = 24 → staticRecord ((b.drop 8).take 16) = some r → (s.applyStatic r).1 = true →
        WritesBlob (.learnStatic p b) s .ok Obj.LEARN_STATIC 0 (s.applyStatic r).2) ∧
      (∀ r, c = 1 → b.length = 24 → staticRecord ((b.drop 8).take 16) = some r → (s.applyStatic r).1 = false →
        ∃ w, exec (.learnStatic p b) s = .next w ∧ w.reply = ⟨.partialRes, [0], 0⟩)) ∧
    (AcceptsNum s p Obj.LEARN_FLUSH i v →
      (v ≠ 1 ∧ v ≠ 2 → Writes (.learnFlush p i v) s .range s) ∧
      (v = 1 ∨ v = 2 → s.learnEntries.all (fun y => y.2.tenant != i || (v == 1 && y.2.fixed)) = true → Writes (.learnFlush p i v) s .ok s) ∧
      (v = 1 ∨ v = 2 → ∃ w, Writes (.learnFlush p i v) s .ok w)) ∧
    (AcceptsBlob s p Obj.HASH_TEST_SEED 0 b →
      let clear := s.allIdle = true ∧ (∀ y ∈ s.learnEntries, y.2.fixed = true) ∧ s.parser.frags = [] ∧ s.parser.rules = []
      (b.length ≠ 16 → Writes (.hashTestSeed p b) s .range s) ∧ (b.length = 16 → ¬ clear → Writes (.hashTestSeed p b) s .state s) ∧
      (b.length = 16 → clear → ∃ w, Writes (.hashTestSeed p b) s .ok w ∧ w.tables.seed = beNat b ∧ w.tables.salt = 0)) ∧
    (AcceptsBlob s p Obj.GROUP i b →
      (¬ groupOk → Writes (.group p i b) s .range s) ∧ (groupOk → 65536 < s.memberWords + members → Writes (.group p i b) s .overcommit s) ∧
      (groupOk → s.memberWords + members ≤ 65536 → WritesBlob (.group p i b) s .ok Obj.GROUP i (s.writeBlob Obj.GROUP i groupBlob))) ∧
    (AcceptsNum s p Obj.RESEED_LAP 0 v →
      (2 ^ 48 ≤ v → Writes (.reseedLap p v) s .range s) ∧ (v < 2 ^ 48 - 1 → ¬ led → Writes (.reseedLap p v) s .state s) ∧
      (v = 2 ^ 48 - 1 ∨ (v < 2 ^ 48 ∧ led) → Writes (.reseedLap p v) s .ok (s.writeNum Obj.RESEED_LAP 0 v))) ∧
    (∃ w, exec .polarWindowEnd s = .next w ∧ w.tables.bytesOut = [] ∧ w = { s.tables.bytesOut.foldl (fun (u : State) y => u.judgeGroup y.1 y.2) heard with
      tables.bytesOut := [] }) ∧
    (∀ y, n < 4096 → s.tables.bytesOut = [(n, y)] → (beAt (s.blb Obj.GROUP n) 2 1).testBit 7 = true → 2 ≤ groupCount (s.blb Obj.GROUP n) →
      0 < (y.map Prod.snd).sum → s.cfg Obj.POLAR_MIN_BYTES ≤ (y.map Prod.snd).sum → ∃ w, exec .polarWindowEnd s = .next w ∧
        w.cfg Obj.IMBALANCE n = 100 * (y.map Prod.snd).foldl max 0 * groupCount (s.blb Obj.GROUP n) / (y.map Prod.snd).sum)

/-! ## Relay traffic and the Exchanger (chapter 03) -/

/-- R76, R81 to R83, R85, R88 to R92, R97, R98, R270, Tables 3.2 to 3.8: relay traffic. An accepted write of 3801h is stored and staged where the set keeps R81, no swap is scheduled and the demands fit; a shell is issued once at its shell
time; an idle unit starts the HEAD that became ready first, is busy for the cycles of its runs alone, and its oldest build ends after those and 16 more (R92), its output holding what R91 says; at a window's deadline an expected slab that has not
come is lost, in strict mode missing at once with a lap fault, in replay mode noticed. -/
def Obligations.RelayResults : Prop :=
  ∀ (s : State) (p : Principal) (i t lap lane k u port win slab : Nat) (b : Blob) (r : RelaySet) (h : Head) (vs : List Nat) (x : Shell) (start : Time)
    (ts xs : List Nat) (n a d bit v : Nat),
    let freed : State := { s with relay.staged := tabDel s.relay.staged i }
    let idle := s.cfg Obj.SWAP_LAP = 2 ^ 48 - 1
    let due := s.activeLap t lap = true ∧ start ≤ s.time.gun + s.cfg Obj.SHELL_LEAD t * 65536 ∧
      ∀ y ∈ s.relay.shells, ¬ (y.t = t ∧ y.lap = lap ∧ y.lane = lane ∧ y.k = k)
    let building := s.relay.shells.filter (fun y => y.lane == u && !y.built && y.startAt.isSome)
    let going := leastBy (fun y => y.startAt.getD 0) building
    let ready := (s.noteReady.nextHeads u).filter (fun y => y.readySince.isSome)
    let cycles := 16 + ((vs.filterMap runOf).map Run.cycles).sum
    let w := s.input t slab lap
    let lost := s.inputLost t slab lap port
    (AcceptsBlob s p Obj.RELAY_SET_PENDING i b →
      (relaySetOf b = none → Writes (.relaySetPending p i b) s .range s) ∧
      (relaySetOf b = some r → relaySetOk i r = false → Writes (.relaySetPending p i b) s .range s) ∧
      (relaySetOf b = some r → relaySetOk i r = true → ¬ idle → Writes (.relaySetPending p i b) s .state s) ∧
      (relaySetOf b = some r → relaySetOk i r = true → idle → freed.setFits i r = false → Writes (.relaySetPending p i b) s .overcommit s) ∧
      (relaySetOf b = some r → relaySetOk i r = true → idle → freed.setFits i r = true → WritesBlob (.relaySetPending p i b) s .ok Obj.RELAY_SET_PENDING i
        (({ s with relay.staged := tabSet s.relay.staged i r } : State).writeBlob Obj.RELAY_SET_PENDING i b))) ∧
    (relaySetOk i r = true → ∀ e ∈ r.slabs.map slabOf, e.tenant = i ∧ e.valid = true ∧ e.port ≤ 13 ∧ 1 ≤ e.tens ∧ e.tens ≤ 12800 ∧
      ¬ (e.pass = true ∧ e.passPort = e.port)) ∧
    (relaySetOk i r = true → ∀ y ∈ r.signals, y / 2 ^ 56 % 256 = i ∧ y.testBit 55 = true ∧ y / 2 ^ 15 % 2 ^ 17 ≤ 127999 ∧ 1 ≤ y % 2 ^ 15 ∧
      (y.testBit 54 = true → y / 2 ^ 15 % 2 = 0) ∧ ∃ e, r.slab? (y / 2 ^ 32 % 65536) = some e ∧ e.four = y.testBit 54) ∧
    (s.startOfLap lap = none → exec (.shellIssue t lap lane k) s = .next s) ∧
    (s.startOfLap lap = some start → ((s.relaySetFor t lap).heads lane)[k]? = some (h, vs) →
      (due → exec (.shellIssue t lap lane k) s = .next (s.issueShell t lap lane k h)) ∧ (¬ due → exec (.shellIssue t lap lane k) s = .next s)) ∧
    (∀ c z, s.allocCells 0 (cellsFor (36 + tensBytes h.tens)) = some (c, z) → ∃ y f, y ∈ (s.issueShell t lap lane k h).relay.shells ∧ y.t = t ∧ y.lap = lap ∧
      y.lane = lane ∧ y.k = k ∧ y.baton = c ∧ y.built = false ∧ (s.issueShell t lap lane k h).frame? y.fid = some f ∧ f.src = 1 ∧ f.port = h.port ∧
      f.relayLap = some lap ∧ f.phys = 32 + tensBytes h.tens) ∧
    (s.unitBusy u = true ↔ ∃ e ∈ s.relay.busy, e.1 = u ∧ s.time.gun < e.2.1 + e.2.2 * 655360 / 18) ∧
    (s.unitBusy u = true → exec (.buildStart u) s = .next s) ∧
    (s.unitBusy u = false → ready = [] → exec (.buildStart u) s = .next s.noteReady) ∧
    (s.unitBusy u = false → ready ≠ [] → ∃ y w, y ∈ ready ∧ (∀ z ∈ ready, y.readySince.getD 0 * 256 + y.t ≤ z.readySince.getD 0 * 256 + z.t) ∧
      exec (.buildStart u) s = .next w ∧ { y with startAt := some s.time.gun } ∈ w.relay.shells ∧
      (u, s.time.gun, s.buildCycles y) ∈ w.relay.busy) ∧
    (s.shellHead x = some (h, vs) → s.buildCycles x = 1 + ((vs.filterMap runOf).map Run.cycles).sum) ∧
    (going = some x → x ∈ building ∧ ∀ y ∈ building, x.startAt.getD 0 ≤ y.startAt.getD 0) ∧
    (building = [] → exec (.buildComplete u) s = .next s) ∧
    (going = some x → s.shellHead x = none → exec (.buildComplete u) s = .next (s.abandonShell x.fid)) ∧
    (going = some x → s.shellHead x = some (h, vs) →
      exec (.buildComplete u) s = .next (if (s.time.gun - x.startAt.getD 0) * 18 / 655360 < cycles then s else (s.build x h vs).abandonShell x.fid)) ∧
    ((∀ y ∈ ts, y < 1024) → tensOf (packTens ts) ts.length = ts) ∧
    (d + n ≤ 10 * ts.length → valueBit (applyRun ts (some xs) (.bits n i a d)) bit =
      if d ≤ bit ∧ bit < d + n then valueBit xs (a + (bit - d)) else valueBit ts bit) ∧
    (d + n ≤ ts.length → a + n ≤ xs.length → (applyRun ts (some xs) (.block n i a d))[bit]? =
      if d ≤ bit ∧ bit < d + n then xs[a + (bit - d)]? else ts[bit]?) ∧
    (d + n ≤ ts.length → (applyRun ts none (.fill n v d))[bit]? = if d ≤ bit ∧ bit < d + n then some v else ts[bit]?) ∧
    (applyRun ts none (.block n i a d) = ts ∧ applyRun ts none (.bits n i a d) = ts) ∧
    ((s.windowsIn port lap)[win]? = none → exec (.exchangeDeadline port win lap) s = .next s) ∧
    (∀ y, (s.windowsIn port lap)[win]? = some y → (s.time.gun : Int) < (s.windowTimes port lap y).2.2 →
      exec (.exchangeDeadline port win lap) s = .next s) ∧
    (∀ y, (s.windowsIn port lap)[win]? = some y → (s.windowTimes port lap y).2.2 ≤ (s.time.gun : Int) →
      lap = s.time.lap ∨ lap = (s.time.lap + 1) % 2 ^ 48 ∨ lap = (s.time.lap + 2 ^ 48 - 1) % 2 ^ 48 → s.relay.sets.map Prod.fst = [t] →
      s.relay.staged = [] → s.relay.former = [] → s.activeLap t lap = true →
      exec (.exchangeDeadline port win lap) s =
        .next (((s.relaySetFor t lap).expected port win).foldl (fun (z : State) q => z.inputLost t q lap port) s).noteReady) ∧
    (w.st ≠ .absent → w.st ≠ .arriving → lost = s) ∧
    (w.st = .absent → w.baton = 0 → s.replay t = false → lost = State.inputMissing (s.setInput t slab lap { w with st := .lost, fid := 0, baton := 0, wasLost := true }) t slab lap port) ∧
    (w.st = .absent → w.baton = 0 → s.replay t = true → lap = s.time.lap →
      lost = State.notice (s.setInput t slab lap { w with st := .lost, fid := 0, baton := 0, wasLost := true }) t slab lap port)

/-! ## Tenants, waves and locks (chapter 10) -/

/-- R292, R307 to R311, R324, R325, R431, R443, Tables 10.4 and 10.7: global operations. The Anchor alone takes a request, in form, for a future lap with the lead of 6102h and at most three waiting of its tenant: it schedules the operation and
sends it down the tree; at its lap an operation that Table 10.4 allows moves the tenant to its new state, one that it does not allow is skipped, counted and entered in the fault log, and a halt advances the halt number either way and enters its cause there; 6002h
empties the log. -/
def Obligations.GlobalOpResults : Prop :=
  ∀ (s : State) (p : Principal) (t flags lap v : Nat) (op : Op) (x : Sched) (n port h m : Nat),
    let cmd : Instr := match op with
      | .start => .globalOpStart p t flags lap
      | .hold => .globalOpHold p t flags lap
      | .freeze => .globalOpFreeze p t flags lap
      | .snapshot => .globalOpSnapshot p t flags lap
      | .reset => .globalOpReset p t flags lap
      | .fault => .globalOpFault p t flags lap
    let lead := s.time.gun + s.cfg Obj.OP_LEAD * 65536
    let l := if lap = 0 then (s.time.lap + s.lapsUntil lead) % 2 ^ 48 else lap
    let ahead := (l + 2 ^ 48 - s.time.lap % 2 ^ 48) % 2 ^ 48
    let mine := s.ten.sched.filter (fun y => y.t == t)
    let photo := op = .snapshot ∧ ((s.tenant t).photo.isSome = true ∨ ∃ y ∈ mine, y.op = .snapshot)
    let barred := op = .start ∧ (s.noDram = true ∨ s.rel.boot.halted = true)
    let formed := 1 ≤ t ∧ t ≤ 255 ∧ flags ≤ (if op = .start ∨ op = .reset then 1 else 0) ∧ lap < 2 ^ 48 - 1
    let timely := 1 ≤ ahead ∧ ahead ≤ 2 ^ 47 - 1 ∧ lead ≤ s.lapStartIn ahead
    let able := s.time.role = .anchor ∧ ¬ barred ∧ ¬ photo ∧ timely
    let st := (s.tenant x.t).st
    let answers := fun (r : Result) (u : State) => exec cmd s = .next (State.starterFlush { u with reply := ⟨r, [], 0⟩ })
    (AcceptsBlob s p Obj.GLOBAL_OP 0 (opRequest op t flags lap) → t ≤ 255 → flags ≤ 255 → lap < 2 ^ 48 →
      (¬ formed → answers .range s) ∧ (formed → ¬ able → answers .state s) ∧ (formed → able → 4 ≤ mine.length → answers .overcommit s) ∧
      (formed → able → mine.length < 4 → answers .ok
        (((s.schedule ⟨op, t, flags, l, none⟩).waveFabric t 2 0 (l * 65536 + op.code * 256 + flags)).bumpGen Obj.GLOBAL_OP 0) ∧
        (⟨op, t, flags, l, none⟩ : Sched) ∈ (s.schedule ⟨op, t, flags, l, none⟩).ten.sched)) ∧
    (opAllowed .start st = true ↔ st = .idle ∨ st = .held) ∧ (opAllowed .hold st = true ↔ st = .running) ∧
    (opAllowed .freeze st = true ↔ st = .running ∨ st = .held) ∧ (opAllowed .snapshot st = true ↔ st = .running ∨ st = .held) ∧
    (opAllowed .fault st = true ↔ st = .running ∨ st = .held) ∧ (opAllowed .reset st = true ↔ st ≠ .resetting) ∧
    (x.halt = none → s.mayAct x = false → s.runOp n x = ((s.count Obj.SKIPPED_OPS).faultEntry x.t 5 0 0 n).raise 1 (some x.t) Obj.SKIPPED_OPS) ∧
    (x.halt = none → s.mayAct x = true → ((s.runOp n x).tenant x.t).st = if x.op = .snapshot then st else opResult x.op st) ∧
    (x.halt = some (h, m) → s.runOp n x = ((s.runOp n { x with halt := none }).modTenant x.t (fun y =>
      { y with haltNo := (y.haltNo + 1) % 65536, haltSent := false, haltSeen := none })).faultEntry x.t 4 0 h m) ∧
    (x.op = .start → x.flags % 2 = 0 → (s.mayAct x = true ↔ st = .idle ∨ st = .held)) ∧
    (let due := s.ten.sched.filter (fun y => y.lap == n)
     s.runOps n = due.foldl (fun (u : State) y => u.runOp n y) { s with ten.sched := s.ten.sched.filter (fun y => y.lap != n && lapFuture s y.lap) }) ∧
    (AcceptsNum s p Obj.FAULT_LOG_CLEAR port v →
      Writes (.faultLogClear p port v) s .ok (if v = 1 then s.modTenant port (fun y => { y with faultLog := [] }) else s))

/-- R312 to R319, R322, R323: the combining wave. A flit that fails its check counts in 200Fh, one of a wrong tenant or operation in 6115h; JOIN and LEAVE keep the children; SCHEDULE from the parent is entered and forwarded or raises a late halt; barrier, halt,
broadcast and snapshot reports go up once all below have come, and their results come down; the objects 6110h, 6112h, 6114h and 6007h feed them. -/
def Obligations.WaveResults : Prop :=
  ∀ (s v : State) (p : Principal) (port t o wave dir value i x : Nat) (flit : Blob) (op : Op) (ph : Photo),
    let any := [Instr.waveJoin port flit, .waveLeave port flit, .waveSchedule port flit, .waveBarrier port flit, .waveHalt port flit,
      .waveBroadcast port flit, .wavePhotoDone port flit]
    let comes := fun (o : Nat) => FlitIn s port 7 flit v ∧ waveOf flit = ⟨t, o, wave, dir, value⟩
    let acts := fun (c : Instr) (u : State) => exec c s = .next u.starterFlush
    let parent := v.time.parent = some port ∧ v.time.role ≠ .anchor
    let below := port ∈ v.fabricChildren ∨ port ∈ v.endpoints t
    let lap := value % 2 ^ 48
    let cause := value / 2 ^ 56 % 2 ^ 8
    let at_ := value / 2 ^ 16 % 2 ^ 48
    let ahead := (at_ + 2 ^ 48 - v.time.lap % 2 ^ 48) % 2 ^ 48
    let timely := 1 ≤ ahead ∧ ahead ≤ 2 ^ 47 - 1 ∧ v.time.gun + 200 * 65536 ≤ v.lapStartIn ahead
    let down := v.broadcastDown t wave value
    let short := value.testBit 63
    let raised := if isFabric port then v else v.faultEntry t 4 port 0 lap
    let seen := match (v.tenant t).haltSeen with
      | some (c, l) => if c = cause then l else lap
      | none => lap
    (isPsiot port = true → (s.port port).passes = true → flitOk flit = false → ∀ c ∈ any,
      exec c s = .next ((s.endFrame port 0 .cut).count Obj.CONTROL_ERRORS port)) ∧
    (isPsiot port = false ∨ (s.port port).passes = false → ∀ c ∈ any, exec c s = .next s) ∧
    (comes o → 6 < o → ∀ c ∈ any, exec c s = .next (v.count Obj.WAVE_ERRORS)) ∧
    (comes o → o ≤ 6 → ∀ k c, any[k]? = some c → k ≠ o → exec c s = .next v) ∧
    (comes o → (o ≤ 1 ∧ t ≠ 0 ∨ 2 ≤ o ∧ t = 0) ∨ (o = 2 ∧ opOf? (value / 2 ^ 8 % 2 ^ 8) = none) →
      ∀ c, any[o]? = some c → exec c s = .next (v.count Obj.WAVE_ERRORS)) ∧
    (comes o → t ≠ 0 → 2 ≤ o → (o = 2 → opOf? (value / 2 ^ 8 % 2 ^ 8) ≠ none) → (dir = 1 ∧ ¬ parent) ∨ (dir = 0 ∧ (¬ below ∨ o = 2)) →
      ∀ c, any[o]? = some c → acts c v) ∧
    (comes 0 → t = 0 → dir = 0 → isFabric port = true → ∃ u, acts (.waveJoin port flit) u ∧
      u.ten.children = if port ∈ v.ten.children then v.ten.children else v.ten.children ++ [port]) ∧
    (comes 1 → t = 0 → dir = 0 → isFabric port = true → acts (.waveLeave port flit) (v.dropChild port)) ∧
    (comes 2 → t ≠ 0 → opOf? (value / 2 ^ 8 % 2 ^ 8) = some op → dir = 1 → parent →
      (timely → acts (.waveSchedule port flit) ((v.schedule ⟨op, t, value % 2 ^ 8, at_, none⟩).waveFabric t 2 0 value)) ∧
      (¬ timely → acts (.waveSchedule port flit) (((v.count Obj.LATE_OPS).faultEntry t 3 0 0 at_).halt t 3 at_))) ∧
    (comes 3 → t ≠ 0 → dir = 0 → below → acts (.waveBarrier port flit) (v.arrive t wave port short)) ∧
    (comes 3 → t ≠ 0 → dir = 1 → parent → acts (.waveBarrier port flit) ((v.waveFabric t 3 wave value).modTenant t (fun y =>
      { y with release := some (wave, lap), barrierInc := if short then wave :: y.barrierInc else y.barrierInc }))) ∧
    (comes 4 → t ≠ 0 → dir = 0 → below → acts (.waveHalt port flit) (if wave = (raised.tenant t).haltNo then
      raised.halt t (if isFabric port then cause else 4) lap else raised.count Obj.HALTS_MERGED)) ∧
    (comes 4 → t ≠ 0 → dir = 1 → parent → acts (.waveHalt port flit)
      (State.schedule (((v.waveDown t 4 wave value).ringHalt t lap).modTenant t (fun y => { y with haltSent := true }))
        ⟨if cause ≤ 3 then .fault else .hold, t, 0, lap, some (cause, seen)⟩)) ∧
    (comes 5 → t ≠ 0 → dir = 0 → below → acts (.waveBroadcast port flit)
      (if v.time.role = .anchor then v.broadcastDown t (v.tenant t).bcastNo value else v.waveUp t 5 wave value)) ∧
    (comes 5 → t ≠ 0 → dir = 1 → parent → acts (.waveBroadcast port flit) down) ∧
    (down.cfg Obj.BROADCAST_VALUE t = value ∧ (down.tenant t).bcastNo = (wave + 1) % 65536) ∧
    (comes 6 → t ≠ 0 → (v.tenant t).photo = none → dir = 1 → parent → acts (.wavePhotoDone port flit) (v.waveDown t 6 wave value)) ∧
    (comes 6 → t ≠ 0 → (v.tenant t).photo = some ph → dir = 1 → parent → ph.lap % 65536 = wave →
      acts (.wavePhotoDone port flit) ((v.waveDown t 6 wave value).photoEnd t ph short)) ∧
    (comes 6 → t ≠ 0 → (v.tenant t).photo = some ph → dir = 0 → below → ph.lap % 65536 = wave → ∃ q : Photo,
      acts (.wavePhotoDone port flit) ((v.modTenant t (fun y => { y with photo := some q })).photoStep t) ∧
      q.incomplete = (ph.incomplete || short) ∧ (isFabric port = true → port ∈ q.children) ∧ (isFabric port = false → port ∈ q.endpoints)) ∧
    ((s.photoEnd t ph false).cfg Obj.PHOTO_STATUS t = 2 ∧ (s.photoEnd t ph false).cfg Obj.LAST_PHOTO t = ph.lap ∧
      (s.photoEnd t ph true).cfg Obj.PHOTO_STATUS t = 3 ∧ ((s.photoEnd t ph true).tenant t).photo = none) ∧
    ((s.tenant t).photo = none → exec (.photoCaptureComplete t) s = .next s) ∧
    ((s.tenant t).photo = some ph → ph.joined = true ∨ s.photoReady t ph = false → exec (.photoCaptureComplete t) s = .next s) ∧
    ((s.tenant t).photo = some ph → ph.joined = false → s.photoReady t ph = true →
      let c := (State.photoRelease (ph.frames.foldl (fun (y : State) e => y.captureFrame t e.2 e.1) (s.photoNote t)) ph).photoClose t ph
      exec (.photoCaptureComplete t) s =
        .next ((c.modTenant t (fun y => { y with photo := y.photo.map (fun q => { q with joined := true, frames := [] }) })).photoStep t)) ∧
    (AcceptsNum s p Obj.BARRIER_ARRIVE i x → Writes (.barrierArrive p i x) s .ok
      (if (s.cfg Obj.TENANT_MEMBERS i).testBit 8 then s.arrive i (x % 65536) 99 false else s)) ∧
    (AcceptsNum s p Obj.BROADCAST_SEND i x →
      ((s.tenant i).bcastOut = true → WritesBusy (.broadcastSend p i x) s s) ∧
      ((s.tenant i).bcastOut = false → s.time.role = .anchor → Writes (.broadcastSend p i x) s .ok (s.broadcastDown i (s.tenant i).bcastNo x)) ∧
      ((s.tenant i).bcastOut = false → s.time.role ≠ .anchor → Writes (.broadcastSend p i x) s .ok
        ((s.modTenant i (fun y => { y with bcastOut := true, bcastQ := [x] })).waveUp i 5 (s.tenant i).bcastNo x))) ∧
    (AcceptsNum s p Obj.HALT_REQUEST i x → acts (.haltRequest p i x)
      { (if x = 1 then (s.faultEntry i 5 0 0 s.time.lap).halt i 5 s.time.lap else s) with reply := ⟨.ok, [], 0⟩ }) ∧
    (AcceptsNum s p Obj.PHOTO_RESTORE i x → let ready := (s.tenant i).st = .idle ∨ (s.tenant i).st = .held
      let find := [0, 1].find? (fun k => (s.slot i k).lap == x && (s.slot i k).status == 2)
      (2 ^ 48 ≤ x → Writes (.photoRestore p i x) s .range s) ∧ (x < 2 ^ 48 → ¬ ready ∨ find = none → Writes (.photoRestore p i x) s .state s) ∧
      (∀ k, x < 2 ^ 48 → ready → find = some k → let used := (s.slot i k).used
        let w := s.takeTokens (.snapshot i) used
        let r := w.readSlot (w.slotBase i k) used (used / 32 + 1) 0 [] []
        (r = none → Writes (.photoRestore p i x) s .state (w.count Obj.RESTORE_FAILS i)) ∧
        (∀ c, r = some c → (w.dropRestore i).loadItems i c [] = none → Writes (.photoRestore p i x) s .overcommit w) ∧
        (∀ c y u, r = some c → (w.dropRestore i).loadItems i c [] = some (y, u) →
          Writes (.photoRestore p i x) s .ok (u.modTenant i (fun z => { z with restore := some ⟨x, y, false⟩ })))))

/-- R301 to R306, Tables 10.5 and 10.6: locks and atomic words. A lock has one holder: an attempt takes it only where it is free and the master may, and a second master's attempt or unlock leaves it as it is; a release by the holder frees it; the host's
registers and 6200h act so, 6201h waits for it to be free, and 6210h keeps blocks apart. -/
def Obligations.LockResults : Prop :=
  ∀ (s : State) (p : Principal) (fn l m h i v : Nat) (may : Bool),
    let x := s.lock l
    let after := (s.attempt m l may).2.2
    let mine := masterOf p
    let off := s.count Obj.LOCK_VIOLATIONS
    let host := 2 ^ 14 + fn
    let read := s.attempt host l (s.mayLock host l)
    let base := v / 2 ^ 16 % 2 ^ 16
    let size := v % 2 ^ 16
    let apart := ∀ k, 1 ≤ k → k ≤ 255 → k ≠ i → blocksMeet (base, size) (s.atomBlock k) = false
    (x.holder = some h → (after.lock l).holder = some h ∧ ((s.attempt m l may).1 = true ↔ m = h ∧ may = true)) ∧
    (x.holder = none → ((s.attempt m l may).1 = may ∧ (after.lock l).holder = if may then some m else none)) ∧
    (∀ k, k ≠ l → after.lock k = s.lock k) ∧
    (x.holder = some h → m ≠ h → s.unlockBy m l = (false, off)) ∧
    (x.holder = some m → ((s.unlockBy m l).2.lock l).holder = none ∧ ((s.unlockBy m l).2.lock l).releases = (x.releases + 1) % 2 ^ 32 ∧
      (s.unlockBy m l).1 = true) ∧
    (exec (.lockRegisterRead fn l) s = .next (read.2.2.emit (.lockWord (if s.mayLock host l then
      read.2.2.lockWord host l ||| (if read.2.1 then 2 ^ 62 else 0) else 0)))) ∧
    (exec (.lockRegisterWrite fn l) s = .next (s.unlockBy host l).2) ∧
    (AcceptsNum s p Obj.LOCK l 1 → Writes (.lockAttempt p l) s .ok (s.attempt mine l (s.mayLock mine l)).2.2) ∧
    (AcceptsNum s p Obj.LOCK l 0 → Writes (.lockUnlock p l) s .ok (s.unlockBy mine l).2) ∧
    (AcceptsNum s p Obj.LOCK_CONFIG l v →
      (x.holder ≠ none → Writes (.lockConfig p l v) s .state s) ∧
      (x.holder = none → Writes (.lockConfig p l v) s .ok (s.writeNum Obj.LOCK_CONFIG l (v &&& 0xFF01)))) ∧
    (AcceptsNum s p Obj.ATOMIC_BLOCK i v →
      let ok := size ≤ 32768 ∧ base + size ≤ 65536 ∧ apart
      (¬ ok → Writes (.atomicBlock p i v) s .range s) ∧ (ok → (s.tenant i).st ≠ .idle → Writes (.atomicBlock p i v) s .state s) ∧
      (ok → (s.tenant i).st = .idle → Writes (.atomicBlock p i v) s .ok (s.writeNum Obj.ATOMIC_BLOCK i v)))

/-- R296 to R300, R304, R394, R395, R432: resets of functions and tenants. An FLR stops the function's rings and drops their frames, frees its locks, idles its mailbox and leaves its MSI-X vectors
masked (PRESUMED, log 123); a reset of port P is one of every function, and a fundamental one takes 2111h;
a tenant reset ends IDLE with its queues empty, its fragments gone and, with CLEAR, its tables empty. -/
def Obligations.FunctionResets : Prop :=
  ∀ (s : State) (fn t : Nat) (fundamental : Bool),
    (256 < fn → exec (.pcieFlr fn) s = .next s) ∧
    (fn ≤ 256 → exec (.pcieFlr fn) s = .next (s.flr fn) ∧
      (∀ m, tabGet? s.mgmt.mailboxes fn = some m → ∃ n, tabGet? (s.flr fn).mgmt.mailboxes fn = some n ∧ n.st = 0) ∧
      (∀ e ∈ (s.flr fn).pcie.vectors, e.1 / 512 ≠ fn) ∧ (∀ n ∈ (s.flr fn).pcie.pendingBits, n / 512 ≠ fn) ∧
      ∀ l, l < 64 → (s.lock l).holder = some (2 ^ 14 + fn) → ((s.flr fn).lock l).holder = none ∧ ((s.flr fn).lock l).abandoned = true) ∧
    (let r := (List.range 257).foldl State.flr s
     exec (.pcieReset fundamental) s = .next (if fundamental then { r with rel.boot.bar2 := r.cfg Obj.PCIE_BAR2_SIZE } else r)) ∧
    ((s.tenant t).st ≠ .resetting → exec (.tenantResetComplete t) s = .next s) ∧
    ((s.tenant t).st = .resetting → ∃ u, exec (.tenantResetComplete t) s = .next u ∧ (u.tenant t).st = .idle ∧
      (∀ e ∈ u.parser.frags, e.2.tenant ≠ t) ∧
      ((s.tenant t).resetClear = true → tabGet? u.relay.sets t = none ∧ tabGet? u.relay.staged t = none ∧
        (∀ e ∈ u.tables.learn, e.2.tenant ≠ t) ∧ (∀ e ∈ u.tables.tries, e.2.owner ≠ t) ∧ (∀ e ∈ u.parser.rules, e.2.tenant ≠ t)))

/-! ## Trace, snapshots and DRAM (chapter 11) -/

/-- R329, R339, R342 to R349, Table 11.5: trace and snapshots. Accepted writes of 7000h, 7004h, 7005h, 7020h and 7011h are refused or set up their ring, area or upload; an input is extracted once and its comparators look; a record that does not fit or waits 10 µs is
lost; the mirror follows the records; a trigger sets its lap and cause; uploads leave as frames. -/
def Obligations.TraceResults : Prop :=
  ∀ (s : State) (p : Principal) (t i v lap slab n src k off : Nat) (b : Blob) (r : Blob) (since : Time) (ws : List (Nat × Blob × Time)),
    let ring := s.ring t
    let size := beAt b 8 8
    let base := beAt b 0 8
    let mode := beAt b 24 1
    let spanOk := base % 16384 = 0 ∧ size % 16384 = 0 ∧ 32768 ≤ size ∧ size ≤ 2 ^ 36 ∧ s.areaOk Obj.TRACE_RING i base size = true
    let ringOk := b.length = 48 ∧ mode ≤ 3 ∧ beAt b 16 8 % 64 = 0 ∧ (mode = 0 ∨ beAt b 26 2 ≠ 0) ∧ ((mode = 0 ∧ size = 0) ∨ spanOk)
    let areaOk := b.length = 24 ∧ (size = 0 ∨ (base % 16384 = 0 ∧ size % 32768 = 0 ∧ s.areaOk Obj.SNAP_AREA i base size = true))
    let bw := s.bwFits (beAt (s.blb Obj.TRACE_RING i) 36 4) (beAt b 36 4) = true
    let snapBw := s.bwFits (beAt (s.blb Obj.SNAP_AREA i) 16 4) (beAt b 16 4) = true
    let set := tabGet s.relay.sets i .empty
    let room := s.ringPre i + s.ringPost i + 2 ≤ s.lapsHeld i ∧ ∀ q, q < set.slabs.length → (partsOf (set.traced q) [] 0).length ≤ 4
    let rs := s.relaySetFor t lap
    let inp := s.input t slab lap
    let traced := (rs.traced slab) ≠ [] ∧ s.tracedLap t lap = true ∧ inp.traced = false ∧ (inp.st = .complete ∨ inp.st = .missing) ∧
      s.ringTakesLap t lap = true
    let find := (List.range 2).find? (fun q => (s.slot i q).lap == v && (s.slot i q).status ≥ 2)
    let sends := fun (kind lo span from_ last : Nat) (after : Nat → State → State) =>
      let start := s.uploadStart lo span last from_
      let u := s.uploadScan lo span last t 1024 start 0 15984 []
      let w := s.takeTokens .upload u.2.2.length
      let frame := w.uploadFrame t kind start (firstSeq u.2.2) u.2.2
      (u.2.2 = [] → exec (.uploadSubmit t) s = .next (after u.1 w)) ∧
      (u.2.2 ≠ [] → w.submitStarter frame 6 16 0 = none → exec (.uploadSubmit t) s = .next w) ∧
      (∀ f y, u.2.2 ≠ [] → w.submitStarter frame 6 16 0 = some (f, y) →
        exec (.uploadSubmit t) s = .next (after u.1 ((y.count Obj.UPLOAD_FRAMES).countN Obj.BAD_RECORDS 0 u.2.1)))
    (AcceptsBlob s p Obj.TRACE_RING i b →
      (¬ ringOk → Writes (.traceRing p i b) s .range s) ∧ (ringOk → ¬ bw → Writes (.traceRing p i b) s .overcommit s) ∧
      (ringOk → bw → WritesBlob (.traceRing p i b) s .ok Obj.TRACE_RING i
        ((s.writeBlob Obj.TRACE_RING i (overwrite (overwrite b 25 [0]) 40 (List.replicate 8 0))).modRing i (fun _ => { Ring.reset with st := if mode = 0 then .off else .running })))) ∧
    (AcceptsNum s p Obj.TRACE_ARM i v →
      (1 < v → Writes (.traceArm p i v) s .range s) ∧ (v = 0 → Writes (.traceArm p i v) s .ok s) ∧ (v = 1 → ¬ room → Writes (.traceArm p i v) s .range s) ∧
      (v = 1 → room → s.ringMode i ≠ 2 → Writes (.traceArm p i v) s .state s) ∧
      (v = 1 → room → s.ringMode i = 2 → Writes (.traceArm p i v) s .ok (s.modRing i (fun _ => { Ring.reset with st := .armed })))) ∧
    (AcceptsNum s p Obj.TRACE_TRIGGER i v →
      (1 < v → Writes (.traceTrigger p i v) s .range s) ∧ (v = 0 → Writes (.traceTrigger p i v) s .ok s) ∧
      (v = 1 → Writes (.traceTrigger p i v) s .ok (s.fire i s.time.lap 5))) ∧
    (s.ringMode t = 2 → ring.st = .armed →
      s.fire t n src = s.modRing t (fun y =>
        { y with st := .triggered, trigLap := n, cause := 2 ^ src, stopAt := s.tracedCount t (s.activeCount t n) + s.ringPost t, trigDue := true })) ∧
    (s.ringMode t ≠ 2 → s.fire t n src = s) ∧
    (AcceptsBlob s p Obj.SNAP_AREA i b →
      (¬ areaOk → Writes (.snapArea p i b) s .range s) ∧ (areaOk → (s.tenant i).photo.isSome = true → Writes (.snapArea p i b) s .state s) ∧
      (areaOk → (s.tenant i).photo = none → ¬ snapBw → Writes (.snapArea p i b) s .overcommit s) ∧
      (areaOk → (s.tenant i).photo = none → snapBw → WritesBlob (.snapArea p i b) s .ok Obj.SNAP_AREA i
        (({ s with trc.slots := tabDel s.trc.slots i } : State).writeBlob Obj.SNAP_AREA i b))) ∧
    (AcceptsNum s p Obj.SNAP_UPLOAD i v →
      (2 ^ 48 ≤ v → Writes (.snapUpload p i v) s .range s) ∧ (v < 2 ^ 48 → find = none → Writes (.snapUpload p i v) s .state s) ∧
      (∀ q, v < 2 ^ 48 → find = some q → Writes (.snapUpload p i v) s .ok { s with trc.uploads := tabSet s.trc.uploads i (q, 0) })) ∧
    (rs.slab? slab = none ∨ ¬ traced → exec (.traceExtract t lap slab) s = .next s) ∧
    (∀ e, rs.slab? slab = some e → traced → let there := inp.st = .complete
      let ts := if there then s.inputTens t slab lap else List.replicate e.tens (substitute e.four)
      let w := (signalRecords t lap inp.age slab (decide (¬ there) || inp.miss) ts (rs.traced slab)).foldl (fun (y : State) q => y.ringWrite t lap q)
        (s.setInput t slab lap { inp with traced := true })
      exec (.traceExtract t lap slab) s = .next ((List.range 4).foldl (fun (y : State) q => y.compare t lap q ts (rs.traced slab)) w)) ∧
    (ring.waiting = [] → exec (.traceWriteTimeout t) s = .next s) ∧
    (ring.waiting = (lap, r, since) :: ws → exec (.traceWriteTimeout t) s = .next (if since + 10000 * 65536 ≤ s.time.gun then
      (s.modRing t (fun y => { y with waiting := ws })).recordLost t lap 2 else s)) ∧
    ((s.recordLost t lap 2).cfg Obj.TRACE_LOST t = min (s.cfg Obj.TRACE_LOST t + 1) (2 ^ 64 - 1) ∧ ((s.recordLost t lap 2).ring t).lost = ring.lost + 1) ∧
    (let u := s.serveWaiting t 5
     exec (.mirrorWrite t) s = .next (if (u.ring t).mirrored = 0 ∨ (u.ring t).mirrored + 1000 * 65536 ≤ u.time.gun then u.putMirror t else u)) ∧
    (s.ringMirror t ≠ 0 → s.reaches (.trace t) (s.ringMirror t) 16 = true →
      (s.putMirror t).dramGet (s.ringMirror t) 16 = beBytes 8 ring.write ++ beBytes 4 ring.wraps ++ beBytes 4 ring.seq) ∧
    (tabGet? s.trc.uploads t = none → (beAt (s.blb Obj.UPLOAD t) 8 1).testBit 0 = false ∨ s.ringMode t ≠ 3 ∨ s.ringSize t = 0 →
      exec (.uploadSubmit t) s = .next s) ∧
    (tabGet? s.trc.uploads t = some (k, off) → let x := s.slot t k
      sends 1 (s.slotBase t k) (s.slotSize t + 1) off x.used (fun n y =>
        ({ y with trc.uploads := if n = x.used then tabDel y.trc.uploads t else tabSet y.trc.uploads t (k, n) } : State))) ∧
    (tabGet? s.trc.uploads t = none → (beAt (s.blb Obj.UPLOAD t) 8 1).testBit 0 = true → s.ringMode t = 3 → s.ringSize t ≠ 0 →
      sends 0 (s.ringBase t) (s.ringSize t) (s.cfg Obj.TRACE_READ t) ring.write (fun n y => y.setCfg Obj.TRACE_READ t n))

/-- R327, R328, R330 to R337, R340, R341: DRAM. Only the Starter and the scrubber reach the first GiB, and an access outside the interleave set does nothing; a write is read back, and changes no byte outside it but the rest of a poisoned sector; ECC counts, logs and poisons; a span that is poisoned
answers so; refresh, temperature, scrub, sweep and the reservations do what their rules say; BAR2 reaches DRAM above the first GiB only. -/
def Obligations.DramResults : Prop :=
  ∀ (s : State) (r : DramLevel) (a len ch secs i v off x : Nat) (b d : Blob) (e : Ecc) (mC : Int) (p : Principal),
    let c := s.channel ch
    let hot := if 85000 < mC then true else if mC < 83000 then false else c.doubled
    let grain := 2 ^ s.dramCfg 2 1
    let serve := fun (level : Nat) (y : State) => (y.trc.rings.map Prod.fst).foldl (fun (z : State) k => z.serveWaiting k level) y
    let m := s.modChannel ch (fun y => { y with temp := mC, doubled := hot })
    (s.reaches r a len = true ↔ 0 < len ∧ a + len ≤ s.dramSize ∧ (2 ^ 30 ≤ a ∨ r = .starter ∨ r = .scrub)) ∧
    (s.reaches r a len = false → exec (.dramRead r a len e) s = .next s) ∧
    (s.reaches r a len = true → let u := ((s.takeTokens r len).openRows a len).sectorRead a e
      exec (.dramRead r a len e) s = .next (u.emit (.dramData (u.dramGet a len) (e == .uncorrectable || u.spanPoisoned a len)))) ∧
    (s.reaches r a b.length = false → exec (.dramWrite r a b) s = .next s) ∧
    (s.reaches r a b.length = true → ∃ t, exec (.dramWrite r a b) s = .next t ∧ t.dramGet a b.length = b ∧
      (s.poisoned x = false → x < a ∨ a + b.length ≤ x → t.dramGet x 1 = s.dramGet x 1) ∧
      (a / grain = (a + b.length - 1) / grain → ∃ q, (t.channel (s.dramMap a).1).writeQ = q ++ [(a, b.length)] ∧ q.length ≤ (s.channel (s.dramMap a).1).writeQ.length)) ∧
    (e = .clean → s.sectorRead a e = s) ∧
    (e = .corrected → (s.dramMap a).1 < 4 → (s.sectorRead a e).cfg Obj.ECC_CORRECTED (s.dramMap a).1 = min (s.cfg Obj.ECC_CORRECTED (s.dramMap a).1 + 1) (2 ^ 64 - 1) ∧
      (s.sectorRead a e).dram = s.dram) ∧
    ((s.sectorRead a .uncorrectable).poisoned a = true) ∧
    (s.dram.poison.length < 4096 → blockOf a ∉ s.dram.poison → (s.sectorRead a .uncorrectable).dram.poison = s.dram.poison ++ [blockOf a]) ∧
    (4096 ≤ s.dram.poison.length → (s.sectorRead a .uncorrectable).dram.poison = s.dram.poison) ∧
    (exec (.refresh ch) s = .next (if s.dram.selfRefresh then s else s.modChannel ch (fun y => { y with refreshes := y.refreshes + 1, rows := [] }))) ∧
    (exec (.dimmTempRead ch mC) s = .next (if c.doubled = hot then m else m.bwShortfall)) ∧
    (exec (.scrubRead a e) s = .next (if a < s.dramSize then s.sectorRead (a / 64 * 64) e else s)) ∧
    (∃ t, exec (.scrubPassEnd ch secs) s = .next t ∧ t.cfg Obj.SCRUB_PASS_TIME = secs ∧
      t.cfg Obj.SCRUB_LATE = if s.cfg Obj.SCRUB_PERIOD * 3600 < secs then min (s.cfg Obj.SCRUB_LATE + 1) (2 ^ 64 - 1) else s.cfg Obj.SCRUB_LATE) ∧
    (AcceptsNum s p Obj.DRAM_SWEEP i v →
      (1 < v → Writes (.dramSweep p i v) s .range s) ∧ (v = 0 → Writes (.dramSweep p i v) s .ok s) ∧
      (v = 1 → (s.channel i).state ≠ 2 → Writes (.dramSweep p i v) s .state s) ∧
      (v = 1 → (s.channel i).state = 2 → Writes (.dramSweep p i v) s .ok (s.modChannel i (fun y => { y with sweeping := true })))) ∧
    (c.sweeping = true → ∃ t, exec (.sweepComplete ch d) s = .next t ∧ (t.channel ch).sweeping = false ∧ tabGet? t.dram.sweep ch = some d) ∧
    (c.sweeping = false → exec (.sweepComplete ch d) s = .next s) ∧
    (exec .reservationRefill s = .next (serve 5 (serve 3 s)).refill ∧ s.refill.dram.spent = 0 ∧
      ∀ k n, tabGet? s.dram.buckets k = some n → let rate := (s.reservation (requestorOf k)).1
        tabGet? s.refill.dram.buckets k = some (min (4 * rate) (n + rate))) ∧
    (exec (.bar2Access off 0 none) s = .next s ∧ exec (.bar2Access off len (some [])) s = .next s) ∧
    (b ≠ [] → 2 ^ s.rel.boot.bar2 < off + b.length → exec (.bar2Access off len (some b)) s = .next s) ∧
    (0 < len → 2 ^ s.rel.boot.bar2 < off + len → exec (.bar2Access off len none) s = .next s) ∧
    (0 < len → off + len ≤ 2 ^ s.rel.boot.bar2 → off < 2 ^ 30 ∨ s.dramSize < off + len →
      exec (.bar2Access off len none) s = .next ((s.count Obj.BAR2_ERRORS).emit (.bar2 (List.replicate len 0) false))) ∧
    (0 < len → off + len ≤ 2 ^ s.rel.boot.bar2 → 2 ^ 30 ≤ off → off + len ≤ s.dramSize →
      exec (.bar2Access off len none) s = .next (((s.takeTokens .host len).openRows off len).emit (.bar2 (s.dramGet off len) (s.spanPoisoned off len)))) ∧
    (b ≠ [] → off + b.length ≤ 2 ^ s.rel.boot.bar2 → off < 2 ^ 30 ∨ s.dramSize < off + b.length →
      exec (.bar2Access off len (some b)) s = .next (s.count Obj.BAR2_ERRORS)) ∧
    (b ≠ [] → off + b.length ≤ 2 ^ s.rel.boot.bar2 → 2 ^ 30 ≤ off → off + b.length ≤ s.dramSize →
      exec (.bar2Access off len (some b)) s = .next (s.dramWrite .host off b))

/-! ## Management (chapter 13) and the extension module (chapter 12) -/

/-- R376, R377, R382, R384, R388 to R393, Tables 13.5 and 13.6: access to the object dictionary. REGISTER_WRITE answers at the first check that fails: NO_OBJECT, BAD_TYPE, OK
with no effect without the expert level, OK and one count of 9003h without the right; else the object's own rules act. HOST may write all that can be written, FIELD the areas of 9020h; 9001h, 9021h and 9011h act on sessions. -/
def Obligations.AccessResults : Prop :=
  ∀ (s : State) (p : Principal) (o i ty v k : Nat) (b : Blob),
    let n := Principal.index p
    let write := Instr.registerWrite p o i ty b
    let plain := fun (x : Nat) => Instr.registerWrite p x i (typeCode x) (numBytes x v)
    let barred := s.rel.boot.recovery = true ∧ n < 256
    (objRow? o = none → Writes write s .noObject s) ∧
    (∀ r, objRow? o = some r →
      let there := objHas r i = true ∧ (s.rel.boot.recovery = true → recoveryObject o = true)
      let typed := ty = r.ty.code ∧ (∀ w, r.ty.width = some w → b.length = w) ∧ (r.ty = .str → b.length ≤ 255)
      let basic := r.expert = true ∧ s.atExpert p = false
      (barred → Writes write s .state s) ∧ (¬ barred → ¬ there → Writes write s .noObject s) ∧ (¬ barred → there → ¬ typed → Writes write s .badType s) ∧
      (¬ barred → there → typed → basic → Writes write s .ok s) ∧
      (¬ barred → there → typed → ¬ basic → s.writeRight p r i b = false → Writes write s .ok (s.count Obj.VIOLATIONS n)) ∧
      (¬ barred → there → typed → ¬ basic → s.writeRight p r i b = true → s.bars o b = none → Accepts s p o i ty b) ∧
      (r.acc = .r ∨ r.acc = .rc → s.writeRight p r i b = false) ∧ (r.acc ≠ .r → r.acc ≠ .rc → s.writeRight .host r i b = true) ∧
      (r.acc ≠ .r → r.acc ≠ .rc → s.rel.boot.recovery = false → (s.writeRight .field r i b = true ↔
        (beAt (s.blb Obj.FIELD_WRITE_AREAS) (r.code / 256 / 8) 1).testBit (7 - r.code / 256 % 8) = true ∧ r.code ≠ 0x6100 ∧ r.code ≠ 0x8030 ∧
          r.code ≠ 0x9020 ∧ r.code ≠ 0x9021))) ∧
    (Accepts s p o i ty b → let x := applyObj p o i b s
      let y := if (x.2 = .ok ∨ x.2 = .partialRes) ∧ (typeCode o = 14 ∨ o = 0xB006 ∨ o = 0xB007) then (x.1.bumpGen o i, x.2) else x
      exec write s = .next (s.deferReset (s.deferFlip (s.deferReply (State.answer y
        (if x.2 = .partialRes then (applyLearnStaticData b s).2 else [])))))) ∧
    (∀ x ∈ [Obj.DOWN_HOLD, Obj.MAX_FRAME, Obj.GRACE], ∀ r, objRow? x = some r → AcceptsNum s p x i v →
      (v < r.vlo ∨ r.vhi < v → Writes (plain x) s .range s) ∧ (r.vlo ≤ v → v ≤ r.vhi → Writes (plain x) s .ok (s.writeNum x i (v &&& r.mask)))) ∧
    (AcceptsNum s p Obj.SESSION_LEVEL 0 v → let level := fun (e : Bool) => s.modSession n (fun x => { x with expert := e })
      (1 < v → Writes (.sessionLevel p v) s .range s) ∧
      ((∀ c, p ≠ .fw c) → (v = 0 → Writes (.sessionLevel p v) s .ok (level false)) ∧
        (v = 1 → s.expertRight p = true → Writes (.sessionLevel p v) s .ok (level true)) ∧
        (v = 1 → s.expertRight p = false → Writes (.sessionLevel p v) s .ok (s.count Obj.VIOLATIONS n)))) ∧
    (AcceptsNum s p Obj.EXPERT_RIGHTS 0 v → ∃ t, Writes (.expertRights p v) s .ok t ∧ t.cfg Obj.EXPERT_RIGHTS = v % 4 ∧
      (t.session 257).expert = ((s.session 257).expert && v.testBit 0) ∧ (k < 256 → (t.session k).expert = ((s.session k).expert && v.testBit 1)) ∧
      (t.session 256).expert = (s.session 256).expert) ∧
    (∃ t, exec (.attentionLog p) s = .next t ∧ t.reply = ⟨.ok, ((s.session n).log.filter Att.unread).flatMap Att.bytes, 0⟩ ∧
      (t.session n).log = (s.session n).log.map (fun a => { a with unread := false }) ∧ (k ≠ n → t.session k = s.session k)) ∧
    ((∀ c, s.rel.boot.waitReset = some c → s.attention k = 7) ∧ (∀ a ∈ (s.session k).log, a.unread = true → a.level ≤ 7 → a.level ≤ s.attention k))

/-- R374, R375, R378, R383, R386, R395, Table 13.8: requests. A message that waits is discarded, answered from the front end with BUSY, RANGE or SEQ, answered again from the cache, left waiting behind itself, or executed; an operation of
an unknown code is RANGE and a write is a write; the doorbell takes a request of 24 to 2,040 bytes into an idle mailbox; an assembly and an expert session end after their times. -/
def Obligations.RequestResults : Prop :=
  ∀ (s t : State) (path : Path) (m frame : Blob) (fn len v room : Nat) (req h d : Blob) (p : Principal),
    let q := Path.principal path
    let n := Principal.index q
    let seq := beAt m 2 2
    let resync := (beAt m 13 1).testBit 0 = true
    let taken := s.takeMessage path m = some (frame, t) ∧ t.discardsMsg path m = false
    let bare := fun (u : State) (code hint : Nat) => u.sendReply path frame m.length (msgHeader 2 seq u.rel.boot.bib 0 0 code hint)
    let up := t.rel.boot.firmware = true ∨ t.rel.boot.recovery = true
    let u := t.modSession n (fun x => { x with lastReq := t.time.ticks })
    let cache := (t.session n).cache
    let hit := cache.find? (fun c => c.seq == seq)
    let stale := ¬ resync ∧ ∃ last, (t.session n).lastSeq = some last ∧ (let x := (seq + 65536 - last) % 65536
      x = 0 ∨ 32768 ≤ x)
    let full := u.queueFull q = true ∨ (8 ≤ cache.length ∧ ∀ c ∈ cache, c.reply = none)
    let v' := if u.queueFull q then u.count Obj.WORKQ_OVERFLOWS (queueOf q) else u
    let waits := resync ∧ ∃ c ∈ cache, c.reply = none
    let box := tabGet s.mgmt.mailboxes fn Mailbox.reset
    (s.takeMessage path m = none → exec (.request path m) s = .next s) ∧
    (s.takeMessage path m = some (frame, t) → t.discardsMsg path m = true →
      exec (.request path m) s = .next ((t.count Obj.MESSAGE_DISCARDS).idleMailbox path)) ∧
    (taken → ¬ up → exec (.request path m) s = .next (bare t 1 10000)) ∧
    (taken → up → requestOps m = none → exec (.request path m) s = .next (bare t 4 0)) ∧
    (∀ ops c, taken → up → requestOps m = some ops → hit = some c →
      (∀ r, c.reply = some r → exec (.request path m) s = .next ((u.count Obj.CACHED_REPLIES).sendReply path frame m.length r)) ∧
      (c.reply = none → exec (.request path m) s = .next s)) ∧
    (∀ ops, taken → up → requestOps m = some ops → hit = none →
      (stale → exec (.request path m) s = .next (bare (u.count Obj.SEQ_REFUSALS) 8 0)) ∧
      (¬ stale → full → exec (.request path m) s = .next (bare (v'.count Obj.BUSY_REPLIES (queueOf q)) 1 (v'.hint (queueOf q)))) ∧
      (¬ stale → ¬ full → waits → exec (.request path m) s = .next s) ∧
      (¬ stale → ¬ full → ¬ waits → exec (.request path m) s = .next (u.execute path frame m ops))) ∧
    (beAt h 0 1 ≠ 1 → beAt h 0 1 ≠ 2 → beAt h 0 1 ≠ 3 → s.runOperation p h d room = (.plain .range, s)) ∧
    (beAt h 0 1 = 2 → typeCode (beAt h 2 2) ≠ 14 → beAt h 6 2 = 1 → let x := s.writeObj p (beAt h 2 2) (beAt h 4 2) (beAt h 18 1) d
      s.runOperation p h d room = (.plain x.2, x.1)) ∧
    (256 < fn → exec (.mailboxDoorbell fn len req) s = .next s) ∧
    (fn ≤ 256 → box.st = 1 ∨ len < 24 ∨ 2040 < len → exec (.mailboxDoorbell fn len req) s = .next (s.count Obj.MAILBOX_ERRORS)) ∧
    (fn ≤ 256 → box.st ≠ 1 → 24 ≤ len → len ≤ 2040 → exec (.mailboxDoorbell fn len req) s = .next { s with
      mgmt.mailboxes := tabSet s.mgmt.mailboxes fn { box with st := 1, request := (req ++ List.replicate 2040 0).take len } }) ∧
    ((s.session v).assembly = none → exec (.assemblyTimeout v) s = .next s) ∧
    (∀ a, (s.session v).assembly = some a → exec (.assemblyTimeout v) s =
      .next (if a.last + 8000000000 ≤ s.time.ticks then s.modSession v (fun x => { x with assembly := none }) else s)) ∧
    (let x := s.session v
     exec (.sessionIdleTimeout v) s =
      .next (if x.expert = true ∧ x.lastReq + x.idle * 800000000 ≤ s.time.ticks then s.dropExpert v else s)) ∧
    (∀ x, tabGet? s.mgmt.sessions v = some x → (s.dropExpert v).session v = { x with expert := false })

/-- R369, R370: the extension module. A blob loads only where its format, entries and CRC hold, and then fills the extension region from its first byte, the rest zero; an empty one unloads; a call starts on core 3 in user mode at the call
entry, or waits among four; the tick starts the tick entry once its time has come
(log 156) where nothing of the module runs or waits. A write while an invocation runs answers BUSY (log 31, the model's choice). -/
def Obligations.ExtResults : Prop :=
  ∀ (s : State) (p : Principal) (b : Blob) (m : Module) (e : Nat),
    let busy := s.starter.running = true
    let n := beAt b 8 4 + beAt b 12 4
    let c := s.core 3
    let started := fun (u : State) (entry : Nat) (by_ : Option Principal) =>
      (u.core 3).u = true ∧ (u.core 3).il = 0 ∧ (u.core 3).ie = true ∧ (u.core 3).ctx.pc = BitVec.ofNat 32 (0x4BC000 + entry) ∧
        (u.core 3).ctx.rw 31 = c.usp ∧ (u.core 3).ksp = c.ctx.rw 31 ∧ u.starter.running = true ∧ u.starter.extBy = by_
    (moduleOf b = some m → beAt b 4 2 = 1 ∧ n ≤ 262144 ∧ b.length = 36 + n ∧ beAt b (32 + n) 4 = crc32 (b.take (32 + n)) ∧ m.call % 2 = 0 ∧
      m.call < beAt b 8 4 ∧ ∀ x, m.tick = some x → x % 2 = 0 ∧ x < beAt b 8 4) ∧
    (AcceptsBlob s p Obj.EXT_MODULE 0 b →
      (busy → WritesBusy (.extModule p b) s s) ∧ (¬ busy → b ≠ [] → moduleOf b = none → Writes (.extModule p b) s .range s) ∧
      (¬ busy → b = [] → ∃ t, Writes (.extModule p b) s .ok t ∧ t.starter.ext = none ∧ t.starter.extState = 0 ∧ t.starter.extCalls = []) ∧
      (¬ busy → b ≠ [] → moduleOf b = some m → ∃ t, Writes (.extModule p b) s .ok t ∧ t.starter.ext = some m ∧ t.starter.extState = 1 ∧
        memReadN t.starter.store 0x4BC000 n = (b.drop 32).take n ∧ (∀ a, 0x4BC000 + n ≤ a → a < 0x4FC000 → memRead t.starter.store a = 0) ∧
        ∀ a, a < 0x4BC000 ∨ 0x4FC000 ≤ a → memRead t.starter.store a = memRead s.starter.store a)) ∧
    (AcceptsBlob s p Obj.EXT_CALL 0 b → let loaded := s.starter.extState = 1 ∨ s.starter.extState = 2
      (1024 < b.length → Writes (.extCall p b) s .range s) ∧ (b.length ≤ 1024 → ¬ loaded → Writes (.extCall p b) s .state s) ∧
      (b.length ≤ 1024 → s.extReady = true → s.starter.extCalls = [] → s.starter.ext = some m →
        ∃ t, Writes (.extCall p b) s .ok t ∧ started t m.call (some p) ∧ t.starter.extCalls = []) ∧
      (b.length ≤ 1024 → loaded → s.extReady = false → 4 ≤ s.starter.extCalls.length → WritesBusy (.extCall p b) s s) ∧
      (b.length ≤ 1024 → loaded → s.extReady = false → s.starter.extCalls.length < 4 →
        ∃ t, Writes (.extCall p b) s .ok t ∧ t.starter.extCalls = s.starter.extCalls ++ [(p, b)])) ∧
    (s.time.gun < s.starter.extTickAt ∨ s.starter.ext = none ∨ (∃ x, s.starter.ext = some x ∧ x.tick = none) ∨ (s.starter.extCalls = [] ∧ s.extReady = false) →
      exec .extTick s = .next s) ∧
    (s.starter.extTickAt ≤ s.time.gun → s.starter.ext = some m → m.tick = some e → s.starter.extCalls = [] → s.extReady = true →
      ∃ t, exec .extTick s = .next t ∧ started t e none) ∧
    (∀ x y, s.starter.extTickAt ≤ s.time.gun → s.starter.ext = some m → m.tick = some e → s.starter.extCalls = (x, y) :: [] → s.extReady = true →
      ∃ t, exec .extTick s = .next t ∧ started t m.call (some x))

/-! ## The field network and the call room (chapter 13) -/

/-- R375, R398 to R402, Table 13.9: a device on the field network. A frame with a bad FCS, one for another address and one that is no message are counted or passed over, a request waits; a device takes part in a new epoch, answers a query of its prefix in
one of the window's slots (a free value, log 2), gives its answer up after the window, takes its node ID, and gives it up where another has it or two epochs missed the device;
a collision sends the last frame again; a frame goes out padded, with its FCS, and an answer goes to the address that asked. -/
def Obligations.CallRoomResults : Prop :=
  ∀ (s : State) (b : Blob) (e window plen pfx node bib src : Nat) (msg : Blob) (found : List (Nat × Nat)) (a d : Time),
    let on := s.fieldOn = true
    let r := s.mgmt.room
    let mine := s.rel.boot.bib
    let m := b.drop 14
    let toMe := beAt b 0 6 = 0x015A00000000 ∨ beAt b 0 6 = 0x025A00000000 + s.fieldNode
    let sound := 60 ≤ b.length ∧ b.length ≤ 1514 ∧ beAt b 12 2 = 0x88B5 ∧ s.fieldDiscards m = false
    let room := fun (x : CallRoom) => ({ s with mgmt.room := x } : State)
    let asked := on ∧ r.epoch = some e ∧ r.takingPart = true ∧ r.assigned = false ∧ plen ≤ 64 ∧ 1 ≤ window ∧ window ≤ 64 ∧
      mine / 2 ^ (64 - plen) = pfx / 2 ^ (64 - plen)
    let named := on ∧ r.epoch = some e ∧ ((1 ≤ node ∧ node ≤ 31) ∨ node = 255)
    let here := on ∧ r.epoch = some e ∧ r.takingPart = true
    (¬ on → ∀ ok, exec (.fieldFrameReceive ok b) s = .next s) ∧
    (on → exec (.fieldFrameReceive false b) s = .next (s.count Obj.FIELD_FCS_ERRORS)) ∧
    (on → ¬ toMe → exec (.fieldFrameReceive true b) s = .next s) ∧
    (on → toMe → ¬ sound → exec (.fieldFrameReceive true b) s = .next (s.count Obj.MESSAGE_DISCARDS)) ∧
    (on → toMe → sound → exec (.fieldFrameReceive true b) s =
      .next (if beAt m 1 1 = 1 then { s with mgmt.inbox := s.mgmt.inbox ++ [⟨.fieldNet, m, b⟩] } else s)) ∧
    (¬ on → exec .fieldCollision s = .next s) ∧ (on → s.lastField = none → exec .fieldCollision s = .next (s.count Obj.FIELD_COLLISIONS)) ∧
    (∀ x, on → s.lastField = some x → exec .fieldCollision s = .next ((s.count Obj.FIELD_COLLISIONS).emit x)) ∧
    (let f := fieldFrame src bib msg
     64 ≤ f.length ∧ (msg.length ≤ 1500 → f.length ≤ 1518) ∧ beAt f 0 6 = src % 2 ^ 48 ∧ beAt f 6 6 = bib % 2 ^ 48 ∧ beAt f 12 2 = 0x88B5 ∧
       (f.drop 14).take msg.length = msg ∧ f.drop (f.length - 4) = fcs (f.take (f.length - 4))) ∧
    (on → e < 65536 → 1 ≤ window → window ≤ 64 → r.epoch ≠ some e → exec (.epochStart e window) s =
      .next (room { r with epoch := some e, takingPart := true, assigned := false, answer := none })) ∧
    (¬ on ∨ r.epoch = some e → exec (.epochStart e window) s = .next s) ∧
    (asked → ∃ slot, slot < window ∧ exec (.callRoomQuery e plen window pfx src) s = .next { s with
      free := s.free + 1
      mgmt.room := { r with answer := some (s.time.ticks + slot * 102400, s.time.ticks + window * 102400 + 800000, src) } }) ∧
    (¬ asked → exec (.callRoomQuery e plen window pfx src) s = .next s) ∧
    (r.answer = some (a, d, src) → on → a ≤ s.time.ticks → s.time.ticks ≤ d → exec .answerSend s = .next ((room { r with answer := none }).emit
      (.field (fieldFrame src (fieldAddr s.fieldNode) (msgHeader 0x12 0 mine 0 4 0 0 ++ (beBytes 2 (r.epoch.getD 0) ++ beBytes 1 r.node ++ [0])))))) ∧
    (r.answer = none ∨ ¬ on → exec .answerSend s = .next s) ∧
    (r.answer = some (a, d, src) → s.time.ticks < a ∨ d < s.time.ticks → exec .answerSend s = .next s) ∧
    (r.answer = some (a, d, src) → exec .answerAbandon s =
      .next (if d ≤ s.time.ticks then (room { r with answer := none }).count Obj.ANSWERS_ABANDONED else s)) ∧
    (r.answer = none → exec .answerAbandon s = .next s) ∧
    (named → bib = mine → let w := if node ≠ r.node ∧ r.node ≠ 255 then s.withdrawNode else s
      let x : State := { w with mgmt.room := { w.mgmt.room with node := node, assigned := true } }
      exec (.assign e node bib src) s = .next (x.emit
        (.field (fieldFrame src (fieldAddr x.fieldNode) (msgHeader 0x14 0 bib 0 3 0 0 ++ (beBytes 2 e ++ beBytes 1 node)))))) ∧
    (named → bib ≠ mine → exec (.assign e node bib src) s = .next (if node = r.node then s.withdrawNode else s)) ∧
    (¬ named → exec (.assign e node bib src) s = .next s) ∧ s.withdrawNode.mgmt.room = { r with node := 255 } ∧
    (here → (∃ n, (mine, n) ∈ found) → exec (.epochEnd e found) s = .next (room { r with misses := 0 })) ∧
    (here → (∀ n, (mine, n) ∉ found) → let w := room { r with misses := r.misses + 1 }
      exec (.epochEnd e found) s = .next (if r.misses + 1 = 2 then w.withdrawNode else w)) ∧
    (¬ here → exec (.epochEnd e found) s = .next s)

/-- R403: the call-room master. Every 9034h it starts an epoch, 1 ms later the search with the empty prefix; a listen window ends with the next branch, an ASSIGN to the one that answered, or a split of the branch; an ID is the bib's own of the last
two epochs, else the lowest free one; an ASSIGN is sent three times; the found set goes out at the end of the epoch, and into 9035h once a round's second epoch finds the same (log 39, the model's reading). -/
def Obligations.MasterResults : Prop :=
  ∀ (s : State) (bib e node p l tries n : Nat) (noise : Bool),
    let m := s.mgmt.master
    let on := s.isMaster = true
    let window := s.cfg Obj.CALL_ROOM_WINDOW
    let said := fun (t : State) (type : Nat) (body : Blob) =>
      t.out = s.out ++ [.field (fieldFrame 0x015A00000000 (fieldAddr s.fieldNode) (msgHeader type 0 0 0 body.length 0 0 ++ body))]
    let due := (m.epoch = 0 ∧ m.since = 0) ∨ m.since + s.cfg Obj.CALL_ROOM_PERIOD * 800000 ≤ s.time.ticks
    let heard := m.answers.map Prod.fst
    (on → m.wait = .idle → due → ∃ t, exec .callRoomRound s = .next t ∧ t.mgmt.master.epoch = (m.epoch + 1) % 65536 ∧
      t.mgmt.master.wait = .started ∧ t.mgmt.master.found = [] ∧ t.mgmt.master.todo = [] ∧ t.mgmt.master.first = true ∧
      t.mgmt.master.since = s.time.ticks ∧ said t 0x10 (beBytes 2 ((m.epoch + 1) % 65536) ++ beBytes 1 window ++ [0])) ∧
    (¬ on ∨ m.wait ≠ .idle ∨ ¬ due → exec .callRoomRound s = .next s) ∧
    (on → m.wait = .started → m.since + 800000 ≤ s.time.ticks → exec .epochSearchStart s = .next (s.query 0 0)) ∧
    (¬ on ∨ m.wait ≠ .started ∨ s.time.ticks < m.since + 800000 → exec .epochSearchStart s = .next s) ∧
    ((s.query p l).mgmt.master = { m with wait := .listening p l, answers := [], since := s.time.ticks } ∧
      said (s.query p l) 0x11 (beBytes 2 m.epoch ++ beBytes 1 l ++ beBytes 1 window ++ beBytes 8 p)) ∧
    (on → m.wait = .listening p l → e = m.epoch → (bib ∉ heard →
        exec (.answer bib e node) s = .next (s.modMaster (fun x => { x with answers := x.answers ++ [(bib, node)] }))) ∧
      (bib ∈ heard → exec (.answer bib e node) s = .next s)) ∧
    ((∀ x y, m.wait ≠ .listening x y) → exec (.answer bib e node) s = .next s ∧ exec (.queryListenEnd noise) s = .next s) ∧
    (on → m.wait = .listening p l → exec (.queryListenEnd noise) s =
      .next (if m.since + window * 102400 + 800000 ≤ s.time.ticks then s.closeQuery p l noise else s)) ∧
    (m.answers = [] → s.closeQuery p l false = s.nextBranch) ∧
    (m.answers = [(bib, node)] → (∀ x, m.idFor bib = some x → s.closeQuery p l false = s.sendAssign bib x 1) ∧
      (m.idFor bib = none → s.closeQuery p l false = (s.count Obj.CALL_ROOM_ERRORS).nextBranch)) ∧
    (64 ≤ l → (m.answers.length ≤ 1 → noise = true) → s.closeQuery p l noise = (s.count Obj.CALL_ROOM_ERRORS).nextBranch) ∧
    (l < 64 → noise = true → m.answers.length ≤ 1 → let half := 2 ^ (63 - l)
      s.closeQuery p l true = (s.modMaster (fun x => { x with todo := [(p, l + 1), (p + half, l + 1)] ++ x.todo })).nextBranch) ∧
    (l < 64 → 2 ≤ m.answers.length → heard.Nodup → (∀ x ∈ heard, x < 2 ^ 64) → ∃ c q, c < 64 ∧ (∀ x ∈ heard, x / 2 ^ (64 - c) = q / 2 ^ (64 - c)) ∧
      (∃ x ∈ heard, ∃ y ∈ heard, x / 2 ^ (63 - c) ≠ y / 2 ^ (63 - c)) ∧ q % 2 ^ (64 - c) = 0 ∧
      s.closeQuery p l noise = (s.modMaster (fun x => { x with todo := [(q, c + 1), (q + 2 ^ (63 - c), c + 1)] ++ x.todo })).nextBranch) ∧
    (∀ q k rest, m.todo = (q, k) :: rest → s.nextBranch = (s.modMaster (fun x => { x with todo := rest })).query q k) ∧
    (m.todo = [] → s.nextBranch = s.endEpoch) ∧
    (∀ x, m.idFor bib = some x → (bib, x) ∈ m.last ++ m.before ∨
      (1 ≤ x ∧ x ≤ 31 ∧ (∀ y ∈ m.found ++ m.last ++ m.before, y.2 ≠ x) ∧ ∀ z, 1 ≤ z → z < x → ∃ y ∈ m.found ++ m.last ++ m.before, y.2 = z)) ∧
    ((s.sendAssign bib n tries).mgmt.master = { m with wait := .assigning bib n tries, since := s.time.ticks } ∧
      said (s.sendAssign bib n tries) 0x13 (beBytes 2 m.epoch ++ beBytes 1 n ++ [0] ++ beBytes 8 bib)) ∧
    (on → m.wait = .assigning bib n tries → exec (.assigned bib m.epoch n) s =
      .next ((s.modMaster (fun x => { x with found := x.found ++ [(bib, n)] })).nextBranch)) ∧
    ((m.wait = .assigning bib n tries ∧ (e ≠ m.epoch ∨ node ≠ n)) ∨ (∀ x y z, m.wait ≠ .assigning x y z) → exec (.assigned bib e node) s = .next s) ∧
    (on → m.wait = .assigning bib n tries → exec .assignResend s =
      .next (if tries < 3 then s.sendAssign bib n (tries + 1) else s.nextBranch)) ∧
    ((∀ x y z, m.wait ≠ .assigning x y z) → exec .assignResend s = .next s) ∧
    (∃ entries, entries = m.found.flatMap (fun x => beBytes 8 x.1 ++ beBytes 1 x.2) ∧
      (m.first = false → sameSet m.found m.last = true → s.endEpoch.mgmt.master.wait = .idle ∧ s.endEpoch.blb Obj.FIELD_NODES = entries ∧
        said s.endEpoch 0x15 (beBytes 2 m.epoch ++ beBytes 1 m.found.length ++ [0] ++ entries)) ∧
      (m.first = true ∨ sameSet m.found m.last = false → s.endEpoch.mgmt.master.wait = .started ∧ s.endEpoch.mgmt.master.first = false ∧
        s.endEpoch.mgmt.master.last = m.found ∧ s.endEpoch.mgmt.master.before = m.last))

/-! ## Resets, the flash and the board (chapters 14 to 16) -/

/-- R343, R411, R413, R424 to R429, R432 to R435, R451, R453, R469, R470, Tables 14.2, 15.3 and 15.4: device reset, boot and the reset requests. A device reset gives every store its reset state and keeps fuses, straps and flash; a request acts once the flash is idle, and is
refused above 1102h; POWER_ON and RESET_N start the device, a pulse below 1.0 µs does nothing; a slot that verifies boots, a second failure enters the recovery responder. -/
def Obligations.DeviceResets : Prop :=
  ∀ (s : State) (p : Principal) (c : ResetCause) (bib grade low k v : Nat) (dies : Blob) (straps : BitVec 8) (dram : List Bool) (good : Bool),
    let b := s.rel.boot
    let z := s.resetDevice c
    let start := b.resetN = true ∧ b.pllFail = false ∧ b.firmware = false ∧ b.recovery = false
    let request := fun (n : Nat) => AcceptsNum s p Obj.RESET_REQUEST 0 n
    let hot := ∃ d, d < 5 ∧ signed 32 (s.cfg Obj.TEMP_WARN) < signed 32 (s.cfg Obj.DIE_TEMP d)
    let asked := ({ s with rel.boot.waitReset := some (.request p) } : State)
    let failed := ({ s.modSlot k (fun x => { x with valid := false }) with rel.boot.tried := k :: b.tried } : State)
    (z.pending = s.pending ∧ z.time = .reset ∧ z.ports = State.reset.ports ∧ z.frames = [] ∧ z.relay = State.reset.relay ∧ z.buf = State.reset.buf ∧
      z.ten = State.reset.ten ∧ z.trc = State.reset.trc ∧ z.dram = State.reset.dram ∧ z.blob = [] ∧ z.rel.flash = s.rel.flash.atReset ∧
      z.rel.boot.bib = b.bib ∧ z.rel.boot.grade = b.grade ∧ z.rel.boot.dieIds = b.dieIds ∧ z.rel.boot.straps = b.straps ∧
      z.rel.boot.firmware = false ∧ z.rel.boot.waitReset = none ∧ z.rel.boot.halted = false ∧
      z.rel.boot.recovery = decide (b.straps.toNat % 4 = 2) ∧ z.rel.boot.cause = b.causeWord c ∧ z.rel.boot.cal = z.rel.flash.cal ∧
      z.rel.boot.calStaged = z.rel.flash.cal) ∧
    (s.rel.flash.atReset.busy = [] ∧ (s.rel.flash.eraseWanted = true →
      s.rel.flash.atReset.copyA = .empty ∧ s.rel.flash.atReset.copyB = .empty ∧ s.rel.flash.atReset.eraseWanted = false)) ∧
    ((∀ q, c ≠ .request q) → exec (.deviceReset c) s = .next z) ∧ exec .jtagRzReset s = .next (s.resetDevice .jtag) ∧
    (∀ q, (b.waitReset = some (.request q) → s.rel.flash.busy = [] → exec (.deviceReset (.request q)) s = .next (s.resetDevice (.request q))) ∧
      (b.waitReset ≠ some (.request q) ∨ s.rel.flash.busy ≠ [] → exec (.deviceReset (.request q)) s = .next s)) ∧
    (∃ t, exec (.powerOn bib grade dies) s = .next t ∧ t.rel.boot.bib = bib ∧ t.rel.boot.grade = grade ∧ t.rel.boot.dieIds = dies ∧
      t.rel.boot.resetN = false ∧ t.rel.boot.straps = 0 ∧ t.rel.boot.cause = 1 ∧ t.out = s.out ++ [.safeN false, .safeN true] ∧ t.pending = s.pending) ∧
    (exec .powerLoss s = .next { s.resetDevice .powerOn with rel.boot.resetN := false }) ∧
    (exec (.resetNEdge low straps) s = if b.resetN = true ∧ low < 1000 then .next s
      else .next (({ s with rel.boot.straps := straps } : State).resetDevice (if b.resetN = true then .resetN else .powerOn))) ∧
    (start → exec .pllLockTimeout s = .next (({ s with rel.boot.pllFail := true } : State).emit (.safeN true))) ∧
    (¬ start → exec .pllLockTimeout s = .next s) ∧
    (request 1 → (hot → Writes (.deviceResetRequest p) s .state s) ∧ (¬ hot → s.rel.flash.busy = [] → exec (.deviceResetRequest p) s = .next asked) ∧
      (¬ hot → s.rel.flash.busy ≠ [] → exec (.deviceResetRequest p) s = .next (asked.raise 7 none Obj.RESET_REQUEST))) ∧
    (request 2 → Writes (.starterDomainResetRequest p) s .ok s.resetStarter) ∧
    (request 3 → Writes (.managementDomainResetRequest p) s .ok s.resetManagement ∧ s.resetManagement.mgmt.room.node = 255) ∧
    (k < 12 → request (16 + k) → let w := (s.resetSquad k).modSquad k (fun q => { q with asked := q.busy })
      exec (.squadResetRequest p k) s = .next (s.deferReset { w with reply := ⟨.ok, [], 0⟩ }) ∧
      ((w.squad k).busy = true → (s.squad k).asked = false → exec (.squadResetRequest p k) s = .next { w with reply := s.reply })) ∧
    (k < 16 → request (32 + k) → Writes (.portResetRequest p k) s .ok (s.linkDown k) ∧
      ((s.linkDown k).port k).st = if (s.port k).st = .disabled then .disabled else .down) ∧
    (AcceptsNum s p Obj.DEVICE_ID 0 v → (16383 < v → Writes (.deviceId p v) s .range s) ∧
      (v ≤ 16383 → s.allIdle = false → Writes (.deviceId p v) s .state s) ∧
      (v ≤ 16383 → s.allIdle = true → Writes (.deviceId p v) s .ok (s.writeNum Obj.DEVICE_ID 0 v))) ∧
    (b.wants s.rel.flash ≠ some k → exec (.firmwareVerified k good dram) s = .next s) ∧
    (b.wants s.rel.flash = some k → b.tried = [] → exec (.firmwareVerified k false dram) s = .next failed) ∧
    (b.wants s.rel.flash = some k → b.tried.length = 1 → ∃ t, exec (.firmwareVerified k false dram) s = .next t ∧ t.rel.boot.recovery = true ∧
      (t.core 0).st = .running ∧ t.out = s.out ++ [.safeN true]) ∧
    (b.wants s.rel.flash = some k → exec (.firmwareVerified k true dram) s =
      .next ((s.modSlot k (fun x => { x with valid := true })).bootFirmware k dram) ∧
      ((s.modSlot k (fun x => { x with valid := true })).bootFirmware k dram).rel.boot.firmware = true) ∧
    (start → b.straps.toNat % 4 = 1 → b.tried = [] → b.wants s.rel.flash = some 0) ∧
    (start → b.straps.toNat % 4 ≤ 1 → b.tried = [k] → b.wants s.rel.flash = some (1 - k)) ∧
    (¬ start ∨ 2 ≤ b.straps.toNat % 4 → b.wants s.rel.flash = none)

/-- R409, R411, R418 to R420, R423, R435: the flash. Calibration writes stage a block or a section and set its VALID bit and ORIGIN, a commit writes it with its time, count and CRC and answers when the flash has it; stores and slot writes queue behind one another, and a
failed one is counted, recorded (log 160) and leaves what it wrote invalid. -/
def Obligations.FlashResults : Prop :=
  ∀ (s : State) (p : Principal) (o i v : Nat) (b : Blob) (ok signed_ : Bool) (op : FlashOp) (rest : List FlashOp) (h : Held),
    let committing := s.committing = true
    let sec : Nat × Nat × Nat := if o = 0xB002 then (32 + 512 * i, 512, 0) else if o = 0xB003 then (8736, 64, 1) else
      if o = 0xB004 then (8800 + 512 * i, 512, 2) else (10848, 256, 3)
    let sound := b.length = 11108 ∧ beAt b 0 2 = 1 ∧ beAt b 12 4 = 11108 ∧ beAt b 11104 4 = crc32 (b.take 11104) ∧ beAt b 4 8 = s.rel.boot.bib
    let x := s.commitBlock
    let put := overwrite s.staged sec.1 (sectionStored o b)
    let staged := overwrite put 2 (beBytes 1 1 ++ beBytes 1 (beAt put 3 1 ||| 2 ^ sec.2.2))
    let slotBusy := (s.rel.boot.firmware = true ∧ i = s.rel.boot.runningSlot) ∨ s.rel.flash.busy.any (fun y => y.isCommit || y.isSlot) = true
    let written := s.modSlot i (fun y => { y with valid := false, image := b, bytes := b.length, writes := y.writes + 1 })
    let e := s.flashEnd ok
    let w := if ok then e else e.logError 0x0F 1 0 none op.target.1 op.target.2 (op.target.1 + op.target.2 * 65536)
    let waits := w.mgmt.held.find? (fun y => y.at_.isSome)
    (AcceptsBlob s p Obj.CAL_BLOCK 0 b → (¬ sound → Writes (.calBlock p b) s .range s) ∧ (sound → committing → Writes (.calBlock p b) s .state s) ∧
      (sound → ¬ committing → WritesBlob (.calBlock p b) s .ok Obj.CAL_BLOCK 0 { s.setBlb Obj.CAL_BLOCK 0 [] with rel.boot.calStaged := calStored b })) ∧
    (0xB002 ≤ o → o ≤ 0xB005 → AcceptsBlob s p o i b →
      (b.length ≠ sec.2.1 → Writes (.calSectionWrite p o i b) s .range s) ∧ (b.length = sec.2.1 → committing → Writes (.calSectionWrite p o i b) s .state s) ∧
      (b.length = sec.2.1 → ¬ committing →
        WritesBlob (.calSectionWrite p o i b) s .ok o i { s.setBlb o i [] with rel.boot.calStaged := staged })) ∧
    (AcceptsNum s p Obj.CAL_COMMIT 0 v → (1 < v → Writes (.calCommit p v) s .range s) ∧ (v ≤ 1 → committing → Writes (.calCommit p v) s .state s) ∧
      (v = 1 → ¬ committing → exec (.calCommit p v) s = .next
        (({ s with rel.flash.busy := s.rel.flash.busy ++ [.commit x], rel.boot.calStaged := x } : State).bumpGen Obj.CAL_COMMIT 0))) ∧
    (s.staged.length = 11108 → x.length = 11108 ∧ beAt x 11104 4 = crc32 (x.take 11104) ∧ beAt x 16 10 = s.time.gun % 2 ^ 80 ∧
      beAt x 26 4 = (beAt (calBytes s.rel.flash.cal) 26 4 + 1) % 2 ^ 32) ∧
    (AcceptsNum s p Obj.CAL_DISCARD 0 v → (1 < v → Writes (.calDiscard p v) s .range s) ∧ (v ≤ 1 → committing → Writes (.calDiscard p v) s .state s) ∧
      (v = 1 → ¬ committing → WritesBlob (.calDiscard p v) s .ok Obj.CAL_DISCARD 0 { s with rel.boot.calStaged := s.rel.boot.cal })) ∧
    (AcceptsNum s p Obj.PERSIST_ERASE 0 v → (1 < v → Writes (.persistErase p v) s .range s) ∧ (v = 0 → Writes (.persistErase p v) s .ok s) ∧
      (v = 1 → Writes (.persistErase p v) s .ok { s with rel.flash.eraseWanted := true })) ∧
    (AcceptsBlob s p Obj.FW_IMAGE i b →
      (signed_ = false → s.noDram = false → Writes (.fwImage p i b signed_) s .range s) ∧
      (signed_ = true → slotBusy → Writes (.fwImage p i b signed_) s .state s) ∧
      (signed_ = true → ¬ slotBusy → exec (.fwImage p i b signed_) s = .next
        (({ written with rel.flash.busy := s.rel.flash.busy ++ [.slot i b] } : State).bumpGen Obj.FW_IMAGE i)) ∧
      (signed_ = false → s.noDram = true → slotBusy → Writes (.fwImage p i b signed_) s .range s) ∧
      (signed_ = false → s.noDram = true → ¬ slotBusy → Writes (.fwImage p i b signed_) s .range written)) ∧
    (exec .persistStore s = .next (if s.rel.boot.firmware = true ∧ s.rel.boot.pendSince ≠ none then { s with
      rel.flash.busy := s.rel.flash.busy ++ [.persist s.rel.boot.persistSet], rel.boot.pendCount := 0, rel.boot.pendSince := none } else s)) ∧
    (s.rel.flash.busy = [] → exec (.flashOperationComplete ok) s = .next s) ∧
    (s.rel.flash.busy = op :: rest →
      e.rel.flash.busy = rest ∧ (∀ k, k < 4 → (s.core k).st = .running → 28 ∈ (e.core k).irq) ∧
      (∀ q, op = .persist q → exec (.flashOperationComplete ok) s = .next e ∧ (ok = true → s.rel.flash.copyA.valid = true ∨ s.rel.flash.copyB.valid = true → e.rel.flash.newest = { q with valid := true, count := s.rel.flash.newest.count + 1 }) ∧
        (ok = false → e.rel.boot.pendSince ≠ none ∧ 1 ≤ e.rel.boot.pendCount ∧ e.rel.flash.newest = s.rel.flash.newest)) ∧
      (∀ q, op = .commit q → e.rel.flash.cal = if ok then q else s.rel.flash.cal) ∧ (∀ n q, op = .slot n q → (e.fwSlot n).valid = ok) ∧
      (ok = false → e.cfg Obj.FLASH_ERRORS = min (s.cfg Obj.FLASH_ERRORS + 1) (2 ^ 64 - 1)) ∧
      (op.isCommit = true ∨ op.isSlot = true →
        (waits = none → exec (.flashOperationComplete ok) s = .next { w with reply := ⟨if ok then .ok else .internal, [], 0⟩ }) ∧
        (waits = some h → ∃ r, (ok = true → r = h.reply) ∧ (∀ n, ok = false → h.at_ = some n → 24 ≤ n → n < h.reply.length → r[n]? = some 0x1F) ∧
          exec (.flashOperationComplete ok) s = .next (State.deliverDue { w with
            mgmt.held := w.mgmt.held.map (fun y => if y = h then { y with at_ := none, reply := r } else y) }))))

/-- R414 to R417, R437 to R439, R442, R448 to R450, R456: health of the device. Temperatures above 1102h warn once until every die has cooled by 2 °C, above 1103h the device halts; telemetry, AVS, the regulators' alerts, the loss and return of reference clocks, and what the patrol's
uncorrectable words lead to; 110Ch and A001h. The AVS target within its range, and whether both copies of a word of unit 31 are bad, are free values (log 2). -/
def Obligations.HealthResults : Prop :=
  ∀ (s : State) (p : Principal) (temps : List Int) (v d r : Nat) (rails : List (Nat × Nat × Nat)) (faults : List Bool) (q : Pmb) (w : SramWord) (n : Int),
    let ts := temps.take 5
    let read := (List.range ts.length).foldl (fun (u : State) k => u.readDie k (ts.getD k 0)) s
    let warn := signed 32 (s.cfg Obj.TEMP_WARN)
    let trip := signed 32 (s.cfg Obj.TEMP_TRIP)
    let cooled := if s.rel.warned = true ∧ (∀ t ∈ ts, t ≤ warn - 2000) then ({ read with rel.warned := false } : State) else read
    let seen := match ts.findIdx? (fun t => decide (warn < t)) with
      | some k => if s.rel.warned = true then cooled else ({ cooled.logError 0x0C 1 2 none Obj.DIE_TEMP k k with rel.warned := true } : State)
      | none => cooled
    let sample := exec (.dieTempSample temps) s
    let a := s.recomputeAvs
    let avs := exec (.avsRecompute q) s
    let changing := ∃ k, k < 12 ∧ (s.squad k).freqTarget ≠ none
    let bad := s.sramEvent w.unit w.addr .uncorrectable
    let patrol := exec (.patrolRead w .uncorrectable) s
    (d < 5 → -2147483648 ≤ n → n < 2147483648 → (s.readDie d n).cfg Obj.DIE_TEMP d = unsigned 32 n ∧
      (∀ m, tabGet? s.num (objKey Obj.DIE_TEMP_MAX d) = some m → (s.readDie d n).cfg Obj.DIE_TEMP_MAX d = unsigned 32 (max n (signed 32 m))) ∧
      ∀ k, k ≠ d → k < 5 → (s.readDie d n).cfg Obj.DIE_TEMP k = s.cfg Obj.DIE_TEMP k) ∧
    ((∀ t ∈ ts, t ≤ trip) → sample = .next seen) ∧
    (∀ k, ts.findIdx? (fun t => decide (trip < t)) = some k → sample =
      .next (if seen.rel.boot.halted = true then seen else (seen.logError 0x0C 3 0 none Obj.DIE_TEMP k (k + 256)).enterSafe)) ∧
    (∃ t, exec (.railTelemetry rails) s = .next t ∧ (r < 7 →
      (s.cfg Obj.RAIL_PMBUS_ADDR r = 0 → t.cfg Obj.RAIL_VOLTAGE r = 0 ∧ t.cfg Obj.RAIL_CURRENT r = 0 ∧ t.cfg Obj.RAIL_POWER r = 0) ∧
      (∀ x y z, s.cfg Obj.RAIL_PMBUS_ADDR r ≠ 0 → rails[r]? = some (x, y, z) → t.cfg Obj.RAIL_VOLTAGE r = x % 2 ^ 32 ∧
        t.cfg Obj.RAIL_CURRENT r = y % 2 ^ 32 ∧ t.cfg Obj.RAIL_POWER r = z % 2 ^ 32))) ∧
    (s.rel.railFail < 3 → (s.cfg Obj.AVS_ENABLE = 0 → a.cfg Obj.VDD_CORE_TARGET = 800) ∧
      (s.cfg Obj.AVS_ENABLE ≠ 0 → 700 ≤ a.cfg Obj.VDD_CORE_TARGET ∧ a.cfg Obj.VDD_CORE_TARGET ≤ 800) ∧
      a.out = s.out ++ [.vout s.vcoreAddress (a.cfg Obj.VDD_CORE_TARGET)]) ∧
    (4 ≤ s.rel.railFail → avs = .next s) ∧
    (s.rel.railFail = 3 → avs = .next (({ s with rel.railFail := if q = .acked then 4 else 3 } : State).emit (.vout s.vcoreAddress 800))) ∧
    (s.rel.railFail < 3 → changing → avs = .next { s with rel.avsDue := true }) ∧
    (s.rel.railFail < 3 → ¬ changing → q = .acked → avs = .next ({ s with rel.railFail := 0 } : State).recomputeAvs) ∧
    (s.rel.railFail < 3 → ¬ changing → q = .failed → let u := ({ s with rel.railFail := s.rel.railFail + 1 } : State)
      avs = .next (if s.rel.railFail = 2 then (u.setCfg Obj.VDD_CORE_TARGET 0 800).raise 2 none Obj.VDD_CORE_TARGET else u)) ∧
    (∃ t, exec (.pmbAlert faults) s = .next t ∧ t = { s with mgmt.sessions := t.mgmt.sessions } ∧
      (faults = [true] → t = s.raise 2 none Obj.AVS_PMBUS_ADDR) ∧ ((∀ f ∈ faults, f = false) → t = s)) ∧
    (AcceptsNum s p Obj.WAKE_RATE 0 v → (v < 1000 ∨ 32000 < v → Writes (.wakeRate p v) s .range s) ∧
      (1000 ≤ v → v ≤ 32000 → Writes (.wakeRate p v) s .ok (s.writeNum Obj.WAKE_RATE 0 v))) ∧
    (AcceptsNum s p Obj.ERROR_LOG_CLEAR 0 v → (1 < v → Writes (.errorLogClear p v) s .range s) ∧ (v = 0 → Writes (.errorLogClear p v) s .ok s) ∧
      (v = 1 → Writes (.errorLogClear p v) s .ok { s with rel.errors := [] })) ∧
    (∃ t, exec .tclkInLoss s = .next t ∧ t.time.tclkLost = true ∧ t.time.offMark = true ∧ t.time.lowSince = none ∧
      (s.time.offMark = false → t.cfg Obj.OFF_THE_MARK = min (s.cfg Obj.OFF_THE_MARK + 1) (2 ^ 64 - 1))) ∧
    (∃ t, exec .tclkInReturn s = .next t ∧ t = { s with time := t.time } ∧ t.time.tclkLost = false ∧ t.time.offMark = s.time.offMark) ∧
    (d < 4 → ∃ t, exec (.sdsRefclkLoss d) s = .next t ∧ ∀ k, k / 4 = d → (t.port k).st = if (s.port k).st = .disabled then .disabled else .down) ∧
    (4 ≤ d → exec (.sdsRefclkLoss d) s = .next s) ∧
    (exec (.sdsRefclkReturn d) s = .next { s with rel.sdsLost := s.rel.sdsLost.filter (fun k => k != d) }) ∧
    (exec (.patrolRead w .clean) s = .next s) ∧
    (w.unit < 24 ∨ (28 ≤ w.unit ∧ w.unit < 32) → exec (.patrolRead w .corrected) s = .next (s.sramEvent w.unit w.addr .corrected)) ∧
    ((24 ≤ w.unit ∧ w.unit < 28) ∨ 32 ≤ w.unit → ∀ e, exec (.patrolRead w e) s = .next s) ∧
    (w.unit < 12 ∨ w.unit = 30 → patrol = .next bad) ∧
    (12 ≤ w.unit → w.unit < 24 → let zeros := List.replicate 8 0
      patrol = .next { bad with strider.sstore := memWriteN bad.strider.sstore ((w.unit - 12) * 2 ^ 21 + w.addr % 2 ^ 18 * 8) zeros }) ∧
    (w.unit = 28 → patrol = .next (if (bad.cell (w.addr / 32)).alloc = true then bad else
      { bad with buf.pool.data := memWriteN bad.buf.pool.data (w.addr * 8) (List.replicate 8 0) })) ∧
    (w.unit = 29 → patrol = .next (bad.raise 5 none Obj.SRAM_UNCORRECTABLE 29)) ∧
    (w.unit = 31 → let u := ({ bad with free := bad.free + 1 } : State)
      patrol = .next u.enterSafe ∨ patrol = .next (u.raise 2 none Obj.SRAM_UNCORRECTABLE 31))

/-! ## The machine as a whole -/

/-- Commands are served first in, first out: a step with a command in front is that command, executed with the queue's rest; with none waiting the block idles (log 1, the model's choice). -/
def Obligations.StepRunsFront : Prop :=
  ∀ (c : Instr) (s : State) (rest : List Instr),
    (s.pending = c :: rest → step s = exec c { s with pending := rest }) ∧ (s.pending = [] → step s = .next s)

/-- The invariant holds right after reset: every waiting command is well formed and every memory is in its canonical form; no command waits and no memory lists a byte. -/
def Obligations.InvReset : Prop := State.reset.Inv ∧ State.reset.pending = [] ∧ ∀ m, m ∈ State.reset.memories → m = []

/-- Every step keeps the invariant, in every state that has it: the waiting commands stay well formed and the memories keep their canonical form, so that equal contents are equal data. -/
def Obligations.InvKept : Prop := ∀ (s t : State), s.Inv → step s = .next t → t.Inv

/-- A step takes the front command from the queue, whatever it is, and no command adds one, takes one or changes their order. -/
def Obligations.QueueFifo : Prop := ∀ (s t : State), step s = .next t → t.pending = s.pending.tail
end

