-- ==== Sys2Proof/Laws/Table.lean ====
section
/-! SUPPORT. What the table and memory operations do: an entry reads back as it was set, every other entry is left alone, and the
canonical forms are kept. -/

namespace Sys2Proof.Machine

variable {α : Type}

@[simp] theorem tabGet?_nil (n : Nat) : tabGet? ([] : Tab α) n = none := rfl

theorem tabGet?_set_same (t : Tab α) (n : Nat) (v : α) : tabGet? (tabSet t n v) n = some v := by
  induction t with
  | nil => simp [tabSet, tabGet?]
  | cons e t ih =>
    obtain ⟨k, w⟩ := e
    simp only [tabSet]
    split
    · simp [tabGet?]
    · split
      · simp [tabGet?]
      · simp [tabGet?, *]

theorem tabGet?_set_other (t : Tab α) {n m : Nat} (v : α) (h : m ≠ n) : tabGet? (tabSet t n v) m = tabGet? t m := by
  induction t with
  | nil => simp [tabSet, tabGet?, h]
  | cons e t ih =>
    obtain ⟨k, w⟩ := e
    simp only [tabSet]
    split
    · subst_vars; simp [tabGet?, h]
    · split
      · simp [tabGet?, h]
      · simp [tabGet?, ih]

theorem tabGet?_del_same (t : Tab α) (n : Nat) : tabGet? (tabDel t n) n = none := by
  induction t with
  | nil => rfl
  | cons e t ih =>
    obtain ⟨k, w⟩ := e
    by_cases hk : k = n
    · subst hk
      have : tabDel ((k, w) :: t) k = tabDel t k := by simp [tabDel]
      rw [this, ih]
    · have : tabDel ((k, w) :: t) n = (k, w) :: tabDel t n := by simp [tabDel, hk]
      rw [this]
      simp [tabGet?, ih, Ne.symm hk]

theorem tabGet?_del_other (t : Tab α) {n m : Nat} (h : m ≠ n) : tabGet? (tabDel t n) m = tabGet? t m := by
  induction t with
  | nil => rfl
  | cons e t ih =>
    obtain ⟨k, w⟩ := e
    by_cases hk : k = n
    · subst hk
      have : tabDel ((k, w) :: t) k = tabDel t k := by simp [tabDel]
      rw [this, ih]
      simp [tabGet?, h]
    · have : tabDel ((k, w) :: t) n = (k, w) :: tabDel t n := by simp [tabDel, hk]
      rw [this]
      simp [tabGet?, ih]

@[simp] theorem tabGet_set_same (t : Tab α) (n : Nat) (v d : α) : tabGet (tabSet t n v) n d = v := by
  simp [tabGet, tabGet?_set_same]

theorem tabGet_set_other (t : Tab α) {n m : Nat} (v d : α) (h : m ≠ n) : tabGet (tabSet t n v) m d = tabGet t m d := by
  simp [tabGet, tabGet?_set_other t v h]

@[simp] theorem tabGet_upd_same (t : Tab α) (n : Nat) (d : α) (f : α → α) : tabGet (tabUpd t n d f) n d = f (tabGet t n d) := by
  simp [tabUpd]

theorem tabGet_upd_other (t : Tab α) {n m : Nat} (d e : α) (f : α → α) (h : m ≠ n) :
    tabGet (tabUpd t n d f) m e = tabGet t m e := by
  simp [tabUpd, tabGet_set_other t _ _ h]

@[simp] theorem tabGet_put_same [DecidableEq α] (t : Tab α) (n : Nat) (d v : α) : tabGet (tabPut t n d v) n d = v := by
  unfold tabPut
  split
  · subst_vars; simp [tabGet, tabGet?_del_same]
  · simp

theorem tabGet_put_other [DecidableEq α] (t : Tab α) {n m : Nat} (d v e : α) (h : m ≠ n) :
    tabGet (tabPut t n d v) m e = tabGet t m e := by
  unfold tabPut
  split
  · simp [tabGet, tabGet?_del_other t h]
  · exact tabGet_set_other t v e h

/-! ## Canonical form -/

theorem keysAbove_set (t : Tab α) (b n : Nat) (v : α) (h : keysAbove b t = true) (hb : b < n) : keysAbove b (tabSet t n v) = true := by
  induction t with
  | nil => simp [tabSet, keysAbove, hb]
  | cons e t ih =>
    obtain ⟨k, w⟩ := e
    simp only [keysAbove, Bool.and_eq_true, decide_eq_true_eq] at h
    simp only [tabSet]
    split
    · simp [keysAbove, hb, h.2]
    · split
      · simp [keysAbove, hb, h]
      · simp [keysAbove, h.1, ih h.2]

theorem keysAbove_mono (t : Tab α) {a b : Nat} (h : keysAbove b t = true) (hab : a ≤ b) : keysAbove a t = true := by
  induction t with
  | nil => rfl
  | cons e t ih =>
    obtain ⟨k, w⟩ := e
    simp only [keysAbove, Bool.and_eq_true, decide_eq_true_eq] at h ⊢
    exact ⟨by omega, ih h.2⟩

theorem keysAbove_filter (t : Tab α) (p : Nat × α → Bool) {b : Nat} (h : keysAbove b t = true) : keysAbove b (t.filter p) = true := by
  induction t with
  | nil => rfl
  | cons e t ih =>
    obtain ⟨k, w⟩ := e
    simp only [keysAbove, Bool.and_eq_true, decide_eq_true_eq] at h
    simp only [List.filter]
    split
    · simp [keysAbove, h.1, ih h.2]
    · exact ih h.2

/-- A table keeps its canonical form when an entry is set. -/
theorem tabWf_set (t : Tab α) (n : Nat) (v : α) (h : tabWf t = true) : tabWf (tabSet t n v) = true := by
  induction t with
  | nil => rfl
  | cons e t ih =>
    obtain ⟨k, w⟩ := e
    simp only [tabWf, Bool.and_eq_true] at h
    simp only [tabSet]
    split
    · subst_vars; simp [tabWf, h]
    · split
      · have : keysAbove n t = true := keysAbove_mono t h.1 (by omega)
        simp [tabWf, keysAbove, *]
      · have := keysAbove_set t k n v h.1 (by omega)
        simp [tabWf, this, ih h.2]

/-- A table keeps its canonical form when entries are removed. -/
theorem tabWf_filter (t : Tab α) (p : Nat × α → Bool) (h : tabWf t = true) : tabWf (t.filter p) = true := by
  induction t with
  | nil => rfl
  | cons e t ih =>
    obtain ⟨k, w⟩ := e
    simp only [tabWf, Bool.and_eq_true] at h
    simp only [List.filter]
    split
    · simp [tabWf, keysAbove_filter t p h.1, ih h.2]
    · exact ih h.2

/-- A memory keeps its canonical form when a byte is written. -/
theorem memWf_write (m : Mem) (a : Nat) (b : Byte) (h : memWf m = true) : memWf (memWrite m a b) = true := by
  simp only [memWf, Bool.and_eq_true] at h ⊢
  have all_set : ∀ (t : Mem) (n : Nat) (v : Byte), t.all (fun e => e.2 != 0) = true → (v != 0) = true →
      (tabSet t n v).all (fun e => e.2 != 0) = true := by
    intro t n v ht hv
    induction t with
    | nil => simpa [tabSet] using hv
    | cons e t ih =>
      obtain ⟨k, w⟩ := e
      simp only [List.all_cons, Bool.and_eq_true] at ht
      simp only [tabSet]
      split
      · simp only [List.all_cons, Bool.and_eq_true]; exact ⟨hv, ht.2⟩
      · split
        · simp only [List.all_cons, Bool.and_eq_true]; exact ⟨hv, ht⟩
        · simp only [List.all_cons, Bool.and_eq_true]; exact ⟨ht.1, ih ht.2⟩
  unfold memWrite tabPut
  split
  · refine ⟨tabWf_filter m _ h.1, ?_⟩
    rw [tabDel, List.all_filter]
    rw [List.all_eq_true] at h ⊢
    intro x hx
    simp only [Bool.or_eq_true]
    right
    exact h.2 x hx
  · rename_i hv
    exact ⟨tabWf_set m a b h.1, all_set m a b h.2 (by simpa using hv)⟩

theorem memWf_writeN (m : Mem) (a : Nat) (bs : Blob) (h : memWf m = true) : memWf (memWriteN m a bs) = true := by
  induction bs generalizing m a with
  | nil => exact h
  | cons b bs ih => exact ih _ _ (memWf_write m a b h)

theorem memWf_filter (m : Mem) (p : Nat × Byte → Bool) (h : memWf m = true) : memWf (m.filter p) = true := by
  simp only [memWf, Bool.and_eq_true] at h ⊢
  refine ⟨tabWf_filter m p h.1, ?_⟩
  rw [List.all_eq_true] at h ⊢
  intro x hx
  exact h.2 x (List.mem_of_mem_filter hx)

/-! ## Reading a memory back -/

@[simp] theorem memRead_write_same (m : Mem) (a : Nat) (b : Byte) : memRead (memWrite m a b) a = b := by
  simp [memRead, memWrite]

theorem memRead_write_other (m : Mem) {a c : Nat} (b : Byte) (h : c ≠ a) : memRead (memWrite m a b) c = memRead m c := by
  simp [memRead, memWrite, tabGet_put_other m _ _ _ h]

theorem memRead_writeN_below (m : Mem) {a c : Nat} (bs : Blob) (h : c < a) : memRead (memWriteN m a bs) c = memRead m c := by
  induction bs generalizing m a with
  | nil => rfl
  | cons b bs ih => rw [memWriteN, ih _ (by omega), memRead_write_other m b (by omega)]

theorem memRead_writeN_above (m : Mem) {a c : Nat} (bs : Blob) (h : a + bs.length ≤ c) :
    memRead (memWriteN m a bs) c = memRead m c := by
  induction bs generalizing m a with
  | nil => rfl
  | cons b bs ih =>
    simp only [List.length_cons] at h
    rw [memWriteN, ih _ (by omega), memRead_write_other m b (by omega)]

/-- Bytes read back as they were written. -/
theorem memReadN_writeN (m : Mem) (a : Nat) (bs : Blob) : memReadN (memWriteN m a bs) a bs.length = bs := by
  induction bs generalizing m a with
  | nil => rfl
  | cons b bs ih =>
    simp only [List.length_cons, memReadN, memWriteN]
    rw [memRead_writeN_below _ bs (Nat.lt_succ_self a), memRead_write_same, ih]

end Sys2Proof.Machine
end

