-- ==== Sys2Proof/Laws/Access.lean ====
section
/-! SUPPORT. What a write of the dictionary answers once its checks let it through, and what storing a value changes. -/

namespace Sys2Proof.Machine

variable {s : State} {p : Principal} {o i ty v : Nat} {b : Blob}

/-- A check that stops nothing changes nothing. -/
theorem checkWrite_passes (h : (s.checkWrite p o i ty b).2 = none) : s.checkWrite p o i ty b = (s, none) := by
  unfold State.checkWrite at h ⊢
  split at h
  · simp at h
  · repeat (split at h; · simp at h)
    rename_i h1 h2 h3 h4 h5
    rw [if_neg h1, if_neg h2, if_neg h3, if_neg h4, if_neg h5]

/-- A write is let through where no check stops it and the device's state bars none. -/
theorem accepts_of (h : (s.checkWrite p o i ty b).2 = none) (h' : s.bars o b = none) : Accepts s p o i ty b :=
  ⟨checkWrite_passes h, h'⟩

/-- A write that the checks let through does what the object's rules say; one that stored a blob starts a new generation. -/
theorem write_accepts (h : Accepts s p o i ty b) (f : State → State × Result) :
    s.write p o i ty b f =
      if ((f s).2 == .ok || (f s).2 == .partialRes) && (typeCode o == 14 || o == 0xB006 || o == 0xB007) then ((f s).1.bumpGen o i, (f s).2)
      else f s := by
  unfold State.write
  rw [h.1]
  simp only [State.guard, h.2]

/-- An answer other than BUSY carries no retry hint. -/
theorem answer_noHint (x : State × Result) (b : Blob) (h : x.2 ≠ .busy) : State.answer x b = { x.1 with reply := ⟨x.2, b, 0⟩ } := by
  simp [State.answer, State.retryHint, h]

/-- The same for a number. -/
theorem writeNum_accepts (h : AcceptsNum s p o i v) (hb : typeCode o ≠ 14) (h1 : o ≠ 0xB006) (h2 : o ≠ 0xB007)
    (f : Nat → State → State × Result) (hr : (f v s).2 ≠ .busy) :
    s.writeNumCmd p o i v f = { (f v s).1 with reply := ⟨(f v s).2, [], 0⟩ } := by
  unfold State.writeNumCmd
  rw [write_accepts h]
  simp [hb, h1, h2, answer_noHint _ _ hr]

/-- The same for a blob that is stored. -/
theorem writeBlob_accepts (h : AcceptsBlob s p o i b) (hb : typeCode o = 14) (f : Blob → State → State × Result)
    (hr : (f b s).2 = .ok) : s.writeBlobCmd p o i b f = { (f b s).1.bumpGen o i with reply := ⟨.ok, [], 0⟩ } := by
  unfold State.writeBlobCmd
  rw [write_accepts h]
  simp only [hb, hr, beq_self_eq_true, Bool.true_or, Bool.and_self, ↓reduceIte]
  exact answer_noHint _ _ (by simp)

/-- The same for a blob that the object's rules refuse. -/
theorem writeBlob_refused (h : AcceptsBlob s p o i b) (f : Blob → State → State × Result)
    (hr : (f b s).2 ≠ .ok) (hr' : (f b s).2 ≠ .partialRes) (hr'' : (f b s).2 ≠ .busy) :
    s.writeBlobCmd p o i b f = { (f b s).1 with reply := ⟨(f b s).2, [], 0⟩ } := by
  unfold State.writeBlobCmd
  rw [write_accepts h]
  simp [hr, hr', answer_noHint _ _ hr'']

@[simp] theorem cfg_setCfg_same (s : State) (o i v : Nat) : (s.setCfg o i v).cfg o i = v := by
  simp [State.cfg, State.setCfg]

theorem cfg_setCfg_other (s : State) {o i o' i' : Nat} (v : Nat) (h : objKey o' i' ≠ objKey o i) :
    (s.setCfg o i v).cfg o' i' = s.cfg o' i' := by
  simp [State.cfg, State.setCfg, tabGet_put_other _ _ _ _ h]

@[simp] theorem blb_setBlb_same (s : State) (o i : Nat) (b : Blob) : (s.setBlb o i b).blb o i = b := by
  simp [State.blb, State.setBlb]

theorem blb_setBlb_other (s : State) {o i o' i' : Nat} (b : Blob) (h : objKey o' i' ≠ objKey o i) :
    (s.setBlb o i b).blb o' i' = s.blb o' i' := by
  simp [State.blb, State.setBlb, tabGet_put_other _ _ _ _ h]

/-- Storing a written number gives it back on a read. -/
@[simp] theorem cfg_writeNum_same (s : State) (o i v : Nat) : (s.writeNum o i v).cfg o i = v := by
  unfold State.writeNum
  split
  · split
    · exact cfg_setCfg_same s o i v
    · exact cfg_setCfg_same s o i v
  · exact cfg_setCfg_same s o i v

/-- Storing a written blob gives it back on a read. -/
@[simp] theorem blb_writeBlob_same (s : State) (o i : Nat) (b : Blob) : (s.writeBlob o i b).blb o i = b := by
  unfold State.writeBlob
  split
  · split
    · exact blb_setBlb_same s o i b
    · exact blb_setBlb_same s o i b
  · exact blb_setBlb_same s o i b

end Sys2Proof.Machine
end

