-- ==== Sys2Proof/Laws/Exec.lean ====
section
/-! SUPPORT. What exec does with each command: the one meaning of its arm. -/

namespace Sys2Proof.Machine

theorem exec_opMov (h : Hdr) (rd ra : BitVec 5) (s : State) :
    exec (.opMov h rd ra) s = execOpMov h rd ra s := rfl
theorem exec_opAdd (h : Hdr) (rd ra rb : BitVec 5) (s : State) :
    exec (.opAdd h rd ra rb) s = execOpAdd h rd ra rb s := rfl
theorem exec_opSub (h : Hdr) (rd ra rb : BitVec 5) (s : State) :
    exec (.opSub h rd ra rb) s = execOpSub h rd ra rb s := rfl
theorem exec_opAddc (h : Hdr) (rd ra rb : BitVec 5) (s : State) :
    exec (.opAddc h rd ra rb) s = execOpAddc h rd ra rb s := rfl
theorem exec_opSubb (h : Hdr) (rd ra rb : BitVec 5) (s : State) :
    exec (.opSubb h rd ra rb) s = execOpSubb h rd ra rb s := rfl
theorem exec_opAnd (h : Hdr) (rd ra rb : BitVec 5) (s : State) :
    exec (.opAnd h rd ra rb) s = execOpAnd h rd ra rb s := rfl
theorem exec_opOr (h : Hdr) (rd ra rb : BitVec 5) (s : State) :
    exec (.opOr h rd ra rb) s = execOpOr h rd ra rb s := rfl
theorem exec_opXor (h : Hdr) (rd ra rb : BitVec 5) (s : State) :
    exec (.opXor h rd ra rb) s = execOpXor h rd ra rb s := rfl
theorem exec_opAndn (h : Hdr) (rd ra rb : BitVec 5) (s : State) :
    exec (.opAndn h rd ra rb) s = execOpAndn h rd ra rb s := rfl
theorem exec_opShl (h : Hdr) (rd ra rb : BitVec 5) (s : State) :
    exec (.opShl h rd ra rb) s = execOpShl h rd ra rb s := rfl
theorem exec_opShr (h : Hdr) (rd ra rb : BitVec 5) (s : State) :
    exec (.opShr h rd ra rb) s = execOpShr h rd ra rb s := rfl
theorem exec_opSar (h : Hdr) (rd ra rb : BitVec 5) (s : State) :
    exec (.opSar h rd ra rb) s = execOpSar h rd ra rb s := rfl
theorem exec_opRol (h : Hdr) (rd ra rb : BitVec 5) (s : State) :
    exec (.opRol h rd ra rb) s = execOpRol h rd ra rb s := rfl
theorem exec_opMul (h : Hdr) (rd ra rb : BitVec 5) (s : State) :
    exec (.opMul h rd ra rb) s = execOpMul h rd ra rb s := rfl
theorem exec_opMulhu (h : Hdr) (rd ra rb : BitVec 5) (s : State) :
    exec (.opMulhu h rd ra rb) s = execOpMulhu h rd ra rb s := rfl
theorem exec_opMin (h : Hdr) (rd ra rb : BitVec 5) (s : State) :
    exec (.opMin h rd ra rb) s = execOpMin h rd ra rb s := rfl
theorem exec_opMax (h : Hdr) (rd ra rb : BitVec 5) (s : State) :
    exec (.opMax h rd ra rb) s = execOpMax h rd ra rb s := rfl
theorem exec_opMinu (h : Hdr) (rd ra rb : BitVec 5) (s : State) :
    exec (.opMinu h rd ra rb) s = execOpMinu h rd ra rb s := rfl
theorem exec_opMaxu (h : Hdr) (rd ra rb : BitVec 5) (s : State) :
    exec (.opMaxu h rd ra rb) s = execOpMaxu h rd ra rb s := rfl
theorem exec_opPopc (h : Hdr) (rd ra : BitVec 5) (s : State) :
    exec (.opPopc h rd ra) s = execOpPopc h rd ra s := rfl
theorem exec_opClz (h : Hdr) (rd ra : BitVec 5) (s : State) :
    exec (.opClz h rd ra) s = execOpClz h rd ra s := rfl
theorem exec_opCmp (h : Hdr) (ra rb : BitVec 5) (s : State) :
    exec (.opCmp h ra rb) s = execOpCmp h ra rb s := rfl
theorem exec_opFsh (h : Hdr) (rd ra rb : BitVec 5) (n : BitVec 6) (s : State) :
    exec (.opFsh h rd ra rb n) s = execOpFsh h rd ra rb n s := rfl
theorem exec_opMovi (h : Hdr) (rd : BitVec 5) (imm : W40) (s : State) :
    exec (.opMovi h rd imm) s = execOpMovi h rd imm s := rfl
theorem exec_opMovu (h : Hdr) (rd : BitVec 5) (imm : BitVec 19) (s : State) :
    exec (.opMovu h rd imm) s = execOpMovu h rd imm s := rfl
theorem exec_opAddi (h : Hdr) (rd ra : BitVec 5) (imm : W40) (s : State) :
    exec (.opAddi h rd ra imm) s = execOpAddi h rd ra imm s := rfl
theorem exec_opAndi (h : Hdr) (rd ra : BitVec 5) (imm : BitVec 14) (s : State) :
    exec (.opAndi h rd ra imm) s = execOpAndi h rd ra imm s := rfl
theorem exec_opOri (h : Hdr) (rd ra : BitVec 5) (imm : BitVec 14) (s : State) :
    exec (.opOri h rd ra imm) s = execOpOri h rd ra imm s := rfl
theorem exec_opXori (h : Hdr) (rd ra : BitVec 5) (imm : BitVec 14) (s : State) :
    exec (.opXori h rd ra imm) s = execOpXori h rd ra imm s := rfl
theorem exec_opShli (h : Hdr) (rd ra : BitVec 5) (n : BitVec 6) (s : State) :
    exec (.opShli h rd ra n) s = execOpShli h rd ra n s := rfl
theorem exec_opShri (h : Hdr) (rd ra : BitVec 5) (n : BitVec 6) (s : State) :
    exec (.opShri h rd ra n) s = execOpShri h rd ra n s := rfl
theorem exec_opSari (h : Hdr) (rd ra : BitVec 5) (n : BitVec 6) (s : State) :
    exec (.opSari h rd ra n) s = execOpSari h rd ra n s := rfl
theorem exec_opRoli (h : Hdr) (rd ra : BitVec 5) (n : BitVec 6) (s : State) :
    exec (.opRoli h rd ra n) s = execOpRoli h rd ra n s := rfl
theorem exec_opCmpi (h : Hdr) (ra : BitVec 5) (imm : W40) (s : State) :
    exec (.opCmpi h ra imm) s = execOpCmpi h ra imm s := rfl
theorem exec_opExt (h : Hdr) (rd ra : BitVec 5) (pos lenM1 : BitVec 6) (s : State) :
    exec (.opExt h rd ra pos lenM1) s = execOpExt h rd ra pos lenM1 s := rfl
theorem exec_opExts (h : Hdr) (rd ra : BitVec 5) (pos lenM1 : BitVec 6) (s : State) :
    exec (.opExts h rd ra pos lenM1) s = execOpExts h rd ra pos lenM1 s := rfl
theorem exec_opDep (h : Hdr) (rd ra : BitVec 5) (pos lenM1 : BitVec 6) (s : State) :
    exec (.opDep h rd ra pos lenM1) s = execOpDep h rd ra pos lenM1 s := rfl
theorem exec_opBeq (h : Hdr) (ra rb : BitVec 5) (d : Addr) (s : State) :
    exec (.opBeq h ra rb d) s = execOpBeq h ra rb d s := rfl
theorem exec_opBne (h : Hdr) (ra rb : BitVec 5) (d : Addr) (s : State) :
    exec (.opBne h ra rb d) s = execOpBne h ra rb d s := rfl
theorem exec_opBlt (h : Hdr) (ra rb : BitVec 5) (d : Addr) (s : State) :
    exec (.opBlt h ra rb d) s = execOpBlt h ra rb d s := rfl
theorem exec_opBge (h : Hdr) (ra rb : BitVec 5) (d : Addr) (s : State) :
    exec (.opBge h ra rb d) s = execOpBge h ra rb d s := rfl
theorem exec_opBltu (h : Hdr) (ra rb : BitVec 5) (d : Addr) (s : State) :
    exec (.opBltu h ra rb d) s = execOpBltu h ra rb d s := rfl
theorem exec_opBgeu (h : Hdr) (ra rb : BitVec 5) (d : Addr) (s : State) :
    exec (.opBgeu h ra rb d) s = execOpBgeu h ra rb d s := rfl
theorem exec_opBeqz (h : Hdr) (ra : BitVec 5) (d : Addr) (s : State) :
    exec (.opBeqz h ra d) s = execOpBeqz h ra d s := rfl
theorem exec_opBnez (h : Hdr) (ra : BitVec 5) (d : Addr) (s : State) :
    exec (.opBnez h ra d) s = execOpBnez h ra d s := rfl
theorem exec_opBbs (h : Hdr) (ra : BitVec 5) (bit : BitVec 6) (d : Addr) (s : State) :
    exec (.opBbs h ra bit d) s = execOpBbs h ra bit d s := rfl
theorem exec_opBbc (h : Hdr) (ra : BitVec 5) (bit : BitVec 6) (d : Addr) (s : State) :
    exec (.opBbc h ra bit d) s = execOpBbc h ra bit d s := rfl
theorem exec_opBcc (h : Hdr) (cond : BitVec 5) (d : Addr) (s : State) :
    exec (.opBcc h cond d) s = execOpBcc h cond d s := rfl
theorem exec_opBr (h : Hdr) (d : Addr) (s : State) :
    exec (.opBr h d) s = execOpBr h d s := rfl
theorem exec_opCall (h : Hdr) (d : Addr) (s : State) :
    exec (.opCall h d) s = execOpCall h d s := rfl
theorem exec_opJr (h : Hdr) (ra : BitVec 5) (s : State) :
    exec (.opJr h ra) s = execOpJr h ra s := rfl
theorem exec_opCallr (h : Hdr) (ra : BitVec 5) (s : State) :
    exec (.opCallr h ra) s = execOpCallr h ra s := rfl
theorem exec_opRet (h : Hdr) (s : State) :
    exec (.opRet h) s = execOpRet h s := rfl
theorem exec_opLd8 (h : Hdr) (rd : BitVec 5) (m : AMode) (e : Ecc) (s : State) :
    exec (.opLd8 h rd m e) s = execOpLd8 h rd m e s := rfl
theorem exec_opLd8s (h : Hdr) (rd : BitVec 5) (m : AMode) (e : Ecc) (s : State) :
    exec (.opLd8s h rd m e) s = execOpLd8s h rd m e s := rfl
theorem exec_opLd16 (h : Hdr) (rd : BitVec 5) (m : AMode) (e : Ecc) (s : State) :
    exec (.opLd16 h rd m e) s = execOpLd16 h rd m e s := rfl
theorem exec_opLd16s (h : Hdr) (rd : BitVec 5) (m : AMode) (e : Ecc) (s : State) :
    exec (.opLd16s h rd m e) s = execOpLd16s h rd m e s := rfl
theorem exec_opLd32 (h : Hdr) (rd : BitVec 5) (m : AMode) (e : Ecc) (s : State) :
    exec (.opLd32 h rd m e) s = execOpLd32 h rd m e s := rfl
theorem exec_opLd32s (h : Hdr) (rd : BitVec 5) (m : AMode) (e : Ecc) (s : State) :
    exec (.opLd32s h rd m e) s = execOpLd32s h rd m e s := rfl
theorem exec_opLd40 (h : Hdr) (rd : BitVec 5) (m : AMode) (e : Ecc) (s : State) :
    exec (.opLd40 h rd m e) s = execOpLd40 h rd m e s := rfl
theorem exec_opSt8 (h : Hdr) (rs : BitVec 5) (m : AMode) (s : State) :
    exec (.opSt8 h rs m) s = execOpSt8 h rs m s := rfl
theorem exec_opSt16 (h : Hdr) (rs : BitVec 5) (m : AMode) (s : State) :
    exec (.opSt16 h rs m) s = execOpSt16 h rs m s := rfl
theorem exec_opSt32 (h : Hdr) (rs : BitVec 5) (m : AMode) (s : State) :
    exec (.opSt32 h rs m) s = execOpSt32 h rs m s := rfl
theorem exec_opSt40 (h : Hdr) (rs : BitVec 5) (m : AMode) (s : State) :
    exec (.opSt40 h rs m) s = execOpSt40 h rs m s := rfl
theorem exec_opMova (h : Hdr) (an : BitVec 2) (ra : BitVec 5) (s : State) :
    exec (.opMova h an ra) s = execOpMova h an ra s := rfl
theorem exec_opMovm (h : Hdr) (mn : BitVec 2) (ra : BitVec 5) (s : State) :
    exec (.opMovm h mn ra) s = execOpMovm h mn ra s := rfl
theorem exec_opRda (h : Hdr) (rd : BitVec 5) (an : BitVec 2) (s : State) :
    exec (.opRda h rd an) s = execOpRda h rd an s := rfl
theorem exec_opRdm (h : Hdr) (rd : BitVec 5) (mn : BitVec 2) (s : State) :
    exec (.opRdm h rd mn) s = execOpRdm h rd mn s := rfl
theorem exec_opAdda (h : Hdr) (an : BitVec 2) (rb : BitVec 5) (s : State) :
    exec (.opAdda h an rb) s = execOpAdda h an rb s := rfl
theorem exec_opMtl (h : Hdr) (r : LReg) (ra : BitVec 5) (s : State) :
    exec (.opMtl h r ra) s = execOpMtl h r ra s := rfl
theorem exec_opMfl (h : Hdr) (rd : BitVec 5) (r : LReg) (s : State) :
    exec (.opMfl h rd r) s = execOpMfl h rd r s := rfl
theorem exec_opLoop (h : Hdr) (lv : BitVec 2) (rs : BitVec 5) (last : BitVec 17) (s : State) :
    exec (.opLoop h lv rs last) s = execOpLoop h lv rs last s := rfl
theorem exec_opLoopi (h : Hdr) (lv : BitVec 2) (count : BitVec 10) (last : BitVec 12) (s : State) :
    exec (.opLoopi h lv count last) s = execOpLoopi h lv count last s := rfl
theorem exec_opDand (h : Hdr) (rd ra rb : BitVec 5) (s : State) :
    exec (.opDand h rd ra rb) s = execOpDand h rd ra rb s := rfl
theorem exec_opDor (h : Hdr) (rd ra rb : BitVec 5) (s : State) :
    exec (.opDor h rd ra rb) s = execOpDor h rd ra rb s := rfl
theorem exec_opDxor (h : Hdr) (rd ra rb : BitVec 5) (s : State) :
    exec (.opDxor h rd ra rb) s = execOpDxor h rd ra rb s := rfl
theorem exec_opDnot (h : Hdr) (rd ra : BitVec 5) (s : State) :
    exec (.opDnot h rd ra) s = execOpDnot h rd ra s := rfl
theorem exec_opDres (h : Hdr) (rd ra rb : BitVec 5) (s : State) :
    exec (.opDres h rd ra rb) s = execOpDres h rd ra rb s := rfl
theorem exec_opXcnt (h : Hdr) (rd ra : BitVec 5) (s : State) :
    exec (.opXcnt h rd ra) s = execOpXcnt h rd ra s := rfl
theorem exec_opDadj (h : Hdr) (rd ra rb : BitVec 5) (s : State) :
    exec (.opDadj h rd ra rb) s = execOpDadj h rd ra rb s := rfl
theorem exec_opText (h : Hdr) (rd ra : BitVec 5) (k : BitVec 2) (s : State) :
    exec (.opText h rd ra k) s = execOpText h rd ra k s := rfl
theorem exec_opTins (h : Hdr) (rd ra : BitVec 5) (k : BitVec 2) (s : State) :
    exec (.opTins h rd ra k) s = execOpTins h rd ra k s := rfl
theorem exec_opTexp (h : Hdr) (rd ra : BitVec 5) (k : BitVec 2) (s : State) :
    exec (.opTexp h rd ra k) s = execOpTexp h rd ra k s := rfl
theorem exec_opTcmp (h : Hdr) (rd ra : BitVec 5) (k : BitVec 2) (s : State) :
    exec (.opTcmp h rd ra k) s = execOpTcmp h rd ra k s := rfl
theorem exec_opMth (h : Hdr) (hn : BitVec 4) (ra : BitVec 5) (s : State) :
    exec (.opMth h hn ra) s = execOpMth h hn ra s := rfl
theorem exec_opMfh (h : Hdr) (rd : BitVec 5) (hn : BitVec 4) (s : State) :
    exec (.opMfh h rd hn) s = execOpMfh h rd hn s := rfl
theorem exec_opHwait (h : Hdr) (hb : BitVec 4) (n : BitVec 3) (s : State) :
    exec (.opHwait h hb n) s = execOpHwait h hb n s := rfl
theorem exec_opYield (h : Hdr) (s : State) :
    exec (.opYield h) s = execOpYield h s := rfl
theorem exec_opSwait (h : Hdr) (ra : BitVec 5) (s : State) :
    exec (.opSwait h ra) s = execOpSwait h ra s := rfl
theorem exec_opWfe (h : Hdr) (s : State) :
    exec (.opWfe h) s = execOpWfe h s := rfl
theorem exec_opPrio (h : Hdr) (n : BitVec 2) (s : State) :
    exec (.opPrio h n) s = execOpPrio h n s := rfl
theorem exec_opEnd (h : Hdr) (s : State) :
    exec (.opEnd h) s = execOpEnd h s := rfl
theorem exec_opRdtime (h : Hdr) (rd : BitVec 5) (s : State) :
    exec (.opRdtime h rd) s = execOpRdtime h rd s := rfl
theorem exec_opNop (h : Hdr) (s : State) :
    exec (.opNop h) s = execOpNop h s := rfl
theorem exec_opRdcr (h : Hdr) (rd n : BitVec 5) (s : State) :
    exec (.opRdcr h rd n) s = execOpRdcr h rd n s := rfl
theorem exec_opWrcr (h : Hdr) (n ra : BitVec 5) (s : State) :
    exec (.opWrcr h n ra) s = execOpWrcr h n ra s := rfl
theorem exec_opRett (h : Hdr) (s : State) :
    exec (.opRett h) s = execOpRett h s := rfl
theorem exec_opLsbot (h : Hdr) (rd : BitVec 5) (s : State) :
    exec (.opLsbot h rd) s = execOpLsbot h rd s := rfl
theorem exec_opLsins (h : Hdr) (ra : BitVec 5) (s : State) :
    exec (.opLsins h ra) s = execOpLsins h ra s := rfl
theorem exec_opLkpTrie (h : Hdr) (x : HArgs) (e : Ecc) (s : State) :
    exec (.opLkpTrie h x e) s = execOpLkpTrie h x e s := rfl
theorem exec_opLkpLearnLookup (h : Hdr) (x : HArgs) (e : Ecc) (s : State) :
    exec (.opLkpLearnLookup h x e) s = execOpLkpLearnLookup h x e s := rfl
theorem exec_opLkpLearn (h : Hdr) (x : HArgs) (e : Ecc) (s : State) :
    exec (.opLkpLearn h x e) s = execOpLkpLearn h x e s := rfl
theorem exec_opLkpGroup (h : Hdr) (x : HArgs) (s : State) :
    exec (.opLkpGroup h x) s = execOpLkpGroup h x s := rfl
theorem exec_opLkpFragRead (h : Hdr) (x : HArgs) (s : State) :
    exec (.opLkpFragRead h x) s = execOpLkpFragRead h x s := rfl
theorem exec_opLkpFragWrite (h : Hdr) (x : HArgs) (s : State) :
    exec (.opLkpFragWrite h x) s = execOpLkpFragWrite h x s := rfl
theorem exec_opXchQuery (h : Hdr) (x : HArgs) (s : State) :
    exec (.opXchQuery h x) s = execOpXchQuery h x s := rfl
theorem exec_opXchState (h : Hdr) (x : HArgs) (s : State) :
    exec (.opXchState h x) s = execOpXchState h x s := rfl
theorem exec_opBufAlloc (h : Hdr) (x : HArgs) (s : State) :
    exec (.opBufAlloc h x) s = execOpBufAlloc h x s := rfl
theorem exec_opBufFree (h : Hdr) (x : HArgs) (s : State) :
    exec (.opBufFree h x) s = execOpBufFree h x s := rfl
theorem exec_opBufRef (h : Hdr) (x : HArgs) (s : State) :
    exec (.opBufRef h x) s = execOpBufRef h x s := rfl
theorem exec_opBufRead (h : Hdr) (x : HArgs) (s : State) :
    exec (.opBufRead h x) s = execOpBufRead h x s := rfl
theorem exec_opBufWrite (h : Hdr) (x : HArgs) (s : State) :
    exec (.opBufWrite h x) s = execOpBufWrite h x s := rfl
theorem exec_opOrdRelease (h : Hdr) (x : HArgs) (s : State) :
    exec (.opOrdRelease h x) s = execOpOrdRelease h x s := rfl
theorem exec_opOrdDrop (h : Hdr) (x : HArgs) (s : State) :
    exec (.opOrdDrop h x) s = execOpOrdDrop h x s := rfl
theorem exec_opOrdToken (h : Hdr) (x : HArgs) (s : State) :
    exec (.opOrdToken h x) s = execOpOrdToken h x s := rfl
theorem exec_opCrcWin (h : Hdr) (x : HArgs) (e : Ecc) (s : State) :
    exec (.opCrcWin h x e) s = execOpCrcWin h x e s := rfl
theorem exec_opCrcReg (h : Hdr) (x : HArgs) (s : State) :
    exec (.opCrcReg h x) s = execOpCrcReg h x s := rfl
theorem exec_opAtmLock (h : Hdr) (x : HArgs) (s : State) :
    exec (.opAtmLock h x) s = execOpAtmLock h x s := rfl
theorem exec_opAtmUnlock (h : Hdr) (x : HArgs) (s : State) :
    exec (.opAtmUnlock h x) s = execOpAtmUnlock h x s := rfl
theorem exec_opAtmAdd (h : Hdr) (x : HArgs) (s : State) :
    exec (.opAtmAdd h x) s = execOpAtmAdd h x s := rfl
theorem exec_opAtmSwap (h : Hdr) (x : HArgs) (s : State) :
    exec (.opAtmSwap h x) s = execOpAtmSwap h x s := rfl
theorem exec_opAtmCas (h : Hdr) (x : HArgs) (s : State) :
    exec (.opAtmCas h x) s = execOpAtmCas h x s := rfl
theorem exec_opSqdLd (h : Hdr) (x : HArgs) (e : Ecc) (s : State) :
    exec (.opSqdLd h x e) s = execOpSqdLd h x e s := rfl
theorem exec_opSqdSt (h : Hdr) (x : HArgs) (e : Ecc) (s : State) :
    exec (.opSqdSt h x e) s = execOpSqdSt h x e s := rfl
theorem exec_opSqdAdd (h : Hdr) (x : HArgs) (e : Ecc) (s : State) :
    exec (.opSqdAdd h x e) s = execOpSqdAdd h x e s := rfl
theorem exec_opSqdCas (h : Hdr) (x : HArgs) (e : Ecc) (s : State) :
    exec (.opSqdCas h x e) s = execOpSqdCas h x e s := rfl
theorem exec_opRdpr (h : Hdr) (rd n : BitVec 5) (s : State) :
    exec (.opRdpr h rd n) s = execOpRdpr h rd n s := rfl
theorem exec_opWrpr (h : Hdr) (n ra : BitVec 5) (s : State) :
    exec (.opWrpr h n ra) s = execOpWrpr h n ra s := rfl
theorem exec_opWdkick (h : Hdr) (ra : BitVec 5) (s : State) :
    exec (.opWdkick h ra) s = execOpWdkick h ra s := rfl
theorem exec_opPeerrst (h : Hdr) (ra : BitVec 5) (s : State) :
    exec (.opPeerrst h ra) s = execOpPeerrst h ra s := rfl
theorem exec_opRfe (h : Hdr) (s : State) :
    exec (.opRfe h) s = execOpRfe h s := rfl
theorem exec_opWqtake (h : Hdr) (rd : BitVec 5) (s : State) :
    exec (.opWqtake h rd) s = execOpWqtake h rd s := rfl
theorem exec_opWqdone (h : Hdr) (ra : BitVec 5) (s : State) :
    exec (.opWqdone h ra) s = execOpWqdone h ra s := rfl
theorem exec_opTstart (h : Hdr) (rd ra rb : BitVec 5) (s : State) :
    exec (.opTstart h rd ra rb) s = execOpTstart h rd ra rb s := rfl
theorem exec_opCinv (h : Hdr) (ra rb : BitVec 5) (s : State) :
    exec (.opCinv h ra rb) s = execOpCinv h ra rb s := rfl
theorem exec_opCwb (h : Hdr) (ra rb : BitVec 5) (s : State) :
    exec (.opCwb h ra rb) s = execOpCwb h ra rb s := rfl
theorem exec_opIlock (h : Hdr) (ra rb : BitVec 5) (s : State) :
    exec (.opIlock h ra rb) s = execOpIlock h ra rb s := rfl
theorem exec_opSvc (h : Hdr) (n : BitVec 14) (s : State) :
    exec (.opSvc h n) s = execOpSvc h n s := rfl
theorem exec_registerWrite (p : Principal) (o i ty : Nat) (b : Blob) (s : State) :
    exec (.registerWrite p o i ty b) s = execRegisterWrite p o i ty b s := rfl
theorem exec_powerOn (bib grade : Nat) (dieIds : Blob) (s : State) :
    exec (.powerOn bib grade dieIds) s = execPowerOn bib grade dieIds s := rfl
theorem exec_resetNEdge (lowNs : Nat) (straps : BitVec 8) (s : State) :
    exec (.resetNEdge lowNs straps) s = execResetNEdge lowNs straps s := rfl
theorem exec_pllLockTimeout (s : State) :
    exec (.pllLockTimeout) s = execPllLockTimeout s := rfl
theorem exec_deviceReset (c : ResetCause) (s : State) :
    exec (.deviceReset c) s = execDeviceReset c s := rfl
theorem exec_firmwareVerified (slot : Nat) (good : Bool) (dram : List Bool) (s : State) :
    exec (.firmwareVerified slot good dram) s = execFirmwareVerified slot good dram s := rfl
theorem exec_persistStore (s : State) :
    exec (.persistStore) s = execPersistStore s := rfl
theorem exec_timeTick (s : State) :
    exec (.timeTick) s = execTimeTick s := rfl
theorem exec_lapBoundary (s : State) :
    exec (.lapBoundary) s = execLapBoundary s := rfl
theorem exec_splitBoundary (port : Nat) (s : State) :
    exec (.splitBoundary port) s = execSplitBoundary port s := rfl
theorem exec_missedLaunch (q : Nat) (s : State) :
    exec (.missedLaunch q) s = execMissedLaunch q s := rfl
theorem exec_announceTick (s : State) :
    exec (.announceTick) s = execAnnounceTick s := rfl
theorem exec_anchorTakeover (s : State) :
    exec (.anchorTakeover) s = execAnchorTakeover s := rfl
theorem exec_announceAgeout (s : State) :
    exec (.announceAgeout) s = execAnnounceAgeout s := rfl
theorem exec_syncTick (port : Nat) (s : State) :
    exec (.syncTick port) s = execSyncTick port s := rfl
theorem exec_offTheMarkEntry (s : State) :
    exec (.offTheMarkEntry) s = execOffTheMarkEntry s := rfl
theorem exec_ppsEdge (fine : Nat) (s : State) :
    exec (.ppsEdge fine) s = execPpsEdge fine s := rfl
theorem exec_ppsTimeout (s : State) :
    exec (.ppsTimeout) s = execPpsTimeout s := rfl
theorem exec_ptpMessageReceive (s : State) :
    exec (.ptpMessageReceive) s = execPtpMessageReceive s := rfl
theorem exec_ppsOutRise (s : State) :
    exec (.ppsOutRise) s = execPpsOutRise s := rfl
theorem exec_ppsOutFall (s : State) :
    exec (.ppsOutFall) s = execPpsOutFall s := rfl
theorem exec_gunTimeStep (p : Principal) (v : Nat) (s : State) :
    exec (.gunTimeStep p v) s = execGunTimeStep p v s := rfl
theorem exec_anchorRank (p : Principal) (v : Nat) (s : State) :
    exec (.anchorRank p v) s = execAnchorRank p v s := rfl
theorem exec_lapLengthPending (p : Principal) (v : Nat) (s : State) :
    exec (.lapLengthPending p v) s = execLapLengthPending p v s := rfl
theorem exec_swapLap (p : Principal) (v : Nat) (s : State) :
    exec (.swapLap p v) s = execSwapLap p v s := rfl
theorem exec_gateListPending (p : Principal) (i : Nat) (b : Blob) (s : State) :
    exec (.gateListPending p i b) s = execGateListPending p i b s := rfl
theorem exec_rxWindowsPending (p : Principal) (i : Nat) (b : Blob) (s : State) :
    exec (.rxWindowsPending p i b) s = execRxWindowsPending p i b s := rfl
theorem exec_sleepEntry (port : Nat) (s : State) :
    exec (.sleepEntry port) s = execSleepEntry port s := rfl
theorem exec_preWake (port : Nat) (s : State) :
    exec (.preWake port) s = execPreWake port s := rfl
theorem exec_wakeGrant (s : State) :
    exec (.wakeGrant) s = execWakeGrant s := rfl
theorem exec_rampEnd (s : State) :
    exec (.rampEnd) s = execRampEnd s := rfl
theorem exec_laneWakeComplete (port : Nat) (s : State) :
    exec (.laneWakeComplete port) s = execLaneWakeComplete port s := rfl
theorem exec_frameArrival (port sub : Nat) (b : Blob) (flits fine : Nat) (s : State) :
    exec (.frameArrival port sub b flits fine) s = execFrameArrival port sub b flits fine s := rfl
theorem exec_frameEnd (port sub : Nat) (k : EndKind) (s : State) :
    exec (.frameEnd port sub k) s = execFrameEnd port sub k s := rfl
theorem exec_codewordReceive (port header errs : Nat) (s : State) :
    exec (.codewordReceive port header errs) s = execCodewordReceive port header errs s := rfl
theorem exec_lossOfSignal (port lane : Nat) (s : State) :
    exec (.lossOfSignal port lane) s = execLossOfSignal port lane s := rfl
theorem exec_noValidUnitTimeout (port : Nat) (s : State) :
    exec (.noValidUnitTimeout port) s = execNoValidUnitTimeout port s := rfl
theorem exec_holdTimeExpiry (port cls : Nat) (s : State) :
    exec (.holdTimeExpiry port cls) s = execHoldTimeExpiry port cls s := rfl
theorem exec_signalDetect (port : Nat) (lanes : BitVec 16) (s : State) :
    exec (.signalDetect port lanes) s = execSignalDetect port lanes s := rfl
theorem exec_trainTimeout (port : Nat) (s : State) :
    exec (.trainTimeout port) s = execTrainTimeout port s := rfl
theorem exec_trainComplete (port : Nat) (polarity : BitVec 16) (reversed : Bool) (s : State) :
    exec (.trainComplete port polarity reversed) s = execTrainComplete port polarity reversed s := rfl
theorem exec_alignComplete (port : Nat) (failRx failTx : BitVec 16) (s : State) :
    exec (.alignComplete port failRx failTx) s = execAlignComplete port failRx failTx s := rfl
theorem exec_capabilityExchange (port : Nat) (c : Capability) (s : State) :
    exec (.capabilityExchange port c) s = execCapabilityExchange port c s := rfl
theorem exec_portEnable (p : Principal) (i v : Nat) (s : State) :
    exec (.portEnable p i v) s = execPortEnable p i v s := rfl
theorem exec_expectedBib (p : Principal) (i v : Nat) (s : State) :
    exec (.expectedBib p i v) s = execExpectedBib p i v s := rfl
theorem exec_creditInit (p : Principal) (i v : Nat) (s : State) :
    exec (.creditInit p i v) s = execCreditInit p i v s := rfl
theorem exec_controlFlitSend (port : Nat) (s : State) :
    exec (.controlFlitSend port) s = execControlFlitSend port s := rfl
theorem exec_creditTick (port : Nat) (s : State) :
    exec (.creditTick port) s = execCreditTick port s := rfl
theorem exec_idle (port : Nat) (flit : Blob) (s : State) :
    exec (.idle port flit) s = execIdle port flit s := rfl
theorem exec_credit (port : Nat) (flit : Blob) (s : State) :
    exec (.credit port flit) s = execCredit port flit s := rfl
theorem exec_announce (port : Nat) (flit : Blob) (s : State) :
    exec (.announce port flit) s = execAnnounce port flit s := rfl
theorem exec_sync (port : Nat) (flit : Blob) (fine : Nat) (s : State) :
    exec (.sync port flit fine) s = execSync port flit fine s := rfl
theorem exec_reply (port : Nat) (flit : Blob) (fine : Nat) (s : State) :
    exec (.reply port flit fine) s = execReply port flit fine s := rfl
theorem exec_lapMarker (port : Nat) (flit : Blob) (s : State) :
    exec (.lapMarker port flit) s = execLapMarker port flit s := rfl
theorem exec_missedSlab (port : Nat) (flit : Blob) (s : State) :
    exec (.missedSlab port flit) s = execMissedSlab port flit s := rfl
theorem exec_sleep (port : Nat) (flit : Blob) (s : State) :
    exec (.sleep port flit) s = execSleep port flit s := rfl
theorem exec_abort (port : Nat) (flit : Blob) (s : State) :
    exec (.abort port flit) s = execAbort port flit s := rfl
theorem exec_linkRetrainRequest (port : Nat) (flit : Blob) (s : State) :
    exec (.linkRetrainRequest port flit) s = execLinkRetrainRequest port flit s := rfl
theorem exec_linkFallbackRequest (port : Nat) (flit : Blob) (s : State) :
    exec (.linkFallbackRequest port flit) s = execLinkFallbackRequest port flit s := rfl
theorem exec_pfcReceive (port : Nat) (mask : BitVec 8) (durations : List Nat) (s : State) :
    exec (.pfcReceive port mask durations) s = execPfcReceive port mask durations s := rfl
theorem exec_pauseReceive (port duration : Nat) (s : State) :
    exec (.pauseReceive port duration) s = execPauseReceive port duration s := rfl
theorem exec_pauseExpiry (port prio : Nat) (s : State) :
    exec (.pauseExpiry port prio) s = execPauseExpiry port prio s := rfl
theorem exec_parseWalk (fid : Nat) (e : Ecc) (s : State) :
    exec (.parseWalk fid e) s = execParseWalk fid e s := rfl
theorem exec_cardWrite (fid : Nat) (s : State) :
    exec (.cardWrite fid) s = execCardWrite fid s := rfl
theorem exec_fragHoldExpiry (fid : Nat) (s : State) :
    exec (.fragHoldExpiry fid) s = execFragHoldExpiry fid s := rfl
theorem exec_fragEntryExpiry (n : Nat) (s : State) :
    exec (.fragEntryExpiry n) s = execFragEntryExpiry n s := rfl
theorem exec_runStart (tid : Nat) (e : Ecc) (s : State) :
    exec (.runStart tid e) s = execRunStart tid e s := rfl
theorem exec_dropCardRun (tid : Nat) (s : State) :
    exec (.dropCardRun tid) s = execDropCardRun tid s := rfl
theorem exec_graphCommit (p : Principal) (v : Nat) (s : State) :
    exec (.graphCommit p v) s = execGraphCommit p v s := rfl
theorem exec_parseGraphPending (p : Principal) (b : Blob) (s : State) :
    exec (.parseGraphPending p b) s = execParseGraphPending p b s := rfl
theorem exec_startType (p : Principal) (i v : Nat) (s : State) :
    exec (.startType p i v) s = execStartType p i v s := rfl
theorem exec_odBlock (p : Principal) (i v : Nat) (s : State) :
    exec (.odBlock p i v) s = execOdBlock p i v s := rfl
theorem exec_maskSet (p : Principal) (i : Nat) (b : Blob) (s : State) :
    exec (.maskSet p i b) s = execMaskSet p i b s := rfl
theorem exec_ruleBatch (p : Principal) (b : Blob) (s : State) :
    exec (.ruleBatch p b) s = execRuleBatch p b s := rfl
theorem exec_edit (p : Principal) (i : Nat) (b : Blob) (s : State) :
    exec (.edit p i b) s = execEdit p i b s := rfl
theorem exec_hashTestSeed (p : Principal) (b : Blob) (s : State) :
    exec (.hashTestSeed p b) s = execHashTestSeed p b s := rfl
theorem exec_bankMap (p : Principal) (b : Blob) (s : State) :
    exec (.bankMap p b) s = execBankMap p b s := rfl
theorem exec_trieLoad (p : Principal) (i : Nat) (b : Blob) (s : State) :
    exec (.trieLoad p i b) s = execTrieLoad p i b s := rfl
theorem exec_trieBatch (p : Principal) (b : Blob) (s : State) :
    exec (.trieBatch p b) s = execTrieBatch p b s := rfl
theorem exec_trieFlip (s : State) :
    exec (.trieFlip) s = execTrieFlip s := rfl
theorem exec_nodeFree (s : State) :
    exec (.nodeFree) s = execNodeFree s := rfl
theorem exec_learnStatic (p : Principal) (b : Blob) (s : State) :
    exec (.learnStatic p b) s = execLearnStatic p b s := rfl
theorem exec_learnFlush (p : Principal) (i v : Nat) (s : State) :
    exec (.learnFlush p i v) s = execLearnFlush p i v s := rfl
theorem exec_ageingVisit (s : State) :
    exec (.ageingVisit) s = execAgeingVisit s := rfl
theorem exec_group (p : Principal) (i : Nat) (b : Blob) (s : State) :
    exec (.group p i b) s = execGroup p i b s := rfl
theorem exec_reseedLap (p : Principal) (v : Nat) (s : State) :
    exec (.reseedLap p v) s = execReseedLap p v s := rfl
theorem exec_polarWindowEnd (s : State) :
    exec (.polarWindowEnd) s = execPolarWindowEnd s := rfl
theorem exec_auditCompare (tbl : ShadowTable) (n : Nat) (e : Ecc) (differs poisoned : Bool) (s : State) :
    exec (.auditCompare tbl n e differs poisoned) s = execAuditCompare tbl n e differs poisoned s := rfl
theorem exec_tableEntryRestore (tbl : ShadowTable) (n : Nat) (poisoned : Bool) (s : State) :
    exec (.tableEntryRestore tbl n poisoned) s = execTableEntryRestore tbl n poisoned s := rfl
theorem exec_relaySetPending (p : Principal) (i : Nat) (b : Blob) (s : State) :
    exec (.relaySetPending p i b) s = execRelaySetPending p i b s := rfl
theorem exec_shellIssue (t lap lane k : Nat) (s : State) :
    exec (.shellIssue t lap lane k) s = execShellIssue t lap lane k s := rfl
theorem exec_buildStart (u : Nat) (s : State) :
    exec (.buildStart u) s = execBuildStart u s := rfl
theorem exec_buildComplete (u : Nat) (s : State) :
    exec (.buildComplete u) s = execBuildComplete u s := rfl
theorem exec_streamUnderrun (port : Nat) (s : State) :
    exec (.streamUnderrun port) s = execStreamUnderrun port s := rfl
theorem exec_exchangeDeadline (port win lap : Nat) (s : State) :
    exec (.exchangeDeadline port win lap) s = execExchangeDeadline port win lap s := rfl
theorem exec_threadFree (tid : Nat) (s : State) :
    exec (.threadFree tid) s = execThreadFree tid s := rfl
theorem exec_helperResult (core : CoreRef) (tag : Nat) (s : State) :
    exec (.helperResult core tag) s = execHelperResult core tag s := rfl
theorem exec_stopwatchExpiry (tid : Nat) (s : State) :
    exec (.stopwatchExpiry tid) s = execStopwatchExpiry tid s := rfl
theorem exec_tokenTimeout (tid : Nat) (s : State) :
    exec (.tokenTimeout tid) s = execTokenTimeout tid s := rfl
theorem exec_localStoreRewrite (sq idx addr : Nat) (s : State) :
    exec (.localStoreRewrite sq idx addr) s = execLocalStoreRewrite sq idx addr s := rfl
theorem exec_imagePending (p : Principal) (i : Nat) (b : Blob) (s : State) :
    exec (.imagePending p i b) s = execImagePending p i b s := rfl
theorem exec_imageCommit (p : Principal) (v : Nat) (s : State) :
    exec (.imageCommit p v) s = execImageCommit p v s := rfl
theorem exec_drainComplete (sq : Nat) (s : State) :
    exec (.drainComplete sq) s = execDrainComplete sq s := rfl
theorem exec_drainLimitExpiry (sq : Nat) (s : State) :
    exec (.drainLimitExpiry sq) s = execDrainLimitExpiry sq s := rfl
theorem exec_initTimeout (sq : Nat) (s : State) :
    exec (.initTimeout sq) s = execInitTimeout sq s := rfl
theorem exec_squadFreq (p : Principal) (i v : Nat) (s : State) :
    exec (.squadFreq p i v) s = execSquadFreq p i v s := rfl
theorem exec_squadFreqChangeComplete (sq : Nat) (s : State) :
    exec (.squadFreqChangeComplete sq) s = execSquadFreqChangeComplete sq s := rfl
theorem exec_squadMode (p : Principal) (i v : Nat) (s : State) :
    exec (.squadMode p i v) s = execSquadMode p i v s := rfl
theorem exec_squadWakeComplete (sq : Nat) (s : State) :
    exec (.squadWakeComplete sq) s = execSquadWakeComplete sq s := rfl
theorem exec_squadEvent (p : Principal) (i v : Nat) (s : State) :
    exec (.squadEvent p i v) s = execSquadEvent p i v s := rfl
theorem exec_handover (od : Nat) (s : State) :
    exec (.handover od) s = execHandover od s := rfl
theorem exec_egressSelection (port sub : Nat) (s : State) :
    exec (.egressSelection port sub) s = execEgressSelection port sub s := rfl
theorem exec_frameLaunch (port sub : Nat) (s : State) :
    exec (.frameLaunch port sub) s = execFrameLaunch port sub s := rfl
theorem exec_frameTransmitEnd (port sub : Nat) (e : Ecc) (s : State) :
    exec (.frameTransmitEnd port sub e) s = execFrameTransmitEnd port sub e s := rfl
theorem exec_openHalfExpiry (part grp : Nat) (s : State) :
    exec (.openHalfExpiry part grp) s = execOpenHalfExpiry part grp s := rfl
theorem exec_pacerRefill (s : State) :
    exec (.pacerRefill) s = execPacerRefill s := rfl
theorem exec_partitionSizes (p : Principal) (b : Blob) (s : State) :
    exec (.partitionSizes p b) s = execPartitionSizes p b s := rfl
theorem exec_queueDesc (p : Principal) (i : Nat) (b : Blob) (s : State) :
    exec (.queueDesc p i b) s = execQueueDesc p i b s := rfl
theorem exec_queueBlock (p : Principal) (i v : Nat) (s : State) :
    exec (.queueBlock p i v) s = execQueueBlock p i v s := rfl
theorem exec_queueRing (p : Principal) (i : Nat) (b : Blob) (s : State) :
    exec (.queueRing p i b) s = execQueueRing p i b s := rfl
theorem exec_queuePacer (p : Principal) (i : Nat) (b : Blob) (s : State) :
    exec (.queuePacer p i b) s = execQueuePacer p i b s := rfl
theorem exec_tenantPacer (p : Principal) (i : Nat) (b : Blob) (s : State) :
    exec (.tenantPacer p i b) s = execTenantPacer p i b s := rfl
theorem exec_marshal (p : Principal) (i : Nat) (b : Blob) (s : State) :
    exec (.marshal p i b) s = execMarshal p i b s := rfl
theorem exec_hostReserve (p : Principal) (i v : Nat) (s : State) :
    exec (.hostReserve p i v) s = execHostReserve p i v s := rfl
theorem exec_doorbellWrite (function off : Nat) (v : BitVec 64) (descs : List Blob) (s : State) :
    exec (.doorbellWrite function off v descs) s = execDoorbellWrite function off v descs s := rfl
theorem exec_txDescriptorFetch (q : Nat) (reads : List (Blob × Bool)) (s : State) :
    exec (.txDescriptorFetch q reads) s = execTxDescriptorFetch q reads s := rfl
theorem exec_rxDmaDelivery (q : Nat) (s : State) :
    exec (.rxDmaDelivery q) s = execRxDmaDelivery q s := rfl
theorem exec_msixModerationExpiry (q : Nat) (s : State) :
    exec (.msixModerationExpiry q) s = execMsixModerationExpiry q s := rfl
theorem exec_bar2Access (off len : Nat) (wr : Option Blob) (s : State) :
    exec (.bar2Access off len wr) s = execBar2Access off len wr s := rfl
theorem exec_pcieFlr (function : Nat) (s : State) :
    exec (.pcieFlr function) s = execPcieFlr function s := rfl
theorem exec_pcieReset (fundamental : Bool) (s : State) :
    exec (.pcieReset fundamental) s = execPcieReset fundamental s := rfl
theorem exec_lockRegisterRead (function l : Nat) (s : State) :
    exec (.lockRegisterRead function l) s = execLockRegisterRead function l s := rfl
theorem exec_lockRegisterWrite (function l : Nat) (s : State) :
    exec (.lockRegisterWrite function l) s = execLockRegisterWrite function l s := rfl
theorem exec_lockAttempt (p : Principal) (l : Nat) (s : State) :
    exec (.lockAttempt p l) s = execLockAttempt p l s := rfl
theorem exec_lockUnlock (p : Principal) (l : Nat) (s : State) :
    exec (.lockUnlock p l) s = execLockUnlock p l s := rfl
theorem exec_lockConfig (p : Principal) (i v : Nat) (s : State) :
    exec (.lockConfig p i v) s = execLockConfig p i v s := rfl
theorem exec_atomicBlock (p : Principal) (i v : Nat) (s : State) :
    exec (.atomicBlock p i v) s = execAtomicBlock p i v s := rfl
theorem exec_globalOpStart (p : Principal) (t flags lap : Nat) (s : State) :
    exec (.globalOpStart p t flags lap) s = execGlobalOpStart p t flags lap s := rfl
theorem exec_globalOpHold (p : Principal) (t flags lap : Nat) (s : State) :
    exec (.globalOpHold p t flags lap) s = execGlobalOpHold p t flags lap s := rfl
theorem exec_globalOpFreeze (p : Principal) (t flags lap : Nat) (s : State) :
    exec (.globalOpFreeze p t flags lap) s = execGlobalOpFreeze p t flags lap s := rfl
theorem exec_globalOpSnapshot (p : Principal) (t flags lap : Nat) (s : State) :
    exec (.globalOpSnapshot p t flags lap) s = execGlobalOpSnapshot p t flags lap s := rfl
theorem exec_globalOpReset (p : Principal) (t flags lap : Nat) (s : State) :
    exec (.globalOpReset p t flags lap) s = execGlobalOpReset p t flags lap s := rfl
theorem exec_globalOpFault (p : Principal) (t flags lap : Nat) (s : State) :
    exec (.globalOpFault p t flags lap) s = execGlobalOpFault p t flags lap s := rfl
theorem exec_waveSchedule (port : Nat) (flit : Blob) (s : State) :
    exec (.waveSchedule port flit) s = execWaveSchedule port flit s := rfl
theorem exec_tenantResetComplete (t : Nat) (s : State) :
    exec (.tenantResetComplete t) s = execTenantResetComplete t s := rfl
theorem exec_photoCaptureComplete (t : Nat) (s : State) :
    exec (.photoCaptureComplete t) s = execPhotoCaptureComplete t s := rfl
theorem exec_photoRestore (p : Principal) (i v : Nat) (s : State) :
    exec (.photoRestore p i v) s = execPhotoRestore p i v s := rfl
theorem exec_waveJoin (port : Nat) (flit : Blob) (s : State) :
    exec (.waveJoin port flit) s = execWaveJoin port flit s := rfl
theorem exec_waveLeave (port : Nat) (flit : Blob) (s : State) :
    exec (.waveLeave port flit) s = execWaveLeave port flit s := rfl
theorem exec_waveBarrier (port : Nat) (flit : Blob) (s : State) :
    exec (.waveBarrier port flit) s = execWaveBarrier port flit s := rfl
theorem exec_waveHalt (port : Nat) (flit : Blob) (s : State) :
    exec (.waveHalt port flit) s = execWaveHalt port flit s := rfl
theorem exec_waveBroadcast (port : Nat) (flit : Blob) (s : State) :
    exec (.waveBroadcast port flit) s = execWaveBroadcast port flit s := rfl
theorem exec_wavePhotoDone (port : Nat) (flit : Blob) (s : State) :
    exec (.wavePhotoDone port flit) s = execWavePhotoDone port flit s := rfl
theorem exec_barrierArrive (p : Principal) (i v : Nat) (s : State) :
    exec (.barrierArrive p i v) s = execBarrierArrive p i v s := rfl
theorem exec_broadcastSend (p : Principal) (i v : Nat) (s : State) :
    exec (.broadcastSend p i v) s = execBroadcastSend p i v s := rfl
theorem exec_haltRequest (p : Principal) (i v : Nat) (s : State) :
    exec (.haltRequest p i v) s = execHaltRequest p i v s := rfl
theorem exec_faultLogClear (p : Principal) (i v : Nat) (s : State) :
    exec (.faultLogClear p i v) s = execFaultLogClear p i v s := rfl
theorem exec_traceExtract (t lap slab : Nat) (s : State) :
    exec (.traceExtract t lap slab) s = execTraceExtract t lap slab s := rfl
theorem exec_mirrorWrite (t : Nat) (s : State) :
    exec (.mirrorWrite t) s = execMirrorWrite t s := rfl
theorem exec_traceRing (p : Principal) (i : Nat) (b : Blob) (s : State) :
    exec (.traceRing p i b) s = execTraceRing p i b s := rfl
theorem exec_traceArm (p : Principal) (i v : Nat) (s : State) :
    exec (.traceArm p i v) s = execTraceArm p i v s := rfl
theorem exec_traceTrigger (p : Principal) (i v : Nat) (s : State) :
    exec (.traceTrigger p i v) s = execTraceTrigger p i v s := rfl
theorem exec_snapArea (p : Principal) (i : Nat) (b : Blob) (s : State) :
    exec (.snapArea p i b) s = execSnapArea p i b s := rfl
theorem exec_snapUpload (p : Principal) (i v : Nat) (s : State) :
    exec (.snapUpload p i v) s = execSnapUpload p i v s := rfl
theorem exec_uploadSubmit (t : Nat) (s : State) :
    exec (.uploadSubmit t) s = execUploadSubmit t s := rfl
theorem exec_dramRead (r : DramLevel) (a len : Nat) (e : Ecc) (s : State) :
    exec (.dramRead r a len e) s = execDramRead r a len e s := rfl
theorem exec_dramWrite (r : DramLevel) (a : Nat) (b : Blob) (s : State) :
    exec (.dramWrite r a b) s = execDramWrite r a b s := rfl
theorem exec_refresh (ch : Nat) (s : State) :
    exec (.refresh ch) s = execRefresh ch s := rfl
theorem exec_dimmTempRead (ch : Nat) (mC : Int) (s : State) :
    exec (.dimmTempRead ch mC) s = execDimmTempRead ch mC s := rfl
theorem exec_scrubRead (a : Nat) (e : Ecc) (s : State) :
    exec (.scrubRead a e) s = execScrubRead a e s := rfl
theorem exec_scrubPassEnd (ch secs : Nat) (s : State) :
    exec (.scrubPassEnd ch secs) s = execScrubPassEnd ch secs s := rfl
theorem exec_dramSweep (p : Principal) (i v : Nat) (s : State) :
    exec (.dramSweep p i v) s = execDramSweep p i v s := rfl
theorem exec_sweepComplete (ch : Nat) (delays : Blob) (s : State) :
    exec (.sweepComplete ch delays) s = execSweepComplete ch delays s := rfl
theorem exec_interruptEntry (k : Nat) (e : Ecc) (s : State) :
    exec (.interruptEntry k e) s = execInterruptEntry k e s := rfl
theorem exec_watchdogExpiry (k : Nat) (s : State) :
    exec (.watchdogExpiry k) s = execWatchdogExpiry k s := rfl
theorem exec_hardwareCoreReset (k : Nat) (s : State) :
    exec (.hardwareCoreReset k) s = execHardwareCoreReset k s := rfl
theorem exec_timerCompare (k : Nat) (s : State) :
    exec (.timerCompare k) s = execTimerCompare k s := rfl
theorem exec_workQueueRefill (q : Nat) (s : State) :
    exec (.workQueueRefill q) s = execWorkQueueRefill q s := rfl
theorem exec_extModule (p : Principal) (b : Blob) (s : State) :
    exec (.extModule p b) s = execExtModule p b s := rfl
theorem exec_extCall (p : Principal) (b : Blob) (s : State) :
    exec (.extCall p b) s = execExtCall p b s := rfl
theorem exec_extTick (s : State) :
    exec (.extTick) s = execExtTick s := rfl
theorem exec_request (path : Path) (msg : Blob) (s : State) :
    exec (.request path msg) s = execRequest path msg s := rfl
theorem exec_assemblyTimeout (pi : Nat) (s : State) :
    exec (.assemblyTimeout pi) s = execAssemblyTimeout pi s := rfl
theorem exec_sessionIdleTimeout (pi : Nat) (s : State) :
    exec (.sessionIdleTimeout pi) s = execSessionIdleTimeout pi s := rfl
theorem exec_sessionLevel (p : Principal) (v : Nat) (s : State) :
    exec (.sessionLevel p v) s = execSessionLevel p v s := rfl
theorem exec_expertRights (p : Principal) (v : Nat) (s : State) :
    exec (.expertRights p v) s = execExpertRights p v s := rfl
theorem exec_attentionLog (p : Principal) (s : State) :
    exec (.attentionLog p) s = execAttentionLog p s := rfl
theorem exec_mailboxDoorbell (function len : Nat) (req : Blob) (s : State) :
    exec (.mailboxDoorbell function len req) s = execMailboxDoorbell function len req s := rfl
theorem exec_fieldFrameReceive (fcsOk : Bool) (b : Blob) (s : State) :
    exec (.fieldFrameReceive fcsOk b) s = execFieldFrameReceive fcsOk b s := rfl
theorem exec_fieldCollision (s : State) :
    exec (.fieldCollision) s = execFieldCollision s := rfl
theorem exec_epochStart (e window : Nat) (s : State) :
    exec (.epochStart e window) s = execEpochStart e window s := rfl
theorem exec_callRoomQuery (e plen window pfx src : Nat) (s : State) :
    exec (.callRoomQuery e plen window pfx src) s = execCallRoomQuery e plen window pfx src s := rfl
theorem exec_answerSend (s : State) :
    exec (.answerSend) s = execAnswerSend s := rfl
theorem exec_answerAbandon (s : State) :
    exec (.answerAbandon) s = execAnswerAbandon s := rfl
theorem exec_assign (e node bib src : Nat) (s : State) :
    exec (.assign e node bib src) s = execAssign e node bib src s := rfl
theorem exec_epochEnd (e : Nat) (found : List (Nat × Nat)) (s : State) :
    exec (.epochEnd e found) s = execEpochEnd e found s := rfl
theorem exec_answer (bib e node : Nat) (s : State) :
    exec (.answer bib e node) s = execAnswer bib e node s := rfl
theorem exec_assigned (bib e node : Nat) (s : State) :
    exec (.assigned bib e node) s = execAssigned bib e node s := rfl
theorem exec_queryListenEnd (noise : Bool) (s : State) :
    exec (.queryListenEnd noise) s = execQueryListenEnd noise s := rfl
theorem exec_callRoomRound (s : State) :
    exec (.callRoomRound) s = execCallRoomRound s := rfl
theorem exec_deviceId (p : Principal) (v : Nat) (s : State) :
    exec (.deviceId p v) s = execDeviceId p v s := rfl
theorem exec_deviceResetRequest (p : Principal) (s : State) :
    exec (.deviceResetRequest p) s = execDeviceResetRequest p s := rfl
theorem exec_starterDomainResetRequest (p : Principal) (s : State) :
    exec (.starterDomainResetRequest p) s = execStarterDomainResetRequest p s := rfl
theorem exec_starterDomainReset (s : State) :
    exec (.starterDomainReset) s = execStarterDomainReset s := rfl
theorem exec_managementDomainResetRequest (p : Principal) (s : State) :
    exec (.managementDomainResetRequest p) s = execManagementDomainResetRequest p s := rfl
theorem exec_squadResetRequest (p : Principal) (sq : Nat) (s : State) :
    exec (.squadResetRequest p sq) s = execSquadResetRequest p sq s := rfl
theorem exec_portResetRequest (p : Principal) (port : Nat) (s : State) :
    exec (.portResetRequest p port) s = execPortResetRequest p port s := rfl
theorem exec_jtagRzReset (s : State) :
    exec (.jtagRzReset) s = execJtagRzReset s := rfl
theorem exec_errorLogClear (p : Principal) (v : Nat) (s : State) :
    exec (.errorLogClear p v) s = execErrorLogClear p v s := rfl
theorem exec_calBlock (p : Principal) (b : Blob) (s : State) :
    exec (.calBlock p b) s = execCalBlock p b s := rfl
theorem exec_calSectionWrite (p : Principal) (o i : Nat) (b : Blob) (s : State) :
    exec (.calSectionWrite p o i b) s = execCalSectionWrite p o i b s := rfl
theorem exec_calCommit (p : Principal) (v : Nat) (s : State) :
    exec (.calCommit p v) s = execCalCommit p v s := rfl
theorem exec_calDiscard (p : Principal) (v : Nat) (s : State) :
    exec (.calDiscard p v) s = execCalDiscard p v s := rfl
theorem exec_persistErase (p : Principal) (v : Nat) (s : State) :
    exec (.persistErase p v) s = execPersistErase p v s := rfl
theorem exec_fwImage (p : Principal) (i : Nat) (b : Blob) (signed : Bool) (s : State) :
    exec (.fwImage p i b signed) s = execFwImage p i b signed s := rfl
theorem exec_dieTempSample (temps : List Int) (s : State) :
    exec (.dieTempSample temps) s = execDieTempSample temps s := rfl
theorem exec_railTelemetry (readings : List (Nat × Nat × Nat)) (s : State) :
    exec (.railTelemetry readings) s = execRailTelemetry readings s := rfl
theorem exec_avsRecompute (r : Pmb) (s : State) :
    exec (.avsRecompute r) s = execAvsRecompute r s := rfl
theorem exec_pmbAlert (faults : List Bool) (s : State) :
    exec (.pmbAlert faults) s = execPmbAlert faults s := rfl
theorem exec_tclkInLoss (s : State) :
    exec (.tclkInLoss) s = execTclkInLoss s := rfl
theorem exec_tclkInReturn (s : State) :
    exec (.tclkInReturn) s = execTclkInReturn s := rfl
theorem exec_sdsRefclkLoss (die : Nat) (s : State) :
    exec (.sdsRefclkLoss die) s = execSdsRefclkLoss die s := rfl
theorem exec_sdsRefclkReturn (die : Nat) (s : State) :
    exec (.sdsRefclkReturn die) s = execSdsRefclkReturn die s := rfl
theorem exec_wakeRate (p : Principal) (v : Nat) (s : State) :
    exec (.wakeRate p v) s = execWakeRate p v s := rfl
theorem exec_patrolRead (w : SramWord) (e : Ecc) (s : State) :
    exec (.patrolRead w e) s = execPatrolRead w e s := rfl
theorem exec_powerLoss (s : State) :
    exec (.powerLoss) s = execPowerLoss s := rfl
theorem exec_flashOperationComplete (ok : Bool) (s : State) :
    exec (.flashOperationComplete ok) s = execFlashOperationComplete ok s := rfl
theorem exec_epochSearchStart (s : State) :
    exec (.epochSearchStart) s = execEpochSearchStart s := rfl
theorem exec_assignResend (s : State) :
    exec (.assignResend) s = execAssignResend s := rfl
theorem exec_traceWriteTimeout (t : Nat) (s : State) :
    exec (.traceWriteTimeout t) s = execTraceWriteTimeout t s := rfl
theorem exec_reservationRefill (s : State) :
    exec (.reservationRefill) s = execReservationRefill s := rfl
theorem exec_dlActiveChange (active : Bool) (rate width : Nat) (s : State) :
    exec (.dlActiveChange active rate width) s = execDlActiveChange active rate width s := rfl
theorem exec_autoNegotiationComplete (port : Nat) (s : State) :
    exec (.autoNegotiationComplete port) s = execAutoNegotiationComplete port s := rfl

end Sys2Proof.Machine
end

