-- ==== Sys2Proof/Laws/Issue.lean ====
section
/-! SUPPORT. What an instruction that issues answers, by what its body does: the one place where the issue of R229 to R244 is
unfolded. -/

namespace Sys2Proof.Machine

variable {s u v : State} {h : Hdr} {k : Kind} {body : State → Ctx → Did} {x : Nat}

/-- An instruction that issues does what its body says. -/
theorem runInstr_issues (hi : Issues s h k u) : s.runInstr h k body x =
    match body (u.countIssue h.core) (u.sees h) with
    | .ok v ws => .next (u.leaves h v ws)
    | .xfer v taken target => .next (u.transfers h v taken target)
    | .loop v ws skip =>
      let c' := finish (v.ctx h.core) ((u.ctx h.core).issued + 1) (hdrSize h) (interlocks h.core) ws (some (.setup (u.ctx h.core).pc skip))
      let c := u.ctx h.core
      .next (v.setCtx h.core { c' with undo := some ⟨c.link, c.reserved, c.trapFill, c.ls, c.le, c.lc⟩ })
    | .fault cause operand => .next ((u.countIssue h.core).faultAt h.core cause operand h.frame)
    | .faultIn v cause operand => .next (v.faultAt h.core cause operand h.frame)
    | .unissued cause => .next (u.faultAt h.core cause 0 h.frame)
    | .wait w => .next (u.stall h.core w)
    | .trap fill => .next (u.linkTrap h.core fill h.frame)
    | .stop a => .fault (.starterDevice a)
    | .whole v => .next v := by
  obtain ⟨core, short, enc, fetch, frame⟩ := h
  obtain ⟨ht, hf, hp⟩ := hi
  unfold hdrSize at hf
  unfold State.runInstr
  rw [ht]
  simp only [hf, hp, Bool.not_true, Bool.false_eq_true, ↓reduceIte, State.leaves, State.transfers, State.sees, hdrSize]
  cases core <;> generalize body _ _ = d <;> cases d <;> rfl

theorem runInstr_ok (hi : Issues s h k u) {ws : List (Dest × W40 × Nat)}
    (hb : body (u.countIssue h.core) (u.sees h) = .ok v ws) : s.runInstr h k body x = .next (u.leaves h v ws) := by
  rw [runInstr_issues hi, hb]

theorem runInstr_xfer (hi : Issues s h k u) {taken : Bool} {target : Addr}
    (hb : body (u.countIssue h.core) (u.sees h) = .xfer v taken target) :
    s.runInstr h k body x = .next (u.transfers h v taken target) := by
  rw [runInstr_issues hi, hb]

theorem runInstr_loop (hi : Issues s h k u) {ws : List (Dest × W40 × Nat)}
    {skip : Option Addr} (hb : body (u.countIssue h.core) (u.sees h) = .loop (u.countIssue h.core) ws skip) :
    s.runInstr h k body x = .next (u.loops h ws skip) := by
  rw [runInstr_issues hi, hb]; rfl

theorem runInstr_fault (hi : Issues s h k u) {cause operand : Nat}
    (hb : body (u.countIssue h.core) (u.sees h) = .fault cause operand) :
    s.runInstr h k body x = .next ((u.countIssue h.core).faultAt h.core cause operand h.frame) := by
  rw [runInstr_issues hi, hb]

theorem runInstr_unissued (hi : Issues s h k u) {cause : Nat} (hb : body (u.countIssue h.core) (u.sees h) = .unissued cause) :
    s.runInstr h k body x = .next (u.faultAt h.core cause 0 h.frame) := by
  rw [runInstr_issues hi, hb]

theorem runInstr_wait (hi : Issues s h k u) {w : Wait}
    (hb : body (u.countIssue h.core) (u.sees h) = .wait w) : s.runInstr h k body x = .next (u.stall h.core w) := by
  rw [runInstr_issues hi, hb]

theorem runInstr_whole (hi : Issues s h k u) (hb : body (u.countIssue h.core) (u.sees h) = .whole v) :
    s.runInstr h k body x = .next v := by
  rw [runInstr_issues hi, hb]

/-- An instruction over registers answers its writes. -/
theorem alu_issues (hi : Issues s h .plain u) (f : Ctx → List (Dest × W40 × Nat)) :
    s.alu h f = .next (u.computes h (f (u.sees h))) := runInstr_ok hi rfl

/-- A branch that issues. -/
theorem branch_issues (hi : Issues s h .control u) {d : Addr} {cond : Ctx → Option Bool} {t : Bool}
    (hc : cond (u.sees h) = some t) :
    s.branch h d cond = .next (u.transfers h (u.countIssue h.core) t ((u.sees h).pc + d)) :=
  runInstr_xfer hi (by simp [hc])

/-- A helper command that issues answers its values: its result registers are pending. -/
theorem helper_commands {y : HArgs} {helper : Nat} {nops nrs : List Nat} {cmd : State → List Nat → Option (List Nat × State)}
    {token : Bool} {vs : List Nat} (hc : Commands s u h y helper nops nrs)
    (hr : cmd (u.countIssue h.core) ((hregs y.hb.toNat y.nop.toNat).map (fun n => ((u.sees h).rh n).toNat)) = some (vs, v)) :
    s.helperInstr h y helper nops nrs cmd token = .next (u.commands h y helper v vs token) := by
  obtain ⟨hi, hp, hq⟩ := hc
  have hn : (hregs y.hb.toNat y.nop.toNat ++ hregs y.hd.toNat y.nr.toNat).any (u.sees h).pendH.contains = false := by
    rw [List.any_eq_false]
    intro n hn
    simpa using hp n (List.mem_append.1 hn)
  refine runInstr_ok hi ?_
  simp only [State.sees] at hn hr ⊢
  simp only [State.issueCmd, hn, hq, hr, Bool.false_eq_true, ↓reduceIte]
  rfl

end Sys2Proof.Machine
end

