-- ==== Sys2Proof/Laws/State.lean ====
section
/-! SUPPORT. What each shared update of the state leaves alone, field by field, and what the record that it changes reads as after it,
so that no proof unfolds an update. -/

namespace Sys2Proof.Machine

variable (s : State)

/-! ## modThread -/

@[simp] theorem State.modThread_num (x : Nat) (f : Thread → Thread) : (s.modThread x f).num = s.num := rfl
@[simp] theorem State.modThread_blob (x : Nat) (f : Thread → Thread) : (s.modThread x f).blob = s.blob := rfl
@[simp] theorem State.modThread_reply (x : Nat) (f : Thread → Thread) : (s.modThread x f).reply = s.reply := rfl
@[simp] theorem State.modThread_time (x : Nat) (f : Thread → Thread) : (s.modThread x f).time = s.time := rfl
@[simp] theorem State.modThread_ports (x : Nat) (f : Thread → Thread) : (s.modThread x f).ports = s.ports := rfl
@[simp] theorem State.modThread_frames (x : Nat) (f : Thread → Thread) : (s.modThread x f).frames = s.frames := rfl
@[simp] theorem State.modThread_nextFid (x : Nat) (f : Thread → Thread) : (s.modThread x f).nextFid = s.nextFid := rfl
@[simp] theorem State.modThread_ingress (x : Nat) (f : Thread → Thread) : (s.modThread x f).ingress = s.ingress := rfl
@[simp] theorem State.modThread_parser (x : Nat) (f : Thread → Thread) : (s.modThread x f).parser = s.parser := rfl
@[simp] theorem State.modThread_tables (x : Nat) (f : Thread → Thread) : (s.modThread x f).tables = s.tables := rfl
@[simp] theorem State.modThread_relay (x : Nat) (f : Thread → Thread) : (s.modThread x f).relay = s.relay := rfl
@[simp] theorem State.modThread_buf (x : Nat) (f : Thread → Thread) : (s.modThread x f).buf = s.buf := rfl
@[simp] theorem State.modThread_ten (x : Nat) (f : Thread → Thread) : (s.modThread x f).ten = s.ten := rfl
@[simp] theorem State.modThread_trc (x : Nat) (f : Thread → Thread) : (s.modThread x f).trc = s.trc := rfl
@[simp] theorem State.modThread_dram (x : Nat) (f : Thread → Thread) : (s.modThread x f).dram = s.dram := rfl
@[simp] theorem State.modThread_starter (x : Nat) (f : Thread → Thread) : (s.modThread x f).starter = s.starter := rfl
@[simp] theorem State.modThread_mgmt (x : Nat) (f : Thread → Thread) : (s.modThread x f).mgmt = s.mgmt := rfl
@[simp] theorem State.modThread_rel (x : Nat) (f : Thread → Thread) : (s.modThread x f).rel = s.rel := rfl
@[simp] theorem State.modThread_pcie (x : Nat) (f : Thread → Thread) : (s.modThread x f).pcie = s.pcie := rfl
@[simp] theorem State.modThread_out (x : Nat) (f : Thread → Thread) : (s.modThread x f).out = s.out := rfl
@[simp] theorem State.modThread_free (x : Nat) (f : Thread → Thread) : (s.modThread x f).free = s.free := rfl
@[simp] theorem State.modThread_pending (x : Nat) (f : Thread → Thread) : (s.modThread x f).pending = s.pending := rfl

/-! ## modSquad -/

@[simp] theorem State.modSquad_num (k : Nat) (f : Squad → Squad) : (s.modSquad k f).num = s.num := rfl
@[simp] theorem State.modSquad_blob (k : Nat) (f : Squad → Squad) : (s.modSquad k f).blob = s.blob := rfl
@[simp] theorem State.modSquad_reply (k : Nat) (f : Squad → Squad) : (s.modSquad k f).reply = s.reply := rfl
@[simp] theorem State.modSquad_time (k : Nat) (f : Squad → Squad) : (s.modSquad k f).time = s.time := rfl
@[simp] theorem State.modSquad_ports (k : Nat) (f : Squad → Squad) : (s.modSquad k f).ports = s.ports := rfl
@[simp] theorem State.modSquad_frames (k : Nat) (f : Squad → Squad) : (s.modSquad k f).frames = s.frames := rfl
@[simp] theorem State.modSquad_nextFid (k : Nat) (f : Squad → Squad) : (s.modSquad k f).nextFid = s.nextFid := rfl
@[simp] theorem State.modSquad_ingress (k : Nat) (f : Squad → Squad) : (s.modSquad k f).ingress = s.ingress := rfl
@[simp] theorem State.modSquad_parser (k : Nat) (f : Squad → Squad) : (s.modSquad k f).parser = s.parser := rfl
@[simp] theorem State.modSquad_tables (k : Nat) (f : Squad → Squad) : (s.modSquad k f).tables = s.tables := rfl
@[simp] theorem State.modSquad_relay (k : Nat) (f : Squad → Squad) : (s.modSquad k f).relay = s.relay := rfl
@[simp] theorem State.modSquad_buf (k : Nat) (f : Squad → Squad) : (s.modSquad k f).buf = s.buf := rfl
@[simp] theorem State.modSquad_ten (k : Nat) (f : Squad → Squad) : (s.modSquad k f).ten = s.ten := rfl
@[simp] theorem State.modSquad_trc (k : Nat) (f : Squad → Squad) : (s.modSquad k f).trc = s.trc := rfl
@[simp] theorem State.modSquad_dram (k : Nat) (f : Squad → Squad) : (s.modSquad k f).dram = s.dram := rfl
@[simp] theorem State.modSquad_starter (k : Nat) (f : Squad → Squad) : (s.modSquad k f).starter = s.starter := rfl
@[simp] theorem State.modSquad_mgmt (k : Nat) (f : Squad → Squad) : (s.modSquad k f).mgmt = s.mgmt := rfl
@[simp] theorem State.modSquad_rel (k : Nat) (f : Squad → Squad) : (s.modSquad k f).rel = s.rel := rfl
@[simp] theorem State.modSquad_pcie (k : Nat) (f : Squad → Squad) : (s.modSquad k f).pcie = s.pcie := rfl
@[simp] theorem State.modSquad_out (k : Nat) (f : Squad → Squad) : (s.modSquad k f).out = s.out := rfl
@[simp] theorem State.modSquad_free (k : Nat) (f : Squad → Squad) : (s.modSquad k f).free = s.free := rfl
@[simp] theorem State.modSquad_pending (k : Nat) (f : Squad → Squad) : (s.modSquad k f).pending = s.pending := rfl

/-! ## modCore -/

@[simp] theorem State.modCore_num (k : Nat) (f : Core → Core) : (s.modCore k f).num = s.num := rfl
@[simp] theorem State.modCore_blob (k : Nat) (f : Core → Core) : (s.modCore k f).blob = s.blob := rfl
@[simp] theorem State.modCore_reply (k : Nat) (f : Core → Core) : (s.modCore k f).reply = s.reply := rfl
@[simp] theorem State.modCore_time (k : Nat) (f : Core → Core) : (s.modCore k f).time = s.time := rfl
@[simp] theorem State.modCore_ports (k : Nat) (f : Core → Core) : (s.modCore k f).ports = s.ports := rfl
@[simp] theorem State.modCore_frames (k : Nat) (f : Core → Core) : (s.modCore k f).frames = s.frames := rfl
@[simp] theorem State.modCore_nextFid (k : Nat) (f : Core → Core) : (s.modCore k f).nextFid = s.nextFid := rfl
@[simp] theorem State.modCore_ingress (k : Nat) (f : Core → Core) : (s.modCore k f).ingress = s.ingress := rfl
@[simp] theorem State.modCore_parser (k : Nat) (f : Core → Core) : (s.modCore k f).parser = s.parser := rfl
@[simp] theorem State.modCore_tables (k : Nat) (f : Core → Core) : (s.modCore k f).tables = s.tables := rfl
@[simp] theorem State.modCore_relay (k : Nat) (f : Core → Core) : (s.modCore k f).relay = s.relay := rfl
@[simp] theorem State.modCore_strider (k : Nat) (f : Core → Core) : (s.modCore k f).strider = s.strider := rfl
@[simp] theorem State.modCore_buf (k : Nat) (f : Core → Core) : (s.modCore k f).buf = s.buf := rfl
@[simp] theorem State.modCore_ten (k : Nat) (f : Core → Core) : (s.modCore k f).ten = s.ten := rfl
@[simp] theorem State.modCore_trc (k : Nat) (f : Core → Core) : (s.modCore k f).trc = s.trc := rfl
@[simp] theorem State.modCore_dram (k : Nat) (f : Core → Core) : (s.modCore k f).dram = s.dram := rfl
@[simp] theorem State.modCore_mgmt (k : Nat) (f : Core → Core) : (s.modCore k f).mgmt = s.mgmt := rfl
@[simp] theorem State.modCore_rel (k : Nat) (f : Core → Core) : (s.modCore k f).rel = s.rel := rfl
@[simp] theorem State.modCore_pcie (k : Nat) (f : Core → Core) : (s.modCore k f).pcie = s.pcie := rfl
@[simp] theorem State.modCore_out (k : Nat) (f : Core → Core) : (s.modCore k f).out = s.out := rfl
@[simp] theorem State.modCore_free (k : Nat) (f : Core → Core) : (s.modCore k f).free = s.free := rfl
@[simp] theorem State.modCore_pending (k : Nat) (f : Core → Core) : (s.modCore k f).pending = s.pending := rfl

/-! ## setCtx -/

@[simp] theorem State.setCtx_num (r : CoreRef) (c : Ctx) : (s.setCtx r c).num = s.num := by cases r <;> rfl
@[simp] theorem State.setCtx_blob (r : CoreRef) (c : Ctx) : (s.setCtx r c).blob = s.blob := by cases r <;> rfl
@[simp] theorem State.setCtx_reply (r : CoreRef) (c : Ctx) : (s.setCtx r c).reply = s.reply := by cases r <;> rfl
@[simp] theorem State.setCtx_time (r : CoreRef) (c : Ctx) : (s.setCtx r c).time = s.time := by cases r <;> rfl
@[simp] theorem State.setCtx_ports (r : CoreRef) (c : Ctx) : (s.setCtx r c).ports = s.ports := by cases r <;> rfl
@[simp] theorem State.setCtx_frames (r : CoreRef) (c : Ctx) : (s.setCtx r c).frames = s.frames := by cases r <;> rfl
@[simp] theorem State.setCtx_nextFid (r : CoreRef) (c : Ctx) : (s.setCtx r c).nextFid = s.nextFid := by cases r <;> rfl
@[simp] theorem State.setCtx_ingress (r : CoreRef) (c : Ctx) : (s.setCtx r c).ingress = s.ingress := by cases r <;> rfl
@[simp] theorem State.setCtx_parser (r : CoreRef) (c : Ctx) : (s.setCtx r c).parser = s.parser := by cases r <;> rfl
@[simp] theorem State.setCtx_tables (r : CoreRef) (c : Ctx) : (s.setCtx r c).tables = s.tables := by cases r <;> rfl
@[simp] theorem State.setCtx_relay (r : CoreRef) (c : Ctx) : (s.setCtx r c).relay = s.relay := by cases r <;> rfl
@[simp] theorem State.setCtx_buf (r : CoreRef) (c : Ctx) : (s.setCtx r c).buf = s.buf := by cases r <;> rfl
@[simp] theorem State.setCtx_ten (r : CoreRef) (c : Ctx) : (s.setCtx r c).ten = s.ten := by cases r <;> rfl
@[simp] theorem State.setCtx_trc (r : CoreRef) (c : Ctx) : (s.setCtx r c).trc = s.trc := by cases r <;> rfl
@[simp] theorem State.setCtx_dram (r : CoreRef) (c : Ctx) : (s.setCtx r c).dram = s.dram := by cases r <;> rfl
@[simp] theorem State.setCtx_mgmt (r : CoreRef) (c : Ctx) : (s.setCtx r c).mgmt = s.mgmt := by cases r <;> rfl
@[simp] theorem State.setCtx_rel (r : CoreRef) (c : Ctx) : (s.setCtx r c).rel = s.rel := by cases r <;> rfl
@[simp] theorem State.setCtx_pcie (r : CoreRef) (c : Ctx) : (s.setCtx r c).pcie = s.pcie := by cases r <;> rfl
@[simp] theorem State.setCtx_out (r : CoreRef) (c : Ctx) : (s.setCtx r c).out = s.out := by cases r <;> rfl
@[simp] theorem State.setCtx_free (r : CoreRef) (c : Ctx) : (s.setCtx r c).free = s.free := by cases r <;> rfl
@[simp] theorem State.setCtx_pending (r : CoreRef) (c : Ctx) : (s.setCtx r c).pending = s.pending := by cases r <;> rfl

/-! ## countIssue -/

@[simp] theorem State.countIssue_num (r : CoreRef) : (s.countIssue r).num = s.num := by cases r <;> rfl
@[simp] theorem State.countIssue_blob (r : CoreRef) : (s.countIssue r).blob = s.blob := by cases r <;> rfl
@[simp] theorem State.countIssue_reply (r : CoreRef) : (s.countIssue r).reply = s.reply := by cases r <;> rfl
@[simp] theorem State.countIssue_time (r : CoreRef) : (s.countIssue r).time = s.time := by cases r <;> rfl
@[simp] theorem State.countIssue_ports (r : CoreRef) : (s.countIssue r).ports = s.ports := by cases r <;> rfl
@[simp] theorem State.countIssue_frames (r : CoreRef) : (s.countIssue r).frames = s.frames := by cases r <;> rfl
@[simp] theorem State.countIssue_nextFid (r : CoreRef) : (s.countIssue r).nextFid = s.nextFid := by cases r <;> rfl
@[simp] theorem State.countIssue_ingress (r : CoreRef) : (s.countIssue r).ingress = s.ingress := by cases r <;> rfl
@[simp] theorem State.countIssue_parser (r : CoreRef) : (s.countIssue r).parser = s.parser := by cases r <;> rfl
@[simp] theorem State.countIssue_tables (r : CoreRef) : (s.countIssue r).tables = s.tables := by cases r <;> rfl
@[simp] theorem State.countIssue_relay (r : CoreRef) : (s.countIssue r).relay = s.relay := by cases r <;> rfl
@[simp] theorem State.countIssue_buf (r : CoreRef) : (s.countIssue r).buf = s.buf := by cases r <;> rfl
@[simp] theorem State.countIssue_ten (r : CoreRef) : (s.countIssue r).ten = s.ten := by cases r <;> rfl
@[simp] theorem State.countIssue_trc (r : CoreRef) : (s.countIssue r).trc = s.trc := by cases r <;> rfl
@[simp] theorem State.countIssue_dram (r : CoreRef) : (s.countIssue r).dram = s.dram := by cases r <;> rfl
@[simp] theorem State.countIssue_mgmt (r : CoreRef) : (s.countIssue r).mgmt = s.mgmt := by cases r <;> rfl
@[simp] theorem State.countIssue_rel (r : CoreRef) : (s.countIssue r).rel = s.rel := by cases r <;> rfl
@[simp] theorem State.countIssue_pcie (r : CoreRef) : (s.countIssue r).pcie = s.pcie := by cases r <;> rfl
@[simp] theorem State.countIssue_out (r : CoreRef) : (s.countIssue r).out = s.out := by cases r <;> rfl
@[simp] theorem State.countIssue_free (r : CoreRef) : (s.countIssue r).free = s.free := by cases r <;> rfl
@[simp] theorem State.countIssue_pending (r : CoreRef) : (s.countIssue r).pending = s.pending := by cases r <;> rfl

/-! ## modBatons -/

@[simp] theorem State.modBatons_num (r : CoreRef) (f : List Nat → List Nat) : (s.modBatons r f).num = s.num := by cases r <;> rfl
@[simp] theorem State.modBatons_blob (r : CoreRef) (f : List Nat → List Nat) : (s.modBatons r f).blob = s.blob := by cases r <;> rfl
@[simp] theorem State.modBatons_reply (r : CoreRef) (f : List Nat → List Nat) : (s.modBatons r f).reply = s.reply := by cases r <;> rfl
@[simp] theorem State.modBatons_time (r : CoreRef) (f : List Nat → List Nat) : (s.modBatons r f).time = s.time := by cases r <;> rfl
@[simp] theorem State.modBatons_ports (r : CoreRef) (f : List Nat → List Nat) : (s.modBatons r f).ports = s.ports := by cases r <;> rfl
@[simp] theorem State.modBatons_frames (r : CoreRef) (f : List Nat → List Nat) : (s.modBatons r f).frames = s.frames := by cases r <;> rfl
@[simp] theorem State.modBatons_nextFid (r : CoreRef) (f : List Nat → List Nat) : (s.modBatons r f).nextFid = s.nextFid := by cases r <;> rfl
@[simp] theorem State.modBatons_ingress (r : CoreRef) (f : List Nat → List Nat) : (s.modBatons r f).ingress = s.ingress := by cases r <;> rfl
@[simp] theorem State.modBatons_parser (r : CoreRef) (f : List Nat → List Nat) : (s.modBatons r f).parser = s.parser := by cases r <;> rfl
@[simp] theorem State.modBatons_tables (r : CoreRef) (f : List Nat → List Nat) : (s.modBatons r f).tables = s.tables := by cases r <;> rfl
@[simp] theorem State.modBatons_relay (r : CoreRef) (f : List Nat → List Nat) : (s.modBatons r f).relay = s.relay := by cases r <;> rfl
@[simp] theorem State.modBatons_buf (r : CoreRef) (f : List Nat → List Nat) : (s.modBatons r f).buf = s.buf := by cases r <;> rfl
@[simp] theorem State.modBatons_ten (r : CoreRef) (f : List Nat → List Nat) : (s.modBatons r f).ten = s.ten := by cases r <;> rfl
@[simp] theorem State.modBatons_trc (r : CoreRef) (f : List Nat → List Nat) : (s.modBatons r f).trc = s.trc := by cases r <;> rfl
@[simp] theorem State.modBatons_dram (r : CoreRef) (f : List Nat → List Nat) : (s.modBatons r f).dram = s.dram := by cases r <;> rfl
@[simp] theorem State.modBatons_mgmt (r : CoreRef) (f : List Nat → List Nat) : (s.modBatons r f).mgmt = s.mgmt := by cases r <;> rfl
@[simp] theorem State.modBatons_rel (r : CoreRef) (f : List Nat → List Nat) : (s.modBatons r f).rel = s.rel := by cases r <;> rfl
@[simp] theorem State.modBatons_pcie (r : CoreRef) (f : List Nat → List Nat) : (s.modBatons r f).pcie = s.pcie := by cases r <;> rfl
@[simp] theorem State.modBatons_out (r : CoreRef) (f : List Nat → List Nat) : (s.modBatons r f).out = s.out := by cases r <;> rfl
@[simp] theorem State.modBatons_free (r : CoreRef) (f : List Nat → List Nat) : (s.modBatons r f).free = s.free := by cases r <;> rfl
@[simp] theorem State.modBatons_pending (r : CoreRef) (f : List Nat → List Nat) : (s.modBatons r f).pending = s.pending := by cases r <;> rfl

/-! ## modPort -/

@[simp] theorem State.modPort_num (p : Nat) (f : Port → Port) : (s.modPort p f).num = s.num := rfl
@[simp] theorem State.modPort_blob (p : Nat) (f : Port → Port) : (s.modPort p f).blob = s.blob := rfl
@[simp] theorem State.modPort_reply (p : Nat) (f : Port → Port) : (s.modPort p f).reply = s.reply := rfl
@[simp] theorem State.modPort_time (p : Nat) (f : Port → Port) : (s.modPort p f).time = s.time := rfl
@[simp] theorem State.modPort_frames (p : Nat) (f : Port → Port) : (s.modPort p f).frames = s.frames := rfl
@[simp] theorem State.modPort_nextFid (p : Nat) (f : Port → Port) : (s.modPort p f).nextFid = s.nextFid := rfl
@[simp] theorem State.modPort_ingress (p : Nat) (f : Port → Port) : (s.modPort p f).ingress = s.ingress := rfl
@[simp] theorem State.modPort_parser (p : Nat) (f : Port → Port) : (s.modPort p f).parser = s.parser := rfl
@[simp] theorem State.modPort_tables (p : Nat) (f : Port → Port) : (s.modPort p f).tables = s.tables := rfl
@[simp] theorem State.modPort_relay (p : Nat) (f : Port → Port) : (s.modPort p f).relay = s.relay := rfl
@[simp] theorem State.modPort_strider (p : Nat) (f : Port → Port) : (s.modPort p f).strider = s.strider := rfl
@[simp] theorem State.modPort_buf (p : Nat) (f : Port → Port) : (s.modPort p f).buf = s.buf := rfl
@[simp] theorem State.modPort_ten (p : Nat) (f : Port → Port) : (s.modPort p f).ten = s.ten := rfl
@[simp] theorem State.modPort_trc (p : Nat) (f : Port → Port) : (s.modPort p f).trc = s.trc := rfl
@[simp] theorem State.modPort_dram (p : Nat) (f : Port → Port) : (s.modPort p f).dram = s.dram := rfl
@[simp] theorem State.modPort_starter (p : Nat) (f : Port → Port) : (s.modPort p f).starter = s.starter := rfl
@[simp] theorem State.modPort_mgmt (p : Nat) (f : Port → Port) : (s.modPort p f).mgmt = s.mgmt := rfl
@[simp] theorem State.modPort_rel (p : Nat) (f : Port → Port) : (s.modPort p f).rel = s.rel := rfl
@[simp] theorem State.modPort_pcie (p : Nat) (f : Port → Port) : (s.modPort p f).pcie = s.pcie := rfl
@[simp] theorem State.modPort_out (p : Nat) (f : Port → Port) : (s.modPort p f).out = s.out := rfl
@[simp] theorem State.modPort_free (p : Nat) (f : Port → Port) : (s.modPort p f).free = s.free := rfl
@[simp] theorem State.modPort_pending (p : Nat) (f : Port → Port) : (s.modPort p f).pending = s.pending := rfl

/-! ## modTenant -/

@[simp] theorem State.modTenant_num (t : Nat) (f : Tenant → Tenant) : (s.modTenant t f).num = s.num := rfl
@[simp] theorem State.modTenant_blob (t : Nat) (f : Tenant → Tenant) : (s.modTenant t f).blob = s.blob := rfl
@[simp] theorem State.modTenant_reply (t : Nat) (f : Tenant → Tenant) : (s.modTenant t f).reply = s.reply := rfl
@[simp] theorem State.modTenant_time (t : Nat) (f : Tenant → Tenant) : (s.modTenant t f).time = s.time := rfl
@[simp] theorem State.modTenant_ports (t : Nat) (f : Tenant → Tenant) : (s.modTenant t f).ports = s.ports := rfl
@[simp] theorem State.modTenant_frames (t : Nat) (f : Tenant → Tenant) : (s.modTenant t f).frames = s.frames := rfl
@[simp] theorem State.modTenant_nextFid (t : Nat) (f : Tenant → Tenant) : (s.modTenant t f).nextFid = s.nextFid := rfl
@[simp] theorem State.modTenant_ingress (t : Nat) (f : Tenant → Tenant) : (s.modTenant t f).ingress = s.ingress := rfl
@[simp] theorem State.modTenant_parser (t : Nat) (f : Tenant → Tenant) : (s.modTenant t f).parser = s.parser := rfl
@[simp] theorem State.modTenant_tables (t : Nat) (f : Tenant → Tenant) : (s.modTenant t f).tables = s.tables := rfl
@[simp] theorem State.modTenant_relay (t : Nat) (f : Tenant → Tenant) : (s.modTenant t f).relay = s.relay := rfl
@[simp] theorem State.modTenant_strider (t : Nat) (f : Tenant → Tenant) : (s.modTenant t f).strider = s.strider := rfl
@[simp] theorem State.modTenant_buf (t : Nat) (f : Tenant → Tenant) : (s.modTenant t f).buf = s.buf := rfl
@[simp] theorem State.modTenant_trc (t : Nat) (f : Tenant → Tenant) : (s.modTenant t f).trc = s.trc := rfl
@[simp] theorem State.modTenant_dram (t : Nat) (f : Tenant → Tenant) : (s.modTenant t f).dram = s.dram := rfl
@[simp] theorem State.modTenant_starter (t : Nat) (f : Tenant → Tenant) : (s.modTenant t f).starter = s.starter := rfl
@[simp] theorem State.modTenant_mgmt (t : Nat) (f : Tenant → Tenant) : (s.modTenant t f).mgmt = s.mgmt := rfl
@[simp] theorem State.modTenant_rel (t : Nat) (f : Tenant → Tenant) : (s.modTenant t f).rel = s.rel := rfl
@[simp] theorem State.modTenant_pcie (t : Nat) (f : Tenant → Tenant) : (s.modTenant t f).pcie = s.pcie := rfl
@[simp] theorem State.modTenant_out (t : Nat) (f : Tenant → Tenant) : (s.modTenant t f).out = s.out := rfl
@[simp] theorem State.modTenant_free (t : Nat) (f : Tenant → Tenant) : (s.modTenant t f).free = s.free := rfl
@[simp] theorem State.modTenant_pending (t : Nat) (f : Tenant → Tenant) : (s.modTenant t f).pending = s.pending := rfl

/-! ## modFrame -/

@[simp] theorem State.modFrame_num (n : Nat) (f : Frame → Frame) : (s.modFrame n f).num = s.num := rfl
@[simp] theorem State.modFrame_blob (n : Nat) (f : Frame → Frame) : (s.modFrame n f).blob = s.blob := rfl
@[simp] theorem State.modFrame_reply (n : Nat) (f : Frame → Frame) : (s.modFrame n f).reply = s.reply := rfl
@[simp] theorem State.modFrame_time (n : Nat) (f : Frame → Frame) : (s.modFrame n f).time = s.time := rfl
@[simp] theorem State.modFrame_ports (n : Nat) (f : Frame → Frame) : (s.modFrame n f).ports = s.ports := rfl
@[simp] theorem State.modFrame_nextFid (n : Nat) (f : Frame → Frame) : (s.modFrame n f).nextFid = s.nextFid := rfl
@[simp] theorem State.modFrame_ingress (n : Nat) (f : Frame → Frame) : (s.modFrame n f).ingress = s.ingress := rfl
@[simp] theorem State.modFrame_parser (n : Nat) (f : Frame → Frame) : (s.modFrame n f).parser = s.parser := rfl
@[simp] theorem State.modFrame_tables (n : Nat) (f : Frame → Frame) : (s.modFrame n f).tables = s.tables := rfl
@[simp] theorem State.modFrame_relay (n : Nat) (f : Frame → Frame) : (s.modFrame n f).relay = s.relay := rfl
@[simp] theorem State.modFrame_strider (n : Nat) (f : Frame → Frame) : (s.modFrame n f).strider = s.strider := rfl
@[simp] theorem State.modFrame_buf (n : Nat) (f : Frame → Frame) : (s.modFrame n f).buf = s.buf := rfl
@[simp] theorem State.modFrame_ten (n : Nat) (f : Frame → Frame) : (s.modFrame n f).ten = s.ten := rfl
@[simp] theorem State.modFrame_trc (n : Nat) (f : Frame → Frame) : (s.modFrame n f).trc = s.trc := rfl
@[simp] theorem State.modFrame_dram (n : Nat) (f : Frame → Frame) : (s.modFrame n f).dram = s.dram := rfl
@[simp] theorem State.modFrame_starter (n : Nat) (f : Frame → Frame) : (s.modFrame n f).starter = s.starter := rfl
@[simp] theorem State.modFrame_mgmt (n : Nat) (f : Frame → Frame) : (s.modFrame n f).mgmt = s.mgmt := rfl
@[simp] theorem State.modFrame_rel (n : Nat) (f : Frame → Frame) : (s.modFrame n f).rel = s.rel := rfl
@[simp] theorem State.modFrame_pcie (n : Nat) (f : Frame → Frame) : (s.modFrame n f).pcie = s.pcie := rfl
@[simp] theorem State.modFrame_out (n : Nat) (f : Frame → Frame) : (s.modFrame n f).out = s.out := rfl
@[simp] theorem State.modFrame_free (n : Nat) (f : Frame → Frame) : (s.modFrame n f).free = s.free := rfl
@[simp] theorem State.modFrame_pending (n : Nat) (f : Frame → Frame) : (s.modFrame n f).pending = s.pending := rfl

/-! ## modQueue -/

@[simp] theorem State.modQueue_num (q : Nat) (f : Queue → Queue) : (s.modQueue q f).num = s.num := rfl
@[simp] theorem State.modQueue_blob (q : Nat) (f : Queue → Queue) : (s.modQueue q f).blob = s.blob := rfl
@[simp] theorem State.modQueue_reply (q : Nat) (f : Queue → Queue) : (s.modQueue q f).reply = s.reply := rfl
@[simp] theorem State.modQueue_time (q : Nat) (f : Queue → Queue) : (s.modQueue q f).time = s.time := rfl
@[simp] theorem State.modQueue_ports (q : Nat) (f : Queue → Queue) : (s.modQueue q f).ports = s.ports := rfl
@[simp] theorem State.modQueue_frames (q : Nat) (f : Queue → Queue) : (s.modQueue q f).frames = s.frames := rfl
@[simp] theorem State.modQueue_nextFid (q : Nat) (f : Queue → Queue) : (s.modQueue q f).nextFid = s.nextFid := rfl
@[simp] theorem State.modQueue_ingress (q : Nat) (f : Queue → Queue) : (s.modQueue q f).ingress = s.ingress := rfl
@[simp] theorem State.modQueue_parser (q : Nat) (f : Queue → Queue) : (s.modQueue q f).parser = s.parser := rfl
@[simp] theorem State.modQueue_tables (q : Nat) (f : Queue → Queue) : (s.modQueue q f).tables = s.tables := rfl
@[simp] theorem State.modQueue_relay (q : Nat) (f : Queue → Queue) : (s.modQueue q f).relay = s.relay := rfl
@[simp] theorem State.modQueue_strider (q : Nat) (f : Queue → Queue) : (s.modQueue q f).strider = s.strider := rfl
@[simp] theorem State.modQueue_ten (q : Nat) (f : Queue → Queue) : (s.modQueue q f).ten = s.ten := rfl
@[simp] theorem State.modQueue_trc (q : Nat) (f : Queue → Queue) : (s.modQueue q f).trc = s.trc := rfl
@[simp] theorem State.modQueue_dram (q : Nat) (f : Queue → Queue) : (s.modQueue q f).dram = s.dram := rfl
@[simp] theorem State.modQueue_starter (q : Nat) (f : Queue → Queue) : (s.modQueue q f).starter = s.starter := rfl
@[simp] theorem State.modQueue_mgmt (q : Nat) (f : Queue → Queue) : (s.modQueue q f).mgmt = s.mgmt := rfl
@[simp] theorem State.modQueue_rel (q : Nat) (f : Queue → Queue) : (s.modQueue q f).rel = s.rel := rfl
@[simp] theorem State.modQueue_pcie (q : Nat) (f : Queue → Queue) : (s.modQueue q f).pcie = s.pcie := rfl
@[simp] theorem State.modQueue_out (q : Nat) (f : Queue → Queue) : (s.modQueue q f).out = s.out := rfl
@[simp] theorem State.modQueue_free (q : Nat) (f : Queue → Queue) : (s.modQueue q f).free = s.free := rfl
@[simp] theorem State.modQueue_pending (q : Nat) (f : Queue → Queue) : (s.modQueue q f).pending = s.pending := rfl

/-! ## setCell -/

@[simp] theorem State.setCell_num (c : Nat) (x : Cell) : (s.setCell c x).num = s.num := rfl
@[simp] theorem State.setCell_blob (c : Nat) (x : Cell) : (s.setCell c x).blob = s.blob := rfl
@[simp] theorem State.setCell_reply (c : Nat) (x : Cell) : (s.setCell c x).reply = s.reply := rfl
@[simp] theorem State.setCell_time (c : Nat) (x : Cell) : (s.setCell c x).time = s.time := rfl
@[simp] theorem State.setCell_ports (c : Nat) (x : Cell) : (s.setCell c x).ports = s.ports := rfl
@[simp] theorem State.setCell_frames (c : Nat) (x : Cell) : (s.setCell c x).frames = s.frames := rfl
@[simp] theorem State.setCell_nextFid (c : Nat) (x : Cell) : (s.setCell c x).nextFid = s.nextFid := rfl
@[simp] theorem State.setCell_ingress (c : Nat) (x : Cell) : (s.setCell c x).ingress = s.ingress := rfl
@[simp] theorem State.setCell_parser (c : Nat) (x : Cell) : (s.setCell c x).parser = s.parser := rfl
@[simp] theorem State.setCell_tables (c : Nat) (x : Cell) : (s.setCell c x).tables = s.tables := rfl
@[simp] theorem State.setCell_relay (c : Nat) (x : Cell) : (s.setCell c x).relay = s.relay := rfl
@[simp] theorem State.setCell_strider (c : Nat) (x : Cell) : (s.setCell c x).strider = s.strider := rfl
@[simp] theorem State.setCell_ten (c : Nat) (x : Cell) : (s.setCell c x).ten = s.ten := rfl
@[simp] theorem State.setCell_trc (c : Nat) (x : Cell) : (s.setCell c x).trc = s.trc := rfl
@[simp] theorem State.setCell_dram (c : Nat) (x : Cell) : (s.setCell c x).dram = s.dram := rfl
@[simp] theorem State.setCell_starter (c : Nat) (x : Cell) : (s.setCell c x).starter = s.starter := rfl
@[simp] theorem State.setCell_mgmt (c : Nat) (x : Cell) : (s.setCell c x).mgmt = s.mgmt := rfl
@[simp] theorem State.setCell_rel (c : Nat) (x : Cell) : (s.setCell c x).rel = s.rel := rfl
@[simp] theorem State.setCell_pcie (c : Nat) (x : Cell) : (s.setCell c x).pcie = s.pcie := rfl
@[simp] theorem State.setCell_out (c : Nat) (x : Cell) : (s.setCell c x).out = s.out := rfl
@[simp] theorem State.setCell_free (c : Nat) (x : Cell) : (s.setCell c x).free = s.free := rfl
@[simp] theorem State.setCell_pending (c : Nat) (x : Cell) : (s.setCell c x).pending = s.pending := rfl

/-! ## setStack -/

@[simp] theorem State.setStack_num (k : Nat) (x : FreeStack) : (s.setStack k x).num = s.num := rfl
@[simp] theorem State.setStack_blob (k : Nat) (x : FreeStack) : (s.setStack k x).blob = s.blob := rfl
@[simp] theorem State.setStack_reply (k : Nat) (x : FreeStack) : (s.setStack k x).reply = s.reply := rfl
@[simp] theorem State.setStack_time (k : Nat) (x : FreeStack) : (s.setStack k x).time = s.time := rfl
@[simp] theorem State.setStack_ports (k : Nat) (x : FreeStack) : (s.setStack k x).ports = s.ports := rfl
@[simp] theorem State.setStack_frames (k : Nat) (x : FreeStack) : (s.setStack k x).frames = s.frames := rfl
@[simp] theorem State.setStack_nextFid (k : Nat) (x : FreeStack) : (s.setStack k x).nextFid = s.nextFid := rfl
@[simp] theorem State.setStack_ingress (k : Nat) (x : FreeStack) : (s.setStack k x).ingress = s.ingress := rfl
@[simp] theorem State.setStack_parser (k : Nat) (x : FreeStack) : (s.setStack k x).parser = s.parser := rfl
@[simp] theorem State.setStack_tables (k : Nat) (x : FreeStack) : (s.setStack k x).tables = s.tables := rfl
@[simp] theorem State.setStack_relay (k : Nat) (x : FreeStack) : (s.setStack k x).relay = s.relay := rfl
@[simp] theorem State.setStack_strider (k : Nat) (x : FreeStack) : (s.setStack k x).strider = s.strider := rfl
@[simp] theorem State.setStack_ten (k : Nat) (x : FreeStack) : (s.setStack k x).ten = s.ten := rfl
@[simp] theorem State.setStack_trc (k : Nat) (x : FreeStack) : (s.setStack k x).trc = s.trc := rfl
@[simp] theorem State.setStack_dram (k : Nat) (x : FreeStack) : (s.setStack k x).dram = s.dram := rfl
@[simp] theorem State.setStack_starter (k : Nat) (x : FreeStack) : (s.setStack k x).starter = s.starter := rfl
@[simp] theorem State.setStack_mgmt (k : Nat) (x : FreeStack) : (s.setStack k x).mgmt = s.mgmt := rfl
@[simp] theorem State.setStack_rel (k : Nat) (x : FreeStack) : (s.setStack k x).rel = s.rel := rfl
@[simp] theorem State.setStack_pcie (k : Nat) (x : FreeStack) : (s.setStack k x).pcie = s.pcie := rfl
@[simp] theorem State.setStack_out (k : Nat) (x : FreeStack) : (s.setStack k x).out = s.out := rfl
@[simp] theorem State.setStack_free (k : Nat) (x : FreeStack) : (s.setStack k x).free = s.free := rfl
@[simp] theorem State.setStack_pending (k : Nat) (x : FreeStack) : (s.setStack k x).pending = s.pending := rfl

/-! ## setLock -/

@[simp] theorem State.setLock_num (l : Nat) (x : Lock) : (s.setLock l x).num = s.num := rfl
@[simp] theorem State.setLock_blob (l : Nat) (x : Lock) : (s.setLock l x).blob = s.blob := rfl
@[simp] theorem State.setLock_reply (l : Nat) (x : Lock) : (s.setLock l x).reply = s.reply := rfl
@[simp] theorem State.setLock_time (l : Nat) (x : Lock) : (s.setLock l x).time = s.time := rfl
@[simp] theorem State.setLock_ports (l : Nat) (x : Lock) : (s.setLock l x).ports = s.ports := rfl
@[simp] theorem State.setLock_frames (l : Nat) (x : Lock) : (s.setLock l x).frames = s.frames := rfl
@[simp] theorem State.setLock_nextFid (l : Nat) (x : Lock) : (s.setLock l x).nextFid = s.nextFid := rfl
@[simp] theorem State.setLock_ingress (l : Nat) (x : Lock) : (s.setLock l x).ingress = s.ingress := rfl
@[simp] theorem State.setLock_parser (l : Nat) (x : Lock) : (s.setLock l x).parser = s.parser := rfl
@[simp] theorem State.setLock_tables (l : Nat) (x : Lock) : (s.setLock l x).tables = s.tables := rfl
@[simp] theorem State.setLock_relay (l : Nat) (x : Lock) : (s.setLock l x).relay = s.relay := rfl
@[simp] theorem State.setLock_strider (l : Nat) (x : Lock) : (s.setLock l x).strider = s.strider := rfl
@[simp] theorem State.setLock_buf (l : Nat) (x : Lock) : (s.setLock l x).buf = s.buf := rfl
@[simp] theorem State.setLock_trc (l : Nat) (x : Lock) : (s.setLock l x).trc = s.trc := rfl
@[simp] theorem State.setLock_dram (l : Nat) (x : Lock) : (s.setLock l x).dram = s.dram := rfl
@[simp] theorem State.setLock_starter (l : Nat) (x : Lock) : (s.setLock l x).starter = s.starter := rfl
@[simp] theorem State.setLock_mgmt (l : Nat) (x : Lock) : (s.setLock l x).mgmt = s.mgmt := rfl
@[simp] theorem State.setLock_rel (l : Nat) (x : Lock) : (s.setLock l x).rel = s.rel := rfl
@[simp] theorem State.setLock_pcie (l : Nat) (x : Lock) : (s.setLock l x).pcie = s.pcie := rfl
@[simp] theorem State.setLock_out (l : Nat) (x : Lock) : (s.setLock l x).out = s.out := rfl
@[simp] theorem State.setLock_free (l : Nat) (x : Lock) : (s.setLock l x).free = s.free := rfl
@[simp] theorem State.setLock_pending (l : Nat) (x : Lock) : (s.setLock l x).pending = s.pending := rfl

/-! ## setAtom -/

@[simp] theorem State.setAtom_num (i v : Nat) : (s.setAtom i v).num = s.num := rfl
@[simp] theorem State.setAtom_blob (i v : Nat) : (s.setAtom i v).blob = s.blob := rfl
@[simp] theorem State.setAtom_reply (i v : Nat) : (s.setAtom i v).reply = s.reply := rfl
@[simp] theorem State.setAtom_time (i v : Nat) : (s.setAtom i v).time = s.time := rfl
@[simp] theorem State.setAtom_ports (i v : Nat) : (s.setAtom i v).ports = s.ports := rfl
@[simp] theorem State.setAtom_frames (i v : Nat) : (s.setAtom i v).frames = s.frames := rfl
@[simp] theorem State.setAtom_nextFid (i v : Nat) : (s.setAtom i v).nextFid = s.nextFid := rfl
@[simp] theorem State.setAtom_ingress (i v : Nat) : (s.setAtom i v).ingress = s.ingress := rfl
@[simp] theorem State.setAtom_parser (i v : Nat) : (s.setAtom i v).parser = s.parser := rfl
@[simp] theorem State.setAtom_tables (i v : Nat) : (s.setAtom i v).tables = s.tables := rfl
@[simp] theorem State.setAtom_relay (i v : Nat) : (s.setAtom i v).relay = s.relay := rfl
@[simp] theorem State.setAtom_strider (i v : Nat) : (s.setAtom i v).strider = s.strider := rfl
@[simp] theorem State.setAtom_buf (i v : Nat) : (s.setAtom i v).buf = s.buf := rfl
@[simp] theorem State.setAtom_trc (i v : Nat) : (s.setAtom i v).trc = s.trc := rfl
@[simp] theorem State.setAtom_dram (i v : Nat) : (s.setAtom i v).dram = s.dram := rfl
@[simp] theorem State.setAtom_starter (i v : Nat) : (s.setAtom i v).starter = s.starter := rfl
@[simp] theorem State.setAtom_mgmt (i v : Nat) : (s.setAtom i v).mgmt = s.mgmt := rfl
@[simp] theorem State.setAtom_rel (i v : Nat) : (s.setAtom i v).rel = s.rel := rfl
@[simp] theorem State.setAtom_pcie (i v : Nat) : (s.setAtom i v).pcie = s.pcie := rfl
@[simp] theorem State.setAtom_out (i v : Nat) : (s.setAtom i v).out = s.out := rfl
@[simp] theorem State.setAtom_free (i v : Nat) : (s.setAtom i v).free = s.free := rfl
@[simp] theorem State.setAtom_pending (i v : Nat) : (s.setAtom i v).pending = s.pending := rfl

/-! ## setFrag -/

@[simp] theorem State.setFrag_num (n : Nat) (x : FragEntry) : (s.setFrag n x).num = s.num := rfl
@[simp] theorem State.setFrag_blob (n : Nat) (x : FragEntry) : (s.setFrag n x).blob = s.blob := rfl
@[simp] theorem State.setFrag_reply (n : Nat) (x : FragEntry) : (s.setFrag n x).reply = s.reply := rfl
@[simp] theorem State.setFrag_time (n : Nat) (x : FragEntry) : (s.setFrag n x).time = s.time := rfl
@[simp] theorem State.setFrag_ports (n : Nat) (x : FragEntry) : (s.setFrag n x).ports = s.ports := rfl
@[simp] theorem State.setFrag_frames (n : Nat) (x : FragEntry) : (s.setFrag n x).frames = s.frames := rfl
@[simp] theorem State.setFrag_nextFid (n : Nat) (x : FragEntry) : (s.setFrag n x).nextFid = s.nextFid := rfl
@[simp] theorem State.setFrag_ingress (n : Nat) (x : FragEntry) : (s.setFrag n x).ingress = s.ingress := rfl
@[simp] theorem State.setFrag_tables (n : Nat) (x : FragEntry) : (s.setFrag n x).tables = s.tables := rfl
@[simp] theorem State.setFrag_relay (n : Nat) (x : FragEntry) : (s.setFrag n x).relay = s.relay := rfl
@[simp] theorem State.setFrag_strider (n : Nat) (x : FragEntry) : (s.setFrag n x).strider = s.strider := rfl
@[simp] theorem State.setFrag_buf (n : Nat) (x : FragEntry) : (s.setFrag n x).buf = s.buf := rfl
@[simp] theorem State.setFrag_ten (n : Nat) (x : FragEntry) : (s.setFrag n x).ten = s.ten := rfl
@[simp] theorem State.setFrag_trc (n : Nat) (x : FragEntry) : (s.setFrag n x).trc = s.trc := rfl
@[simp] theorem State.setFrag_dram (n : Nat) (x : FragEntry) : (s.setFrag n x).dram = s.dram := rfl
@[simp] theorem State.setFrag_starter (n : Nat) (x : FragEntry) : (s.setFrag n x).starter = s.starter := rfl
@[simp] theorem State.setFrag_mgmt (n : Nat) (x : FragEntry) : (s.setFrag n x).mgmt = s.mgmt := rfl
@[simp] theorem State.setFrag_rel (n : Nat) (x : FragEntry) : (s.setFrag n x).rel = s.rel := rfl
@[simp] theorem State.setFrag_pcie (n : Nat) (x : FragEntry) : (s.setFrag n x).pcie = s.pcie := rfl
@[simp] theorem State.setFrag_out (n : Nat) (x : FragEntry) : (s.setFrag n x).out = s.out := rfl
@[simp] theorem State.setFrag_free (n : Nat) (x : FragEntry) : (s.setFrag n x).free = s.free := rfl
@[simp] theorem State.setFrag_pending (n : Nat) (x : FragEntry) : (s.setFrag n x).pending = s.pending := rfl

/-! ## setLearn -/

@[simp] theorem State.setLearn_num (n : Nat) (x : Option LearnEntry) : (s.setLearn n x).num = s.num := rfl
@[simp] theorem State.setLearn_blob (n : Nat) (x : Option LearnEntry) : (s.setLearn n x).blob = s.blob := rfl
@[simp] theorem State.setLearn_reply (n : Nat) (x : Option LearnEntry) : (s.setLearn n x).reply = s.reply := rfl
@[simp] theorem State.setLearn_time (n : Nat) (x : Option LearnEntry) : (s.setLearn n x).time = s.time := rfl
@[simp] theorem State.setLearn_ports (n : Nat) (x : Option LearnEntry) : (s.setLearn n x).ports = s.ports := rfl
@[simp] theorem State.setLearn_frames (n : Nat) (x : Option LearnEntry) : (s.setLearn n x).frames = s.frames := rfl
@[simp] theorem State.setLearn_nextFid (n : Nat) (x : Option LearnEntry) : (s.setLearn n x).nextFid = s.nextFid := rfl
@[simp] theorem State.setLearn_ingress (n : Nat) (x : Option LearnEntry) : (s.setLearn n x).ingress = s.ingress := rfl
@[simp] theorem State.setLearn_parser (n : Nat) (x : Option LearnEntry) : (s.setLearn n x).parser = s.parser := rfl
@[simp] theorem State.setLearn_relay (n : Nat) (x : Option LearnEntry) : (s.setLearn n x).relay = s.relay := rfl
@[simp] theorem State.setLearn_strider (n : Nat) (x : Option LearnEntry) : (s.setLearn n x).strider = s.strider := rfl
@[simp] theorem State.setLearn_buf (n : Nat) (x : Option LearnEntry) : (s.setLearn n x).buf = s.buf := rfl
@[simp] theorem State.setLearn_ten (n : Nat) (x : Option LearnEntry) : (s.setLearn n x).ten = s.ten := rfl
@[simp] theorem State.setLearn_trc (n : Nat) (x : Option LearnEntry) : (s.setLearn n x).trc = s.trc := rfl
@[simp] theorem State.setLearn_dram (n : Nat) (x : Option LearnEntry) : (s.setLearn n x).dram = s.dram := rfl
@[simp] theorem State.setLearn_starter (n : Nat) (x : Option LearnEntry) : (s.setLearn n x).starter = s.starter := rfl
@[simp] theorem State.setLearn_mgmt (n : Nat) (x : Option LearnEntry) : (s.setLearn n x).mgmt = s.mgmt := rfl
@[simp] theorem State.setLearn_rel (n : Nat) (x : Option LearnEntry) : (s.setLearn n x).rel = s.rel := rfl
@[simp] theorem State.setLearn_pcie (n : Nat) (x : Option LearnEntry) : (s.setLearn n x).pcie = s.pcie := rfl
@[simp] theorem State.setLearn_out (n : Nat) (x : Option LearnEntry) : (s.setLearn n x).out = s.out := rfl
@[simp] theorem State.setLearn_free (n : Nat) (x : Option LearnEntry) : (s.setLearn n x).free = s.free := rfl
@[simp] theorem State.setLearn_pending (n : Nat) (x : Option LearnEntry) : (s.setLearn n x).pending = s.pending := rfl

/-! ## setInput -/

@[simp] theorem State.setInput_num (t slab n : Nat) (x : Input) : (s.setInput t slab n x).num = s.num := rfl
@[simp] theorem State.setInput_blob (t slab n : Nat) (x : Input) : (s.setInput t slab n x).blob = s.blob := rfl
@[simp] theorem State.setInput_reply (t slab n : Nat) (x : Input) : (s.setInput t slab n x).reply = s.reply := rfl
@[simp] theorem State.setInput_time (t slab n : Nat) (x : Input) : (s.setInput t slab n x).time = s.time := rfl
@[simp] theorem State.setInput_ports (t slab n : Nat) (x : Input) : (s.setInput t slab n x).ports = s.ports := rfl
@[simp] theorem State.setInput_frames (t slab n : Nat) (x : Input) : (s.setInput t slab n x).frames = s.frames := rfl
@[simp] theorem State.setInput_nextFid (t slab n : Nat) (x : Input) : (s.setInput t slab n x).nextFid = s.nextFid := rfl
@[simp] theorem State.setInput_ingress (t slab n : Nat) (x : Input) : (s.setInput t slab n x).ingress = s.ingress := rfl
@[simp] theorem State.setInput_parser (t slab n : Nat) (x : Input) : (s.setInput t slab n x).parser = s.parser := rfl
@[simp] theorem State.setInput_tables (t slab n : Nat) (x : Input) : (s.setInput t slab n x).tables = s.tables := rfl
@[simp] theorem State.setInput_strider (t slab n : Nat) (x : Input) : (s.setInput t slab n x).strider = s.strider := rfl
@[simp] theorem State.setInput_buf (t slab n : Nat) (x : Input) : (s.setInput t slab n x).buf = s.buf := rfl
@[simp] theorem State.setInput_ten (t slab n : Nat) (x : Input) : (s.setInput t slab n x).ten = s.ten := rfl
@[simp] theorem State.setInput_trc (t slab n : Nat) (x : Input) : (s.setInput t slab n x).trc = s.trc := rfl
@[simp] theorem State.setInput_dram (t slab n : Nat) (x : Input) : (s.setInput t slab n x).dram = s.dram := rfl
@[simp] theorem State.setInput_starter (t slab n : Nat) (x : Input) : (s.setInput t slab n x).starter = s.starter := rfl
@[simp] theorem State.setInput_mgmt (t slab n : Nat) (x : Input) : (s.setInput t slab n x).mgmt = s.mgmt := rfl
@[simp] theorem State.setInput_rel (t slab n : Nat) (x : Input) : (s.setInput t slab n x).rel = s.rel := rfl
@[simp] theorem State.setInput_pcie (t slab n : Nat) (x : Input) : (s.setInput t slab n x).pcie = s.pcie := rfl
@[simp] theorem State.setInput_out (t slab n : Nat) (x : Input) : (s.setInput t slab n x).out = s.out := rfl
@[simp] theorem State.setInput_free (t slab n : Nat) (x : Input) : (s.setInput t slab n x).free = s.free := rfl
@[simp] theorem State.setInput_pending (t slab n : Nat) (x : Input) : (s.setInput t slab n x).pending = s.pending := rfl

/-! ## modRing -/

@[simp] theorem State.modRing_num (t : Nat) (f : Ring → Ring) : (s.modRing t f).num = s.num := rfl
@[simp] theorem State.modRing_blob (t : Nat) (f : Ring → Ring) : (s.modRing t f).blob = s.blob := rfl
@[simp] theorem State.modRing_reply (t : Nat) (f : Ring → Ring) : (s.modRing t f).reply = s.reply := rfl
@[simp] theorem State.modRing_time (t : Nat) (f : Ring → Ring) : (s.modRing t f).time = s.time := rfl
@[simp] theorem State.modRing_ports (t : Nat) (f : Ring → Ring) : (s.modRing t f).ports = s.ports := rfl
@[simp] theorem State.modRing_frames (t : Nat) (f : Ring → Ring) : (s.modRing t f).frames = s.frames := rfl
@[simp] theorem State.modRing_nextFid (t : Nat) (f : Ring → Ring) : (s.modRing t f).nextFid = s.nextFid := rfl
@[simp] theorem State.modRing_ingress (t : Nat) (f : Ring → Ring) : (s.modRing t f).ingress = s.ingress := rfl
@[simp] theorem State.modRing_parser (t : Nat) (f : Ring → Ring) : (s.modRing t f).parser = s.parser := rfl
@[simp] theorem State.modRing_tables (t : Nat) (f : Ring → Ring) : (s.modRing t f).tables = s.tables := rfl
@[simp] theorem State.modRing_relay (t : Nat) (f : Ring → Ring) : (s.modRing t f).relay = s.relay := rfl
@[simp] theorem State.modRing_strider (t : Nat) (f : Ring → Ring) : (s.modRing t f).strider = s.strider := rfl
@[simp] theorem State.modRing_buf (t : Nat) (f : Ring → Ring) : (s.modRing t f).buf = s.buf := rfl
@[simp] theorem State.modRing_ten (t : Nat) (f : Ring → Ring) : (s.modRing t f).ten = s.ten := rfl
@[simp] theorem State.modRing_dram (t : Nat) (f : Ring → Ring) : (s.modRing t f).dram = s.dram := rfl
@[simp] theorem State.modRing_starter (t : Nat) (f : Ring → Ring) : (s.modRing t f).starter = s.starter := rfl
@[simp] theorem State.modRing_mgmt (t : Nat) (f : Ring → Ring) : (s.modRing t f).mgmt = s.mgmt := rfl
@[simp] theorem State.modRing_rel (t : Nat) (f : Ring → Ring) : (s.modRing t f).rel = s.rel := rfl
@[simp] theorem State.modRing_pcie (t : Nat) (f : Ring → Ring) : (s.modRing t f).pcie = s.pcie := rfl
@[simp] theorem State.modRing_out (t : Nat) (f : Ring → Ring) : (s.modRing t f).out = s.out := rfl
@[simp] theorem State.modRing_free (t : Nat) (f : Ring → Ring) : (s.modRing t f).free = s.free := rfl
@[simp] theorem State.modRing_pending (t : Nat) (f : Ring → Ring) : (s.modRing t f).pending = s.pending := rfl

/-! ## modChannel -/

@[simp] theorem State.modChannel_num (c : Nat) (f : Channel → Channel) : (s.modChannel c f).num = s.num := rfl
@[simp] theorem State.modChannel_blob (c : Nat) (f : Channel → Channel) : (s.modChannel c f).blob = s.blob := rfl
@[simp] theorem State.modChannel_reply (c : Nat) (f : Channel → Channel) : (s.modChannel c f).reply = s.reply := rfl
@[simp] theorem State.modChannel_time (c : Nat) (f : Channel → Channel) : (s.modChannel c f).time = s.time := rfl
@[simp] theorem State.modChannel_ports (c : Nat) (f : Channel → Channel) : (s.modChannel c f).ports = s.ports := rfl
@[simp] theorem State.modChannel_frames (c : Nat) (f : Channel → Channel) : (s.modChannel c f).frames = s.frames := rfl
@[simp] theorem State.modChannel_nextFid (c : Nat) (f : Channel → Channel) : (s.modChannel c f).nextFid = s.nextFid := rfl
@[simp] theorem State.modChannel_ingress (c : Nat) (f : Channel → Channel) : (s.modChannel c f).ingress = s.ingress := rfl
@[simp] theorem State.modChannel_parser (c : Nat) (f : Channel → Channel) : (s.modChannel c f).parser = s.parser := rfl
@[simp] theorem State.modChannel_tables (c : Nat) (f : Channel → Channel) : (s.modChannel c f).tables = s.tables := rfl
@[simp] theorem State.modChannel_relay (c : Nat) (f : Channel → Channel) : (s.modChannel c f).relay = s.relay := rfl
@[simp] theorem State.modChannel_strider (c : Nat) (f : Channel → Channel) : (s.modChannel c f).strider = s.strider := rfl
@[simp] theorem State.modChannel_buf (c : Nat) (f : Channel → Channel) : (s.modChannel c f).buf = s.buf := rfl
@[simp] theorem State.modChannel_ten (c : Nat) (f : Channel → Channel) : (s.modChannel c f).ten = s.ten := rfl
@[simp] theorem State.modChannel_trc (c : Nat) (f : Channel → Channel) : (s.modChannel c f).trc = s.trc := rfl
@[simp] theorem State.modChannel_starter (c : Nat) (f : Channel → Channel) : (s.modChannel c f).starter = s.starter := rfl
@[simp] theorem State.modChannel_mgmt (c : Nat) (f : Channel → Channel) : (s.modChannel c f).mgmt = s.mgmt := rfl
@[simp] theorem State.modChannel_rel (c : Nat) (f : Channel → Channel) : (s.modChannel c f).rel = s.rel := rfl
@[simp] theorem State.modChannel_pcie (c : Nat) (f : Channel → Channel) : (s.modChannel c f).pcie = s.pcie := rfl
@[simp] theorem State.modChannel_out (c : Nat) (f : Channel → Channel) : (s.modChannel c f).out = s.out := rfl
@[simp] theorem State.modChannel_free (c : Nat) (f : Channel → Channel) : (s.modChannel c f).free = s.free := rfl
@[simp] theorem State.modChannel_pending (c : Nat) (f : Channel → Channel) : (s.modChannel c f).pending = s.pending := rfl

/-! ## modSession -/

@[simp] theorem State.modSession_num (v : Nat) (f : Session → Session) : (s.modSession v f).num = s.num := rfl
@[simp] theorem State.modSession_blob (v : Nat) (f : Session → Session) : (s.modSession v f).blob = s.blob := rfl
@[simp] theorem State.modSession_reply (v : Nat) (f : Session → Session) : (s.modSession v f).reply = s.reply := rfl
@[simp] theorem State.modSession_time (v : Nat) (f : Session → Session) : (s.modSession v f).time = s.time := rfl
@[simp] theorem State.modSession_ports (v : Nat) (f : Session → Session) : (s.modSession v f).ports = s.ports := rfl
@[simp] theorem State.modSession_frames (v : Nat) (f : Session → Session) : (s.modSession v f).frames = s.frames := rfl
@[simp] theorem State.modSession_nextFid (v : Nat) (f : Session → Session) : (s.modSession v f).nextFid = s.nextFid := rfl
@[simp] theorem State.modSession_ingress (v : Nat) (f : Session → Session) : (s.modSession v f).ingress = s.ingress := rfl
@[simp] theorem State.modSession_parser (v : Nat) (f : Session → Session) : (s.modSession v f).parser = s.parser := rfl
@[simp] theorem State.modSession_tables (v : Nat) (f : Session → Session) : (s.modSession v f).tables = s.tables := rfl
@[simp] theorem State.modSession_relay (v : Nat) (f : Session → Session) : (s.modSession v f).relay = s.relay := rfl
@[simp] theorem State.modSession_strider (v : Nat) (f : Session → Session) : (s.modSession v f).strider = s.strider := rfl
@[simp] theorem State.modSession_buf (v : Nat) (f : Session → Session) : (s.modSession v f).buf = s.buf := rfl
@[simp] theorem State.modSession_ten (v : Nat) (f : Session → Session) : (s.modSession v f).ten = s.ten := rfl
@[simp] theorem State.modSession_trc (v : Nat) (f : Session → Session) : (s.modSession v f).trc = s.trc := rfl
@[simp] theorem State.modSession_dram (v : Nat) (f : Session → Session) : (s.modSession v f).dram = s.dram := rfl
@[simp] theorem State.modSession_starter (v : Nat) (f : Session → Session) : (s.modSession v f).starter = s.starter := rfl
@[simp] theorem State.modSession_rel (v : Nat) (f : Session → Session) : (s.modSession v f).rel = s.rel := rfl
@[simp] theorem State.modSession_pcie (v : Nat) (f : Session → Session) : (s.modSession v f).pcie = s.pcie := rfl
@[simp] theorem State.modSession_out (v : Nat) (f : Session → Session) : (s.modSession v f).out = s.out := rfl
@[simp] theorem State.modSession_free (v : Nat) (f : Session → Session) : (s.modSession v f).free = s.free := rfl
@[simp] theorem State.modSession_pending (v : Nat) (f : Session → Session) : (s.modSession v f).pending = s.pending := rfl

/-! ## modMaster -/

@[simp] theorem State.modMaster_num (f : Master → Master) : (s.modMaster f).num = s.num := rfl
@[simp] theorem State.modMaster_blob (f : Master → Master) : (s.modMaster f).blob = s.blob := rfl
@[simp] theorem State.modMaster_reply (f : Master → Master) : (s.modMaster f).reply = s.reply := rfl
@[simp] theorem State.modMaster_time (f : Master → Master) : (s.modMaster f).time = s.time := rfl
@[simp] theorem State.modMaster_ports (f : Master → Master) : (s.modMaster f).ports = s.ports := rfl
@[simp] theorem State.modMaster_frames (f : Master → Master) : (s.modMaster f).frames = s.frames := rfl
@[simp] theorem State.modMaster_nextFid (f : Master → Master) : (s.modMaster f).nextFid = s.nextFid := rfl
@[simp] theorem State.modMaster_ingress (f : Master → Master) : (s.modMaster f).ingress = s.ingress := rfl
@[simp] theorem State.modMaster_parser (f : Master → Master) : (s.modMaster f).parser = s.parser := rfl
@[simp] theorem State.modMaster_tables (f : Master → Master) : (s.modMaster f).tables = s.tables := rfl
@[simp] theorem State.modMaster_relay (f : Master → Master) : (s.modMaster f).relay = s.relay := rfl
@[simp] theorem State.modMaster_strider (f : Master → Master) : (s.modMaster f).strider = s.strider := rfl
@[simp] theorem State.modMaster_buf (f : Master → Master) : (s.modMaster f).buf = s.buf := rfl
@[simp] theorem State.modMaster_ten (f : Master → Master) : (s.modMaster f).ten = s.ten := rfl
@[simp] theorem State.modMaster_trc (f : Master → Master) : (s.modMaster f).trc = s.trc := rfl
@[simp] theorem State.modMaster_dram (f : Master → Master) : (s.modMaster f).dram = s.dram := rfl
@[simp] theorem State.modMaster_starter (f : Master → Master) : (s.modMaster f).starter = s.starter := rfl
@[simp] theorem State.modMaster_rel (f : Master → Master) : (s.modMaster f).rel = s.rel := rfl
@[simp] theorem State.modMaster_pcie (f : Master → Master) : (s.modMaster f).pcie = s.pcie := rfl
@[simp] theorem State.modMaster_out (f : Master → Master) : (s.modMaster f).out = s.out := rfl
@[simp] theorem State.modMaster_free (f : Master → Master) : (s.modMaster f).free = s.free := rfl
@[simp] theorem State.modMaster_pending (f : Master → Master) : (s.modMaster f).pending = s.pending := rfl

/-! ## modSlot -/

@[simp] theorem State.modSlot_num (n : Nat) (f : FwSlot → FwSlot) : (s.modSlot n f).num = s.num := rfl
@[simp] theorem State.modSlot_blob (n : Nat) (f : FwSlot → FwSlot) : (s.modSlot n f).blob = s.blob := rfl
@[simp] theorem State.modSlot_reply (n : Nat) (f : FwSlot → FwSlot) : (s.modSlot n f).reply = s.reply := rfl
@[simp] theorem State.modSlot_time (n : Nat) (f : FwSlot → FwSlot) : (s.modSlot n f).time = s.time := rfl
@[simp] theorem State.modSlot_ports (n : Nat) (f : FwSlot → FwSlot) : (s.modSlot n f).ports = s.ports := rfl
@[simp] theorem State.modSlot_frames (n : Nat) (f : FwSlot → FwSlot) : (s.modSlot n f).frames = s.frames := rfl
@[simp] theorem State.modSlot_nextFid (n : Nat) (f : FwSlot → FwSlot) : (s.modSlot n f).nextFid = s.nextFid := rfl
@[simp] theorem State.modSlot_ingress (n : Nat) (f : FwSlot → FwSlot) : (s.modSlot n f).ingress = s.ingress := rfl
@[simp] theorem State.modSlot_parser (n : Nat) (f : FwSlot → FwSlot) : (s.modSlot n f).parser = s.parser := rfl
@[simp] theorem State.modSlot_tables (n : Nat) (f : FwSlot → FwSlot) : (s.modSlot n f).tables = s.tables := rfl
@[simp] theorem State.modSlot_relay (n : Nat) (f : FwSlot → FwSlot) : (s.modSlot n f).relay = s.relay := rfl
@[simp] theorem State.modSlot_strider (n : Nat) (f : FwSlot → FwSlot) : (s.modSlot n f).strider = s.strider := rfl
@[simp] theorem State.modSlot_buf (n : Nat) (f : FwSlot → FwSlot) : (s.modSlot n f).buf = s.buf := rfl
@[simp] theorem State.modSlot_ten (n : Nat) (f : FwSlot → FwSlot) : (s.modSlot n f).ten = s.ten := rfl
@[simp] theorem State.modSlot_trc (n : Nat) (f : FwSlot → FwSlot) : (s.modSlot n f).trc = s.trc := rfl
@[simp] theorem State.modSlot_dram (n : Nat) (f : FwSlot → FwSlot) : (s.modSlot n f).dram = s.dram := rfl
@[simp] theorem State.modSlot_starter (n : Nat) (f : FwSlot → FwSlot) : (s.modSlot n f).starter = s.starter := rfl
@[simp] theorem State.modSlot_mgmt (n : Nat) (f : FwSlot → FwSlot) : (s.modSlot n f).mgmt = s.mgmt := rfl
@[simp] theorem State.modSlot_pcie (n : Nat) (f : FwSlot → FwSlot) : (s.modSlot n f).pcie = s.pcie := rfl
@[simp] theorem State.modSlot_out (n : Nat) (f : FwSlot → FwSlot) : (s.modSlot n f).out = s.out := rfl
@[simp] theorem State.modSlot_free (n : Nat) (f : FwSlot → FwSlot) : (s.modSlot n f).free = s.free := rfl
@[simp] theorem State.modSlot_pending (n : Nat) (f : FwSlot → FwSlot) : (s.modSlot n f).pending = s.pending := rfl

/-! ## bumpGen -/

@[simp] theorem State.bumpGen_num (o i : Nat) : (s.bumpGen o i).num = s.num := rfl
@[simp] theorem State.bumpGen_blob (o i : Nat) : (s.bumpGen o i).blob = s.blob := rfl
@[simp] theorem State.bumpGen_reply (o i : Nat) : (s.bumpGen o i).reply = s.reply := rfl
@[simp] theorem State.bumpGen_time (o i : Nat) : (s.bumpGen o i).time = s.time := rfl
@[simp] theorem State.bumpGen_ports (o i : Nat) : (s.bumpGen o i).ports = s.ports := rfl
@[simp] theorem State.bumpGen_frames (o i : Nat) : (s.bumpGen o i).frames = s.frames := rfl
@[simp] theorem State.bumpGen_nextFid (o i : Nat) : (s.bumpGen o i).nextFid = s.nextFid := rfl
@[simp] theorem State.bumpGen_ingress (o i : Nat) : (s.bumpGen o i).ingress = s.ingress := rfl
@[simp] theorem State.bumpGen_parser (o i : Nat) : (s.bumpGen o i).parser = s.parser := rfl
@[simp] theorem State.bumpGen_tables (o i : Nat) : (s.bumpGen o i).tables = s.tables := rfl
@[simp] theorem State.bumpGen_relay (o i : Nat) : (s.bumpGen o i).relay = s.relay := rfl
@[simp] theorem State.bumpGen_strider (o i : Nat) : (s.bumpGen o i).strider = s.strider := rfl
@[simp] theorem State.bumpGen_buf (o i : Nat) : (s.bumpGen o i).buf = s.buf := rfl
@[simp] theorem State.bumpGen_ten (o i : Nat) : (s.bumpGen o i).ten = s.ten := rfl
@[simp] theorem State.bumpGen_trc (o i : Nat) : (s.bumpGen o i).trc = s.trc := rfl
@[simp] theorem State.bumpGen_dram (o i : Nat) : (s.bumpGen o i).dram = s.dram := rfl
@[simp] theorem State.bumpGen_starter (o i : Nat) : (s.bumpGen o i).starter = s.starter := rfl
@[simp] theorem State.bumpGen_rel (o i : Nat) : (s.bumpGen o i).rel = s.rel := rfl
@[simp] theorem State.bumpGen_pcie (o i : Nat) : (s.bumpGen o i).pcie = s.pcie := rfl
@[simp] theorem State.bumpGen_out (o i : Nat) : (s.bumpGen o i).out = s.out := rfl
@[simp] theorem State.bumpGen_free (o i : Nat) : (s.bumpGen o i).free = s.free := rfl
@[simp] theorem State.bumpGen_pending (o i : Nat) : (s.bumpGen o i).pending = s.pending := rfl

/-! ## setCfg -/

@[simp] theorem State.setCfg_blob (o i v : Nat) : (s.setCfg o i v).blob = s.blob := rfl
@[simp] theorem State.setCfg_reply (o i v : Nat) : (s.setCfg o i v).reply = s.reply := rfl
@[simp] theorem State.setCfg_time (o i v : Nat) : (s.setCfg o i v).time = s.time := rfl
@[simp] theorem State.setCfg_ports (o i v : Nat) : (s.setCfg o i v).ports = s.ports := rfl
@[simp] theorem State.setCfg_frames (o i v : Nat) : (s.setCfg o i v).frames = s.frames := rfl
@[simp] theorem State.setCfg_nextFid (o i v : Nat) : (s.setCfg o i v).nextFid = s.nextFid := rfl
@[simp] theorem State.setCfg_ingress (o i v : Nat) : (s.setCfg o i v).ingress = s.ingress := rfl
@[simp] theorem State.setCfg_parser (o i v : Nat) : (s.setCfg o i v).parser = s.parser := rfl
@[simp] theorem State.setCfg_tables (o i v : Nat) : (s.setCfg o i v).tables = s.tables := rfl
@[simp] theorem State.setCfg_relay (o i v : Nat) : (s.setCfg o i v).relay = s.relay := rfl
@[simp] theorem State.setCfg_strider (o i v : Nat) : (s.setCfg o i v).strider = s.strider := rfl
@[simp] theorem State.setCfg_buf (o i v : Nat) : (s.setCfg o i v).buf = s.buf := rfl
@[simp] theorem State.setCfg_ten (o i v : Nat) : (s.setCfg o i v).ten = s.ten := rfl
@[simp] theorem State.setCfg_trc (o i v : Nat) : (s.setCfg o i v).trc = s.trc := rfl
@[simp] theorem State.setCfg_dram (o i v : Nat) : (s.setCfg o i v).dram = s.dram := rfl
@[simp] theorem State.setCfg_starter (o i v : Nat) : (s.setCfg o i v).starter = s.starter := rfl
@[simp] theorem State.setCfg_mgmt (o i v : Nat) : (s.setCfg o i v).mgmt = s.mgmt := rfl
@[simp] theorem State.setCfg_rel (o i v : Nat) : (s.setCfg o i v).rel = s.rel := rfl
@[simp] theorem State.setCfg_pcie (o i v : Nat) : (s.setCfg o i v).pcie = s.pcie := rfl
@[simp] theorem State.setCfg_out (o i v : Nat) : (s.setCfg o i v).out = s.out := rfl
@[simp] theorem State.setCfg_free (o i v : Nat) : (s.setCfg o i v).free = s.free := rfl
@[simp] theorem State.setCfg_pending (o i v : Nat) : (s.setCfg o i v).pending = s.pending := rfl

/-! ## setBlb -/

@[simp] theorem State.setBlb_num (o i : Nat) (b : Blob) : (s.setBlb o i b).num = s.num := rfl
@[simp] theorem State.setBlb_reply (o i : Nat) (b : Blob) : (s.setBlb o i b).reply = s.reply := rfl
@[simp] theorem State.setBlb_time (o i : Nat) (b : Blob) : (s.setBlb o i b).time = s.time := rfl
@[simp] theorem State.setBlb_ports (o i : Nat) (b : Blob) : (s.setBlb o i b).ports = s.ports := rfl
@[simp] theorem State.setBlb_frames (o i : Nat) (b : Blob) : (s.setBlb o i b).frames = s.frames := rfl
@[simp] theorem State.setBlb_nextFid (o i : Nat) (b : Blob) : (s.setBlb o i b).nextFid = s.nextFid := rfl
@[simp] theorem State.setBlb_ingress (o i : Nat) (b : Blob) : (s.setBlb o i b).ingress = s.ingress := rfl
@[simp] theorem State.setBlb_parser (o i : Nat) (b : Blob) : (s.setBlb o i b).parser = s.parser := rfl
@[simp] theorem State.setBlb_tables (o i : Nat) (b : Blob) : (s.setBlb o i b).tables = s.tables := rfl
@[simp] theorem State.setBlb_relay (o i : Nat) (b : Blob) : (s.setBlb o i b).relay = s.relay := rfl
@[simp] theorem State.setBlb_strider (o i : Nat) (b : Blob) : (s.setBlb o i b).strider = s.strider := rfl
@[simp] theorem State.setBlb_buf (o i : Nat) (b : Blob) : (s.setBlb o i b).buf = s.buf := rfl
@[simp] theorem State.setBlb_ten (o i : Nat) (b : Blob) : (s.setBlb o i b).ten = s.ten := rfl
@[simp] theorem State.setBlb_trc (o i : Nat) (b : Blob) : (s.setBlb o i b).trc = s.trc := rfl
@[simp] theorem State.setBlb_dram (o i : Nat) (b : Blob) : (s.setBlb o i b).dram = s.dram := rfl
@[simp] theorem State.setBlb_starter (o i : Nat) (b : Blob) : (s.setBlb o i b).starter = s.starter := rfl
@[simp] theorem State.setBlb_rel (o i : Nat) (b : Blob) : (s.setBlb o i b).rel = s.rel := rfl
@[simp] theorem State.setBlb_pcie (o i : Nat) (b : Blob) : (s.setBlb o i b).pcie = s.pcie := rfl
@[simp] theorem State.setBlb_out (o i : Nat) (b : Blob) : (s.setBlb o i b).out = s.out := rfl
@[simp] theorem State.setBlb_free (o i : Nat) (b : Blob) : (s.setBlb o i b).free = s.free := rfl
@[simp] theorem State.setBlb_pending (o i : Nat) (b : Blob) : (s.setBlb o i b).pending = s.pending := rfl

/-! ## countN -/

@[simp] theorem State.countN_blob (o i n : Nat) : (s.countN o i n).blob = s.blob := rfl
@[simp] theorem State.countN_reply (o i n : Nat) : (s.countN o i n).reply = s.reply := rfl
@[simp] theorem State.countN_time (o i n : Nat) : (s.countN o i n).time = s.time := rfl
@[simp] theorem State.countN_ports (o i n : Nat) : (s.countN o i n).ports = s.ports := rfl
@[simp] theorem State.countN_frames (o i n : Nat) : (s.countN o i n).frames = s.frames := rfl
@[simp] theorem State.countN_nextFid (o i n : Nat) : (s.countN o i n).nextFid = s.nextFid := rfl
@[simp] theorem State.countN_ingress (o i n : Nat) : (s.countN o i n).ingress = s.ingress := rfl
@[simp] theorem State.countN_parser (o i n : Nat) : (s.countN o i n).parser = s.parser := rfl
@[simp] theorem State.countN_tables (o i n : Nat) : (s.countN o i n).tables = s.tables := rfl
@[simp] theorem State.countN_relay (o i n : Nat) : (s.countN o i n).relay = s.relay := rfl
@[simp] theorem State.countN_strider (o i n : Nat) : (s.countN o i n).strider = s.strider := rfl
@[simp] theorem State.countN_buf (o i n : Nat) : (s.countN o i n).buf = s.buf := rfl
@[simp] theorem State.countN_ten (o i n : Nat) : (s.countN o i n).ten = s.ten := rfl
@[simp] theorem State.countN_trc (o i n : Nat) : (s.countN o i n).trc = s.trc := rfl
@[simp] theorem State.countN_dram (o i n : Nat) : (s.countN o i n).dram = s.dram := rfl
@[simp] theorem State.countN_starter (o i n : Nat) : (s.countN o i n).starter = s.starter := rfl
@[simp] theorem State.countN_mgmt (o i n : Nat) : (s.countN o i n).mgmt = s.mgmt := rfl
@[simp] theorem State.countN_rel (o i n : Nat) : (s.countN o i n).rel = s.rel := rfl
@[simp] theorem State.countN_pcie (o i n : Nat) : (s.countN o i n).pcie = s.pcie := rfl
@[simp] theorem State.countN_out (o i n : Nat) : (s.countN o i n).out = s.out := rfl
@[simp] theorem State.countN_free (o i n : Nat) : (s.countN o i n).free = s.free := rfl
@[simp] theorem State.countN_pending (o i n : Nat) : (s.countN o i n).pending = s.pending := rfl

/-! ## count -/

@[simp] theorem State.count_blob (o i : Nat) : (s.count o i).blob = s.blob := rfl
@[simp] theorem State.count_reply (o i : Nat) : (s.count o i).reply = s.reply := rfl
@[simp] theorem State.count_time (o i : Nat) : (s.count o i).time = s.time := rfl
@[simp] theorem State.count_ports (o i : Nat) : (s.count o i).ports = s.ports := rfl
@[simp] theorem State.count_frames (o i : Nat) : (s.count o i).frames = s.frames := rfl
@[simp] theorem State.count_nextFid (o i : Nat) : (s.count o i).nextFid = s.nextFid := rfl
@[simp] theorem State.count_ingress (o i : Nat) : (s.count o i).ingress = s.ingress := rfl
@[simp] theorem State.count_parser (o i : Nat) : (s.count o i).parser = s.parser := rfl
@[simp] theorem State.count_tables (o i : Nat) : (s.count o i).tables = s.tables := rfl
@[simp] theorem State.count_relay (o i : Nat) : (s.count o i).relay = s.relay := rfl
@[simp] theorem State.count_strider (o i : Nat) : (s.count o i).strider = s.strider := rfl
@[simp] theorem State.count_buf (o i : Nat) : (s.count o i).buf = s.buf := rfl
@[simp] theorem State.count_ten (o i : Nat) : (s.count o i).ten = s.ten := rfl
@[simp] theorem State.count_trc (o i : Nat) : (s.count o i).trc = s.trc := rfl
@[simp] theorem State.count_dram (o i : Nat) : (s.count o i).dram = s.dram := rfl
@[simp] theorem State.count_starter (o i : Nat) : (s.count o i).starter = s.starter := rfl
@[simp] theorem State.count_mgmt (o i : Nat) : (s.count o i).mgmt = s.mgmt := rfl
@[simp] theorem State.count_rel (o i : Nat) : (s.count o i).rel = s.rel := rfl
@[simp] theorem State.count_pcie (o i : Nat) : (s.count o i).pcie = s.pcie := rfl
@[simp] theorem State.count_out (o i : Nat) : (s.count o i).out = s.out := rfl
@[simp] theorem State.count_free (o i : Nat) : (s.count o i).free = s.free := rfl
@[simp] theorem State.count_pending (o i : Nat) : (s.count o i).pending = s.pending := rfl

/-! ## persistNum -/

@[simp] theorem State.persistNum_num (o i v : Nat) : (s.persistNum o i v).num = s.num := rfl
@[simp] theorem State.persistNum_blob (o i v : Nat) : (s.persistNum o i v).blob = s.blob := rfl
@[simp] theorem State.persistNum_reply (o i v : Nat) : (s.persistNum o i v).reply = s.reply := rfl
@[simp] theorem State.persistNum_time (o i v : Nat) : (s.persistNum o i v).time = s.time := rfl
@[simp] theorem State.persistNum_ports (o i v : Nat) : (s.persistNum o i v).ports = s.ports := rfl
@[simp] theorem State.persistNum_frames (o i v : Nat) : (s.persistNum o i v).frames = s.frames := rfl
@[simp] theorem State.persistNum_nextFid (o i v : Nat) : (s.persistNum o i v).nextFid = s.nextFid := rfl
@[simp] theorem State.persistNum_ingress (o i v : Nat) : (s.persistNum o i v).ingress = s.ingress := rfl
@[simp] theorem State.persistNum_parser (o i v : Nat) : (s.persistNum o i v).parser = s.parser := rfl
@[simp] theorem State.persistNum_tables (o i v : Nat) : (s.persistNum o i v).tables = s.tables := rfl
@[simp] theorem State.persistNum_relay (o i v : Nat) : (s.persistNum o i v).relay = s.relay := rfl
@[simp] theorem State.persistNum_strider (o i v : Nat) : (s.persistNum o i v).strider = s.strider := rfl
@[simp] theorem State.persistNum_buf (o i v : Nat) : (s.persistNum o i v).buf = s.buf := rfl
@[simp] theorem State.persistNum_ten (o i v : Nat) : (s.persistNum o i v).ten = s.ten := rfl
@[simp] theorem State.persistNum_trc (o i v : Nat) : (s.persistNum o i v).trc = s.trc := rfl
@[simp] theorem State.persistNum_dram (o i v : Nat) : (s.persistNum o i v).dram = s.dram := rfl
@[simp] theorem State.persistNum_starter (o i v : Nat) : (s.persistNum o i v).starter = s.starter := rfl
@[simp] theorem State.persistNum_mgmt (o i v : Nat) : (s.persistNum o i v).mgmt = s.mgmt := rfl
@[simp] theorem State.persistNum_pcie (o i v : Nat) : (s.persistNum o i v).pcie = s.pcie := rfl
@[simp] theorem State.persistNum_out (o i v : Nat) : (s.persistNum o i v).out = s.out := rfl
@[simp] theorem State.persistNum_free (o i v : Nat) : (s.persistNum o i v).free = s.free := rfl
@[simp] theorem State.persistNum_pending (o i v : Nat) : (s.persistNum o i v).pending = s.pending := rfl

/-! ## persistBlob -/

@[simp] theorem State.persistBlob_num (o i : Nat) (b : Blob) : (s.persistBlob o i b).num = s.num := rfl
@[simp] theorem State.persistBlob_blob (o i : Nat) (b : Blob) : (s.persistBlob o i b).blob = s.blob := rfl
@[simp] theorem State.persistBlob_reply (o i : Nat) (b : Blob) : (s.persistBlob o i b).reply = s.reply := rfl
@[simp] theorem State.persistBlob_time (o i : Nat) (b : Blob) : (s.persistBlob o i b).time = s.time := rfl
@[simp] theorem State.persistBlob_ports (o i : Nat) (b : Blob) : (s.persistBlob o i b).ports = s.ports := rfl
@[simp] theorem State.persistBlob_frames (o i : Nat) (b : Blob) : (s.persistBlob o i b).frames = s.frames := rfl
@[simp] theorem State.persistBlob_nextFid (o i : Nat) (b : Blob) : (s.persistBlob o i b).nextFid = s.nextFid := rfl
@[simp] theorem State.persistBlob_ingress (o i : Nat) (b : Blob) : (s.persistBlob o i b).ingress = s.ingress := rfl
@[simp] theorem State.persistBlob_parser (o i : Nat) (b : Blob) : (s.persistBlob o i b).parser = s.parser := rfl
@[simp] theorem State.persistBlob_tables (o i : Nat) (b : Blob) : (s.persistBlob o i b).tables = s.tables := rfl
@[simp] theorem State.persistBlob_relay (o i : Nat) (b : Blob) : (s.persistBlob o i b).relay = s.relay := rfl
@[simp] theorem State.persistBlob_strider (o i : Nat) (b : Blob) : (s.persistBlob o i b).strider = s.strider := rfl
@[simp] theorem State.persistBlob_buf (o i : Nat) (b : Blob) : (s.persistBlob o i b).buf = s.buf := rfl
@[simp] theorem State.persistBlob_ten (o i : Nat) (b : Blob) : (s.persistBlob o i b).ten = s.ten := rfl
@[simp] theorem State.persistBlob_trc (o i : Nat) (b : Blob) : (s.persistBlob o i b).trc = s.trc := rfl
@[simp] theorem State.persistBlob_dram (o i : Nat) (b : Blob) : (s.persistBlob o i b).dram = s.dram := rfl
@[simp] theorem State.persistBlob_starter (o i : Nat) (b : Blob) : (s.persistBlob o i b).starter = s.starter := rfl
@[simp] theorem State.persistBlob_mgmt (o i : Nat) (b : Blob) : (s.persistBlob o i b).mgmt = s.mgmt := rfl
@[simp] theorem State.persistBlob_pcie (o i : Nat) (b : Blob) : (s.persistBlob o i b).pcie = s.pcie := rfl
@[simp] theorem State.persistBlob_out (o i : Nat) (b : Blob) : (s.persistBlob o i b).out = s.out := rfl
@[simp] theorem State.persistBlob_free (o i : Nat) (b : Blob) : (s.persistBlob o i b).free = s.free := rfl
@[simp] theorem State.persistBlob_pending (o i : Nat) (b : Blob) : (s.persistBlob o i b).pending = s.pending := rfl

/-! ## emit -/

@[simp] theorem State.emit_num (e : Emission) : (s.emit e).num = s.num := rfl
@[simp] theorem State.emit_blob (e : Emission) : (s.emit e).blob = s.blob := rfl
@[simp] theorem State.emit_reply (e : Emission) : (s.emit e).reply = s.reply := rfl
@[simp] theorem State.emit_time (e : Emission) : (s.emit e).time = s.time := rfl
@[simp] theorem State.emit_ports (e : Emission) : (s.emit e).ports = s.ports := rfl
@[simp] theorem State.emit_frames (e : Emission) : (s.emit e).frames = s.frames := rfl
@[simp] theorem State.emit_nextFid (e : Emission) : (s.emit e).nextFid = s.nextFid := rfl
@[simp] theorem State.emit_ingress (e : Emission) : (s.emit e).ingress = s.ingress := rfl
@[simp] theorem State.emit_parser (e : Emission) : (s.emit e).parser = s.parser := rfl
@[simp] theorem State.emit_tables (e : Emission) : (s.emit e).tables = s.tables := rfl
@[simp] theorem State.emit_relay (e : Emission) : (s.emit e).relay = s.relay := rfl
@[simp] theorem State.emit_strider (e : Emission) : (s.emit e).strider = s.strider := rfl
@[simp] theorem State.emit_buf (e : Emission) : (s.emit e).buf = s.buf := rfl
@[simp] theorem State.emit_ten (e : Emission) : (s.emit e).ten = s.ten := rfl
@[simp] theorem State.emit_trc (e : Emission) : (s.emit e).trc = s.trc := rfl
@[simp] theorem State.emit_dram (e : Emission) : (s.emit e).dram = s.dram := rfl
@[simp] theorem State.emit_starter (e : Emission) : (s.emit e).starter = s.starter := rfl
@[simp] theorem State.emit_mgmt (e : Emission) : (s.emit e).mgmt = s.mgmt := rfl
@[simp] theorem State.emit_rel (e : Emission) : (s.emit e).rel = s.rel := rfl
@[simp] theorem State.emit_pcie (e : Emission) : (s.emit e).pcie = s.pcie := rfl
@[simp] theorem State.emit_free (e : Emission) : (s.emit e).free = s.free := rfl
@[simp] theorem State.emit_pending (e : Emission) : (s.emit e).pending = s.pending := rfl

/-! ## The free values -/

@[simp] theorem State.draw_num : s.draw.2.num = s.num := rfl
@[simp] theorem State.draw_blob : s.draw.2.blob = s.blob := rfl
@[simp] theorem State.draw_reply : s.draw.2.reply = s.reply := rfl
@[simp] theorem State.draw_time : s.draw.2.time = s.time := rfl
@[simp] theorem State.draw_ports : s.draw.2.ports = s.ports := rfl
@[simp] theorem State.draw_frames : s.draw.2.frames = s.frames := rfl
@[simp] theorem State.draw_nextFid : s.draw.2.nextFid = s.nextFid := rfl
@[simp] theorem State.draw_ingress : s.draw.2.ingress = s.ingress := rfl
@[simp] theorem State.draw_parser : s.draw.2.parser = s.parser := rfl
@[simp] theorem State.draw_tables : s.draw.2.tables = s.tables := rfl
@[simp] theorem State.draw_relay : s.draw.2.relay = s.relay := rfl
@[simp] theorem State.draw_strider : s.draw.2.strider = s.strider := rfl
@[simp] theorem State.draw_buf : s.draw.2.buf = s.buf := rfl
@[simp] theorem State.draw_ten : s.draw.2.ten = s.ten := rfl
@[simp] theorem State.draw_trc : s.draw.2.trc = s.trc := rfl
@[simp] theorem State.draw_dram : s.draw.2.dram = s.dram := rfl
@[simp] theorem State.draw_starter : s.draw.2.starter = s.starter := rfl
@[simp] theorem State.draw_mgmt : s.draw.2.mgmt = s.mgmt := rfl
@[simp] theorem State.draw_rel : s.draw.2.rel = s.rel := rfl
@[simp] theorem State.draw_pcie : s.draw.2.pcie = s.pcie := rfl
@[simp] theorem State.draw_out : s.draw.2.out = s.out := rfl
@[simp] theorem State.draw_pending : s.draw.2.pending = s.pending := rfl
@[simp] theorem State.draw_free : s.draw.2.free = s.free + 1 := rfl

@[simp] theorem State.drawInt_num : s.drawInt.2.num = s.num := rfl
@[simp] theorem State.drawInt_blob : s.drawInt.2.blob = s.blob := rfl
@[simp] theorem State.drawInt_reply : s.drawInt.2.reply = s.reply := rfl
@[simp] theorem State.drawInt_time : s.drawInt.2.time = s.time := rfl
@[simp] theorem State.drawInt_ports : s.drawInt.2.ports = s.ports := rfl
@[simp] theorem State.drawInt_frames : s.drawInt.2.frames = s.frames := rfl
@[simp] theorem State.drawInt_nextFid : s.drawInt.2.nextFid = s.nextFid := rfl
@[simp] theorem State.drawInt_ingress : s.drawInt.2.ingress = s.ingress := rfl
@[simp] theorem State.drawInt_parser : s.drawInt.2.parser = s.parser := rfl
@[simp] theorem State.drawInt_tables : s.drawInt.2.tables = s.tables := rfl
@[simp] theorem State.drawInt_relay : s.drawInt.2.relay = s.relay := rfl
@[simp] theorem State.drawInt_strider : s.drawInt.2.strider = s.strider := rfl
@[simp] theorem State.drawInt_buf : s.drawInt.2.buf = s.buf := rfl
@[simp] theorem State.drawInt_ten : s.drawInt.2.ten = s.ten := rfl
@[simp] theorem State.drawInt_trc : s.drawInt.2.trc = s.trc := rfl
@[simp] theorem State.drawInt_dram : s.drawInt.2.dram = s.dram := rfl
@[simp] theorem State.drawInt_starter : s.drawInt.2.starter = s.starter := rfl
@[simp] theorem State.drawInt_mgmt : s.drawInt.2.mgmt = s.mgmt := rfl
@[simp] theorem State.drawInt_rel : s.drawInt.2.rel = s.rel := rfl
@[simp] theorem State.drawInt_pcie : s.drawInt.2.pcie = s.pcie := rfl
@[simp] theorem State.drawInt_out : s.drawInt.2.out = s.out := rfl
@[simp] theorem State.drawInt_pending : s.drawInt.2.pending = s.pending := rfl
@[simp] theorem State.drawInt_free : s.drawInt.2.free = s.free + 1 := rfl

@[simp] theorem State.drawBytes_num : s.drawBytes.2.num = s.num := rfl
@[simp] theorem State.drawBytes_blob : s.drawBytes.2.blob = s.blob := rfl
@[simp] theorem State.drawBytes_reply : s.drawBytes.2.reply = s.reply := rfl
@[simp] theorem State.drawBytes_time : s.drawBytes.2.time = s.time := rfl
@[simp] theorem State.drawBytes_ports : s.drawBytes.2.ports = s.ports := rfl
@[simp] theorem State.drawBytes_frames : s.drawBytes.2.frames = s.frames := rfl
@[simp] theorem State.drawBytes_nextFid : s.drawBytes.2.nextFid = s.nextFid := rfl
@[simp] theorem State.drawBytes_ingress : s.drawBytes.2.ingress = s.ingress := rfl
@[simp] theorem State.drawBytes_parser : s.drawBytes.2.parser = s.parser := rfl
@[simp] theorem State.drawBytes_tables : s.drawBytes.2.tables = s.tables := rfl
@[simp] theorem State.drawBytes_relay : s.drawBytes.2.relay = s.relay := rfl
@[simp] theorem State.drawBytes_strider : s.drawBytes.2.strider = s.strider := rfl
@[simp] theorem State.drawBytes_buf : s.drawBytes.2.buf = s.buf := rfl
@[simp] theorem State.drawBytes_ten : s.drawBytes.2.ten = s.ten := rfl
@[simp] theorem State.drawBytes_trc : s.drawBytes.2.trc = s.trc := rfl
@[simp] theorem State.drawBytes_dram : s.drawBytes.2.dram = s.dram := rfl
@[simp] theorem State.drawBytes_starter : s.drawBytes.2.starter = s.starter := rfl
@[simp] theorem State.drawBytes_mgmt : s.drawBytes.2.mgmt = s.mgmt := rfl
@[simp] theorem State.drawBytes_rel : s.drawBytes.2.rel = s.rel := rfl
@[simp] theorem State.drawBytes_pcie : s.drawBytes.2.pcie = s.pcie := rfl
@[simp] theorem State.drawBytes_out : s.drawBytes.2.out = s.out := rfl
@[simp] theorem State.drawBytes_pending : s.drawBytes.2.pending = s.pending := rfl
@[simp] theorem State.drawBytes_free : s.drawBytes.2.free = s.free + 1 := rfl

/-! ## What the changed record reads as -/

@[simp] theorem State.thread_modThread_same (x : Nat) (f : Thread → Thread) : (s.modThread x f).thread x = f (s.thread x) := tabGet_upd_same _ _ _ _

theorem State.thread_modThread_other {x y : Nat} (f : Thread → Thread) (h : y ≠ x) : (s.modThread x f).thread y = s.thread y :=
  tabGet_upd_other _ _ _ _ h

@[simp] theorem State.squad_modSquad_same (x : Nat) (f : Squad → Squad) : (s.modSquad x f).squad x = f (s.squad x) := tabGet_upd_same _ _ _ _

theorem State.squad_modSquad_other {x y : Nat} (f : Squad → Squad) (h : y ≠ x) : (s.modSquad x f).squad y = s.squad y :=
  tabGet_upd_other _ _ _ _ h

@[simp] theorem State.core_modCore_same (x : Nat) (f : Core → Core) : (s.modCore x f).core x = f (s.core x) := tabGet_upd_same _ _ _ _

theorem State.core_modCore_other {x y : Nat} (f : Core → Core) (h : y ≠ x) : (s.modCore x f).core y = s.core y :=
  tabGet_upd_other _ _ _ _ h

@[simp] theorem State.port_modPort_same (x : Nat) (f : Port → Port) : (s.modPort x f).port x = f (s.port x) := tabGet_upd_same _ _ _ _

theorem State.port_modPort_other {x y : Nat} (f : Port → Port) (h : y ≠ x) : (s.modPort x f).port y = s.port y :=
  tabGet_upd_other _ _ _ _ h

@[simp] theorem State.tenant_modTenant_same (x : Nat) (f : Tenant → Tenant) : (s.modTenant x f).tenant x = f (s.tenant x) := tabGet_upd_same _ _ _ _

theorem State.tenant_modTenant_other {x y : Nat} (f : Tenant → Tenant) (h : y ≠ x) : (s.modTenant x f).tenant y = s.tenant y :=
  tabGet_upd_other _ _ _ _ h

@[simp] theorem State.queue_modQueue_same (x : Nat) (f : Queue → Queue) : (s.modQueue x f).queue x = f (s.queue x) := tabGet_upd_same _ _ _ _

theorem State.queue_modQueue_other {x y : Nat} (f : Queue → Queue) (h : y ≠ x) : (s.modQueue x f).queue y = s.queue y :=
  tabGet_upd_other _ _ _ _ h

@[simp] theorem State.ring_modRing_same (x : Nat) (f : Ring → Ring) : (s.modRing x f).ring x = f (s.ring x) := tabGet_upd_same _ _ _ _

theorem State.ring_modRing_other {x y : Nat} (f : Ring → Ring) (h : y ≠ x) : (s.modRing x f).ring y = s.ring y :=
  tabGet_upd_other _ _ _ _ h

@[simp] theorem State.channel_modChannel_same (x : Nat) (f : Channel → Channel) : (s.modChannel x f).channel x = f (s.channel x) := tabGet_upd_same _ _ _ _

theorem State.channel_modChannel_other {x y : Nat} (f : Channel → Channel) (h : y ≠ x) : (s.modChannel x f).channel y = s.channel y :=
  tabGet_upd_other _ _ _ _ h

@[simp] theorem State.ctx_setCtx_same (r : CoreRef) (c : Ctx) : (s.setCtx r c).ctx r = c := by
  cases r <;> simp [State.setCtx, State.ctx]

@[simp] theorem State.emit_out (e : Emission) : (s.emit e).out = s.out ++ [e] := rfl

end Sys2Proof.Machine
end

