-- ==== Sys2Proof/Laws/Memory.lean ====
section
/-! SUPPORT. Operations leave the queue of commands alone and keep every memory in its canonical form: the relation `Keeps`, its
closure under the ways in which operations are composed, and the operations that write a memory. -/

namespace Sys2Proof.Machine

/-- The canonical form of every memory. -/
def State.memsWf (s : State) : Prop := s.memories.all memWf = true

/-- The queue of commands is the same, and the memories are in canonical form if they were. -/
def Keeps (s t : State) : Prop := t.pending = s.pending ∧ (s.memsWf → t.memsWf)

theorem reset_memsWf : State.reset.memsWf := rfl

theorem Keeps.refl (s : State) : Keeps s s := ⟨rfl, id⟩

theorem Keeps.trans {s t u : State} (h : Keeps s t) (k : Keeps t u) : Keeps s u := ⟨k.1.trans h.1, k.2 ∘ h.2⟩

/-- An operation that changes neither the queue nor a memory. -/
theorem Keeps.same {s t : State} (hp : t.pending = s.pending) (hm : t.memories = s.memories) : Keeps s t :=
  ⟨hp, fun h => by rw [State.memsWf, hm]; exact h⟩

/-- A chain of operations keeps what each of them keeps. -/
theorem Keeps.foldl {α : Type} {s : State} {f : State → α → State} (h : ∀ t x, Keeps t (f t x)) (l : List α) {t : State} (k : Keeps s t) :
    Keeps s (l.foldl f t) := by
  induction l generalizing t with
  | nil => exact k
  | cons x l ih => exact ih (k.trans (h t x))

theorem memWf_foldl {α : Type} {f : Mem → α → Mem} (h : ∀ m x, memWf m = true → memWf (f m x) = true) (l : List α) {m : Mem}
    (k : memWf m = true) : memWf (l.foldl f m) = true := by
  induction l generalizing m with
  | nil => exact k
  | cons x l ih => exact ih (h m x k)

/-- The memories are in canonical form when each of the eight is. -/
theorem memsWf_iff (s : State) : s.memsWf ↔ memWf s.strider.pinned = true ∧ memWf s.strider.lstore = true ∧ memWf s.strider.sstore = true ∧ memWf s.strider.windows = true ∧
    memWf s.starter.store = true ∧ memWf s.starter.rom = true ∧ memWf s.dram.data = true ∧ memWf s.buf.pool.data = true := by
  simp [State.memsWf, State.memories]

/-! ## The operations that write a memory -/

theorem writeBaton_keeps (s : State) (b off : Nat) (bs : Blob) : Keeps s (s.writeBaton b off bs) := by
  refine ⟨rfl, fun h => ?_⟩
  rw [memsWf_iff] at h ⊢
  exact ⟨h.1, h.2.1, h.2.2.1, h.2.2.2.1, h.2.2.2.2.1, h.2.2.2.2.2.1, h.2.2.2.2.2.2.1, memWf_foldl (fun m k hm => memWf_write m _ _ hm) _ h.2.2.2.2.2.2.2⟩

theorem sqdWrite_keeps (s : State) (sq a : Nat) (b : Blob) : Keeps s (s.sqdWrite sq a b) := by
  refine ⟨rfl, fun h => ?_⟩
  rw [memsWf_iff] at h ⊢
  exact ⟨h.1, h.2.1, memWf_writeN _ _ _ h.2.2.1, h.2.2.2⟩

theorem writeText_keeps (s : State) (k : Nat) (m : Image) : Keeps s (s.writeText k m) := by
  refine ⟨rfl, fun h => ?_⟩
  rw [memsWf_iff] at h ⊢
  exact ⟨h.1, memWf_foldl (fun l i hl => memWf_writeN l _ _ hl) _ (memWf_filter _ _ h.2.1), h.2.2⟩

theorem fillRegion_keeps (s : State) (b : Blob) : Keeps s (s.fillRegion b) := by
  refine ⟨rfl, fun h => ?_⟩
  rw [memsWf_iff] at h ⊢
  exact ⟨h.1, h.2.1, h.2.2.1, h.2.2.2.1, memWf_writeN _ _ _ (memWf_filter _ _ h.2.2.2.2.1), h.2.2.2.2.2⟩

theorem sectorWrite_keeps (s : State) (x a len : Nat) : Keeps s (s.sectorWrite x a len) := by
  unfold State.sectorWrite
  split
  · exact .refl s
  · dsimp only
    split
    · split
      · exact .same rfl rfl
      · split <;> exact .same rfl rfl
    · refine ⟨rfl, fun h => ?_⟩
      rw [memsWf_iff] at h ⊢
      refine ⟨h.1, h.2.1, h.2.2.1, h.2.2.2.1, h.2.2.2.2.1, h.2.2.2.2.2.1, memWf_foldl (fun m k hm => ?_) _ h.2.2.2.2.2.2.1, h.2.2.2.2.2.2.2⟩
      split
      · exact hm
      · exact memWf_write _ _ _ hm

theorem dramPut_keeps (s : State) (a : Nat) (b : Blob) : Keeps s (s.dramPut a b) := by
  have k : Keeps s ((sectorsOf a b.length).foldl (fun s x => s.sectorWrite x a b.length) s) :=
    Keeps.foldl (fun t x => sectorWrite_keeps t x a b.length) _ (.refl s)
  refine k.trans ⟨rfl, fun h => ?_⟩
  rw [memsWf_iff] at h ⊢
  exact ⟨h.1, h.2.1, h.2.2.1, h.2.2.2.1, h.2.2.2.2.1, h.2.2.2.2.2.1, memWf_writeN _ _ _ h.2.2.2.2.2.2.1, h.2.2.2.2.2.2.2⟩

theorem ownLine_keeps (s : State) (k l : Nat) (x : Line) : Keeps s (s.ownLine k l x) := by
  refine Keeps.foldl (fun t j => ?_) _ (.refl s)
  split
  · exact .same rfl rfl
  · split
    · exact .same rfl rfl
    · exact .refl t

theorem coreWrite_keeps (s : State) (k : Nat) (b : Byte) (p : Place) : Keeps s (s.coreWrite k b p) := by
  cases p with
  | store a =>
    refine ⟨rfl, fun h => ?_⟩
    rw [memsWf_iff] at h ⊢
    exact ⟨h.1, h.2.1, h.2.2.1, h.2.2.2.1, memWf_write _ _ _ h.2.2.2.2.1, h.2.2.2.2.2⟩
  | dram a => exact ownLine_keeps s k _ _
  | _ => exact .same rfl rfl

theorem coreStore_keeps (s : State) (k a : Nat) (b : Blob) : Keeps s (s.coreStore k a b) := by
  refine Keeps.foldl (fun t i => ?_) _ (.refl s)
  dsimp only
  split
  · exact coreWrite_keeps t k _ _
  · exact .refl t

end Sys2Proof.Machine
end

