-- ==== Sys2Proof/Tests/Slice0.lean ====
section
/-! SUPPORT. Tests: an ill-formed command for each check of well-formedness, encodings of the Striders written out by hand, small examples worked from
the manual, and for each statement with hypotheses a state and operands that meet them. -/

namespace Sys2Proof.Machine

/-! Each theorem of this file is checked before the next begins, so that few kernel evaluations hold their stacks at one time. -/
set_option Elab.async false

/-! ## Well-formedness: a term that each check refuses, beside one that it takes -/

theorem test_wf_tenant_principal : (Instr.anchorRank (.tenant 256) 0).wf = false ∧ (Instr.anchorRank (.tenant 255) 0).wf = true := by decide
theorem test_wf_fw_principal : (Instr.attentionLog (.fw 4)).wf = false ∧ (Instr.attentionLog (.fw 3)).wf = true := by decide
theorem test_wf_thread : (Instr.opNop ⟨.strider 1536, false, .ok, .clean, .clean⟩).wf = false ∧ (Instr.opNop ⟨.strider 1535, false, .ok, .clean, .clean⟩).wf = true := by decide
theorem test_wf_core : (Instr.helperResult (.starter 4) 0).wf = false ∧ (Instr.helperResult (.starter 3) 0).wf = true := by decide
theorem test_wf_mailbox_path : (Instr.request (.mailbox 257) []).wf = false ∧ (Instr.request (.mailbox 256) []).wf = true := by decide
theorem test_wf_inband_path : (Instr.request (.inband 16 0 0) []).wf = false ∧ (Instr.request (.inband 0 8 0) []).wf = false ∧
    (Instr.request (.inband 0 0 256) []).wf = false ∧ (Instr.request (.inband 15 7 255) []).wf = true := by decide
theorem test_wf_port : (Instr.trainComplete 17 0 false).wf = false ∧ (Instr.trainComplete 16 0 false).wf = true := by decide
theorem test_wf_subport : (Instr.egressSelection 0 8).wf = false ∧ (Instr.egressSelection 0 7).wf = true := by decide
theorem test_wf_tenant : (Instr.mirrorWrite 256).wf = false ∧ (Instr.mirrorWrite 255).wf = true := by decide
theorem test_wf_squad : (Instr.drainComplete 12).wf = false ∧ (Instr.drainComplete 11).wf = true := by decide
theorem test_wf_run : (Instr.runStart 1536 .clean).wf = false ∧ (Instr.runStart 1535 .clean).wf = true := by decide
theorem test_wf_starter_core : (Instr.timerCompare 4).wf = false ∧ (Instr.timerCompare 3).wf = true := by decide
theorem test_wf_work_queue : (Instr.workQueueRefill 7).wf = false ∧ (Instr.workQueueRefill 6).wf = true := by decide
theorem test_wf_queue : (Instr.missedLaunch 16384).wf = false ∧ (Instr.missedLaunch 16383).wf = true := by decide
theorem test_wf_channel : (Instr.refresh 4).wf = false ∧ (Instr.refresh 3).wf = true := by decide
theorem test_wf_function : (Instr.pcieFlr 257).wf = false ∧ (Instr.pcieFlr 256).wf = true := by decide
theorem test_wf_die : (Instr.sdsRefclkLoss 5).wf = false ∧ (Instr.sdsRefclkLoss 4).wf = true := by decide
theorem test_wf_slot : (Instr.firmwareVerified 2 true []).wf = false ∧ (Instr.firmwareVerified 1 true []).wf = true := by decide
theorem test_wf_lock : (Instr.lockAttempt .host 64).wf = false ∧ (Instr.lockAttempt .host 63).wf = true := by decide

/-! ## Encodings (chapter 08), each word written out from its format -/

/-- The table's rows give no bits, so no word spells a command. -/
theorem test_table_word : decodeTableWord 32 0 = none ∧ (State.reset.withFetchWord 32 0).pending = [] := by decide

/-- The relay-forwarding program of R260, parcel by parcel from its listing. -/
theorem test_listing : let r : CoreRef := .strider 0
    let l : Hdr := ⟨r, false, .ok, .clean, .clean⟩
    let h : Hdr := ⟨r, true, .ok, .clean, .clean⟩
    decodeLong r 0xF0200004 = .opXchQuery l ⟨0, 0, 0, 1⟩ ∧ decodeShort r 0x9181 = .opMfh h 3 0 ∧
    decodeLong r 0xDC20E40C = .opExt l 4 3 36 3 ∧ decodeLong r 0xDC28C034 = .opExt l 5 3 0 13 ∧ decodeShort r 0x90A8 = .opMth h 1 5 ∧
    decodeLong r 0xC4313FFF = .opAddi l 6 4 (-1) ∧ decodeShort r 0x7B08 = .opBnez h 6 16 ∧ decodeLong r 0xDC38CE3C = .opExt l 7 3 14 15 ∧
    decodeShort r 0x5B8D = .opSt16 h 7 (.disp 0 26) ∧ decodeShort r 0x9000 = .opMth h 0 0 ∧
    decodeLong r 0xF0600400 = .opOrdRelease l ⟨0, 2, 0, 0⟩ ∧ decodeShort r 0xB803 = .opEnd h ∧
    decodeShort r 0x737A = .opBeqz h 6 (-12) ∧ decodeLong r 0xF0610000 = .opOrdDrop l ⟨0, 0, 0, 0⟩ := by decide

/-- The ring of R238: A2 = 2040h, M2 with BR = 1 and LEN = 8, read in the order 0, 4, 2, 6, 1, 5, 3, 7 and again from 0. -/
theorem test_bit_reversed_ring : (List.range 9).foldl (fun (a : List Addr) _ => a ++ [postMod (a.getLastD 0) 0x80000008 1]) [0x2040] =
    [0x2040, 0x2044, 0x2042, 0x2046, 0x2041, 0x2045, 0x2043, 0x2047, 0x2040, 0x2044] := by decide

/-- R8's example: tens 1B4h, 3FFh, 0, 0 packed. -/
theorem test_packed_tens : packTens [0x1B4, 0x3FF, 0, 0] = [0x6D, 0x3F, 0xF0, 0, 0] ∧ tensOf [0x6D, 0x3F, 0xF0, 0, 0] 4 = [0x1B4, 0x3FF, 0, 0] := by
  decide

/-- Split 0 and split 5 of Table 2.5. -/
theorem test_gate_list_entry : splitsOf (beBytes 8 0x01050A0000000190 ++ beBytes 8 0x0000008000001A90) =
    [⟨1, 5, 10, false, 400⟩, ⟨0, 0, 0, true, 6800⟩] := by decide

/-- Check value of the CRC-32 on "123456789". -/
theorem test_crc32 : crc32 [0x31, 0x32, 0x33, 0x34, 0x35, 0x36, 0x37, 0x38, 0x39] = 0xFC891918 := by decide +kernel

/-- Check value of the CRC-16 on the same. -/
theorem test_crc16 : crc16Run 0xFFFF [0x31, 0x32, 0x33, 0x34, 0x35, 0x36, 0x37, 0x38, 0x39] = 0x29B1 := by decide +kernel

/-- The published example of SipHash-2-4: key 00h to 0Fh, message 00h to 0Eh. -/
theorem test_siphash : sipHash ((List.range 16).map (BitVec.ofNat 8)) ((List.range 15).map (BitVec.ofNat 8)) = 0xA129CA6149BE45E5 := by
  decide +kernel

/-- R245: the largest positive number plus one overflows and carries nothing; all ones plus one wraps to zero with carry. -/
theorem test_add_flags : (addFlags 0x7FFFFFFFFF 1 false).2 = { z := some false, n := some true, c := some false, v := some true } ∧
    (addFlags 0xFFFFFFFFFF 1 false).2 = { z := some true, n := some false, c := some true, v := some false } := by decide

/-! ## Witnesses: instructions -/

/-- A thread that is READY alone in its squad, with a context. -/
def onThread (c : Ctx) (f : Thread → Thread := id) (st : SquadState := .running) : State :=
  { State.reset with
    strider.threads := [(0, f { Thread.reset with st := .ready, ctx := c })]
    strider.squads := [(0, { Squad.reset with st := st })] }

/-- Core 0 of the Starter, running. -/
def onCore (f : Core → Core := id) : State := { State.reset with starter.cores := [(0, f { Core.reset with st := .running })] }

/-- Who issues in the witnesses. -/
def thr : Hdr := ⟨.strider 0, false, .ok, .clean, .clean⟩
def cor : Hdr := ⟨.starter 0, false, .ok, .clean, .clean⟩

/-- The state in which an instruction issues. -/
def after (s : State) (h : Hdr) : State := (s.fetched h).getD s

theorem issues_of {s : State} {h : Hdr} {k : Kind} (h0 : (s.fetched h).isSome = true)
    (h1 : (after s h).fetchOk h.core ((after s h).ctx h.core).pc (hdrSize h) = true)
    (h2 : (after s h).preFault h k ((after s h).ctx h.core) = none) : Issues s h k (after s h) := by
  refine ⟨?_, h1, h2⟩
  unfold after
  obtain ⟨u, hu⟩ := Option.isSome_iff_exists.mp h0
  simp [hu]

/-- A register context with W1 = 5 and W2 = 5. -/
def ctx5 : Ctx := { Ctx.reset with w := [(1, 5), (2, 5)] }

theorem witness_AddSubResults : Issues (onThread ctx5) thr .plain (after (onThread ctx5) thr) :=
  issues_of (by decide) (by decide) (by decide)

theorem witness_LogicAndProductResults : Issues (onCore id) cor .plain (after (onCore id) cor) := issues_of (by decide) (by decide) (by decide)

theorem witness_ShiftResults : Issues (onThread ctx5) thr .plain (after (onThread ctx5) thr) ∧ (40#6).toNat ≤ 40 ∧ 40 < (41#6).toNat :=
  ⟨witness_AddSubResults, by decide⟩

theorem witness_FieldAndTenResults : Issues (onThread ctx5) thr .plain (after (onThread ctx5) thr) ∧
    (39#6).toNat + ((0#6).toNat + 1) ≤ 40 ∧ 40 < (39#6).toNat + ((1#6).toNat + 1) := ⟨witness_AddSubResults, by decide⟩

theorem witness_FourStateResults : Issues (onThread ctx5) thr .plain (after (onThread ctx5) thr) := witness_AddSubResults

theorem witness_AddressRegisters : Issues (onThread ctx5) thr .plain (after (onThread ctx5) thr) ∧ (2#2 : BitVec 2) ≠ 3 ∧
    (8#32 : Addr).toNat % 2 ^ 17 ≠ 0 ∧ (8 : Nat) ≤ 2 ^ 3 ∧ (∀ j < 3, 2 ^ j < 8) ∧ (8#32 : Addr).toNat < 2 ^ 31 ∧ (0x20000#32 : Addr).toNat % 2 ^ 17 = 0 :=
  ⟨witness_AddSubResults, by decide⟩

theorem witness_TransferResults : Issues (onThread ctx5) thr .control (after (onThread ctx5) thr) ∧ (39#6).toNat < 40 ∧ ¬ (40#6).toNat < 40 ∧
    (2#2 : BitVec 2) ≠ 3 := ⟨issues_of (by decide) (by decide) (by decide), by decide⟩

/-- Link stacks of seven, eight and no entries, and one with the reserved entry in use. -/
theorem witness_LinkResults :
    (∀ k ∈ [Kind.control, .plain], ∀ c ∈ [{ Ctx.reset with link := List.replicate 7 8 }, { Ctx.reset with link := List.replicate 8 8 },
      { Ctx.reset with link := [] }, { Ctx.reset with link := [], lsmem := 1 }, { Ctx.reset with reserved := some 8 }],
      Issues (onThread c) thr k (after (onThread c) thr)) ∧
    (List.replicate 7 (8 : Addr)).length < 8 ∧ 8 ≤ (List.replicate 8 (8 : Addr)).length ∧ ((onThread ctx5).thread 0).kind ≠ .relay := by
  refine ⟨fun k hk c hc => issues_of ?_ ?_ ?_, by decide⟩ <;> revert k c <;> decide

theorem witness_LoadStoreResults : Issues (onThread ctx5) thr .plain (after (onThread ctx5) thr) ∧
    (∃ v, (after (onThread ctx5) thr).load (.strider 0) 0x2000 5 = .ok [0, 0, 0, 0, 0] v) ∧
    (after (onThread ctx5) thr).load (.strider 0) 0x2004 5 = .fault ∧
    (∃ v, (after (onThread ctx5) thr).store (.strider 0) 0x2000 [1] = .ok [] v) ∧
    (after (onThread ctx5) thr).store (.strider 0) 0x1FFF [1] = .fault ∧
    (∃ d, (onCore id).load (.starter 0) 0x10000000 1 = .device d) := by
  refine ⟨witness_AddSubResults, ⟨_, rfl⟩, rfl, ⟨_, rfl⟩, rfl, ⟨_, rfl⟩⟩

/-- Both ends of each range of Table 7.2. -/
theorem witness_ThreadMemory : striderPlace 0 false .load 0x1FFF = some (.pinned 0x1FFF) ∧ striderPlace 0 false .store 0x1FFF = none ∧
    striderPlace 0 false .store 0x2000 = some (.lstore 0x2000) ∧ striderPlace 0 false .load 0xFFFF = some (.lstore 0xFFFF) ∧
    striderPlace 0 false .store 0x10000 = some (.window 0) ∧ striderPlace 0 true .store 0x100FF = none ∧
    striderPlace 0 false .load 0x10100 = some (.window 256) ∧ striderPlace 0 false .load 0x1013F = some (.window 319) ∧
    striderPlace 0 false .load 0x10140 = none := by decide

theorem witness_LandingResults : (0 : Nat) ∈ [0, 1] ∧ (1 : Nat) ≠ 0 ∧
    ({ Ctx.reset with writes := [⟨.w 1, 7, 3⟩, ⟨.w 1, 8, 2⟩] } : Ctx).writes.map (fun w => decide (w.due ≤ 1 + 1)) = [false, true] := by decide

/-- An instruction that leaves a state, one that transfers and one that loops, each with a destination and a register that is none. -/
theorem witness_InstructionFrames : (∃ t, t = (onThread ctx5).leaves thr (onThread ctx5) [(.w 3, 1, 1)]) ∧
    (∃ t, t = (onThread ctx5).transfers thr (onThread ctx5) true 8) ∧ (∃ t, t = (onThread ctx5).loops thr [(.lc 0, 1, 2)]) ∧
    (CoreRef.strider 1) ≠ thr.core ∧ Dest.w 4 ∉ [Dest.w 3] ∧ Dest.flags ∉ [Dest.w 3] := by
  refine ⟨⟨_, rfl⟩, ⟨_, rfl⟩, ⟨_, rfl⟩, ?_⟩
  decide

/-- A taken slot, a slot of each other kind and none; loops of each level that end at 10h, going on and at their last pass. -/
theorem witness_WhereExecutionGoesOn :
    ({ Ctx.reset with slot := .taken 8 4 } : Ctx).slot = .taken 8 4 ∧ Ctx.reset.slot = .none ∧
    (∀ sl ∈ [Slot.notTaken 0x10, .setup 0x10 none, .setup 0x10 (some 8)], sl = .notTaken 0x10 ∨ ∃ skip ∈ [none, some (8 : Addr)], sl = .setup 0x10 skip) ∧
    (∀ lv ∈ [0, 1, 2], let c := { Ctx.reset with le := [(lv, 0x10)], lc := [(lv, 2)], ls := [(lv, 8)] }
      let e := (c.addWrites 0 false []).land 0
      tabGet e.lc lv 0 ≠ 0 ∧ tabGet e.le lv 0 = 0x10 ∧ 1 < tabGet e.lc lv 0 ∧ e.endsAt 0x10 = true) ∧
    (∀ lv ∈ [0, 1, 2], let c := { Ctx.reset with le := [(lv, 0x10)], lc := [(lv, 1)] }
      let e := (c.addWrites 0 false []).land 0
      tabGet e.lc lv 0 = 1 ∧ tabGet e.le lv 0 = 0x10) := by decide

/-! ## Witnesses: helpers and the Starter -/

theorem commands_of {s : State} {h : Hdr} {x : HArgs} {n : Nat} {nops nrs : List Nat}
    (h0 : (s.fetched h).isSome = true) (h1 : (after s h).fetchOk h.core ((after s h).ctx h.core).pc (hdrSize h) = true)
    (h2 : (after s h).preFault { h with enc := s.helperEnc h x n nops nrs } .plain ((after s h).ctx h.core) = none)
    (hp : ((after s h).sees h).pendH = [])
    (hq : ((after s h).countIssue h.core).helperFull n h.core = false) : Commands s (after s h) h x n nops nrs :=
  ⟨issues_of (h := { h with enc := s.helperEnc h x n nops nrs }) h0 h1 h2, fun _ _ => by rw [hp]; exact List.not_mem_nil, hq⟩

/-- The card of a frame of a tenant. -/
def frameCard (t : Nat) : Card where
  source := 0
  port := 0
  sub := 0
  cls := 4
  tenant := t
  od := 0
  baton := 0
  frameLen := 64
  depth := 0
  inner := 0
  flags := { Frame.blank.walkFlags with fragFirst := true }
  stamp := 0
  program := 0
  edit := 0
  tags := 0
  fragEntry := 5
  results := []
  metaW := []
  headers := []

/-- A pending fragment entry of frame 1. -/
def frag5 : FragEntry := ⟨[], 0, .pending, 0, 0, 0, [], [], 0, 0, 1⟩

/-- The thread with frame 1, its card and its fragment entry. -/
def onFrame (t : Nat) (h : Tab W40) (f : Thread → Thread := id) : State :=
  { onThread { Ctx.reset with h := h } (fun x => f { x with fid := some 1 }) with
    frames := [(1, { Frame.blank with card := some (frameCard t), cls := 4 })], parser.frags := [(5, frag5)] }

/-- A helper command with `nop` operands and `nr` results from H0 and H8 on. -/
def hargs (nop nr : BitVec 3) : HArgs := ⟨0, nop, 8, nr⟩

/-- Every helper takes a command of the fewest operands and results of each of its shapes. -/
theorem witness_HelperCommands : ∀ c ∈ [(0, 1, 2, [1, 4], [2]), (0, 4, 2, [1, 4], [2]), (0, 2, 1, [2], [1]), (0, 3, 0, [3], [0, 1]), (0, 1, 1, [1], [1]),
      (0, 0, 2, [0], [2]), (0, 1, 0, [1], [0, 1]), (1, 0, 1, [0], [1]), (1, 1, 1, [1], [1]), (2, 1, 1, [1], [1]), (2, 1, 0, [1], [0, 1]),
      (2, 2, 7, [2], [1, 2, 3, 4, 5, 6, 7]), (2, 7, 1, [3, 4, 5, 6, 7], [0, 1]), (3, 2, 0, [2, 3, 4, 5, 6, 7], [0]), (3, 0, 0, [0], [0]), (3, 0, 1, [0], [1]),
      (4, 2, 1, [2], [1]), (4, 7, 1, [2, 3, 4, 5, 6, 7], [1]), (5, 1, 1, [1], [1]), (5, 1, 0, [1], [0, 1]), (5, 2, 1, [2], [1]), (5, 3, 1, [3], [1]),
      (6, 1, 2, [1], [1, 2]), (6, 2, 0, [2], [0, 1]), (6, 2, 1, [2], [1, 2]), (6, 3, 1, [3], [1, 2])],
    Commands (onFrame 1 []) (after (onFrame 1 []) thr) thr (hargs (BitVec.ofNat 3 c.2.1) (BitVec.ofNat 3 c.2.2.1)) c.1 c.2.2.2.1 c.2.2.2.2 := by
  intro c hc
  refine commands_of ?_ ?_ ?_ ?_ ?_ <;> revert c <;> decide

/-- Where a command stops: a register that is pending, registers past H15, a count that its row does not name; the scoreboard's result. -/
theorem witness_HelperRefusals : (0 : Nat) ∈ ((onThread { Ctx.reset with pendH := [0] }).ctx (.strider 0)).pendH ∧
    Issues (onThread { Ctx.reset with pendH := [0] }) { thr with enc := (onThread { Ctx.reset with pendH := [0] }).helperEnc thr (hargs 1 1) 1 [1] [1] } .plain
      (after (onThread { Ctx.reset with pendH := [0] }) thr) ∧
    16 < (⟨10, 7, 0, 0⟩ : HArgs).hb.toNat + (⟨10, 7, 0, 0⟩ : HArgs).nop.toNat ∧ (hargs 2 1).nop.toNat ∉ [1] ∧
    (8 : Nat) + 2 ≤ 16 ∧ ¬ (15 + 2 ≤ 16) ∧
    (({ Ctx.reset with results := [⟨3, 0, 3, [7], false, 0⟩] } : Ctx).results.find? (fun q => q.tag == 3)).isSome = true :=
  ⟨by decide, issues_of (h := { thr with enc := (onThread { Ctx.reset with pendH := [0] }).helperEnc thr (hargs 1 1) 1 [1] [1] })
    (by decide) (by decide) (by decide), by decide, by decide, by decide, by decide, by decide⟩

theorem witness_LookupResults : ((onFrame 1 []).cardFrag (.strider 0)) = some (5, frag5) ∧ (onFrame 1 []).runFid (.strider 0) = some 1 ∧
    (onThread ctx5).cardFrag (.strider 0) = none ∧ ((onFrame 1 []).thread 0).released = false := by decide

theorem witness_OrdCrcAtmSqdResults : ((onFrame 0 []).thread 0).released = false ∧
    ((onFrame 0 [] (fun t => { t with released := true })).thread 0).released = true ∧
    (onFrame 0 []).atomIndex ((onFrame 0 []).runTenant (.strider 0)) 65535 = some 65535 ∧
    (onFrame 1 []).atomIndex ((onFrame 1 []).runTenant (.strider 0)) 255 = some 511 ∧
    (onFrame 1 []).atomIndex ((onFrame 1 []).runTenant (.strider 0)) 256 = none ∧ (2 ^ 21 - 5) % 8 + 5 ≤ 8 := by decide +kernel

theorem witness_XchBufResults : (onThread ctx5).sharedFits 2 (cellsFor 1) = true ∧ ((onThread ctx5).allocCells 2 (cellsFor 256)).isSome = true ∧
    (onThread ctx5).sharedFits 3 6000 = false ∧ ((onThread ctx5).decRef 0).1 = false ∧
    (match (onThread ctx5).allocCells 2 1 with | some (b, s) => s.batonOk b && (s.decRef b).1 | none => false) = true := by decide +kernel

theorem witness_ThreadInstructionResults : Issues (onThread ctx5) thr .plain (after (onThread ctx5) thr) ∧
    Issues (onThread ctx5 id .loading) thr .plain (after (onThread ctx5 id .loading) thr) ∧ Issues (onCore id) cor .plain (after (onCore id) cor) ∧
    Issues (onThread ctx5) thr .control (after (onThread ctx5) thr) ∧ Issues (onCore id) cor .control (after (onCore id) cor) ∧
    Issues (onFrame 0 []) thr .control (after (onFrame 0 []) thr) ∧ ((onFrame 0 []).thread 0).fid ≠ none ∧
    stopwatchAhead 0 0 = 0 ∧ stopwatchAhead 1 0 = 1 ∧ 2 ^ 38 < stopwatchAhead (2 ^ 39 - 1) 0 ∧ 6 < (7#5).toNat := by
  refine ⟨issues_of ?_ ?_ ?_, issues_of ?_ ?_ ?_, issues_of ?_ ?_ ?_, issues_of ?_ ?_ ?_, issues_of ?_ ?_ ?_, issues_of ?_ ?_ ?_, ?_⟩ <;> decide

/-! The Starter: core 0 in privileged mode with W31 at the top of the stack, and in user mode with its own stack. -/

/-- A core's stack pointer and mode. -/
def stacked (u : Bool) (c : Core) : Core := { c with ctx := { Ctx.reset with w := [(31, 0x4FC000)] }, ksp := 0x4FC000, u := u }

theorem witness_PrivilegedResults : Issues (onCore id) cor .plain (after (onCore id) cor) ∧ ((onCore id).core 0).u = false ∧ 15 < (16#5).toNat ∧
    ((after (onCore id) cor).countIssue (.starter 0)).takeWork 0 = none ∧
    ((after (onCore id) cor).squad 12).st ≠ .test := by
  refine ⟨issues_of ?_ ?_ ?_, ?_⟩ <;> decide

theorem witness_PrivilegeAndSvc : ((onCore (stacked true)).core 0).u = true ∧ (onCore (stacked true)).fetched cor ≠ none ∧
    (after (onThread ctx5) thr).fetchOk (.strider 0) ((after (onThread ctx5) thr).ctx (.strider 0)).pc 4 = true ∧
    ((after (onThread ctx5) thr).ctx (.strider 0)).slot = .none ∧ thr.fetch ≠ .uncorrectable ∧ thr.frame ≠ .uncorrectable ∧
    (after (onThread ctx5) thr).readPoisoned (.strider 0) .fetch ((after (onThread ctx5) thr).ctx (.strider 0)).pc.toNat 4 = false ∧ Issues (onCore (stacked false)) cor .plain (after (onCore (stacked false)) cor) := by
  refine ⟨by decide, ?_, by decide, by decide, by decide, by decide, by decide, issues_of (by decide) (by decide) (by decide)⟩
  intro h
  exact absurd (congrArg Option.isSome h) (by decide)

theorem witness_ExceptionEntries : (∀ u ∈ [false, true], let s := onCore (stacked u)
      let t := s.takeException 0 9 0 0x100 none none .clean
      (if (s.core 0).u then (s.core 0).ksp else (s.core 0).ctx.rw 31).toNat % 2 ^ 32 = 0x4FC000 ∧ 0x4FC000 % 8 = 0 ∧ max (s.core 0).splim.toNat 0x100000 + 64 ≤ 0x4FC000 ∧
      (u = true → stopsModule 9 = false) ∧ (t.core 0).fetchable (t.vectorOf 0 9).1 = true) ∧
    (((onCore (stacked false)).takeException 0 9 0 0x100 none none .clean).core 0).ctx.pc = 0 ∧
    ((onCore (stacked false)).core 0).fstk = false ∧ ((onCore (fun c => { c with fstk := true })).core 0).fstk = true := by decide +kernel

theorem witness_RfeResults : Issues (onCore (stacked false)) cor .control (after (onCore (stacked false)) cor) ∧
    (∃ f v, ((after (onCore (stacked false)) cor).countIssue (.starter 0)).load (.starter 0) 0x4FBFC0 64 = .ok f v) ∧
    (let t := (onCore (stacked false)).takeException 0 9 0 0x100 none none .clean
     ((onCore (stacked false)).core 0).il < 16 ∧ (t.fetched cor).isSome = true ∧
      (after t cor).preFault cor .control ((after t cor).ctx (.starter 0)) = none) := by
  refine ⟨issues_of (by decide) (by decide) (by decide), ⟨_, _, rfl⟩, ?_⟩
  decide +kernel

theorem witness_StarterEventResults :
    (let s := onCore (fun c => { c with irq := [25], ie := true, il := 0 })
     25 ∈ s.pendingIrqs 0 ∧ (s.core 0).ie = true ∧ (s.core 0).ctx.slot = .none ∧ (s.core 0).ctx.reserved = none ∧ ((s.core 0).il < s.irqPrio 0 25 → 0 < s.irqPrio 0 25)) ∧
    (let s : State := { onCore id with time.gun := 2 ^ 60 }
     (s.core 0).wdog + s.cfg Obj.WATCHDOG_PERIOD * 1000 * ns ≤ s.time.gun) ∧
    (let s := (onCore (fun c => { c with st := .dnf })).modCore 1 (fun c => { c with st := .running })
     (s.core 0).st = .dnf ∧ (∃ j < 4, (s.core j).st = .running)) ∧
    stopwatchAhead ((onCore id).core 0).tcmp (BitVec.ofNat 40 ((onCore id).time.gun / ns)) = 0 ∧
    (({ onCore id with starter.queues := [(2, ⟨[⟨1, 0, 0, none, 0⟩], 1, 0, 0, []⟩)] } : State).takeWork 0).isSome = true := by decide +kernel

/-! ## Witnesses: gun time, laps, gate lists and the dictionary -/

/-- The device with the host at the expert level, and firmware running. -/
def expertHost : State := { State.reset.modSession 256 (fun x => { x with expert := true }) with rel.boot.firmware := true, dram.ways := 4 }

theorem accepts_num {s : State} {p : Principal} {o i v : Nat} (h : (s.checkWrite p o i (typeCode o) (numBytes o v)).2 = none)
    (h' : s.bars o (numBytes o v) = none) : AcceptsNum s p o i v := accepts_of h h'

theorem accepts_blob {s : State} {p : Principal} {o i : Nat} {b : Blob} (h : (s.checkWrite p o i (typeCode o) b).2 = none)
    (h' : s.bars o b = none) : AcceptsBlob s p o i b := accepts_of h h'

/-- Every number that a statement writes is let through, here with the value of one boundary. -/
theorem witness_accepts_num : ∀ e ∈ [(Obj.GUN_TIME_STEP, 0, 0), (Obj.ANCHOR_RANK, 0, 0), (Obj.LAP_LENGTH_PENDING, 0, 99), (Obj.LAP_LENGTH_PENDING, 0, 100),
      (Obj.LAP_LENGTH_PENDING, 0, 16777215), (Obj.LAP_LENGTH_PENDING, 0, 16777216), (Obj.SWAP_LAP, 0, 2), (Obj.SWAP_LAP, 0, 2 ^ 48 - 1), (Obj.SWAP_LAP, 0, 2 ^ 48),
      (Obj.PORT_ENABLE, 13, 1), (Obj.PORT_ENABLE, 13, 2), (Obj.EXPECTED_BIB, 13, 0), (Obj.CREDIT_INIT, 2, 10000), (Obj.CREDIT_INIT, 2, 10001),
      (Obj.GRAPH_COMMIT, 0, 0), (Obj.GRAPH_COMMIT, 0, 1), (Obj.GRAPH_COMMIT, 0, 2), (Obj.START_TYPE, 0, 63), (Obj.OD_BLOCK, 1, 16), (Obj.OD_BLOCK, 1, 17),
      (Obj.LEARN_FLUSH, 1, 1), (Obj.LEARN_FLUSH, 1, 3), (Obj.RESEED_LAP, 0, 2 ^ 48 - 1), (Obj.RESEED_LAP, 0, 2 ^ 48), (Obj.SQUAD_EVENT, 0, 0),
      (Obj.SQUAD_EVENT, 0, 1), (Obj.IMAGE_COMMIT, 0, 4095), (Obj.IMAGE_COMMIT, 0, 4096), (Obj.SQUAD_FREQ, 0, 1000), (Obj.SQUAD_FREQ, 0, 999), (Obj.SQUAD_MODE, 0, 2),
      (Obj.SQUAD_MODE, 0, 3), (Obj.QUEUE_BLOCK, 1, 4096), (Obj.QUEUE_BLOCK, 1, 4097), (Obj.HOST_RESERVE, 14, 0), (Obj.LOCK, 63, 0), (Obj.LOCK, 63, 1),
      (Obj.LOCK_CONFIG, 63, 0xFF01), (Obj.ATOMIC_BLOCK, 1, 32768), (Obj.ATOMIC_BLOCK, 1, 32769), (Obj.BARRIER_ARRIVE, 1, 0), (Obj.BROADCAST_SEND, 1, 0),
      (Obj.HALT_REQUEST, 1, 1), (Obj.PHOTO_RESTORE, 1, 2 ^ 48 - 1), (Obj.PHOTO_RESTORE, 1, 2 ^ 48), (Obj.FAULT_LOG_CLEAR, 1, 1), (Obj.TRACE_ARM, 1, 1),
      (Obj.TRACE_ARM, 1, 2), (Obj.TRACE_TRIGGER, 1, 1), (Obj.TRACE_TRIGGER, 1, 2), (Obj.SNAP_UPLOAD, 1, 2 ^ 48 - 1), (Obj.DRAM_SWEEP, 0, 1), (Obj.DRAM_SWEEP, 0, 2),
      (Obj.SESSION_LEVEL, 0, 0), (Obj.SESSION_LEVEL, 0, 1), (Obj.SESSION_LEVEL, 0, 2), (Obj.EXPERT_RIGHTS, 0, 3), (Obj.RESET_REQUEST, 0, 1),
      (Obj.RESET_REQUEST, 0, 47), (Obj.DEVICE_ID, 0, 16383), (Obj.DEVICE_ID, 0, 16384), (Obj.CAL_COMMIT, 0, 1), (Obj.CAL_DISCARD, 0, 1), (Obj.PERSIST_ERASE, 0, 1),
      (Obj.WAKE_RATE, 0, 999), (Obj.WAKE_RATE, 0, 1000), (Obj.WAKE_RATE, 0, 32000), (Obj.WAKE_RATE, 0, 32001), (Obj.ERROR_LOG_CLEAR, 0, 1), (Obj.ERROR_LOG_CLEAR, 0, 2)],
    AcceptsNum expertHost .host e.1 e.2.1 e.2.2 := by
  intro e he
  refine accepts_num ?_ ?_ <;> revert e <;> decide +kernel

/-- Every blob that a statement writes is let through. -/
theorem witness_accepts_blob : ∀ e ∈ [(Obj.GATE_LIST_PENDING, 15), (Obj.RX_WINDOWS_PENDING, 7), (Obj.PARSE_GRAPH_PENDING, 0), (Obj.MASK_SET, 15), (Obj.RULE_BATCH, 0),
      (Obj.EDIT, 1), (Obj.TRIE_LOAD, 63), (Obj.TRIE_BATCH, 0), (Obj.BANK_MAP, 0), (Obj.LEARN_STATIC, 0), (Obj.HASH_TEST_SEED, 0), (Obj.GROUP, 4095),
      (Obj.RELAY_SET_PENDING, 1), (Obj.IMAGE_PENDING, 11), (Obj.QUEUE_DESC, 16383), (Obj.QUEUE_RING, 0), (Obj.MARSHAL, 0), (Obj.QUEUE_PACER, 0),
      (Obj.TENANT_PACER, 0), (Obj.PARTITION_SIZES, 0), (Obj.GLOBAL_OP, 0), (Obj.TRACE_RING, 1), (Obj.SNAP_AREA, 1), (Obj.EXT_MODULE, 0), (Obj.EXT_CALL, 0),
      (Obj.CAL_BLOCK, 0), (0xB002, 0), (0xB005, 0), (Obj.FW_IMAGE, 1)],
    AcceptsBlob expertHost .host e.1 e.2 [] := by
  intro e he
  refine accepts_blob ?_ ?_ <;> revert e <;> decide +kernel

/-- A device with a time engine changed. -/
def timed (f : TimeSt → TimeSt) : State := { expertHost with time := f expertHost.time }

/-- An Anchor's edge at 1PPS_IN within 100 µs of the second and beyond it, in both states of 1209h, and its silence of 2.5 s. -/
theorem witness_GunTimeResults :
    (let s := (timed (fun t => { t with role := .anchor, ppsFirst := false, gun := 0 })).setCfg Obj.EXT_ALIGN 0 1
     s.time.role = .anchor ∧ s.cfg Obj.EXT_ALIGN = 1 ∧ s.cfg Obj.PPS_STATE ≠ 2 ∧ (s.setCfg Obj.PPS_STATE 0 2).cfg Obj.PPS_STATE = 2 ∧ s.allIdle = true) ∧
    (100000 * 65536 : Nat) ≤ 100000 * 65536 ∧ ¬ ((100000 * 65536 + 1 : Nat) ≤ 100000 * 65536) ∧
    (State.reset.modTenant 1 (fun t => { t with st := .running })).allIdle = false ∧ State.reset.time.role ≠ .anchor ∧
    (State.reset.setCfg Obj.PPS_OUT_ENABLE 0 1).cfg Obj.PPS_OUT_ENABLE = 1 := by decide +kernel

/-- A body that another device announces, and a device that is a child of port 0 with it. -/
def body1 : AnnounceBody := ⟨1, 0, 5, 0, 0, 0, 1000⟩
def child (st : PortState := .up) : State :=
  { timed (fun t => { t with role := .acquiring, parent := some 0, heard := [(0, ⟨body1, 0⟩)], exch := [(0, ⟨1, 0, 0, 0, 0, some 0, 1⟩)] }) with
    ports := [(0, { Port.reset with st := st })] }

theorem witness_AnchorChoice :
    (let s := timed (fun t => { t with ticks := 51200, lastBetter := 0 })
     let a := s.setCfg Obj.ANCHOR_RANK 0 1
     a.bestCand = some (1, 0, 0, 8) ∧ a.time.role ≠ .anchor ∧ a.time.lastBetter + 51200 ≤ a.time.ticks ∧ s.bestCand = none ∧ s.time.parent = none) ∧
    (timed (fun t => { t with ticks := 51199, lastBetter := 0 })).time.ticks < 0 + 51200 ∧
    child.time.parent = some 0 ∧ tabGet? child.time.heard 0 = some ⟨body1, 0⟩ ∧ (child.port 0).st = .up ∧ (child .down).port 0 ≠ child.port 0 ∧
    child.bestCand.isSome = true ∧
    (let s := timed (fun t => { t with est := 21 * 65536, estFrom := some 0, role := .acquiring })
     ({ s with time.offMark := false } : State).estBeyond 20 = true ∧ ({ s with time.offMark := false } : State).time.offMark = false ∧ s.time.offMark = true) := by decide +kernel

theorem witness_ExchangeResults : (child.port 0).st = .up ∧ (child.port 0).passes = true ∧ child.time.parent = some 0 ∧ child.time.role ≠ .anchor ∧
    (child.exchange 0).mean = some 0 ∧ (child.exchange 0).seq = 1 ∧
    ({ child with time.exch := [(0, ⟨1, 7, 0, 0, 0, none, 0⟩)] } : State).exchange 0 = ⟨1, 7, 0, 0, 0, none, 0⟩ ∧
    child.initiates 0 = false ∧ child.initiates 8 = true ∧ ((child .down).port 0).st ≠ .up := by decide +kernel

theorem witness_LapBoundaryResults : (State.reset.time.gun < State.reset.time.next) ∧
    (let s := timed (fun t => { t with gun := t.next })
     s.time.next ≤ s.time.gun ∧ s.time.adopt = none) ∧
    ((timed (fun t => { t with adopt := some (5, 2000) })).time.adopt = some (5, 2000)) ∧ State.reset.cfg Obj.SWAP_LAP = 2 ^ 48 - 1 := by decide +kernel

theorem witness_ScheduleWrites : AcceptsNum expertHost .host Obj.LAP_LENGTH_PENDING 0 100 ∧ AcceptsBlob expertHost .host Obj.GATE_LIST_PENDING 15 [] ∧
    expertHost.cfg Obj.SWAP_LAP = 2 ^ 48 - 1 ∧ (expertHost.setCfg Obj.SWAP_LAP 0 5).cfg Obj.SWAP_LAP ≠ 2 ^ 48 - 1 ∧
    (let b := beBytes 8 (0xFC000A0000000000 + expertHost.lapLen)
     b.length % 8 = 0 ∧ (splitsOf b).length = 1 ∧ ((splitsOf b).map Split.dur).sum = expertHost.lapLen) ∧
    (windowsOf (beBytes 8 0)).length = 1 ∧ (2 + 2 ^ 48 - expertHost.time.lap % 2 ^ 48) % 2 ^ 48 = 2 :=
  ⟨witness_accepts_num (Obj.LAP_LENGTH_PENDING, 0, 100) (by decide), witness_accepts_blob (Obj.GATE_LIST_PENDING, 15) (by decide), by decide +kernel⟩

/-- The gate list with one split of C2 to C7, and one in which the split closes. -/
def gated (b : Blob) : State := expertHost.setBlb Obj.GATE_LIST 0 b

theorem witness_LaunchAndJudgement :
    (let s := { gated (beBytes 8 0xFC000A00000001F4 ++ beBytes 8 0x00000000000001F4) with ports := [(0, { Port.reset with st := .up })] }
     s.interval 0 2 = some (500, 10, false) ∧ s.mayLaunch 0 2 (490 * 65536) = true ∧ s.mayLaunch 0 2 (491 * 65536) = false ∧ s.interval 0 0 = none) ∧
    (let s : State := { (timed (fun t => { t with offMark := false, exch := [(0, ⟨1, 0, 0, 0, 0, some 0, 16⟩)] })).setBlb Obj.RX_WINDOWS 0
       (beBytes 8 0x00000003E8000A00) with ports := [(0, { Port.reset with st := .up })] }
     s.time.offMark = false ∧ s.relayOpen 0 = true ∧ s.time.lap < 2 ^ 48 ∧ (s.windowsIn 0 s.time.lap) = [⟨0, 1000, 10, 0⟩] ∧
      s.judge 0 1 s.time.lap 0 (1000 * 65536) = .onTime ∧ s.judge 0 1 s.time.lap (-1) (1000 * 65536) ≠ .onTime ∧
      s.judge 0 1 s.time.lap 0 (1000 * 65536 + 1) ≠ .onTime ∧ s.judge 0 1 s.time.lap (2000 * 65536) (2000 * 65536) = .late ∧
      s.judge 0 1 (s.time.lap + 2) 0 0 = .late) := by decide +kernel

theorem witness_SleepResults :
    (let s := { gated (beBytes 8 0xFC000A00000001F4 ++ beBytes 8 0x00000080000009C4) with ports := [(0, { Port.reset with st := .up })] }
     s.splitStart 0 0 + 500 * 65536 = s.splitStart 0 1 ∧ (s.port 0).gateRow + 1 < (s.gateListIn 0 0).length ∧ s.time.gun < s.splitStart 0 1 ∧
     ({ s with time.gun := s.splitStart 0 1 } : State).splitStart 0 1 ≤ ({ s with time.gun := s.splitStart 0 1 } : State).time.gun) ∧
    (let s := { gated (beBytes 8 0x0000008000000BB8 ++ beBytes 8 0xFC000A00000001F4) with ports := [(0, { Port.reset with st := .up })] }
     s.splitIdle 0 (s.splitNow 0) s.time.lap = true ∧ s.sleepStarts 0 = true ∧ s.sleepRun 0 = 3000) ∧
    ({ Port.reset with sleep := .entering 0 } : Port).sleep = .entering 0 ∧ ({ Port.reset with sleep := .waking 0 } : Port).sleep = .waking 0 ∧
    activeSlope [] ≤ State.reset.cfg Obj.WAKE_RATE := by decide +kernel

/-! ## Witnesses: ports, frames and buffers -/

/-- A device whose port 0 has been changed. -/
def porting (f : Port → Port) (n : Nat := 0) : State := { expertHost with ports := [(n, f { Port.reset with st := .up })] }

theorem witness_PortStateResults : ((porting (fun x => { x with st := .down })).port 0).st = .down ∧ (0xFF % 256 = 255 ∨ 0xFF / 256 = 255) ∧
    ¬ (0x0F % 256 = 255 ∨ 0x0F / 256 = 255) ∧
    (∀ st ∈ [PortState.train, .align, .exchange, .isolated, .up], ((porting (fun x => { x with st := st })).port 0).st = st) ∧
    (let s := { porting (fun x => { x with st := .train, rxLanes := 0x00FF }) with time.ticks := 200000000 }
     (s.port 0).trainAt + 200000000 ≤ s.time.ticks ∧ ({ s with time.ticks := 199999999 } : State).time.ticks < (s.port 0).trainAt + 200000000 ∧
      (s.setCfg Obj.FALLBACK 0 1).cfg Obj.FALLBACK 0 ≠ 0 ∧ s.port 0 ≠ Port.reset) ∧
    (porting (fun x => { x with st := .disabled })).rel.boot.firmware = true ∧ (porting id).rel.boot.halted = false ∧
    ((porting (fun x => { x with nb := some ⟨0, 5, 0, 0, 0, []⟩ })).port 0).nb = some ⟨0, 5, 0, 0, 0, []⟩ ∧
    (((porting id).port 0).rxLanes.testBit 15 = true ∧ ((porting id).port 0).rxLanes.testBit 16 = false ∧ ((porting id).port 0).rxSleepUntil ≤ (porting id).time.gun) ∧
    ((porting (fun x => { x with cwseq := some 3, uncRun := 63 })).port 0).cwseq = some 3 ∧ (3 + 1) % 16 ≠ 5 % 16 ∧ ((porting id).port 0).cwseq = none ∧
    tabGet? ((porting id).port 0).holdFrom 7 = some 0 ∧ tabGet? ((porting (fun x => { x with holdFrom := [] })).port 0).holdFrom 7 = none ∧
    (0 : Nat) % 256 = 0 ∧ (0xFF00 % 256 = 0) ∧ ¬ (0 ∈ (porting id).rel.sdsLost) := by decide +kernel

theorem witness_ControlFlitResults : ((porting id).port 0).passes = true ∧ ((porting (fun x => { x with st := .down })).port 0).passes = false ∧
    tabGet? (porting id).ingress 0 = none ∧ tabGet? ({ porting id with ingress := [(0, 1)] } : State).ingress 0 = some 1 ∧
    ((porting id).port 0).sleep = .awake ∧ ((porting id).port 0).tx = [] ∧ tabGet? ((porting id).port 0).sel 0 = none ∧
    (let s := (porting id 14).setCfg Obj.FLOW_CONTROL 14 1
     (s.port 14).st = .up ∧ s.cfg Obj.FLOW_CONTROL 14 = 1 ∧ (s.setCfg Obj.FLOW_CONTROL 14 2).cfg Obj.FLOW_CONTROL 14 = 2) ∧
    tabGet? ((porting (fun x => { x with paused := [(3, 0)] })).port 0).paused 3 = some 0 ∧ 0 ≤ (porting id).time.gun ∧
    tabGet? ((porting (fun x => { x with paused := [(3, 1)] })).port 0).paused 3 = some 1 ∧ (porting id).time.gun < 1 := by decide +kernel

/-- A frame of class c with no payload: a fabric header with its HCRC, and its CRC-32. -/
def plainFrame (c : Nat) : Blob :=
  let h : Blob := List.replicate 8 0 ++ [BitVec.ofNat 8 (0x10 + 2 * c), 0, 1, 0, 0] ++ List.replicate 9 0
  let w := h ++ beBytes 2 (crc16Run 0xFFFF (h ++ List.replicate 8 0)) ++ List.replicate 8 0
  w ++ beBytes 4 (crc32 w)

theorem witness_FrameInResults : headerOk (plainFrame 2) = true ∧ headerOk ((plainFrame 2).set 0 1) = false ∧ fhClass (plainFrame 2) = 2 ∧
    (plainFrame 2).length = 36 + fhLength (plainFrame 2) ∧ (porting id).endFrame 0 0 .cut = porting id ∧
    ((porting id).port 0).freeFlits 2 < 2 ^ 14 ∧ 0 ≤ ((porting id).port 0).freeFlits 2 ∧ ((porting id).port 0).st = .up ∧
    0 < (porting id 14).subports 14 ∧
    (let s : State := { porting id with ingress := [(0, 1)], frames := [(1, Frame.blank)] }
     tabGet? s.ingress 0 = some 1 ∧ s.frame? 1 = some Frame.blank) ∧ (Frame.blank.port < 14 ∨ 14 ≤ Frame.blank.port) := by
  refine ⟨?_, ?_, ?_, ?_, rfl, ?_⟩ <;> decide +kernel

/-- A queue of port 0 in which frame 1 waits. -/
def queued (c : Nat) : State :=
  { porting (fun x => { x with limit := [(c, 100)] }) with
    frames := [(1, { Frame.blank with ended := .good, cls := c, walked := true, baton := 65536, bytes := plainFrame c, phys := 32, relayLap := some 0 })]
    buf.queues := [(0, { Queue.reset with copies := [⟨1, 65536, 1, 0, 80, false, 0, false⟩] })]
    blob := [(objKey Obj.QUEUE_DESC 0, beBytes 16 (2 ^ 127 + c * 2 ^ 116 + 256 * 2 ^ 92 + 2048 * 2 ^ 78 + 2 ^ 35))] }

/-- A descriptor: its address, and a buffer of n bytes, with EOP. -/
def descAt (a n : Nat) (eop : Bool) : Blob := beBytes 8 a ++ beBytes 8 (n * 2 ^ 42 + if eop then 2 ^ 62 else 0)

/-- The ring of queue 0 on port P, with descriptors posted; class 4, its tenant 0. -/
def ringed (ds : List Blob) (tx : Byte := 0) : State :=
  { queued 4 with
    ports := [(16, { Port.reset with st := .up, sel := [(0, 0)] })]
    buf.queues := [(0, { (queued 4).queue 0 with ringTail := ds.length, posted := ds, raiseAt := [0], copies := if tx = 1 then [] else ((queued 4).queue 0).copies })]
    blob := [(objKey Obj.QUEUE_DESC 0, beBytes 16 (2 ^ 127 + 16 * 2 ^ 122 + 4 * 2 ^ 116 + 256 * 2 ^ 92 + 2048 * 2 ^ 78 + 2 ^ 35)),
      (objKey Obj.QUEUE_RING 0, beBytes 8 0 ++ [4, tx, 0, 3] ++ List.replicate 12 0)] }

theorem witness_FrameOutResults :
    (let sel : State := { queued 2 with ports := [(0, { Port.reset with st := .up, limit := [(2, 100)], sel := [(0, 0)] })] }
     sel.selHolds 0 0 = true ∧ tabGet? (sel.port 0).sel 0 = some 0 ∧ sel.headMayStart 0 = true ∧ ((sel.queue 0).copies.isEmpty) = false ∧
     tabGet? (sel.port 0).tx 0 = none ∧ (sel.port 0).sleep = .awake ∧
     (let shut : State := { sel with ports := [(0, { Port.reset with st := .up, limit := [], sel := [(0, 0)] })] }
      shut.selHolds 0 0 = false ∧ shut.headMayStart 0 = false ∧ tabGet? (shut.port 0).sel 0 = some 0) ∧
     (let gone : State := { sel with buf.queues := [] }
      gone.selHolds 0 0 = false ∧ tabGet? (gone.port 0).sel 0 = some 0 ∧ ((gone.queue 0).copies.isEmpty) = true)) ∧
    ((queued 2).selHolds 0 0 = false ∧ tabGet? ((queued 2).port 0).sel 0 = none ∧ (queued 2).busyQueues = [0] ∧ (queued 2).headMayStart 0 = true ∧
      (queued 2).qPort 0 = 0 ∧ (queued 2).qSub 0 = 0 ∧ (porting id).busyQueues = [] ∧ (porting id).selHolds 0 0 = false ∧
      (queued 2).qClass 0 ≠ 0 ∧ (queued 0).qClass 0 = 0) ∧
    (let w : OnWire := ⟨0, 2, ⟨1, 65536, 1, 0, 80, false, 0, false⟩, 0⟩
     let s : State := { queued 2 with ports := [(0, { Port.reset with st := .up, tx := [(0, w)] })], time.gun := 65536 * 100000 }
     tabGet? (s.port 0).tx 0 = some w ∧ (match s.frame? 1 with | some f => f.whole | none => false) = true ∧ s.shellBuilt 1 = true ∧
       w.started + s.wireTime 0 w.copy.wire ≤ s.time.gun ∧
       (let b : State := { s with relay.shells := [⟨0, 0, 0, 0, 1, 65536, none, none, false⟩] }
        (b.shellOf 1).any (fun x => !x.built && decide (256 * b.cellsFilled x ≤ (b.time.gun - w.started) * b.rateOut 0 / (8 * 65536))) = true)) ∧
    (queued 0).frame? 1 ≠ none ∧ ((queued 0).frame? 1).bind (fun f => f.relayLap) = some 0 ∧ (queued 0).lapOver 0 = false ∧
      (queued 0).time.lap = 0 := by
  refine ⟨?_, ?_, ?_, ?_⟩ <;> decide +kernel

theorem witness_RingResults :
    (0x1000 ≤ 0x1000 ∧ 0x1000 ≤ 0x20FFF ∧ ¬ (0x80000 ≤ 0x20FFF) ∧ 0x80000 ≤ 0x81FFF ∧ 0x81FFF < 0x80000 + 16 * 512 ∧ ¬ (0x82000 < 0x80000 + 16 * 512) ∧
      0x8FFF ≤ 0x8FFF ∧ 0xC0FF < 0xC000 + 16 * 16 ∧ ¬ (0x1000 ≤ 0xFFF) ∧ ¬ (0xC000 ≤ 0xFFF)) ∧
    (ringed []).slotQueue 0 16383 = some 16383 ∧ (ringed []).slotQueue 0 16384 = none ∧ (ringed []).ringEntries 16383 = 0 ∧
    (let s := ringed [descAt 4096 1024 false, descAt 8192 1024 false]
     s.slotQueue 0 0 = some 0 ∧ s.ringEntries 0 = 16 ∧ s.ringPosted 0 = 2 ∧
     ((1 + 16 - (s.queue 0).ringHead % 16) % 16 < s.ringPosted 0) ∧ s.ringPosted 0 ≤ ((2 + 16 - (s.queue 0).ringHead % 16) % 16) ∧
     ((s.queue 0).raiseAt = [0] ∧ 0 ≤ s.time.gun ∧ beAt (s.blb Obj.QUEUE_RING 0) 10 2 = 3) ∧ (expertHost.queue 0).raiseAt = [] ∧
     (beAt (s.msixEntry 1 3) 12 4).testBit 0 = true ∧
     (let u : State := { s with pcie.vectors := [(515, List.replicate 16 0)] }
      (beAt (u.msixEntry 1 3) 12 4).testBit 0 = false) ∧
     (let u : State := { s with pcie.pendingBits := [515] }
      1 * 512 + 7 / 2 ∈ u.pcie.pendingBits ∧ (beAt (overwrite (u.msixEntry 1 3) (8 * (7 % 2)) (beBytes 8 0)) 12 4).testBit 0 = false) ∧
     s.txTurn ≠ some 0 ∧ (s.queue 0).copies ≠ [] ∧ tabGet? (s.port 16).sel (s.qSub 0) = some 0 ∧ s.headMayStart 0 = true ∧
     (s.queue 0).copies.head?.all (fun c => (s.frame? c.fid).any (fun f =>
        (fillBuffers ((s.queue 0).posted.map descLen) (s.outBytes 16 f c (s.qClass 0))).any (fun ps => decide (ps.length = 1)))) = true) ∧
    (let s := ringed [descAt 4096 8 false, descAt 8192 1024 false]
     s.headMayStart 0 = true ∧
     (s.queue 0).copies.head?.all (fun c => (s.frame? c.fid).any (fun f =>
        (fillBuffers ((s.queue 0).posted.map descLen) (s.outBytes 16 f c (s.qClass 0))).any (fun ps => decide (ps.length = 2 ∧ (ps.getD 0 []).length = 8)))) = true) ∧
    (ringed [descAt 4096 8 false]).headMayStart 0 = false ∧
    (let s := ringed [descAt 4096 10 false, descAt 8192 4 true, descAt 0 64 true] 1
     s.txTurn = some 0 ∧ nextFrame (s.queue 0).posted = [descAt 4096 10 false, descAt 8192 4 true] ∧
     ([List.replicate 10 (1 : Byte), List.replicate 4 2].map List.length = (nextFrame (s.queue 0).posted).map descLen) ∧
     14 ≤ [List.replicate 10 (1 : Byte), List.replicate 4 2].flatten.length ∧ s.sharedFits (partOf (s.qClass 0)) 1 = true ∧
     (s.allocFrame (partOf (s.qClass 0)) 14 15).isSome = true ∧
     (let full : State := { s with buf.pool.allocs := [(5, (2, 100000000))] }
      full.txTurn = some 0 ∧ full.sharedFits 2 1 = false)) := by
  refine ⟨?_, ?_, ?_, ?_, ?_, ?_, ?_⟩ <;> decide +kernel

theorem witness_QueueWrites : AcceptsBlob expertHost .host Obj.QUEUE_DESC 16383 [] ∧ AcceptsNum expertHost .host Obj.QUEUE_BLOCK 1 4096 ∧
    (let d := 4 * 2 ^ 116 + 1 * 2 ^ 92 + 1 * 2 ^ 78
     bits d 118 116 = 4 ∧ bits d 126 122 = 0 ∧ bits d 107 92 = 1 ∧ bits d 91 78 = 1 ∧ bits d 77 64 = 0 ∧ expertHost.blockOwner 0 = 0 ∧ expertHost.queueBusy 0 = false ∧
      0 < expertHost.sharedRegion 2) ∧ (queued 4).queueBusy 0 = true ∧ expertHost.allIdle = true ∧
    ((expertHost.queue 0).ringHead = (expertHost.queue 0).ringTail) ∧ ((ringed [descAt 0 64 true]).queue 0).ringHead ≠ ((ringed [descAt 0 64 true]).queue 0).ringTail ∧
    (ringed []).qPort 0 = 16 ∧
    [12288, 4096, 44031, 5120].sum = 65535 ∧ (∀ k, k < 4 → expertHost.reserved k ≤ [12288, 4096, 44031, 5120].getD k 0) ∧
    expertHost.sharedRegion 2 < 2 ^ 32 ∧ (expertHost.tenant 1).st = .idle ∧ expertHost.guaranteeCapacity 0 < 2 ^ 32 :=
  ⟨witness_accepts_blob (Obj.QUEUE_DESC, 16383) (by decide), witness_accepts_num (Obj.QUEUE_BLOCK, 1, 4096) (by decide), by decide +kernel⟩

theorem witness_QueueEvents :
    (let s := (queued 4).setOd 3 ⟨2, 1, [(1, 1)], [(1, .drop)]⟩
     tabGet? (s.od 3).frames (s.od 3).hand = some 1 ∧ tabGet? (s.od 3).posted (s.od 3).hand = some .drop ∧ (s.frame? 1).isSome = true) ∧
    tabGet? (expertHost.od 3).frames (expertHost.od 3).hand = none ∧
    tabGet? ({ expertHost with buf.qpacers := [(0, .reset)] } : State).buf.qpacers 0 = some .reset ∧
    tabGet? ({ expertHost with buf.pool.openHalf := [(0, (1, 0))] } : State).buf.pool.openHalf 0 = some (1, 0) ∧
    tabGet? expertHost.buf.pool.openHalf 0 = none := by decide +kernel

/-- A frame that has arrived whole, unwalked and stored, of a source and class. -/
def arrived (src c : Nat) (f : Frame → Frame := id) : State :=
  { porting id with frames := [(1, f { Frame.blank with src := src, port := 0, cls := c, baton := 65536, ended := .good, phys := 32, bytes := plainFrame c })] }

theorem witness_ParseResults :
    (∀ x ∈ [(0, 2), (0, 1), (2, 4)], ((arrived x.1 x.2).frame? 1).any (fun f => !f.walked && f.baton != 0 && f.src != 1) = true) ∧
    (let s := arrived 0 2 (fun f => { f with walked := true })
     (s.frame? 1).any (fun f => f.walked && f.card == none && f.whole && !s.cardBehind 1 f && !f.walkFlags.lenPending && f.frag == none && f.heldAt == none) = true) ∧
    ((arrived 0 2 (fun f => { f with heldAt := some 0, card := some (frameCard 0) })).frame? 1).any (fun f => f.heldAt == some 0 && f.card == some (frameCard 0)) = true ∧
    tabGet? ({ expertHost with parser.frags := [(5, { frag5 with st := .decided })] } : State).parser.frags 5 = some { frag5 with st := .decided } ∧
    tabGet? expertHost.parser.frags 5 = none ∧
    (let s := arrived 0 0
     s.judge 0 0 (s.lapOf (relayWordOf (fhWord (plainFrame 0))).lap) 0 0 = .late) ∧
    ((arrived 0 2 (fun f => { f with walked := true, frag := some (14, 0) })).frame? 1).any (fun f => f.frag == some (14, 0)) = true := by
  decide +kernel

theorem witness_ParserWrites : AcceptsBlob expertHost .host Obj.PARSE_GRAPH_PENDING 0 [] ∧ AcceptsBlob expertHost .host Obj.RULE_BATCH 0 [] ∧
    graphOk graphDefault expertHost.startTypes = true ∧ graphOk [] expertHost.startTypes = false ∧
    (graphType (expertHost.blb Obj.PARSE_GRAPH) 0).valid = true ∧ (graphType (expertHost.blb Obj.PARSE_GRAPH) 63).valid = false ∧
    (let b := blobDefault Obj.MASK_SET 0
     b.length = 96 ∧ beAt b 1 1 = 255 ∧ ∀ k, k < 8 → setField b k / 2 ^ 11 % 32 ≤ 16) ∧ expertHost.setRules 0 = [] ∧
    editOk [] = false ∧ editOk (List.replicate 64 0) = true := by
  refine ⟨witness_accepts_blob (Obj.PARSE_GRAPH_PENDING, 0) (by decide), witness_accepts_blob (Obj.RULE_BATCH, 0) (by decide), ?_⟩
  decide +kernel

/-! ## Witnesses: control flits and PTP -/

/-- A control flit that is whole comes in on a Psiot port that passes flits and receives no frame. -/
theorem flitIn_of {s : State} {p ty : Nat} {flit : Blob} (h : isPsiot p = true ∧ (s.port p).passes = true ∧ flitOk flit = true ∧ flitType flit = ty)
    (i : tabGet? s.ingress (ingressKey p 0) = none) : FlitIn s p ty flit s := by
  refine ⟨h.1, h.2.1, h.2.2.1, h.2.2.2, ?_⟩
  unfold State.endFrame
  rw [i, ite_self]

/-- Every type of control flit comes in on port 0, with a body of zeros. -/
theorem witness_FlitTypes : ∀ ty ∈ List.range 11, FlitIn (porting id) 0 ty (flitBytes ty 0 []) (porting id) := by
  intro ty h
  refine flitIn_of ?_ (by decide)
  revert ty
  decide +kernel

theorem witness_BadFlits : (∀ f ∈ [[], flitBytes 11 0 [], (flitBytes 1 0 []).set 9 1], isPsiot 0 = true ∧ ((porting id).port 0).passes = true ∧ flitOk f = false) ∧
    isPsiot 14 = false ∧ isPsiot 13 = true := by decide +kernel

/-- Announces of 62 and of 63 hops, and one that names its hearer, at an Anchor with rank 0. -/
theorem witness_Announces :
    (∀ h ∈ [1, 62, 63], ∃ f, FlitIn child 0 2 f child ∧ announceOf f = { body1 with hops := h }) ∧
    (announceOf ((CtlFlit.announce { body1 with bib := 0 }).bytes 0)).bib = child.rel.boot.bib ∧
    (child.setCfg Obj.ANCHOR_RANK 0 0).cfg Obj.ANCHOR_RANK = 0 ∧ (child.port 0).st = .up := by
  refine ⟨?_, by decide +kernel⟩
  intro h hh
  refine ⟨(CtlFlit.announce { body1 with hops := h }).bytes 0, flitIn_of ?_ (by decide), ?_⟩ <;> revert h <;> decide +kernel

/-- A SYNC and a REPLY of the exchange under way, each completing it. -/
theorem witness_SyncReply :
    (let f := (CtlFlit.sync 5 4 9).bytes 70
     (∃ g, FlitIn child 0 3 g child ∧ g = f) ∧ beAt f 2 2 = 5 ∧ beAt f 14 2 = 4 ∧ beAt f 16 10 = 9 ∧ beAt f 4 10 = 70) ∧
    (let s : State := { child with time.exch := [(0, ⟨4, 1, 2, 3, 0, none, 0⟩)] }
     (s.exchange 0).seq = 4 ∧ (s.exchange 0).t3 ≠ 0 ∧ (s.exchange 0).t1 ≠ 0 ∧ (∃ f, FlitIn s 0 4 f s ∧ beAt f 2 2 = 4) ∧ (∃ f, FlitIn s 0 4 f s ∧ beAt f 2 2 = 5)) ∧
    (∀ role ∈ [Role.locked, .acquiring], ({ child with time := { child.time with role := role } } : State).time.role = role) ∧
    ({ child with time := { child.time with role := .holdover } } : State).time.role ≠ .locked ∧
    (child.lapAgrees { body1 with lap := child.time.lap + 9 } = false) := by
  refine ⟨⟨⟨_, flitIn_of ?_ (by decide), rfl⟩, ?_⟩, ⟨?_, ?_, ?_, ⟨(CtlFlit.reply 4 7).bytes 9, flitIn_of ?_ (by decide), ?_⟩,
    ⟨(CtlFlit.reply 5 7).bytes 9, flitIn_of ?_ (by decide), ?_⟩⟩, ?_⟩ <;> decide +kernel

/-- A PTP message of a type on Layer 2: version 2, domain 0, its source port all zero. -/
def ptpFrame (ty flags : Byte) (n : Nat) : Blob :=
  List.replicate 12 0 ++ [0x88, 0xF7] ++ ([ty, 2, 0, 64, 0, 0, flags] ++ List.replicate (n - 7) 0)

/-- An Anchor in mode 2 with such a message released at port 14. -/
def ptping (ty flags : Byte) (f : PtpClock → PtpClock) (n : Nat := 64) : State :=
  { (timed (fun t => { t with role := .anchor, ptp := f { t.ptp with source := List.replicate 10 0 }, ptpIn := [⟨14, 0, 7, ptpFrame ty flags n⟩] })).setCfg
      Obj.EXT_ALIGN 0 2 with rel.boot.bib := 0 }

theorem witness_PtpResults :
    (∀ ty ∈ [(0 : Byte), 8, 9, 11], ptpAt (ptpFrame ty 0 64) = some 14 ∧ beAt (ptpFrame ty 0 64) 14 1 % 16 = ty.toNat ∧ beAt (ptpFrame ty 0 64) 15 1 % 16 = 2 ∧
      beAt (ptpFrame ty 0 64) 18 1 = (ptping ty 0 id).cfg Obj.PTP_DOMAIN ∧ 64 ≤ ((ptpFrame ty 0 64).drop 14).length) ∧ ptpAt [] = none ∧
    (ptping 0 0 id).cfg Obj.EXT_ALIGN = 2 ∧ (ptping 0 0 id).time.role = .anchor ∧ (ptping 0 0 id).time.ptpIn = [⟨14, 0, 7, ptpFrame 0 0 64⟩] ∧
    (ptping 0 0 id).time.ptp.source = ((ptpFrame 0 0 64).drop 34).take 10 ∧ ((ptping 0 0 (fun c => { c with source := [] })).time.ptp.source = []) ∧
    beAt (ptpFrame 0 2 64) 20 1 / 2 % 2 = 1 ∧ beAt (ptpFrame 0 0 64) 20 1 / 2 % 2 = 0 ∧
    (ptping 8 0 (fun c => { c with sync := some (0, 5, 0) })).time.ptp.sync = some (beAt (ptpFrame 8 0 64) 44 2, 5, 0) ∧
    (let s := ptping 9 0 (fun c => { c with pair := some (3, 5), reqAt := some 6, reqSeq := 0 })
     s.time.ptp.pair = some (3, 5) ∧ s.time.ptp.reqAt = some 6 ∧ beAt (ptpFrame 9 0 64) 44 2 = s.time.ptp.reqSeq ∧ beAt (ptpFrame 9 0 64) 58 8 = s.rel.boot.bib) ∧
    ((ptping 0 0 (fun c => { c with delay := some 4 })).time.ptp.delay = some 4) ∧
    ((ptping 0 0 id).setCfg Obj.EXT_ALIGN 0 4).cfg Obj.EXT_ALIGN = 4 ∧ State.reset.time.role ≠ .anchor := by decide +kernel

/-- Mode 1 alone: an edge within the limit and beyond it, and eight edges that agree. -/
theorem witness_PpsEdges :
    (let s := (timed (fun t => { t with role := .anchor, ppsFirst := false, gun := 0, ppsPhases := List.replicate 7 (200000 * 65536) })).setCfg Obj.EXT_ALIGN 0 1
     s.time.role = .anchor ∧ s.cfg Obj.EXT_ALIGN = 1 ∧
      (((200000 * 65536 : Nat) :: s.time.ppsPhases).take 8).length = 8 ∧
      List.Pairwise (fun a b => (a + 1000000000 * 65536 - b + 1000 * 65536) % (1000000000 * 65536) ≤ 2000 * 65536)
        (((200000 * 65536 : Nat) :: s.time.ppsPhases).take 8)) := by decide +kernel

/-- A run that ends more than 2.0 µs on, and at once. -/
theorem witness_PreWake :
    (let s : State := { expertHost with ports := [(0, { Port.reset with st := .up, sleep := .entering 0 })] }.setBlb Obj.GATE_LIST 0
        (beBytes 8 0x0000008000000BB8 ++ beBytes 8 0xFC000A00000001F4)
     (s.port 0).sleep = .entering 0 ∧ s.splitIdle 0 (s.splitNow 0) s.time.lap = true ∧ s.sleepRun 0 = 3000 ∧
      s.time.gun + 2000 * 65536 < s.splitStart 0 0 + 3000 * 65536 ∧
      (let u : State := { s with time.gun := s.splitStart 0 0 + 1000 * 65536 }
       u.splitIdle 0 (u.splitNow 0) u.time.lap = true ∧ u.splitStart 0 0 + u.sleepRun 0 * 65536 ≤ u.time.gun + 2000 * 65536)) := by decide +kernel

/-- The limits of correction in both modes, one half that is clean and none, and the first and the last sub-port of port 14 to lose a lane. -/
theorem witness_PortEvents :
    (let x := (porting (fun x => { x with fec := 1 })).port 0
     let y := (porting id).port 0
     (if x.fec = 1 then 7 else 15) = 7 ∧ (if y.fec = 1 then 7 else 15) = 15 ∧ (7 : Nat) < 8 ∧ (15 : Nat) < 16) ∧
    (let x := (porting (fun x => { x with st := .align, rxLanes := 0xFFFF, fellBack := false })).port 0
     (0x0100 ||| (0xFFFF - x.rxLanes)) % 256 = 0 ∧ (0x0001 ||| (0xFFFF - x.rxLanes)) % 256 ≠ 0 ∧ (0x0001 ||| (0xFFFF - x.rxLanes)) / 256 % 256 = 0) ∧
    (let x := (porting (fun x => { x with st := .align, rxLanes := 0x00FF, fellBack := true })).port 0
     (0xFF00 &&& x.rxLanes) = 0 ∧ (0x0080 &&& x.rxLanes) ≠ 0 ∧ x.fellBack = true) ∧
    (let x := (porting (fun x => { x with breakout := 2, rxLanes := 0xFF, subDown := [0, 1, 2] }) 14).port 14
     x.st = .up ∧ x.rxLanes.testBit 7 = true ∧ 7 * 2 ^ x.breakout / 8 = 3 ∧ 2 ^ x.breakout ≤ (3 :: x.subDown).length ∧ ¬ (2 ^ x.breakout ≤ (3 :: [0, 1]).length)) := by
  decide +kernel

/-- A set of two classes of one rule, on, and a batch of one record for it. -/
def maskBlob : Blob := [0x80, 2] ++ List.replicate 94 0
def recordBlob (op : Byte) : Blob := [0, 1, 0, 0, 0, 0, 0, 0] ++ [op, 0, 0, 0] ++ List.replicate 60 0
def ruled (held : Bool) : State :=
  let s : State := { expertHost with blob := [(objKey Obj.MASK_SET 0, maskBlob)], tables.seed := 0 }
  if held then { s with parser.rules := (s.ruleSlots 0 0 (List.replicate 41 0)).map (fun k => (k, ⟨0, 0, 0, List.replicate 40 0⟩)) } else s

theorem witness_RuleBatch : (∀ op ∈ [(1 : Byte), 2], ∀ h ∈ [true, false], let r := ruleRecOf (((recordBlob op).drop 8).take 64)
      beAt (recordBlob op) 0 2 = 1 ∧ (recordBlob op).length = 72 ∧ (ruled h).ruleRecOk r = true ∧ r.op = op.toNat ∧
      ((ruled h).storedRule r.set r.rule.tenant r.rule.fullKey).isSome = h) ∧
    (ruled false).ruleRecOk (ruleRecOf (((recordBlob 3).drop 8).take 64)) = false := by decide +kernel

/-- A frame that is ready for its card: of no fragment, of a first one and of a later one. -/
theorem witness_Fragments : ∀ x ∈ [none, some (14, 0), some (14, 1)],
    (let f : Frame := { Frame.blank with src := 0, port := 14, cls := 4, baton := 65536, ended := .good, phys := 64, bytes := List.replicate 68 0, walked := true, frag := x, graph := some graphDefault }
     f.whole = true ∧ f.card = none ∧ ({ porting id 14 with frames := [(1, f)] } : State).cardBehind 1 f = false ∧ f.frag = x ∧
      f.fragKey?.isSome = x.isSome ∧ f.walkFlags.lenPending = false) := by decide +kernel

/-! ## Witnesses: threads, squads, tables, relay traffic -/

/-- A thread of its own, and a device with a thread and its squad. -/
def threaded (f : Thread → Thread) (q : Squad → Squad := id) : State :=
  { expertHost with
    strider.threads := [(0, f Thread.reset)]
    strider.squads := [(0, q { Squad.reset with st := .running })]
    frames := [(1, { Frame.blank with card := some (frameCard 1), cls := 4 })] }

/-- An image of two parcels with one entry, at its first. -/
def image1 : Image := ⟨1, 0x2000, [0, 0, 0, 0], Option.none, [(0, (0x2000, 0))], 0⟩

theorem witness_ThreadResults :
    ((threaded id).thread 0).st = .free ∧ ((threaded id).thread 0).fid = none ∧
    (let s := threaded (fun t => { t with fid := some 1 }) (fun q => { q with image := some image1 })
     (s.thread 0).st = .free ∧ (s.thread 0).fid = some 1 ∧ s.cardOf? 1 = some (frameCard 1) ∧ s.entryOf (frameCard 1) = .entry 0 ∧
      (s.squad 0).entry? 0 = some (0x2000, 0) ∧ (s.squad 0).entry? 253 = none ∧ s.entryOf { frameCard 1 with program := 254 } = .entry 254 ∧
      s.entryOf { frameCard 1 with source := 1 } = .relay ∧ s.entryOf { frameCard 1 with cls := 1 } = .relay ∧
      s.entryOf { frameCard 1 with flags := { (frameCard 1).flags with drop := true } } = .dropCard ∧
      s.entryOf { frameCard 1 with flags := { (frameCard 1).flags with slow := true } } = .entry (s.cfg Obj.SLOW_ENTRY 1)) ∧
    (let t := (threaded (fun t => { t with kind := .dropCard, st := .waiting, fid := some 1 })).thread 0
     t.kind = .dropCard ∧ t.st = .waiting ∧ t.fid = some 1) ∧
    (let t := (threaded (fun t => { t with st := .ending })).thread 0
     t.st = .ending ∧ t.ctx.results = []) ∧
    (let r : InFlight := ⟨3, 0, 3, [7], true, 0⟩
     let t := (threaded (fun t => { t with st := .ending, ctx := { t.ctx with results := [r] } })).thread 0
     t.ctx.results ≠ [] ∧ t.ctx.results.find? (fun q => q.token) = some r) ∧
    (let t := (threaded (fun t => { t with st := .waiting, wait := .stopwatch 0 })).thread 0
     t.st = .waiting ∧ t.wait = .stopwatch 0) ∧
    (let s := threaded (fun t => { t with st := .waiting, wait := .event })
     squadOf 0 = 0 ∧ (s.thread 0).st = .waiting ∧ (s.thread 0).wait = .event ∧ squadOf 127 = 0 ∧ squadOf 128 = 1) ∧
    (0x2000 : Nat) ≤ 0x2007 / 8 * 8 ∧ (0xFFFF : Nat) / 8 * 8 < 0x10000 ∧ (0x1FFF : Nat) / 8 * 8 < 0x2000 := by decide +kernel

/-- The first 24 bytes of an image blob of two parcels at 2000h with no init entry; its ID leaves the CRC register at zero. -/
def imageHead : Blob := beBytes 4 0xD5E5EDF3 ++ beBytes 2 1 ++ [0, 0] ++ beBytes 4 0x2000 ++ beBytes 4 4 ++ beBytes 4 0xFFFFFFFF ++ List.replicate 4 0

/-- The blob with n bytes of zeros before its CRC; with 2,052 the whole: no program entry, two parcels of zeros. -/
def imagePadded (n : Nat) : Blob := (imageHead ++ List.replicate n 0) ++ [255, 255, 255, 255]
def imageBlob : Blob := imagePadded 2052

theorem crc32Run_zeros (n : Nat) : crc32Run 0 (List.replicate n 0) = 0 := by
  induction n with
  | zero => rfl
  | succ n ih =>
    have z : crcByte 32 0x04C11DB7 0 0 = 0 := by decide +kernel
    rw [List.replicate_succ, crc32Run, List.foldl_cons, z]; exact ih

theorem imagePadded_crc (n : Nat) : crc32 ((imagePadded n).take ((imagePadded n).length - 4)) = 0xFFFFFFFF := by
  have h : (imagePadded n).take ((imagePadded n).length - 4) = imageHead ++ List.replicate n 0 := by
    refine List.take_left' ?_
    simp only [imagePadded, List.length_append, List.length_cons, List.length_nil]; omega
  have z : crc32Run 0xFFFFFFFF imageHead = 0 := by decide +kernel
  have a : crc32Run 0xFFFFFFFF (imageHead ++ List.replicate n 0) = crc32Run (crc32Run 0xFFFFFFFF imageHead) (List.replicate n 0) :=
    List.foldl_append
  rw [h, crc32, a, z, crc32Run_zeros]; rfl

theorem imageBlob_parses : (imageOf imageBlob).isSome = true := by
  have h := imagePadded_crc 2052
  rw [← imageBlob] at h
  unfold imageOf
  simp only [h]
  decide +kernel

theorem witness_SquadResults : imageOf [] = none ∧ (let q := fun (f : Squad → Squad) => (threaded id f).squad 0
     (q id).st = .running ∧ (∀ st ∈ [SquadState.gated, .waking, .loading, .draining, .test, .loadFailed], (q (fun x => { x with st := st })).st = st) ∧
      (∀ g ∈ [DrainGoal.swap, .gate, .test], (q (fun x => { x with st := .draining, goal := g })).goal = g) ∧
      (q (fun x => { x with wakeAt := some 0 })).wakeAt = some 0 ∧ (q (fun x => { x with freqTarget := some 1000, freqNext := some 2000 })).freqNext = some 2000 ∧
      (q id).freqTarget = none ∧ (q id).freqActual = 2500) ∧
    (threaded id).squadFree 0 = true ∧ (threaded (fun t => { t with st := .running })).squadFree 0 = false ∧
    (threaded id).strider.swap = none ∧ ({ threaded id with strider.swap := some (1, 0) } : State).strider.swap ≠ none ∧
    ((threaded id).squad 1).staged = none ∧ ((threaded id (fun q => { q with staged := some image1 })).squad 0).staged ≠ none ∧
    (List.range 12).filter (fun j => (4095 : Nat).testBit j) = List.range 12 ∧
    (1000 ≤ (threaded id).freqMax ∧ 1000 % 25 = 0 ∧ ¬ (1001 % 25 = 0)) ∧
    (threaded id).wakePending 0 = false ∧
    ({ threaded id with rel.wakes := [⟨0, 0, 1000, 1, none, 0⟩] } : State).wakePending 0 = true ∧
    (let s : State := { threaded id (fun x => { x with st := .draining }) with time.gun := 2 ^ 60 }
     (s.squad 0).drainFrom + s.cfg Obj.DRAIN_LIMIT * 65536000 ≤ s.time.gun ∧
      ({ s with time.gun := 0 } : State).time.gun < (s.squad 0).drainFrom + s.cfg Obj.DRAIN_LIMIT * 65536000 ∧ 0 + 655360000000 ≤ s.time.gun) := by
  decide +kernel

/-- A trie of IPv4 routes with one stride. -/
def trie1 : Trie := ⟨false, 1, [8, 8], [(0, 0), (10 * 16 + 1, 256)], [⟨8, 10 * 2 ^ 24, 5⟩, ⟨16, 10 * 2 ^ 24 + 3 * 2 ^ 16, 7⟩]⟩

theorem witness_LookupsAreRight : trie1.strides ≠ [] ∧ trie1.strides.length ≤ 12 ∧ trie1.strides.sum ≤ trie1.width ∧ 10 * 2 ^ 24 + 3 * 2 ^ 16 + 1 < 2 ^ trie1.width ∧
    (∀ x ∈ trie1.nodes, (tabGet? trie1.places (nodeKey x)).any (fun a => decide (a < 2 ^ 22)) = true) ∧ (∀ x ∈ trie1.places, ∃ y ∈ trie1.nodes, x.1 = nodeKey y) ∧
    (∀ x ∈ trie1.places, ∀ y ∈ trie1.places, x.1 % 16 = y.1 % 16 → x ≠ y →
      x.2 + 2 ^ (trie1.strides.getD (x.1 % 16) 0) ≤ y.2 ∨ y.2 + 2 ^ (trie1.strides.getD (y.1 % 16) 0) ≤ x.2) ∧
    (∀ p ∈ trie1.prefixes, p.plen ≤ trie1.strides.sum ∧ p.bits < 2 ^ trie1.width ∧ p.value < 2 ^ 32) ∧
    trie1.lookup (10 * 2 ^ 24 + 3 * 2 ^ 16 + 1) = some (16, 7) ∧ trie1.lookup (10 * 2 ^ 24) = some (8, 5) ∧ trie1.lookup 0 = none := by decide +kernel

/-- A learn entry that has been hit. -/
def entry1 : LearnEntry := ⟨false, false, true, 0, 0, 1, 1, 5, 7, 8, 0, 0, 0⟩

theorem witness_TableResults :
    expertHost.tables.jobs.length < 4 ∧ expertHost.tables.jobs = [] ∧ expertHost.trieAfter 0 = none ∧
    (let s : State := { expertHost with tables.tries := [(0, trie1)] }
     s.trieAfter 0 = some trie1 ∧ s.tables.tries ≠ []) ∧
    (let s : State := { expertHost with tables.jobs := [(1, ⟨1, 1, some trie1, true, trie1.nodes⟩)] }
     s.tables.jobs = [(1, ⟨1, 1, some trie1, true, trie1.nodes⟩)] ∧ s.tables.jobs ≠ [] ∧ (∀ h ∈ s.mgmt.held, 1 ∉ h.jobs)) ∧
    (let b : Blob := List.replicate 20 0
     b.length = 20 ∧ beAt b 16 4 = 0 ∧ beAt b 0 16 < 2 ^ 127) ∧
    (let b : Blob := [0x80] ++ List.replicate 19 0
     b.length = 20 + 24 * beAt b 16 4 ∧ beAt b 0 16 / 2 ^ 127 % 2 = 1) ∧
    (let b : Blob := [0, 0, 0, 1, 0, 0, 0, 0] ++ [1, 8, 0, 0, 0, 0, 0, 0] ++ List.replicate 12 0 ++ [10, 0, 0, 0]
     beAt b 2 2 = 1 ∧ b.length = 32 ∧ (prefixesOf false b 8 1).any (fun l => l.any (fun q => q.1 == 1 && q.2.plen == 8)) = true) ∧
    prefixesOf false [] 8 1 = none ∧ (∀ y ∈ List.replicate 128 (0 : Byte), y.toNat ≤ 11) ∧
    (ShadowTable.code .trieEntry ≤ 1 ∧ 2 ≤ ShadowTable.code .slabTable) ∧
    entry1.hit = true ∧ entry1.fixed = false ∧ { entry1 with hit := false, age := 2 }.age = 2 ∧ { entry1 with fixed := true }.fixed = true ∧
    (let b : Blob := [0, 1, 0, 0, 0, 0, 0, 0] ++ [2, 1, 1, 8, 0, 5, 0, 0, 0, 0, 0, 7, 0, 0, 0, 0]
     beAt b 0 2 = 1 ∧ b.length = 24 ∧ (staticRecord ((b.drop 8).take 16)).isSome = true) ∧
    expertHost.learnEntries = [] ∧ expertHost.allIdle = true ∧ expertHost.parser.frags = [] ∧ expertHost.parser.rules = [] ∧
    (let b : Blob := List.replicate 8 0
     groupCount b = 0 ∧ 8 + 4 * groupCount b = b.length) ∧ expertHost.memberWords = 0 ∧
    ({ expertHost with tables.bytesOut := [(0, [(0, 9)])] } : State).tables.bytesOut = [(0, [(0, 9)])] := by decide +kernel

/-- Jobs that wait, a trie that no stage holds, the audit at each of its stops, and a load of the trie's shape. -/
theorem witness_TableJobs :
    (let waiting := ({ expertHost with tables.jobs := List.replicate 4 (1, ⟨1, 1, some trie1, true, trie1.nodes⟩) } : State)
     4 ≤ waiting.tables.jobs.length ∧ (jobNodes true (waiting.trieAfter 0) (some trie1)).1 = trie1.nodes ∧
      (∀ d, d < 12 → trie1.entriesIn trie1.nodes d ≤ waiting.stageFree d) ∧ expertHost.stageFree 0 < { trie1 with strides := [24] }.entriesIn [(0, 0)] 0) ∧
    (let s := expertHost
     s.noDram = false ∧ s.tables.audit.table < 0 + 1 ∧ s.tables.audit.entry ≤ 0 ∧ s.tables.jobs = [] ∧ (0, 0) ∉ s.tables.shadowBad ∧ (0, 0) ∉ s.tables.invalid ∧
      ({ s with tables.shadowBad := [(0, 0)] } : State).tables.shadowBad = [(0, 0)] ∧ ({ s with tables.invalid := [(0, 0)] } : State).tables.invalid = [(0, 0)] ∧
      ({ s with tables.audit.table := 9 } : State).tables.audit.table = 9 ∧
      ({ s with dram.ways := 0, rel.boot.firmware := true } : State).noDram = true) := by decide +kernel

theorem witness_TrieLoad :
    (let d := 2 ^ 127 + 2 * 2 ^ 120 + 1 * 2 ^ 112 + 7 * 2 ^ 44 + 7 * 2 ^ 40
     let b := beBytes 16 d ++ beBytes 4 1 ++ [1, 8, 0, 0, 0, 0, 0, 0] ++ List.replicate 12 0 ++ [10, 0, 0, 0]
     b.length = 20 + 24 * beAt b 16 4 ∧ (beAt b 0 16).testBit 127 = true ∧ beAt b 0 16 / 2 ^ 120 % 16 = 2 ∧ (∀ x, x < 12 → 2 ≤ x → beAt b 0 16 / 2 ^ (44 - 4 * x) % 16 = 0) ∧
      (List.range 2).map (fun k => beAt b 0 16 / 2 ^ (44 - 4 * k) % 16 + 1) = [8, 8] ∧
      (prefixesOf false b 20 1).any (fun l => l.all (fun q => decide (q.1 = 1 ∧ q.2.plen ≤ 16))) = true) := by decide +kernel

/-- A relay set of tenant 1: one slab of 16 tens at port 0, and one output of 16 tens at port 0 in lane 0 that copies it. -/
def relayBlob : Blob :=
  let slab := 1 * 2 ^ 56 + 2 ^ 55 + 16 * 2 ^ 35
  let head := 2 * 2 ^ 62 + 16 * 2 ^ 48 + 1
  let run := 16 * 2 ^ 48
  beBytes 4 1 ++ beBytes 4 0 ++ beBytes 4 2 ++ List.replicate 20 0 ++ beBytes 8 slab ++ beBytes 8 head ++ beBytes 8 run

/-- The set of `relayBlob`, operational, in a lap in which tenant 1 runs. -/
def relaying : State :=
  match relaySetOf relayBlob with
  | some r => { (porting (fun x => { x with st := .up })).modTenant 1 (fun t => { t with st := .running, stAtLap := .running }) with
      relay := { State.reset.relay with sets := [(1, r)] } }
  | none => expertHost

theorem witness_RelayResults : relaySetOf [] = none ∧ (relaySetOf relayBlob).any (fun r => relaySetOk 1 r && !relaySetOk 2 r) = true ∧
    (relaySetOf relayBlob).any (fun r => expertHost.setFits 1 r) = true ∧ expertHost.cfg Obj.SWAP_LAP = 2 ^ 48 - 1 ∧
    relaying.startOfLap relaying.time.lap = some relaying.time.lapStart ∧ relaying.startOfLap ((relaying.time.lap + 2 ^ 48 - 1) % 2 ^ 48) = none ∧
    ((relaying.relaySetFor 1 relaying.time.lap).heads 0).length = 1 ∧ relaying.activeLap 1 relaying.time.lap = true ∧
    (relaying.allocCells 0 (cellsFor (36 + tensBytes 16))).isSome = true ∧ relaying.unitBusy 0 = false ∧
    (let s : State := { relaying with relay.shells := [⟨1, relaying.time.lap, 0, 0, 1, 0, none, none, false⟩] }
     s.unitBusy 0 = false ∧ (s.noteReady.nextHeads 0).filter (fun y => y.readySince.isSome) = [] ∧
      s.relay.shells.filter (fun y => y.lane == 0 && !y.built && y.startAt.isSome) = [] ∧
      (let r := s.setInput 1 0 s.time.lap { Input.reset with st := .complete, tens := 16, baton := 65536 }
       (r.noteReady.nextHeads 0).filter (fun y => y.readySince.isSome) ≠ [])) ∧
    (let s : State := { relaying with relay.shells := [⟨1, relaying.time.lap, 0, 0, 1, 0, some 0, some 0, false⟩] }
     (leastBy (fun y => y.startAt.getD 0) (s.relay.shells.filter (fun y => y.lane == 0 && !y.built && y.startAt.isSome))).any (fun x => (s.shellHead x).isSome) = true ∧
      (leastBy (fun y => y.startAt.getD 0) ((s.relay.shells.map (fun y => { y with lap := y.lap, k := 9 })).filter (fun y => y.lane == 0 && !y.built && y.startAt.isSome))).any
        (fun x => (s.shellHead x).isNone) = true ∧
      (({ s with relay.busy := [(0, s.time.gun, 100)] } : State).unitBusy 0 = true)) ∧
    (4 : Nat) + 6 ≤ 10 * [1023].length ∧ (0 : Nat) + 1 ≤ [1023].length ∧ (∀ y ∈ [0, 1023], y < 1024) ∧
    (let s := relaying.setBlb Obj.RX_WINDOWS 0 (beBytes 8 0x00000003E8000A00)
     ((s.windowsIn 0 s.time.lap)[0]?).isSome = true ∧ (s.windowsIn 0 s.time.lap)[1]? = none ∧
      ((s.windowsIn 0 s.time.lap)[0]?).any (fun y => decide ((s.time.gun : Int) < (s.windowTimes 0 s.time.lap y).2.2)) = true ∧
      ((s.windowsIn 0 s.time.lap)[0]?).any (fun y => decide ((s.windowTimes 0 s.time.lap y).2.2 ≤ ({ s with time.gun := 2 ^ 60 } : State).time.gun)) = true ∧ s.relay.sets.map Prod.fst = [1] ∧ s.relay.staged = [] ∧
      s.relay.former = []) ∧
    (let w := relaying.input 1 0 0
     w.st = .absent ∧ w.baton = 0 ∧ relaying.replay 1 = false ∧ (relaying.setCfg Obj.RELAY_MODE 1 1).replay 1 = true) := by decide +kernel

/-- A token before its limit and at it, and a squad whose reset is awaited. -/
theorem witness_ThreadLate : let r : InFlight := ⟨0, 3, 0, [0], true, 0⟩
    (let s : State := { threaded (fun t => { t with fid := some 1, ctx := { t.ctx with results := [r] } }) with time.gun := 2 ^ 60, frames := [(1, { Frame.blank with card := some (frameCard 1), seqNo := some 7 })] }
     s.tokenLate 0 r = true ∧ (s.thread 0).ctx.results.find? (s.tokenLate 0) = some r ∧ ({ s with time.gun := 0 } : State).tokenLate 0 r = false ∧
      ({ s with time.gun := 0 } : State).time.gun < r.since + s.cfg Obj.TOKEN_LIMIT * 65536000) ∧
    (∀ st ∈ [SquadState.running, .loading, .draining], ((threaded id (fun q => { q with asked := true, st := st })).squad 0).asked = true) ∧
    (let t := (threaded (fun t => { t with ctx := { t.ctx with results := [r, { r with token := false, tag := 1 }] } })).thread 0
     t.ctx.results.filter (fun q => !q.token) ≠ [] ∧ (Thread.reset.ctx.results.filter (fun q => !q.token)) = []) := by decide +kernel

/-! ## Witnesses: tenants, trace, DRAM, management, field network, board -/

/-- Tenant 1 in a state, with the port 0 an endpoint's or a child's. -/
def tenanted (f : Tenant → Tenant) : State := (porting id).modTenant 1 f

theorem witness_GlobalOpResults :
    (let s := { tenanted id with time := { expertHost.time with role := .anchor } }
     let lead := s.time.gun + s.cfg Obj.OP_LEAD * 65536
     let l := (s.time.lap + s.lapsUntil lead) % 2 ^ 48
     let ahead := (l + 2 ^ 48 - s.time.lap % 2 ^ 48) % 2 ^ 48
     s.time.role = .anchor ∧ s.noDram = false ∧ s.rel.boot.halted = false ∧ 1 ≤ ahead ∧ ahead ≤ 2 ^ 47 - 1 ∧ lead ≤ s.lapStartIn ahead ∧
      (s.ten.sched.filter (fun y => y.t == 1)).length < 4 ∧ (s.tenant 1).photo.isSome = false ∧
      (let k : Sched := ⟨.hold, 1, 0, 5, none⟩
       4 ≤ (({ s with ten.sched := [k, k, k, k] } : State).ten.sched.filter (fun y => y.t == 1)).length)) ∧
    (∀ op ∈ [Op.start, .hold, .freeze, .snapshot, .reset, .fault], ((expertHost.checkWrite .host Obj.GLOBAL_OP 0 14 (opRequest op 255 1 (2 ^ 48 - 1))).2 = none)) ∧
    (∀ st ∈ [TenantState.idle, .running, .held, .faulted, .resetting], ((tenanted (fun t => { t with st := st })).tenant 1).st = st) ∧
    (tenanted id).mayAct ⟨.start, 1, 0, 5, none⟩ = true ∧ (tenanted id).mayAct ⟨.hold, 1, 0, 5, none⟩ = false ∧
    (tenanted id).mayAct ⟨.start, 1, 1, 5, none⟩ = false := by decide +kernel

/-- A capture of tenant 1 at the current lap. -/
def photo1 : Photo := ⟨expertHost.time.lap, 0, 0, [(4, 0), (5, 0)], [], [], false, false, false, []⟩

theorem witness_WaveResults :
    (let s : State := { tenanted id with time.parent := some 0, time.role := .locked, ten.children := [0] }
     (s.port 0).passes = true ∧ s.time.parent = some 0 ∧ s.time.role ≠ .anchor ∧ 0 ∈ s.fabricChildren ∧
      (let at_ := (s.time.lap + 2) % 2 ^ 48
       let ahead := (at_ + 2 ^ 48 - s.time.lap % 2 ^ 48) % 2 ^ 48
       1 ≤ ahead ∧ ahead ≤ 2 ^ 47 - 1 ∧ s.time.gun + 200 * 65536 ≤ s.lapStartIn ahead)) ∧
    ((porting (fun x => { x with st := .down })).port 0).passes = false ∧ opOf? (5 * 2 ^ 8 / 2 ^ 8 % 2 ^ 8) = some .reset ∧
    (let s := tenanted (fun t => { t with photo := some photo1 })
     (s.tenant 1).photo = some photo1 ∧ photo1.lap % 65536 = expertHost.time.lap % 65536 ∧ photo1.joined = false ∧ s.photoReady 1 photo1 = true ∧
      s.photoReady 1 { photo1 with markers := [] } = false ∧ { photo1 with joined := true }.joined = true) ∧
    ((tenanted id).tenant 1).photo = none ∧ ((tenanted id).tenant 1).bcastOut = false ∧
    ((tenanted (fun t => { t with bcastOut := true })).tenant 1).bcastOut = true ∧
    (let s : State := { tenanted id with trc.slots := [(1, [(0, ⟨7, 0, 0, 2⟩)])] }
     (s.tenant 1).st = .idle ∧ [0, 1].find? (fun k => (s.slot 1 k).lap == 7 && (s.slot 1 k).status == 2) = some 0 ∧
      [0, 1].find? (fun k => (s.slot 1 k).lap == 8 && (s.slot 1 k).status == 2) = none ∧
      s.readSlot (s.slotBase 1 0) 0 1 0 [] [] = some [] ∧ ((s.dropRestore 1).loadItems 1 [] []).isSome = true) ∧
    ({ expertHost with dram.poison := [0], dram.data := [(2, 0x04), (3, 0x02)] } : State).readSlot 0 64 3 0 [] [] = none := by decide +kernel

theorem witness_LockResults :
    (let s : State := { expertHost with ten.locks := [(0, ⟨some 16384, false, 0, []⟩)] }
     (s.lock 0).holder = some 16384 ∧ (s.lock 63).holder = none ∧ s.mayLock 16384 0 = true ∧ s.mayLock 16385 0 = false) ∧
    (let apart := ∀ k, k < 256 → k ≠ 1 → k ≠ 0 → blocksMeet (256, 256) (expertHost.atomBlock k) = false
     apart ∧ (65280 : Nat) + 256 ≤ 65536) ∧ (expertHost.tenant 1).st = .idle ∧ ((tenanted (fun t => { t with st := .held })).tenant 1).st ≠ .idle := by decide +kernel

theorem witness_FunctionResets :
    tabGet? ({ expertHost with mgmt.mailboxes := [(256, { Mailbox.reset with st := 1 })] } : State).mgmt.mailboxes 256 = some { Mailbox.reset with st := 1 } ∧
    (({ expertHost with ten.locks := [(63, ⟨some (2 ^ 14 + 256), false, 0, []⟩)] } : State).lock 63).holder = some (2 ^ 14 + 256) ∧
    ((tenanted (fun t => { t with st := .resetting, resetClear := true })).tenant 1).st = .resetting ∧ ((tenanted id).tenant 1).st ≠ .resetting ∧
    ((tenanted (fun t => { t with st := .resetting, resetClear := true })).tenant 1).resetClear = true := by decide +kernel

/-- A ring of tenant 1 in mode 2, from the second GiB on; its area of the mode's smallest size. -/
def ringBlob (mode : Byte) : Blob := beBytes 8 0x40000000 ++ beBytes 8 32768 ++ beBytes 8 0 ++ [mode, 0, 0, 1] ++ List.replicate 20 0
def tracing (mode : Byte) (f : Ring → Ring := id) : State := { expertHost with
  blob := [(objKey Obj.TRACE_RING 1, ringBlob mode)]
  trc.rings := [(1, f { Ring.reset with st := .running })] }

theorem witness_TraceResults :
    (let b := ringBlob 2
     b.length = 48 ∧ beAt b 24 1 ≤ 3 ∧ beAt b 16 8 % 64 = 0 ∧ beAt b 26 2 ≠ 0 ∧ beAt b 0 8 % 16384 = 0 ∧ beAt b 8 8 % 16384 = 0 ∧
      32768 ≤ beAt b 8 8 ∧ beAt b 8 8 ≤ 2 ^ 36) ∧
    (∀ m ∈ [(0 : Byte), 1, 2, 3], (tracing m).ringMode 1 = m.toNat) ∧
    (tracing 2).ringPre 1 + (tracing 2).ringPost 1 + 2 ≤ (tracing 2).lapsHeld 1 ∧
    ((tracing 2 (fun r => { r with st := .armed })).ring 1).st = .armed ∧ ((tracing 1).ring 1).waiting = [] ∧
    ((tracing 1 (fun r => { r with waiting := [(0, [], 0)] })).ring 1).waiting = [(0, [], 0)] ∧
    (expertHost.tenant 1).photo.isSome = false ∧ (tenanted (fun t => { t with photo := some photo1 })).tenant 1 ≠ Tenant.reset ∧
    (let s : State := { expertHost with trc.slots := [(1, [(1, ⟨7, 0, 0, 3⟩)])], trc.uploads := [(1, (1, 0))] }
     (List.range 2).find? (fun q => (s.slot 1 q).lap == 7 && (s.slot 1 q).status ≥ 2) = some 1 ∧ tabGet? s.trc.uploads 1 = some (1, 0) ∧
      (s.uploadScan (s.slotBase 1 1) (s.slotSize 1 + 1) (s.slot 1 1).used 1 1024 0 0 15984 []).2.2 = [] ∧
      (s.submitStarter (s.uploadFrame 1 1 0 0 [0]) 6 16 0).isSome = true) ∧
    tabGet? (tracing 3).trc.uploads 1 = none ∧ ((tracing 3).ringSize 1 ≠ 0) ∧
    (let s : State := { relaying with trc.rings := [(1, { Ring.reset with st := .running })] }.setBlb Obj.TRACE_RING 1 (ringBlob 1)
     (s.relaySetFor 1 s.time.lap).slab? 0 ≠ none ∧ s.tracedLap 1 s.time.lap = true ∧ (s.input 1 0 0).traced = false ∧ (s.ring 1).takes = true) := by
  decide +kernel

/-- A device with DRAM: 16 GiB on each of four channels. -/
def drammed : State := { expertHost with
  dram.channels := (List.range 4).map (fun k => (k, { expertHost.channel 0 with state := 1, capacity := 16 })) }

theorem witness_DramResults : (0 : Nat) < 64 ∧ drammed.dram.ways = 4 ∧ (drammed.dramMap 0).1 < 4 ∧ drammed.dram.poison.length < 4096 ∧
    drammed.poisoned 0 = false ∧ ({ drammed with dram.poison := [0] } : State).poisoned 0 = true ∧
    (drammed.channel 0).state = 1 ∧ ((drammed.modChannel 3 (fun y => { y with state := 0 })).channel 3).state ≠ 1 ∧
    (drammed.channel 0).sweeping = false ∧ ((drammed.modChannel 0 (fun y => { y with sweeping := true })).channel 0).sweeping = true ∧
    tabGet? ({ drammed with dram.buckets := [(3, 7)] } : State).dram.buckets 3 = some 7 ∧
    (let s := { drammed with rel.boot.bar2 := 31 }
     2 ^ 30 - 1 + 1 ≤ 2 ^ s.rel.boot.bar2 ∧ 2 ^ 30 + 1 ≤ 2 ^ s.rel.boot.bar2 ∧ 2 ^ 31 < 2 ^ 31 + 1) := by decide +kernel

theorem witness_AccessResults : objRow? 0 = none ∧ (objRow? Obj.DOWN_HOLD).isSome = true ∧ (objRow? Obj.MAX_FRAME).isSome = true ∧
    (objRow? Obj.GRACE).isSome = true ∧ (∀ x ∈ [(Obj.DOWN_HOLD, 0), (Obj.MAX_FRAME, 14), (Obj.GRACE, 0)], (expertHost.checkWrite .host x.1 x.2 (typeCode x.1) (numBytes x.1 0)).2 = none) ∧
    State.reset.atExpert .host = false ∧ expertHost.atExpert .host = true ∧ expertHost.expertRight .host = true ∧ (expertHost.setCfg Obj.EXPERT_RIGHTS 0 0).expertRight .field = false ∧
    (objRow? Obj.LOCK).any (fun r => State.writeRight expertHost .host r 0 [] && !State.writeRight expertHost (.tenant 1) r 0 []) = true ∧
    (objRow? 0x1001).any (fun r => r.acc == .r && !State.writeRight expertHost .host r 0 []) = true ∧
    ({ expertHost with rel.boot.recovery := true } : State).rel.boot.recovery = true ∧ Principal.index (.tenant 255) = 255 ∧ Principal.index .host = 256 ∧
    ({ expertHost with rel.boot.waitReset := some .powerOn } : State).rel.boot.waitReset = some .powerOn ∧
    (let a : Att := ⟨2, 0, 0, 0, 0, 0, true⟩
     a ∈ (({ expertHost with mgmt.sessions := [(256, { Session.reset with log := [a] })] } : State).session 256).log ∧ a.level ≤ 7) := by decide +kernel

/-- A request of one read of 1000h, and a device whose mailbox 0 holds it. -/
def message1 : Blob := [1, 1, 0, 9] ++ beBytes 8 0 ++ [1, 0] ++ beBytes 2 20 ++ List.replicate 8 0 ++ ([1, 0, 0x10, 0] ++ List.replicate 16 0)
def boxed (m : Blob) (f : Session → Session := id) : State :=
  { expertHost with mgmt.mailboxes := [(0, { Mailbox.reset with st := 1, request := m })], mgmt.sessions := [(256, f { Session.reset with expert := true })] }

theorem witness_RequestResults :
    ((boxed message1).takeMessage (.mailbox 0) message1).isSome = true ∧ expertHost.takeMessage (.mailbox 0) message1 = none ∧
    (boxed message1).discardsMsg (.mailbox 0) message1 = false ∧ (boxed []).discardsMsg (.mailbox 0) [] = true ∧
    (requestOps message1).isSome = true ∧ requestOps [] = none ∧ (boxed message1).rel.boot.firmware = true ∧ State.reset.rel.boot.firmware = false ∧
    (let n := Principal.index (Path.principal (.mailbox 0))
     let m : State := boxed message1
     n = 0 ∨ n = 256 ∧
     (∀ c ∈ [(⟨9, some []⟩ : Cached), ⟨9, none⟩], (((m.modSession n (fun x => { x with cache := [c] })).session n).cache.find? (fun y => y.seq == 9)) = some c) ∧
      ((m.session n).cache.find? (fun y => y.seq == 9)) = none ∧ (m.session n).lastSeq = none) ∧
    ((9 + 65536 - 9) % 65536 = 0 ∧ 32768 ≤ (8 + 65536 - 9) % 65536) ∧
    (beAt [2, 0, 0x20, 0x30, 0, 0, 0, 1] 0 1 = 2 ∧ beAt [2, 0, 0x20, 0x30, 0, 0, 0, 1] 6 2 = 1) ∧
    (tabGet (boxed message1).mgmt.mailboxes 0 Mailbox.reset).st = 1 ∧ (tabGet expertHost.mgmt.mailboxes 256 Mailbox.reset).st ≠ 1 ∧
    ((boxed message1 (fun x => { x with assembly := some ⟨0, 0, 0, [], 0⟩ })).session 256).assembly = some ⟨0, 0, 0, [], 0⟩ ∧
    (expertHost.session 0).assembly = none ∧ tabGet? (boxed message1).mgmt.sessions 256 = some { Session.reset with expert := true } := by decide +kernel

/-- A module of two parcels whose call entry and tick entry are its first. -/
def moduleBlob : Blob :=
  let b : Blob := beBytes 4 1 ++ beBytes 2 1 ++ [0, 0] ++ beBytes 4 4 ++ beBytes 4 0 ++ beBytes 4 0 ++ beBytes 4 2 ++ beBytes 4 1 ++ List.replicate 8 0
  b ++ beBytes 4 (crc32 b)

/-- Core 3 running in privileged mode, the module loaded. -/
def extended (n : Nat) : State := { expertHost with
  starter.cores := [(3, { Core.reset with st := .running })], starter.ext := some ⟨1, 0, some 2, 1⟩, starter.extState := 1
  starter.extCalls := List.replicate n (.host, []) }

theorem witness_ExtResults : (moduleOf moduleBlob) = some ⟨1, 0, some 2, 1⟩ ∧ moduleOf [] = none ∧ expertHost.starter.running = false ∧
    ({ expertHost with starter.running := true } : State).starter.running = true ∧ expertHost.starter.extState = 0 ∧
    (extended 0).starter.extTickAt ≤ (extended 0).time.gun ∧
    (let late : State := { extended 0 with starter.extTickAt := (extended 0).time.gun + 1 }
     late.time.gun < late.starter.extTickAt) ∧ (extended 0).extReady = true ∧ (extended 0).starter.extCalls = [] ∧ (extended 1).starter.extCalls = [(.host, [])] ∧
    ({ extended 4 with starter.running := true } : State).extReady = false ∧ 4 ≤ (extended 4).starter.extCalls.length ∧
    (extended 3).starter.extCalls.length < 4 ∧ (List.replicate 1024 (0 : Byte)).length ≤ 1024 := by decide +kernel

/-- A device on the field network in epoch 5; a call-room master that waits. -/
def fielded (f : CallRoom → CallRoom) : State := { expertHost with
  rel.boot.straps := 0x80, mgmt.room := f ⟨3, some 5, true, false, 0, none⟩, rel.boot.bib := 77 }
def mastered (w : MasterWait) (a : List (Nat × Nat)) : State :=
  { (fielded id).setCfg Obj.FIELD_MASTER 0 1 with mgmt.master := ⟨5, w, a, [(9, 1)], [], [], [(0, 1)], 0, true⟩ }

/-- A field frame to the call room whose message announces an epoch. -/
def fieldWire (m : Blob) : Blob := beBytes 6 0x015A00000000 ++ List.replicate 6 0 ++ [0x88, 0xB5] ++ m ++ List.replicate 46 0

theorem witness_CallRoomResults : (fielded id).fieldOn = true ∧ expertHost.fieldOn = false ∧ (fielded id).mgmt.room.epoch = some 5 ∧
    (fielded id).mgmt.room.takingPart = true ∧ (fielded id).mgmt.room.assigned = false ∧ 77 / 2 ^ (64 - 0) = 0 / 2 ^ (64 - 0) ∧
    (77 / 2 ^ (64 - 64) = 77 / 2 ^ (64 - 64)) ∧ ¬ (77 / 2 ^ (64 - 64) = 76 / 2 ^ (64 - 64)) ∧
    (let b := fieldWire (msgHeader 1 0 77 0 0 0 0)
     beAt b 0 6 = 0x015A00000000 ∧ 60 ≤ b.length ∧ b.length ≤ 1514 ∧ beAt b 12 2 = 0x88B5 ∧ (fielded id).fieldDiscards (b.drop 14) = false ∧ beAt (b.drop 14) 1 1 = 1) ∧
    (fielded id).fieldDiscards [] = true ∧ (fielded (fun r => { r with answer := some (0, 1, 77) })).mgmt.room.answer = some (0, 1, 77) ∧
    0 ≤ (fielded id).time.ticks ∧ (fielded id).time.ticks ≤ 1 ∧ (fielded (fun r => { r with answer := some (9, 10, 77) })).time.ticks < 9 ∧
    (31 : Nat) ≤ 31 ∧ (fielded id).mgmt.room.node = 3 ∧ (fielded id).mgmt.room.answer = none ∧
    (fielded (fun r => { r with misses := 1 })).mgmt.room.misses + 1 = 2 := by decide +kernel

theorem witness_MasterResults : (mastered .idle []).isMaster = true ∧ expertHost.isMaster = false ∧
    (let s := { mastered .idle [] with mgmt.master := ⟨0, .idle, [], [], [], [], [], 0, true⟩ }
     s.mgmt.master.epoch = 0 ∧ s.mgmt.master.since = 0) ∧
    (∀ w ∈ [MasterWait.idle, .started, .listening 0 0, .listening 0 64, .assigning 9 1 3], (mastered w []).mgmt.master.wait = w) ∧
    (let s := { mastered .started [] with time.ticks := 800000 }
     s.mgmt.master.since + 800000 ≤ s.time.ticks ∧ (mastered .started []).time.ticks < (mastered .started []).mgmt.master.since + 800000) ∧
    (mastered (.listening 0 0) [(9, 255)]).mgmt.master.answers = [(9, 255)] ∧
    (mastered (.listening 0 0) []).mgmt.master.idFor 8 = some 2 ∧
    (({ mastered .idle [] with mgmt.master := ⟨5, .idle, [], (List.range 31).map (fun k => (k + 100, k + 1)), [], [], [], 0, true⟩ } : State).mgmt.master.idFor 8) = none ∧
    (([(8, 255), (9, 255)] : List (Nat × Nat)).map Prod.fst).Nodup ∧ (∀ x ∈ [8, 9], x < 2 ^ 64) ∧ (mastered .idle []).mgmt.master.todo = [(0, 1)] ∧
    ({ mastered .idle [] with mgmt.master.todo := [], mgmt.master.first := false, mgmt.master.last := [(9, 1)] } : State).mgmt.master.first = false ∧
    sameSet [(9, 1)] [(9, 1)] = true ∧ sameSet [(9, 1)] [] = false := by decide +kernel

theorem witness_DeviceResets :
    (∀ q, ResetCause.powerOn ≠ .request q) ∧
    (let s : State := { expertHost with rel.boot.waitReset := some (.request .host) }
     s.rel.boot.waitReset = some (.request .host) ∧ s.rel.flash.busy = []) ∧
    (let s : State := { State.reset with rel.boot.resetN := true }
     let b := s.rel.boot
     b.resetN = true ∧ b.pllFail = false ∧ b.firmware = false ∧ b.recovery = false ∧ b.tried = [] ∧
      ({ b with straps := 1 } : Boot).wants s.rel.flash = some 0 ∧ ({ b with straps := 1, tried := [0] } : Boot).wants s.rel.flash = some 1 ∧
      ({ b with straps := 2 } : Boot).wants s.rel.flash = none) ∧
    (999 : Nat) < 1000 ∧ ¬ ((1000 : Nat) < 1000) ∧ expertHost.allIdle = true ∧
    (let s := (expertHost.setCfg Obj.DIE_TEMP 0 (unsigned 32 90001)).setCfg Obj.TEMP_WARN 0 (unsigned 32 90000)
     signed 32 (s.cfg Obj.TEMP_WARN) < signed 32 (s.cfg Obj.DIE_TEMP 0)) ∧
    ({ expertHost with rel.flash.busy := [.slot 0 []] } : State).rel.flash.busy ≠ [] ∧
    ((porting (fun x => { x with st := .disabled })).port 0).st = .disabled ∧
    (∀ v ∈ [1, 2, 3, 16, 27, 32, 47], (expertHost.checkWrite .host Obj.RESET_REQUEST 0 (typeCode Obj.RESET_REQUEST) (numBytes Obj.RESET_REQUEST v)).2 = none) := by
  refine ⟨fun q h => ResetCause.noConfusion h, ?_⟩
  decide +kernel

theorem witness_FlashResults :
    (∀ x ∈ [(0xB002, 512), (0xB003, 64), (0xB004, 512), (0xB005, 256)], 0xB002 ≤ x.1 ∧ x.1 ≤ 0xB005) ∧
    expertHost.committing = false ∧ ({ expertHost with rel.flash.busy := [.commit []] } : State).committing = true ∧
    (∀ op ∈ [FlashOp.persist .empty, .commit [], .slot 1 []], ({ expertHost with rel.flash.busy := [op] } : State).rel.flash.busy = op :: []) ∧
    expertHost.rel.flash.busy = [] ∧ expertHost.rel.boot.runningSlot = 0 ∧ expertHost.noDram = false ∧ ({ expertHost with dram.ways := 0 } : State).noDram = true ∧
    ({ expertHost with rel.boot.pendSince := some 0 } : State).rel.boot.pendSince ≠ none ∧
    ((({ expertHost with starter.cores := [(0, { Core.reset with st := .running })] } : State).core 0).st = .running) ∧
    (let h : Held := ⟨.fieldNet, 257, 9, [], 24, List.replicate 25 0, some 24, [], [], false⟩
     h.at_ = some 24 ∧ 24 < h.reply.length) := by decide +kernel

theorem witness_HealthResults :
    (-2147483648 : Int) ≤ -2147483648 ∧ (2147483647 : Int) < 2147483648 ∧
    (∀ t ∈ ([25000, 25000] : List Int).take 5, t ≤ signed 32 (expertHost.cfg Obj.TEMP_TRIP)) ∧
    ([25000, signed 32 (expertHost.cfg Obj.TEMP_TRIP) + 1].findIdx? (fun t => decide (signed 32 (expertHost.cfg Obj.TEMP_TRIP) < t))) = some 1 ∧
    ([25000, signed 32 (expertHost.cfg Obj.TEMP_WARN)].findIdx? (fun t => decide (signed 32 (expertHost.cfg Obj.TEMP_WARN) < t))) = none ∧
    expertHost.rel.railFail < 3 ∧ ({ expertHost with rel.railFail := 3 } : State).rel.railFail = 3 ∧ 4 ≤ ({ expertHost with rel.railFail := 4 } : State).rel.railFail ∧
    (¬ ∃ k, k < 12 ∧ (expertHost.squad k).freqTarget ≠ none) ∧
    (∃ k, k < 12 ∧ ((expertHost.modSquad 11 (fun q => { q with freqTarget := some 1000 })).squad k).freqTarget ≠ none) ∧
    (expertHost.setCfg Obj.AVS_ENABLE 0 0).cfg Obj.AVS_ENABLE = 0 ∧ (expertHost.setCfg Obj.AVS_ENABLE 0 1).cfg Obj.AVS_ENABLE ≠ 0 ∧
    (expertHost.setCfg Obj.RAIL_PMBUS_ADDR 6 0).cfg Obj.RAIL_PMBUS_ADDR 6 = 0 ∧ (expertHost.setCfg Obj.RAIL_PMBUS_ADDR 6 1).cfg Obj.RAIL_PMBUS_ADDR 6 ≠ 0 ∧
    ({ expertHost with time.offMark := false } : State).time.offMark = false ∧
    tabGet? (expertHost.setCfg Obj.DIE_TEMP_MAX 4 5).num (objKey Obj.DIE_TEMP_MAX 4) = some 5 := by
  refine ⟨by decide, by decide, by decide +kernel, by decide +kernel, by decide +kernel, by decide +kernel, by decide +kernel, by decide +kernel, ?_,
    ⟨11, by decide, by decide +kernel⟩, by decide +kernel⟩
  have h : ∀ k, k < 12 → (expertHost.squad k).freqTarget = none := by decide +kernel
  exact fun ⟨k, l, n⟩ => n (h k l)

/-! ## Witnesses: the machine -/

/-- A device with two commands that wait: the one in front answers a next state. -/
def waiting2 : State := { State.reset with pending := [.nodeFree, .trieFlip] }

theorem witness_StepRunsFront : waiting2.pending = .nodeFree :: [.trieFlip] ∧ State.reset.pending = [] := by decide

theorem witness_InvKept : waiting2.Inv ∧ ∃ t, step waiting2 = .next t := by
  exact ⟨⟨by decide, by decide⟩, ⟨_, rfl⟩⟩

theorem witness_QueueFifo : ∃ t, step waiting2 = .next t ∧ t.pending = [.trieFlip] := ⟨_, rfl, rfl⟩

/-- A wave flit of tenant t and operation o. -/
def waveFlit (t o : Byte) (wave : Nat) (dir : Byte) (value : Nat) : Blob :=
  flitBytes 7 0 ([t, o] ++ beBytes 2 wave ++ [dir, 0] ++ beBytes 8 value)

/-- Device 1 of the tree: its parent at port 0, a child at port 1, tenant 1 with an endpoint at port 8. -/
def branching : State :=
  { (tenanted id).setCfg Obj.TENANT_MEMBERS 1 1 with
    ports := [(0, { Port.reset with st := .up }), (1, { Port.reset with st := .up }), (8, { Port.reset with st := .up })]
    time := { expertHost.time with parent := some 0, role := .locked }
    ten.children := [1], ten.tenants := [(1, (tenanted id).tenant 1)] }

/-- Every operation of a wave, each way, as it comes in, and one that is reserved. -/
theorem witness_WaveFlits :
    (∀ o ∈ [(0 : Byte), 1, 2, 3, 4, 5, 6, 7], ∀ t ∈ [(0 : Byte), 1], ∀ dir ∈ [(0 : Byte), 1], ∀ port ∈ [0, 1],
      FlitIn branching port 7 (waveFlit t o 9 dir (5 * 256)) branching) ∧
    (∀ o ∈ [(0 : Byte), 1, 2, 3, 4, 5, 6, 7], waveOf (waveFlit 1 o 9 1 (5 * 256)) = ⟨1, o.toNat, 9, 1, 5 * 256⟩) ∧
    branching.time.parent = some 0 ∧ branching.time.role ≠ .anchor ∧ 1 ∈ branching.fabricChildren ∧ 8 ∈ branching.endpoints 1 ∧ 0 ∉ branching.fabricChildren ∧
    opOf? (5 * 256 / 2 ^ 8 % 2 ^ 8) = some .reset ∧ opOf? (7 * 256 / 2 ^ 8 % 2 ^ 8) = none ∧ (branching.tenant 1).photo = none ∧
    (({ branching with ten.tenants := [(1, { branching.tenant 1 with haltNo := 9, haltSeen := some (4, 3) })] } : State).tenant 1).haltNo = 9 := by
  refine ⟨?_, by decide +kernel⟩
  intro o ho t ht dir hd port hp
  refine flitIn_of ?_ ?_
  · revert o t dir port; decide +kernel
  · exact rfl

theorem witness_DramReach : drammed.reaches .host (2 ^ 30) 64 = true ∧ drammed.reaches .host (2 ^ 30 - 1) 64 = false ∧ drammed.reaches .starter 0 64 = true ∧
    drammed.reaches .scrub 0 0 = false ∧ drammed.reaches .starter drammed.dramSize 1 = false ∧ drammed.reaches .starter (drammed.dramSize - 1) 1 = true ∧
    ((drammed.modChannel 0 (fun y => { y with state := 2 })).channel 0).state = 2 ∧ (List.replicate 4096 (0 : Nat)).length = 4096 ∧
    2 ^ 30 / 2 ^ drammed.dramCfg 2 1 = (2 ^ 30 + [(7 : Byte)].length - 1) / 2 ^ drammed.dramCfg 2 1 := by decide +kernel

/-- A ring that drains and one with a mirror, in DRAM whose first block of the ring is poisoned. -/
def draining : State :=
  { drammed with
    blob := [(objKey Obj.TRACE_RING 1, beBytes 8 0x40000000 ++ beBytes 8 32768 ++ beBytes 8 0x40010000 ++ [3, 0, 0, 1] ++ List.replicate 20 0),
      (objKey Obj.UPLOAD 1, List.replicate 8 0 ++ [1])]
    dram := { drammed.dram with poison := [blockOf 0x40000000] }
    trc.rings := [(1, { Ring.reset with st := .running, write := 16384 })] }

theorem witness_Drains : draining.ringMode 1 = 3 ∧ draining.ringSize 1 ≠ 0 ∧ (beAt (draining.blb Obj.UPLOAD 1) 8 1).testBit 0 = true ∧
    draining.ringMirror 1 ≠ 0 ∧ draining.reaches (.trace 1) (draining.ringMirror 1) 16 = true ∧
    (let start := draining.uploadStart (draining.ringBase 1) (draining.ringSize 1) 16384 0
     let u := draining.uploadScan (draining.ringBase 1) (draining.ringSize 1) 16384 1 1024 start 0 15984 []
     u.2.2 ≠ [] ∧ ((draining.takeTokens .upload u.2.2.length).submitStarter (draining.uploadFrame 1 0 start (firstSeq u.2.2) u.2.2) 6 16 0).isSome = true) ∧
    (({ draining with trc.rings := [(1, { Ring.reset with st := .running, mirrored := 5 })] } : State).ring 1).mirrored = 5 ∧
    draining.bwFits (beAt (draining.blb Obj.TRACE_RING 1) 36 4) 0 = true := by decide +kernel

/-! ## The package (chapter 16) -/

/-- The three worked examples of chapter 16, and the row names of R459. -/
theorem test_ball_examples : (ballName 9 38, ballAt 9 38) = ("K39", some (.signal "F3_TX12_P")) ∧
    (ballName 53 33, ballAt 53 33) = ("BU34", some (.signal "T1_RX5_N")) ∧ (ballName 46 49, ballAt 46 49) = ("BJ50", some (.signal "D2_DCKB_T")) ∧
    (ballName 46 48, ballAt 46 48) = ("BJ49", some (.signal "D2_DCKB_C")) ∧
    [19, 37, 38, 56, 57, 58].map ballRow = ["AA", "AY", "BA", "BY", "CA", "CB"] := by decide +kernel

/-- Every ball lies in exactly one region (R460). -/
theorem test_ball_regions : (List.range 59).all (fun i => (List.range 59).all (fun j =>
    (ballRegions.filter (inRegion i j)).length == 1)) = true := by decide +kernel

/-- Table 16.9: VDD_CORE and VDD_SRAM balls of the core supply region. -/
theorem test_core_supply : let bs := (List.range 28).flatMap (fun i => (List.range 31).map (fun j => coreBall (17 + i) (14 + j)))
    bs.count .vddCore = 310 ∧ bs.count .vddSram = 124 := by decide +kernel

end Sys2Proof.Machine
end

section
/-! PROOFS. The field and ten instructions (R8, R246, Tables 8.11 and 8.18). -/

namespace Sys2Proof.Machine

/-! ## Fields of a register, bit by bit (Table 8.11) -/

theorem fieldOk_iff (pos lenM1 : BitVec 6) : fieldOk pos lenM1 = true ↔ pos.toNat + (lenM1.toNat + 1) ≤ 40 := by
  simp only [fieldOk, Bool.and_eq_true, decide_eq_true_eq]
  omega

/-- ext keeps the bits of the field and zeroes the others. -/
theorem getLsbD_extract (a : W40) (pos len j : Nat) (hj : j < 40) :
    (extract a pos len).getLsbD j = (decide (j < len) && a.getLsbD (pos + j)) := by
  rw [extract, BitVec.getLsbD_ofNat, decide_eq_true hj, Bool.true_and, Nat.testBit_mod_two_pow, Nat.testBit_div_two_pow,
    Nat.add_comm, BitVec.getLsbD]

theorem extract_toNat_lt (a : W40) {pos len : Nat} (hl : pos + len ≤ 40) : (extract a pos len).toNat < 2 ^ len := by
  have h := Nat.mod_lt (a.toNat / 2 ^ pos) (Nat.two_pow_pos len)
  have h' : 2 ^ len ≤ 2 ^ 40 := Nat.pow_le_pow_right (by omega) (by omega)
  rw [extract, BitVec.toNat_ofNat, Nat.mod_eq_of_lt (by omega)]
  exact h

/-- A field whose top bit is set less 2 ^ len: ones stand above the field. -/
theorem getLsbD_sub_twoPow {v : W40} {len : Nat} (hl : len ≤ 40) (hv : v.toNat < 2 ^ len) {j : Nat} (hj : j < 40) :
    (v - BitVec.ofNat 40 (2 ^ len)).getLsbD j = if j < len then v.getLsbD j else true := by
  have hpow : 2 ^ 40 = 2 ^ len * 2 ^ (40 - len) := by rw [← Nat.pow_add]; congr 1; omega
  have hpos := Nat.two_pow_pos (40 - len)
  have hv' : (v - BitVec.ofNat 40 (2 ^ len)).toNat = 2 ^ len * (2 ^ (40 - len) - 1) + v.toNat := by
    rw [BitVec.toNat_sub, BitVec.toNat_ofNat, Nat.mul_sub, ← hpow, Nat.mul_one]
    rcases Nat.lt_or_ge len 40 with h | h
    · have h2 : 2 ^ len < 2 ^ 40 := Nat.pow_lt_pow_right (by omega) h
      rw [Nat.mod_eq_of_lt h2, Nat.mod_eq_of_lt (by omega)]
    · obtain rfl : len = 40 := by omega
      rw [Nat.mod_self, Nat.sub_zero, Nat.add_mod_left, Nat.mod_eq_of_lt hv, Nat.sub_self, Nat.zero_add]
  rw [BitVec.getLsbD, hv', Nat.testBit_two_pow_mul_add _ hv, Nat.testBit_two_pow_sub_one, BitVec.getLsbD]
  split
  · rfl
  · exact decide_eq_true (by omega)

/-- exts keeps the bits of the field and copies its top bit above it. -/
theorem getLsbD_extractS (a : W40) {pos len j : Nat} (hl : pos + len ≤ 40) (hj : j < 40) :
    (extractS a pos len).getLsbD j = if j < len then a.getLsbD (pos + j) else a.getLsbD (pos + len - 1) := by
  unfold extractS
  split
  case isTrue h =>
    rw [getLsbD_sub_twoPow (by omega) (extract_toNat_lt a hl) hj, getLsbD_extract a pos len j hj]
    split <;> simp_all
  case isFalse h =>
    rw [getLsbD_extract a pos len j hj]
    split <;> simp_all

/-- dep replaces the bits of the field alone. -/
theorem getLsbD_deposit (d a : W40) (pos len j : Nat) (hj : j < 40) :
    (deposit d a pos len).getLsbD j = if pos ≤ j ∧ j < pos + len then a.getLsbD (j - pos) else d.getLsbD j := by
  have hmask : (BitVec.ofNat 40 ((2 ^ len - 1) * 2 ^ pos)).getLsbD j = decide (pos ≤ j ∧ j < pos + len) := by
    simp only [BitVec.getLsbD_ofNat, Nat.testBit_mul_two_pow, Nat.testBit_two_pow_sub_one, hj, decide_true, Bool.true_and,
      ← Bool.decide_and, decide_eq_decide]
    omega
  simp only [deposit, BitVec.getLsbD_or, BitVec.getLsbD_and, BitVec.getLsbD_not, BitVec.getLsbD_shiftLeft, hmask, hj]
  by_cases h : pos ≤ j ∧ j < pos + len
  · simp [h, Nat.not_lt.2 h.1]
  · simp [h]

/-! ## Digits and tens (R6, R8, Table 8.18) -/

/-- The bits of a number given by its digits of w bits each. -/
theorem testBit_digitSum {w : Nat} (hw : 0 < w) (g : Nat → Nat) (hg : ∀ k, g k < 2 ^ w) (n : Nat) :
    ((List.range n).map (fun k => g k * (2 ^ w) ^ k)).sum < 2 ^ (w * n) ∧
    ∀ j, ((List.range n).map (fun k => g k * (2 ^ w) ^ k)).sum.testBit j = (decide (j < w * n) && (g (j / w)).testBit (j % w)) := by
  induction n with
  | zero => simp
  | succ n ih =>
    obtain ⟨hlt, hbit⟩ := ih
    have hsum : ((List.range (n + 1)).map (fun k => g k * (2 ^ w) ^ k)).sum =
        2 ^ (w * n) * g n + ((List.range n).map (fun k => g k * (2 ^ w) ^ k)).sum := by
      rw [List.range_succ, List.map_append, List.sum_append, List.map_singleton, List.sum_singleton, ← Nat.pow_mul]
      ring
    rw [hsum]
    refine ⟨?_, fun j => ?_⟩
    · calc 2 ^ (w * n) * g n + ((List.range n).map (fun k => g k * (2 ^ w) ^ k)).sum
          < 2 ^ (w * n) * (g n + 1) := by rw [Nat.mul_add]; omega
        _ ≤ 2 ^ (w * n) * 2 ^ w := Nat.mul_le_mul_left _ (hg n)
        _ = 2 ^ (w * (n + 1)) := by rw [← Nat.pow_add, Nat.mul_succ]
    · rw [Nat.testBit_two_pow_mul_add _ hlt, Nat.mul_succ]
      split
      case isTrue h => rw [hbit, decide_eq_true h, decide_eq_true (by omega : j < w * n + w)]
      case isFalse h =>
        rcases Nat.lt_or_ge j (w * n + w) with h' | h'
        · have hq : j / w = n := Nat.div_eq_of_lt_le (by rw [Nat.mul_comm]; omega) (by rw [Nat.mul_comm, Nat.mul_succ]; omega)
          have hr : j % w = j - w * n := by rw [← hq, Nat.mod_eq_sub_mul_div]
          rw [hq, hr, decide_eq_true h', Bool.true_and]
        · have hz : g n < 2 ^ (j - w * n) := Nat.lt_of_lt_of_le (hg n) (Nat.pow_le_pow_right (by omega) (by omega))
          rw [Nat.testBit_lt_two_pow hz, decide_eq_false (by omega), Bool.false_and]

/-- A register from digits of a source that yields digits. -/
theorem getLsbD_ofDigits (f : Nat → Nat) (hf : ∀ k, f k < 4) (n j : Nat) (hj : j < 40) :
    (ofDigits f n).getLsbD j = (decide (j < 2 * n) && (f (j / 2)).testBit (j % 2)) := by
  rw [ofDigits, BitVec.getLsbD_ofNat, decide_eq_true hj, Bool.true_and]
  exact (testBit_digitSum (w := 2) (by omega) f hf n).2 j

theorem getLsbD_setTen (d : W40) (k v j : Nat) (hj : j < 40) :
    (setTen d k v).getLsbD j = if j / 10 = k then v.testBit (j % 10) else d.getLsbD j := by
  rw [setTen, getLsbD_deposit _ _ _ _ _ hj]
  by_cases h : j / 10 = k
  · rw [if_pos h, if_pos (by omega), BitVec.getLsbD_ofNat, decide_eq_true (by omega), Bool.true_and]
    congr 1
    omega
  · rw [if_neg h, if_neg (by omega)]

theorem testBit_ten (a : W40) (k j : Nat) : (ten a k).testBit j = (decide (j < 10) && a.getLsbD (10 * k + j)) := by
  rw [ten, Nat.testBit_mod_two_pow, Nat.testBit_div_two_pow, Nat.add_comm, BitVec.getLsbD]

theorem getLsbD_expandTen (a : W40) (k j : Nat) (hj : j < 40) :
    (expandTen a k).getLsbD j = (decide (j < 20) && decide (j % 2 = 0) && a.getLsbD (10 * k + j / 2)) := by
  have hbit : ∀ i, ten a k / 2 ^ i % 2 = ((ten a k).testBit i).toNat := fun i => (Nat.toNat_testBit _ _).symm
  rw [expandTen, getLsbD_ofDigits _ (fun i => by omega) _ _ hj, hbit, testBit_ten]
  by_cases h20 : j < 20
  · rw [decide_eq_true h20, decide_eq_true (by omega : j / 2 < 10), Bool.true_and]
    have h01 : Nat.testBit 1 1 = false := rfl
    rcases Nat.mod_two_eq_zero_or_one j with h | h <;> cases a.getLsbD (10 * k + j / 2) <;> simp [h, h01]
  · rw [decide_eq_false h20, Bool.false_and, Bool.false_and, Bool.false_and]

/-- A digit is 1 where its low bit is set and its high bit is not (R6). -/
theorem digit_eq_one_iff (a : W40) (k : Nat) :
    decide (digit a k = 1) = (!a.getLsbD (2 * k + 1) && a.getLsbD (2 * k)) := by
  have hdigit : digit a k = a.toNat / 2 ^ (2 * k) % 4 := by rw [digit, Nat.pow_mul]
  have hlow : a.getLsbD (2 * k) = decide (a.toNat / 2 ^ (2 * k) % 2 = 1) := by
    rw [BitVec.getLsbD, Nat.testBit_eq_decide_div_mod_eq]
  have hhigh : a.getLsbD (2 * k + 1) = decide (a.toNat / 2 ^ (2 * k) / 2 % 2 = 1) := by
    rw [BitVec.getLsbD, Nat.testBit_eq_decide_div_mod_eq, Nat.div_div_eq_div_mul, Nat.pow_succ]
  rw [hdigit, hlow, hhigh, ← decide_not, ← Bool.decide_and, decide_eq_decide]
  omega

theorem testBit_compressTen (a : W40) (j : Nat) (hj : j < 10) :
    (compressTen a).testBit j = (!a.getLsbD (2 * j + 1) && a.getLsbD (2 * j)) := by
  have hsum : compressTen a = ((List.range 10).map (fun i => nat01 (decide (digit a i = 1)) * (2 ^ 1) ^ i)).sum := by
    unfold compressTen nat01
    congr 2
    funext i
    by_cases h : digit a i = 1 <;> simp [h]
  have hg : ∀ k, nat01 (decide (digit a k = 1)) < 2 ^ 1 := fun k => by unfold nat01; split <;> omega
  rw [hsum, (testBit_digitSum (by omega) _ hg 10).2 j, Nat.div_one, Nat.mod_one, decide_eq_true (by omega), Bool.true_and,
    ← digit_eq_one_iff, nat01]
  cases decide (digit a j = 1) <;> rfl

/-! ## The statement -/

/-- An instruction on a field that exists issues as its body says; one on any other field faults ILLEGAL (R232). -/
theorem fieldInstr_issues {s u : State} {h : Hdr} (hi : Issues s h .plain u) {pos lenM1 : BitVec 6}
    {ws : Ctx → List (Dest × W40 × Nat)} :
    s.runInstr h .plain (fun s c => if !fieldOk pos lenM1 then .fault 1 0 else .ok s (ws c)) =
      if pos.toNat + (lenM1.toNat + 1) ≤ 40 then .next (u.computes h (ws (u.sees h)))
      else .next ((u.countIssue h.core).faultAt h.core 1 0 h.frame) := by
  by_cases hf : pos.toNat + (lenM1.toNat + 1) ≤ 40
  · rw [if_pos hf]
    exact runInstr_ok hi (by rw [(fieldOk_iff pos lenM1).2 hf]; rfl)
  · rw [if_neg hf]
    exact runInstr_fault hi (by rw [Bool.eq_false_iff.2 (mt (fieldOk_iff pos lenM1).1 hf)]; rfl)

/-- Settles O4: the results of the field and ten instructions, bit by bit. -/
theorem fieldAndTenResults : Obligations.FieldAndTenResults := by
  intro s u h rd ra pos lenM1 k hi
  have hext := exec_opExt h rd ra pos lenM1 s
  have hexts := exec_opExts h rd ra pos lenM1 s
  have hdep := exec_opDep h rd ra pos lenM1 s
  rw [execOpExt, fieldInstr_issues hi] at hext
  rw [execOpExts, fieldInstr_issues hi] at hexts
  rw [execOpDep, fieldInstr_issues hi] at hdep
  refine ⟨fun hf => ?_, fun hf => ?_, ?_, ?_, ?_, ?_⟩
  · rw [if_pos hf] at hext hexts hdep
    exact ⟨⟨_, hext, fun j hj => getLsbD_extract _ _ _ j hj⟩, ⟨_, hexts, fun j hj => getLsbD_extractS _ hf hj⟩,
      ⟨_, hdep, fun j hj => getLsbD_deposit _ _ _ _ j hj⟩⟩
  · rw [if_neg (by omega)] at hext hexts hdep
    exact ⟨hext, hexts, hdep⟩
  · refine ⟨_, (exec_opText h rd ra k s).trans (alu_issues hi _), ?_⟩
    have hlt : ten ((u.sees h).r ra) k.toNat < 2 ^ 10 := Nat.mod_lt _ (by omega)
    rw [BitVec.toNat_ofNat, Nat.mod_eq_of_lt (by omega), ten]
  · refine ⟨_, (exec_opTins h rd ra k s).trans (alu_issues hi _), fun j hj => ?_⟩
    rw [getLsbD_setTen _ _ _ _ hj, testBit_ten, decide_eq_true (by omega), Bool.true_and, Nat.mul_zero, Nat.zero_add]
  · exact ⟨_, (exec_opTexp h rd ra k s).trans (alu_issues hi _), fun j hj => getLsbD_expandTen _ _ j hj⟩
  · refine ⟨_, (exec_opTcmp h rd ra k s).trans (alu_issues hi _), fun j hj => ?_⟩
    rw [getLsbD_setTen _ _ _ _ hj, testBit_compressTen _ _ (by omega)]

end Sys2Proof.Machine
end

section
/-! PROOFS. What an accepted write answers, and what storing a value leaves alone (R4, R5, R388, R409). -/

namespace Sys2Proof.Machine

/-! ## What an accepted write answers, by what its applier returns -/

section
variable {s t : State} {p : Principal} {o i v : Nat} {b : Blob} {c : Instr} {r : Result}

/-- A number that its applier takes or refuses. -/
theorem writes_num {f : Nat → State → State × Result} (ha : AcceptsNum s p o i v) (hc : exec c s = .next (s.writeNumCmd p o i v f))
    (ho : (typeCode o == 14 || o == 0xB006 || o == 0xB007) = false) (hf : f v s = (t, r)) (hr : r ≠ .busy) : Writes c s r t := by
  simp only [Bool.or_eq_false_iff, beq_eq_false_iff_ne] at ho
  rw [Writes, hc, writeNum_accepts ha ho.1.1 ho.1.2 ho.2 f (by rw [hf]; exact hr), hf]

/-- A blob that its applier stores. -/
theorem writesBlob_ok {f : Blob → State → State × Result} (ha : AcceptsBlob s p o i b) (hc : exec c s = .next (s.writeBlobCmd p o i b f))
    (ho : typeCode o = 14) (hf : f b s = (t, .ok)) : WritesBlob c s .ok o i t := by
  rw [WritesBlob, Writes, hc, writeBlob_accepts ha ho f (by rw [hf]), hf]

/-- A blob that its applier refuses. -/
theorem writesBlob_refused {f : Blob → State → State × Result} (ha : AcceptsBlob s p o i b) (hc : exec c s = .next (s.writeBlobCmd p o i b f))
    (hf : f b s = (t, r)) (hr : r = .range ∨ r = .state ∨ r = .overcommit) : Writes c s r t := by
  have hne : r ≠ .ok ∧ r ≠ .partialRes ∧ r ≠ .busy := by rcases hr with rfl | rfl | rfl <;> decide
  rw [Writes, hc, writeBlob_refused ha f (by rw [hf]; exact hne.1) (by rw [hf]; exact hne.2.1) (by rw [hf]; exact hne.2.2), hf]
end

/-! ## Numbers in bytes (R5) -/

theorem length_beBytes (n v : Nat) : (beBytes n v).length = n := by
  induction n with
  | zero => rfl
  | succ n ih => rw [beBytes, List.length_cons, ih]

/-- The bytes of a number read back as it, modulo what they can hold. -/
theorem beNat_beBytes (n v : Nat) : beNat (beBytes n v) = v % 256 ^ n := by
  have hfold : ∀ (n a : Nat), (beBytes n v).foldl (fun (m : Nat) (x : Byte) => m * 256 + x.toNat) a = a * 256 ^ n + v % 256 ^ n := by
    intro n
    induction n with
    | zero => intro a; simp [beBytes, Nat.mod_one]
    | succ n ih =>
      intro a
      rw [beBytes, List.foldl_cons, ih, BitVec.toNat_ofNat, Nat.pow_succ 256 n, Nat.mod_mul (a := 256 ^ n) (b := 256)]
      ring
  simpa [beNat] using hfold n 0

theorem beAt_beBytes (n v : Nat) : beAt (beBytes n v) 0 n = v % 256 ^ n := by
  rw [beAt, List.drop_zero, List.take_of_length_le (length_beBytes n v).le, beNat_beBytes]

/-! ## What storing an object's value leaves alone -/

section
variable (s : State) (o i v : Nat) (b : Blob)

/-- An object's number is stored, and entered in the persisted set or not (R409). -/
theorem writeNum_cases : s.writeNum o i v = s.setCfg o i v ∨ s.writeNum o i v = (s.setCfg o i v).persistNum o i v := by
  unfold State.writeNum
  split
  · split
    · exact .inr rfl
    · exact .inl rfl
  · exact .inl rfl

/-- The same for a blob. -/
theorem writeBlob_cases : s.writeBlob o i b = s.setBlb o i b ∨ s.writeBlob o i b = (s.setBlb o i b).persistBlob o i b := by
  unfold State.writeBlob
  split
  · split
    · exact .inr rfl
    · exact .inl rfl
  · exact .inl rfl

@[simp] theorem State.writeNum_time : (s.writeNum o i v).time = s.time := by rcases writeNum_cases s o i v with h | h <;> rw [h] <;> rfl
@[simp] theorem State.writeNum_strider : (s.writeNum o i v).strider = s.strider := by
  rcases writeNum_cases s o i v with h | h <;> rw [h] <;> rfl
@[simp] theorem State.writeNum_wakes : (s.writeNum o i v).rel.wakes = s.rel.wakes := by
  rcases writeNum_cases s o i v with h | h <;> rw [h] <;> rfl

@[simp] theorem State.writeBlob_time : (s.writeBlob o i b).time = s.time := by rcases writeBlob_cases s o i b with h | h <;> rw [h] <;> rfl
@[simp] theorem State.writeBlob_buf : (s.writeBlob o i b).buf = s.buf := by rcases writeBlob_cases s o i b with h | h <;> rw [h] <;> rfl
@[simp] theorem State.writeBlob_parser : (s.writeBlob o i b).parser = s.parser := by
  rcases writeBlob_cases s o i b with h | h <;> rw [h] <;> rfl

@[simp] theorem squad_writeNum (k : Nat) : (s.writeNum o i v).squad k = s.squad k := by simp only [State.squad, State.writeNum_strider]

end

/-- An accepted write names an object's index that exists (R388). -/
theorem accepts_has {s : State} {p : Principal} {o i ty : Nat} {b : Blob} {r : ObjRow} (ha : Accepts s p o i ty b)
    (ho : objRow? o = some r) : objHas r i = true := by
  have h := ha.1
  by_contra hn
  rw [Bool.not_eq_true] at hn
  simp only [State.checkWrite, ho, hn] at h
  split at h <;> simp at h

/-! ## What the sending of a reply leaves alone (R383, R397) -/

/-- What each step of a fold keeps, the fold keeps. -/
theorem foldl_keeps {α β γ : Type} {f : α → β → α} {g : α → γ} {l : List β} (h : ∀ a, ∀ x ∈ l, g (f a x) = g a) (a : α) :
    g (l.foldl f a) = g a := by
  induction l generalizing a with
  | nil => rfl
  | cons x l ih =>
    rw [List.foldl_cons, ih (fun a y hy => h a y (List.mem_cons_of_mem x hy)), h a x (List.mem_cons_self ..)]

/-- The objects' numbers, the tables and the squads: what the path of a reply out of the device never touches. -/
def State.kept (s : State) : Tab Nat × Tables × Striders := (s.num, s.tables, s.strider)

theorem popCell_kept {k c : Nat} {s s' : State} (h : s.popCell k = some (c, s')) : s'.kept = s.kept := by
  simp only [State.popCell] at h
  split at h
  · obtain ⟨-, rfl⟩ := Prod.mk.inj (Option.some.inj h)
    rfl
  · split at h
    · obtain ⟨-, rfl⟩ := Prod.mk.inj (Option.some.inj h)
      rfl
    · cases h

theorem popChain_kept {k n : Nat} {cs : List Nat} {s s' : State} (h : s.popChain k n = some (cs, s')) : s'.kept = s.kept := by
  induction n generalizing cs s' with
  | zero =>
    obtain ⟨-, rfl⟩ := Prod.mk.inj (Option.some.inj h)
    rfl
  | succ n ih =>
    rw [State.popChain] at h
    split at h
    · cases h
    case h_2 cs' u hu =>
      split at h
      · cases h
      case h_2 c w hw =>
        obtain ⟨-, rfl⟩ := Prod.mk.inj (Option.some.inj h)
        exact (popCell_kept hw).trans (ih hu)

theorem allocFrame_kept {k len grp a : Nat} {s s' : State} (h : s.allocFrame k len grp = some (a, s')) : s'.kept = s.kept := by
  unfold State.allocFrame at h
  split at h
  · dsimp only at h
    split at h
    · obtain ⟨-, rfl⟩ := Prod.mk.inj (Option.some.inj h)
      rfl
    · split at h
      · cases h
      case h_2 c u hu =>
        obtain ⟨-, rfl⟩ := Prod.mk.inj (Option.some.inj h)
        have hkept := popCell_kept hu
        exact hkept
  · unfold State.allocCells at h
    split at h
    case h_1 c cs u hu =>
      obtain ⟨-, rfl⟩ := Prod.mk.inj (Option.some.inj h)
      have hkept := popChain_kept hu
      exact hkept
    · cases h

theorem submitStarter_kept {w : Blob} {cls port sub fid : Nat} {s s' : State} (h : s.submitStarter w cls port sub = some (fid, s')) :
    s'.kept = s.kept := by
  unfold State.submitStarter at h
  generalize (if packs 3 w.length then 1 else cellsFor w.length) = n at h
  dsimp only at h
  split at h
  · cases h
  · split at h
    · cases h
    case h_2 b u hu =>
      obtain ⟨-, rfl⟩ := Prod.mk.inj (Option.some.inj h)
      have hkept := allocFrame_kept hu
      exact hkept

theorem starterFlush_kept (s : State) : s.starterFlush.kept = s.kept := by
  refine foldl_keeps (g := fun (y : List StarterSend × State) => y.2.kept) (fun y x _ => ?_) (([], s) : List StarterSend × State)
  split
  · rfl
  · split
    case h_1 h => exact submitStarter_kept h
    case h_2 => rfl

theorem sendReply_kept (s : State) (path : Path) (frame : Blob) (len : Nat) (m : Blob) : (s.sendReply path frame len m).kept = s.kept := by
  cases path with
  | mailbox f => rfl
  | fieldNet => rfl
  | inband port sub t => exact starterFlush_kept _

theorem deliver_kept (s : State) (h : Held) : (s.deliver h).kept = s.kept := by
  unfold State.deliver
  dsimp only
  split
  · rfl
  · exact sendReply_kept _ _ _ _ _

theorem deliverDue_kept (s : State) : s.deliverDue.kept = s.kept :=
  foldl_keeps (g := State.kept) (fun u h _ => deliver_kept u h) _

end Sys2Proof.Machine
end

section
/-! PROOFS. The writes of the schedule (R34, R36, R55, R61 to R63). -/

namespace Sys2Proof.Machine

/-! ## The schedule objects (R34, R36, R55, R61 to R63) -/

section
variable (s : State) (i v : Nat) (b : Blob)

theorem swapScheduled_iff : s.swapScheduled = true ↔ ¬ s.cfg Obj.SWAP_LAP = 2 ^ 48 - 1 := by
  simp only [State.swapScheduled, bne_iff_ne, ne_eq]

theorem isStaged_iff (k : Nat) : s.isStaged k = true ↔ k ∈ s.time.staged := by simp [State.isStaged]

theorem judgedLen_eq : s.judgedLen = if 32 ∈ s.time.staged then s.cfg Obj.LAP_LENGTH_PENDING else s.lapLen := by
  simp only [State.judgedLen, isStaged_iff]

theorem applyLapLengthPending_eq : applyLapLengthPending v s =
    if v < 100 ∨ 16777215 < v then (s, .range)
    else if ¬ s.cfg Obj.SWAP_LAP = 2 ^ 48 - 1 then (s, .state)
    else ((s.writeNum Obj.LAP_LENGTH_PENDING 0 v).stage 32, .ok) := by
  simp only [applyLapLengthPending, swapScheduled_iff, Bool.or_eq_true, decide_eq_true_eq]

theorem gateListOk_iff (len : Nat) : gateListOk i len b = true ↔
    b.length % 8 = 0 ∧ 1 ≤ (splitsOf b).length ∧ (splitsOf b).length ≤ 4096 ∧
      (∀ x ∈ splitsOf b, 10 ≤ x.dur ∧ (i < 14 ∨ x.gate % 4 = 0)) ∧ ((splitsOf b).map Split.dur).sum = len := by
  simp only [gateListOk, Bool.and_eq_true, Bool.or_eq_true, beq_iff_eq, decide_eq_true_eq, List.all_eq_true, and_assoc, ge_iff_le]

/-- Bits 38 to 24 of a split entry are reserved (Table 2.3). -/
theorem maskSplits_eq : maskSplits b = (List.range (b.length / 8)).flatMap (fun k =>
    beBytes 8 (beAt b (8 * k) 8 / 2 ^ 39 * 2 ^ 39 + beAt b (8 * k) 8 % 2 ^ 24)) := by
  have hclear : ∀ e : Nat, e - bits e 38 24 * 2 ^ 24 = e / 2 ^ 39 * 2 ^ 39 + e % 2 ^ 24 := by
    intro e
    unfold bits
    omega
  simp only [maskSplits, hclear]

theorem applyGateListPending_eq : applyGateListPending i b s =
    if ¬ (b.length % 8 = 0 ∧ 1 ≤ (splitsOf b).length ∧ (splitsOf b).length ≤ 4096 ∧
      (∀ x ∈ splitsOf b, 10 ≤ x.dur ∧ (i < 14 ∨ x.gate % 4 = 0)) ∧ ((splitsOf b).map Split.dur).sum =
        if 32 ∈ s.time.staged then s.cfg Obj.LAP_LENGTH_PENDING else s.lapLen) then (s, .range)
    else if ¬ s.cfg Obj.SWAP_LAP = 2 ^ 48 - 1 then (s, .state)
    else ((s.writeBlob Obj.GATE_LIST_PENDING i (maskSplits b)).stage i, .ok) := by
  simp only [applyGateListPending, swapScheduled_iff, Bool.not_eq_true', ← Bool.not_eq_true, gateListOk_iff, judgedLen_eq]

/-- Window openings that ascend from each entry to the next ascend throughout. -/
theorem windowsAscend_iff (ws : List Window) :
    windowsAscend ws = true ↔ List.Pairwise (fun (x y : Window) => x.opens ≤ y.opens) ws := by
  induction ws with
  | nil => simp [windowsAscend]
  | cons x ws ih =>
    cases ws with
    | nil => simp [windowsAscend]
    | cons y ws =>
      rw [windowsAscend, Bool.and_eq_true, decide_eq_true_eq, ih, List.pairwise_cons (a := x)]
      refine ⟨fun ⟨hxy, h⟩ => ⟨?_, h⟩, fun ⟨hx, h⟩ => ⟨hx y (List.mem_cons_self ..), h⟩⟩
      intro z hz
      rcases List.mem_cons.1 hz with rfl | hz
      · exact hxy
      · exact Nat.le_trans hxy (List.rel_of_pairwise_cons h hz)

theorem applyRxWindowsPending_eq : applyRxWindowsPending i b s =
    if ¬ (b.length % 8 = 0 ∧ (windowsOf b).length ≤ 4096 ∧
      List.Pairwise (fun (x y : Window) => x.opens ≤ y.opens) (windowsOf b) ∧ ∀ w ∈ windowsOf b, w.length ≠ 0) then (s, .range)
    else if ¬ s.cfg Obj.SWAP_LAP = 2 ^ 48 - 1 then (s, .state)
    else ((s.writeBlob Obj.RX_WINDOWS_PENDING i b).stage (16 + i), .ok) := by
  have hbad : (b.length % 8 != 0 || decide ((windowsOf b).length > 4096) || !windowsAscend (windowsOf b) ||
      (windowsOf b).any (fun w => w.length == 0)) = true ↔ ¬ (b.length % 8 = 0 ∧ (windowsOf b).length ≤ 4096 ∧
      List.Pairwise (fun (x y : Window) => x.opens ≤ y.opens) (windowsOf b) ∧ ∀ w ∈ windowsOf b, w.length ≠ 0) := by
    simp only [Bool.or_eq_true, bne_iff_ne, decide_eq_true_eq, Bool.not_eq_true', ← Bool.not_eq_true, windowsAscend_iff, List.any_eq_true,
      beq_iff_eq, not_and_or, not_forall, not_not, not_le, or_assoc, exists_prop, gt_iff_lt]
  simp only [applyRxWindowsPending, swapScheduled_iff, hbad]

/-- The lists that a swap would put in force (R61). -/
theorem swapLists_eq : (List.range 16).map (fun p => if s.isStaged p then s.blb Obj.GATE_LIST_PENDING p else s.blb Obj.GATE_LIST p) =
    (List.range 16).map (fun q => if q ∈ s.time.staged then s.blb Obj.GATE_LIST_PENDING q else s.blb Obj.GATE_LIST q) := by
  simp only [isStaged_iff]

theorem applySwapLap_eq : applySwapLap v s =
    if 2 ^ 48 ≤ v then (s, .range)
    else if v = 2 ^ 48 - 1 then (s.writeNum Obj.SWAP_LAP 0 v, .ok)
    else if ¬ ∀ l ∈ (List.range 16).map (fun q => if q ∈ s.time.staged then s.blb Obj.GATE_LIST_PENDING q else s.blb Obj.GATE_LIST q),
      ((splitsOf l).map Split.dur).sum = s.swapLen then (s, .range)
    else if ¬ (2 ≤ lapsAhead s v ∧ lapsAhead s v ≤ 2 ^ 47 - 1 ∧
      s.time.gun + (10000 + s.maxLead) * 65536 ≤ s.time.next + (lapsAhead s v - 1) * s.lapLen * 65536) then (s, .state)
    else (s.writeNum Obj.SWAP_LAP 0 v, .ok) := by
  have hled : (!lapFuture s v || decide (lapsAhead s v < 2) ||
      decide (s.time.next + (lapsAhead s v - 1) * s.lapLen * ns < s.time.gun + (10000 + s.maxLead) * ns)) = true ↔
      ¬ (2 ≤ lapsAhead s v ∧ lapsAhead s v ≤ 2 ^ 47 - 1 ∧
        s.time.gun + (10000 + s.maxLead) * 65536 ≤ s.time.next + (lapsAhead s v - 1) * s.lapLen * 65536) := by
    simp only [lapFuture, ns, Time, Bool.or_eq_true, Bool.not_eq_true', Bool.and_eq_false_iff, decide_eq_false_iff_not, decide_eq_true_eq]
    omega
  have hsum : ∀ ls : List Blob, (ls.any (fun b => ((splitsOf b).map Split.dur).sum != s.swapLen)) = true ↔
      ¬ ∀ l ∈ ls, ((splitsOf l).map Split.dur).sum = s.swapLen := by
    intro ls
    simp only [List.any_eq_true, bne_iff_ne, not_forall, exists_prop, ne_eq]
  simp only [applySwapLap, swapLists_eq, hled, hsum, ge_iff_le]
  split
  · rfl
  · split
    · subst_vars; rfl
    · rfl

end

/-- Settles O28: what the writes of the schedule objects refuse, store and stage. -/
theorem scheduleWrites : Obligations.ScheduleWrites := by
  intro s p i v b
  refine ⟨fun ha => ?_, fun ha => ?_, fun ha => ?_, fun ha => ?_⟩
  · have hw : ∀ {t r}, applyLapLengthPending v s = (t, r) → r ≠ .busy → Writes (.lapLengthPending p v) s r t :=
      writes_num ha (exec_lapLengthPending p v s) rfl
    have he := applyLapLengthPending_eq s v
    refine ⟨fun hv => hw (he.trans (if_pos hv)) (by decide), fun h1 h2 hf => hw ?_ (by decide), fun h1 h2 hf => hw ?_ (by decide)⟩
    · rw [he, if_neg (by omega), if_pos hf]
    · rw [he, if_neg (by omega), if_neg (not_not.2 hf)]
  · have he := applyGateListPending_eq s i b
    rw [maskSplits_eq] at he
    have hno : ∀ {t r}, applyGateListPending i b s = (t, r) → (r = .range ∨ r = .state ∨ r = .overcommit) →
        Writes (.gateListPending p i b) s r t := writesBlob_refused ha (exec_gateListPending p i b s)
    refine ⟨fun h => hno (he.trans (if_pos h)) (by decide), fun h hf => hno ?_ (by decide),
      fun h hf => writesBlob_ok ha (exec_gateListPending p i b s) rfl ?_⟩
    · rw [he, if_neg (not_not.2 h), if_pos hf]
    · rw [he, if_neg (not_not.2 h), if_neg (not_not.2 hf)]
  · have he := applyRxWindowsPending_eq s i b
    have hno : ∀ {t r}, applyRxWindowsPending i b s = (t, r) → (r = .range ∨ r = .state ∨ r = .overcommit) →
        Writes (.rxWindowsPending p i b) s r t := writesBlob_refused ha (exec_rxWindowsPending p i b s)
    refine ⟨fun h => hno (he.trans (if_pos h)) (by decide), fun h hf => hno ?_ (by decide),
      fun h hf => writesBlob_ok ha (exec_rxWindowsPending p i b s) rfl ?_⟩
    · rw [he, if_neg (not_not.2 h), if_pos hf]
    · rw [he, if_neg (not_not.2 h), if_neg (not_not.2 hf)]
  · have hw : ∀ {t r}, applySwapLap v s = (t, r) → r ≠ .busy → Writes (.swapLap p v) s r t :=
      writes_num ha (exec_swapLap p v s) rfl
    have he := applySwapLap_eq s v
    refine ⟨fun h => hw (he.trans (if_pos h)) (by decide), fun h => hw ?_ (by decide), fun h hs => hw ?_ (by decide),
      fun h hs hl => hw ?_ (by decide), fun h hs hl => hw ?_ (by decide)⟩
    · rw [he, if_neg (by omega), if_pos h]
    · rw [he, if_neg (by omega), if_neg (by omega), if_pos hs]
    · exact he.trans ((if_neg (by omega)).trans ((if_neg (by omega)).trans ((if_neg (not_not.2 hs)).trans (if_pos hl))))
    · exact he.trans ((if_neg (by omega)).trans ((if_neg (by omega)).trans ((if_neg (not_not.2 hs)).trans (if_neg (not_not.2 hl)))))

end Sys2Proof.Machine
end

section
/-! PROOFS. The writes of the pool and the queues (R264, R272 to R274, R279, R282, R288). -/

namespace Sys2Proof.Machine

/-! ## Queue descriptors (R273) -/

section
variable (s : State) (q t i v : Nat) (b : Blob)

/-- What R273 asks of a descriptor d for queue q (Table 9.5). -/
abbrev descOk (d : Nat) : Prop :=
  bits d 126 122 ≤ 16 ∧ (14 ≤ bits d 126 122 → 2 ≤ bits d 118 116) ∧ (bits d 126 122 = 16 → bits d 118 116 ≠ 2) ∧
  bits d 121 119 < s.subports (bits d 126 122) ∧ bits d 115 108 = s.blockOwner q ∧ bits d 107 92 ≠ 0 ∧ bits d 91 78 ≠ 0 ∧
  bits d 77 64 ≤ bits d 91 78 ∧ (d.testBit 49 = true → beAt (s.blb Obj.MARSHAL (bits d 48 36)) 17 1 = bits d 115 108)

theorem descRange_iff (d : Nat) : s.descRange q d = true ↔ ¬ descOk s q d := by
  simp only [State.descRange, descOk, bit, Bool.or_eq_true, Bool.and_eq_true, decide_eq_true_eq, beq_iff_eq, bne_iff_ne, not_and_or,
    Classical.not_imp, not_le, not_lt, not_not, or_assoc, gt_iff_lt, ge_iff_le, ne_eq]

/-- The cells by which a descriptor d raises what is reserved in the partition of its class. -/
def descGrowth (d : Nat) : Nat :=
  bits d 77 64 - (if partOf (s.qClass q) = partOf (bits d 118 116) then s.qReserve q else 0)

/-- A descriptor d as it is stored; a pacer that it enables starts full (R289). -/
def State.storeDesc (d : Nat) : State :=
  let w := s.writeBlob Obj.QUEUE_DESC q (beBytes 16 d)
  if bit d 35 && !bit (s.qdesc q) 35 then
    { w with buf.qpacers := tabUpd w.buf.qpacers q .reset (fun x => { x with tokens := 8000 * (x.burst : Int) }) } else w

theorem applyQueueDesc_eq : applyQueueDesc q b s =
    let d := beAt b 0 16 / 2 ^ 35 * 2 ^ 35
    if ¬ (b.length = 16 ∧ descOk s q d) then (s, .range)
    else if s.queueBusy q = true ∧ bits d 126 108 ≠ bits (s.qdesc q) 126 108 then (s, .state)
    else if s.sharedRegion (partOf (bits d 118 116)) < descGrowth s q d then (s, .overcommit)
    else (s.storeDesc q d, .ok) := by
  simp only [applyQueueDesc, Bool.or_eq_true, Bool.and_eq_true, bne_iff_ne, descRange_iff, not_and_or, beq_iff_eq, gt_iff_lt, descGrowth,
    State.storeDesc, ne_eq]

theorem storeDesc_blob (d : Nat) : (s.storeDesc q d).blob = (s.writeBlob Obj.QUEUE_DESC q (beBytes 16 d)).blob := by
  unfold State.storeDesc
  split <;> rfl

theorem storeDesc_queues (d : Nat) : (s.storeDesc q d).buf.queues = s.buf.queues := by
  unfold State.storeDesc
  split <;> simp

/-- No pacer is touched that the write does not enable. -/
theorem storeDesc_of_pacer_kept {d : Nat} (h : d.testBit 35 = false ∨ (s.qdesc q).testBit 35 = true) :
    s.storeDesc q d = s.writeBlob Obj.QUEUE_DESC q (beBytes 16 d) := by
  refine if_neg ?_
  rw [bit, bit]
  rcases h with h | h <;> simp [h]

/-! ## Queue blocks (R274) -/

/-- The block that a value of 5101h names: its first queue and its queues. -/
def queueBlk (v : Nat) : Nat × Nat := (bits v 31 16, bits v 12 0)

theorem queueBlk_eq : queueBlk v = (v / 2 ^ 16 % 2 ^ 16, v % 2 ^ 13) := by simp [queueBlk, bits]

/-- Whether queue q lies in a block. -/
def inBlk (q : Nat) (e : Nat × Nat) : Bool := decide (e.1 ≤ q) && decide (q < e.1 + e.2)

/-- The queues of a block that do not lie in another. -/
def blockLess (e f : Nat × Nat) : List Nat := ((List.range e.2).map (e.1 + ·)).filter (fun q => !inBlk q f)

theorem inBlk_iff (e : Nat × Nat) : inBlk q e = true ↔ e.1 ≤ q ∧ q < e.1 + e.2 := by
  rw [inBlk, Bool.and_eq_true, decide_eq_true_eq, decide_eq_true_eq]

theorem mem_blockLess (e f : Nat × Nat) : q ∈ blockLess e f ↔ e.1 ≤ q ∧ q < e.1 + e.2 ∧ ¬ (f.1 ≤ q ∧ q < f.1 + f.2) := by
  simp only [blockLess, List.mem_filter, List.mem_map, List.mem_range, Bool.not_eq_true', ← Bool.not_eq_true, inBlk_iff, ← and_assoc]
  refine and_congr_left fun _ => ⟨?_, fun h => ⟨q - e.1, by omega, by omega⟩⟩
  rintro ⟨x, hx, rfl⟩
  omega

theorem applyQueueBlock_eq : applyQueueBlock t v s =
    let now := queueBlk v
    let old := queueBlk (s.cfg Obj.QUEUE_BLOCK t)
    if 4096 < now.2 ∨ 16384 < now.1 + now.2 ∨
      ¬ ∀ u, u < 256 → u ≠ t → blocksMeet now (queueBlk (s.cfg Obj.QUEUE_BLOCK u)) = false then (s, .range)
    else if (s.tenant t).st ≠ .idle ∨ ∃ q, q ∈ blockLess now old ++ blockLess old now ∧ s.queueBusy q = true then (s, .state)
    else ((blockLess old now).foldl (fun s q => s.reown q 0) ((blockLess now old).foldl (fun s q => s.reown q t)
      (s.writeNum Obj.QUEUE_BLOCK t (now.1 * 2 ^ 16 + now.2))), .ok) := by
  have hmeet : (((List.range 256).filter (· != t)).map (fun u => queueBlk (s.cfg Obj.QUEUE_BLOCK u))).any (fun e => blocksMeet (queueBlk v) e) = true ↔
      ¬ ∀ u, u < 256 → u ≠ t → blocksMeet (queueBlk v) (queueBlk (s.cfg Obj.QUEUE_BLOCK u)) = false := by
    simp only [List.any_map, List.any_filter, List.any_eq_true, List.mem_range, Bool.and_eq_true, bne_iff_ne, Function.comp_apply, not_forall,
      Bool.not_eq_false, exists_prop]
  have hdef : applyQueueBlock t v s =
      if 4096 < (queueBlk v).2 || 16384 < (queueBlk v).1 + (queueBlk v).2 ||
        (((List.range 256).filter (· != t)).map (fun u => queueBlk (s.cfg Obj.QUEUE_BLOCK u))).any (fun e => blocksMeet (queueBlk v) e) then (s, .range)
      else if (s.tenant t).st != .idle || (blockLess (queueBlk v) (queueBlk (s.cfg Obj.QUEUE_BLOCK t)) ++
        blockLess (queueBlk (s.cfg Obj.QUEUE_BLOCK t)) (queueBlk v)).any s.queueBusy then (s, .state)
      else ((blockLess (queueBlk (s.cfg Obj.QUEUE_BLOCK t)) (queueBlk v)).foldl (fun s q => s.reown q 0)
        ((blockLess (queueBlk v) (queueBlk (s.cfg Obj.QUEUE_BLOCK t))).foldl (fun s q => s.reown q t)
          (s.writeNum Obj.QUEUE_BLOCK t ((queueBlk v).1 * 2 ^ 16 + (queueBlk v).2))), .ok) := rfl
  simp only [hdef, Bool.or_eq_true, decide_eq_true_eq, hmeet, or_assoc, bne_iff_ne, List.any_eq_true]

/-- The descriptor that a queue has under a new owner (R274). -/
def ownedBy (d t : Nat) : Nat := d % 2 ^ 127 - bits d 115 108 * 2 ^ 108 + t * 2 ^ 108

theorem qdesc_reown_same : (s.reown q t).qdesc q = ownedBy (s.qdesc q) t % 2 ^ 128 := by
  have hb : (s.reown q t).blb Obj.QUEUE_DESC q = beBytes 16 (ownedBy (s.qdesc q) t) := tabGet_put_same _ _ _ _
  rw [State.qdesc, hb, beAt_beBytes, show 256 ^ 16 = 2 ^ 128 by norm_num]

theorem qdesc_reown_other {q q' : Nat} (h : q' ≠ q) : (s.reown q t).qdesc q' = s.qdesc q' := by
  have hb : (s.reown q t).blb Obj.QUEUE_DESC q' = s.blb Obj.QUEUE_DESC q' :=
    tabGet_put_other _ _ _ _ (by simpa [objKey] using h)
  rw [State.qdesc, hb, State.qdesc]

theorem num_blob_update (x : Tab Blob) : ({ s with blob := x } : State).num = s.num := rfl

theorem reown_num : (s.reown q t).num = s.num := num_blob_update s _

theorem cfg_reown (o k : Nat) : (s.reown q t).cfg o k = s.cfg o k := by rw [State.cfg, State.cfg, reown_num]

/-- A new owner takes the place of the old one alone, and the enable bit above it is clear. -/
theorem ownedBy_eq (d : Nat) : ownedBy d t = 2 ^ 108 * (d / 2 ^ 108 % 2 ^ 19 / 256 * 256 + t) + d % 2 ^ 108 := by
  have hm : d % 2 ^ 127 = d % 2 ^ 108 + 2 ^ 108 * (d / 2 ^ 108 % 2 ^ 19) := by rw [← Nat.mod_mul, ← Nat.pow_add]
  have ho : bits d 115 108 = d / 2 ^ 108 % 2 ^ 19 % 256 := by
    rw [Nat.mod_mod_of_dvd _ (by norm_num)]
    rfl
  have hx := Nat.div_add_mod (d / 2 ^ 108 % 2 ^ 19) 256
  rw [ownedBy, ho, hm]
  generalize d / 2 ^ 108 % 2 ^ 19 = x at hx ⊢
  generalize d % 2 ^ 108 = lo
  generalize 2 ^ 108 = P
  have hP : P * x = P * (x / 256 * 256) + x % 256 * P := by
    conv_lhs => rw [← hx]
    ring
  rw [Nat.mul_add, hP, Nat.mul_comm t]
  omega

/-- A queue under a new owner belongs to it and is disabled. -/
theorem reown_owner {t : Nat} (ht : t < 256) : (s.reown q t).qTenant q = t ∧ (s.reown q t).qEnable q = false := by
  have hlo : s.qdesc q % 2 ^ 108 < 2 ^ 108 := Nat.mod_lt _ (by decide)
  have hhi : s.qdesc q / 2 ^ 108 % 2 ^ 19 / 256 * 256 + t < 2 ^ 19 := by omega
  have hlt : ownedBy (s.qdesc q) t < 2 ^ 127 := by
    rw [ownedBy_eq, show 2 ^ 127 = 2 ^ 108 * 2 ^ 19 by norm_num]
    calc _ < 2 ^ 108 * (s.qdesc q / 2 ^ 108 % 2 ^ 19 / 256 * 256 + t + 1) := by rw [Nat.mul_succ]; exact Nat.add_lt_add_left hlo _
      _ ≤ _ := Nat.mul_le_mul_left _ hhi
  unfold State.qTenant State.qEnable
  rw [qdesc_reown_same, Nat.mod_eq_of_lt (Nat.lt_trans hlt (by decide))]
  refine ⟨?_, Nat.testBit_lt_two_pow hlt⟩
  rw [bits, ownedBy_eq, Nat.mul_add_div (by decide), Nat.div_eq_of_lt hlo]
  omega

theorem qdesc_foldl_reown_of_not_mem {l : List Nat} {q : Nat} (h : q ∉ l) : (l.foldl (fun s q => s.reown q t) s).qdesc q = s.qdesc q := by
  induction l generalizing s with
  | nil => rfl
  | cons x l ih =>
    rw [List.mem_cons, not_or] at h
    rw [List.foldl_cons, ih _ h.2, qdesc_reown_other _ _ h.1]

theorem cfg_foldl_reown (l : List Nat) (o k : Nat) : (l.foldl (fun s q => s.reown q t) s).cfg o k = s.cfg o k := by
  induction l generalizing s with
  | nil => rfl
  | cons x l ih => rw [List.foldl_cons, ih, cfg_reown]

theorem foldl_reown_owner {t : Nat} (ht : t < 256) {l : List Nat} {q : Nat} (h : q ∈ l) :
    (l.foldl (fun s q => s.reown q t) s).qTenant q = t ∧ (l.foldl (fun s q => s.reown q t) s).qEnable q = false := by
  induction l generalizing s with
  | nil => cases h
  | cons x l ih =>
    rw [List.foldl_cons]
    by_cases hl : q ∈ l
    · exact ih _ hl
    · obtain rfl : q = x := (List.mem_cons.1 h).resolve_right hl
      have := reown_owner s q ht
      simpa only [State.qTenant, State.qEnable, qdesc_foldl_reown_of_not_mem _ _ hl] using this

/-! ## Rings, marshals and pacers (R279, R282, R288) -/

theorem applyQueueRing_eq : applyQueueRing q b s =
    if ¬ (b.length = 24 ∧ s.qPort q = 16 ∧ beAt b 0 8 % 64 = 0 ∧ 4 ≤ beAt b 8 1 ∧ beAt b 8 1 ≤ 16 ∧ beAt b 9 1 ≤ 1 ∧ beAt b 10 2 < 16 ∧
      beAt b 12 4 ≤ 1000000) then (s, .range)
    else if (s.queue q).ringHead ≠ (s.queue q).ringTail then (s, .state)
    else (s.writeBlob Obj.QUEUE_RING q (b.take 16 ++ List.replicate 8 0), .ok) := by
  simp only [applyQueueRing, Bool.or_eq_true, bne_iff_ne, decide_eq_true_eq, not_and_or, not_le, not_lt, or_assoc, ne_eq]

/-- A marshal as it is stored, its reserved fields zero, with both its buckets full (R4, R282). -/
def State.storeMarshal (i : Nat) (b : Blob) : State :=
  let w := s.writeBlob Obj.MARSHAL i (b.take 16 ++ beBytes 1 (beAt b 16 1 % 16) ++ beBytes 1 (beAt b 17 1) ++ [0, 0])
  { w with buf.marshals := tabSet w.buf.marshals i ⟨beAt b 8 4 * bucketByte, beAt b 12 4 * bucketByte, w.time.gun⟩ }

theorem applyMarshal_eq : applyMarshal i b s =
    if ¬ (b.length = 20 ∧ beAt b 4 4 ≤ 1600000 ∧ beAt b 0 4 ≤ beAt b 4 4 ∧ 1 ≤ beAt b 8 4 ∧ beAt b 8 4 ≤ 16777215 ∧ 1 ≤ beAt b 12 4 ∧
      beAt b 12 4 ≤ 16777215 ∧ bits (beAt b 16 1) 2 1 ≠ 3) then (s, .range)
    else if beAt b 17 1 ≠ beAt (s.blb Obj.MARSHAL i) 17 1 ∧ ∃ q ∈ s.writtenQueues, s.qMarshal q = some i then (s, .state)
    else (s.storeMarshal i b, .ok) := by
  simp only [applyMarshal, State.storeMarshal, Bool.or_eq_true, Bool.and_eq_true, bne_iff_ne, beq_iff_eq, decide_eq_true_eq, List.any_eq_true,
    not_and_or, not_le, or_assoc, ne_eq, not_not, Nat.lt_one_iff]

theorem storeMarshal_blb : (s.storeMarshal i b).blb Obj.MARSHAL i =
    b.take 16 ++ beBytes 1 (beAt b 16 1 % 16) ++ beBytes 1 (beAt b 17 1) ++ [0, 0] := blb_writeBlob_same s _ _ _

theorem storeMarshal_buckets : tabGet? (s.storeMarshal i b).buf.marshals i =
    some ⟨beAt b 8 4 * bucketByte, beAt b 12 4 * bucketByte, s.time.gun⟩ := by
  refine (tabGet?_set_same _ _ _).trans ?_
  rw [State.writeBlob_time]

/-- A queue's pacer as it is stored: what it takes at its next refill waits (R289). -/
def State.storeQueuePacer (i : Nat) (b : Blob) : State :=
  let w := s.writeBlob Obj.QUEUE_PACER i b
  { w with buf.qpacers := tabUpd w.buf.qpacers i .reset (fun x => { x with pend := some (beAt b 0 4, beAt b 4 4) }) }

theorem applyQueuePacer_eq : applyQueuePacer i b s =
    if b.length ≠ 8 ∨ ¬ (beAt b 0 4 ≤ 1600000 ∧ beAt b 4 4 ≤ 16777215) then (s, .range) else (s.storeQueuePacer i b, .ok) := by
  simp only [applyQueuePacer, State.storeQueuePacer, Bool.or_eq_true, bne_iff_ne, decide_eq_true_eq, not_and_or, not_le, or_assoc, ne_eq]

theorem storeQueuePacer_blb : (s.storeQueuePacer i b).blb Obj.QUEUE_PACER i = b := blb_writeBlob_same s _ _ _

theorem storeQueuePacer_pend : tabGet (s.storeQueuePacer i b).buf.qpacers i .reset =
    { tabGet s.buf.qpacers i .reset with pend := some (beAt b 0 4, beAt b 4 4) } := by
  simp only [State.storeQueuePacer, tabGet_upd_same, State.writeBlob_buf]

/-- The same for a tenant's pacer, its reserved bits zero (R4, R288). -/
def State.storeTenantPacer (i : Nat) (b : Blob) : State :=
  let w := s.writeBlob Obj.TENANT_PACER i (b.take 8 ++ beBytes 1 (beAt b 8 1 % 2))
  { w with buf.tpacers := tabUpd w.buf.tpacers i .reset (fun x => { x with pend := some (beAt b 0 4, beAt b 4 4) }) }

theorem applyTenantPacer_eq : applyTenantPacer i b s =
    if b.length ≠ 9 ∨ ¬ (beAt b 0 4 ≤ 1600000 ∧ beAt b 4 4 ≤ 16777215) then (s, .range)
    else if (beAt b 8 1).testBit 0 = true ∧ ¬ beAt b 0 4 + s.guaranteed (i % 16) (i / 16) ≤ s.guaranteeCapacity (i % 16) then (s, .overcommit)
    else (s.storeTenantPacer i b, .ok) := by
  simp only [applyTenantPacer, State.storeTenantPacer, bit, Bool.or_eq_true, Bool.and_eq_true, bne_iff_ne, decide_eq_true_eq, not_and_or, not_le,
    or_assoc, ne_eq]

theorem storeTenantPacer_blb : (s.storeTenantPacer i b).blb Obj.TENANT_PACER i = b.take 8 ++ beBytes 1 (beAt b 8 1 % 2) :=
  blb_writeBlob_same s _ _ _

theorem storeTenantPacer_pend : tabGet (s.storeTenantPacer i b).buf.tpacers i .reset =
    { tabGet s.buf.tpacers i .reset with pend := some (beAt b 0 4, beAt b 4 4) } := by
  simp only [State.storeTenantPacer, tabGet_upd_same, State.writeBlob_buf]

theorem applyHostReserve_eq : applyHostReserve i v s =
    if s.sharedRegion 2 < v - s.cfg Obj.HOST_RESERVE i then (s, .overcommit) else (s.writeNum Obj.HOST_RESERVE i v, .ok) := rfl

/-! ## Partition sizes (R264) -/

/-- One cell of partition k counts for partition j from now on. -/
def State.moveSize (k j : Nat) : State :=
  if j = k then s else { s with buf.pool.sizes := tabSet (tabSet s.buf.pool.sizes k (s.partSize k - 1)) j (s.partSize j + 1) }

/-- A free cell of partition k, as long as k is above its size, goes to a partition below its own. -/
def State.giveCell (s : State) (k : Nat) : State := match s.popCell k with
  | some (c, s) =>
    let j := s.pushPart k
    let s := s.moveSize k j
    let s := s.setCell c ⟨j, false, 0, (s.cell c).gen, 0⟩
    s.setStack j { s.stack j with pushed := c :: (s.stack j).pushed }
  | none => s

/-- The free cells that partition k has above its size are given away. -/
def State.giveCells (s : State) (k : Nat) : State :=
  (List.range (min (s.partSize k - s.partTarget k) (s.stack k).count)).foldl (fun s _ => s.giveCell k) s

theorem applyPartitionSizes_eq : applyPartitionSizes b s =
    let want := (List.range 4).map (fun k => beAt b (4 * k) 4)
    if b.length ≠ 16 ∨ want.sum ≠ 65535 then (s, .range)
    else if s.allIdle = false then (s, .state)
    else if ¬ ∀ k : Nat, k < 4 → s.reserved k + s.relayNeed k ≤ beAt b (4 * k) 4 then (s, .overcommit)
    else ((List.range 4).foldl State.giveCells (s.writeBlob Obj.PARTITION_SIZES 0 b), .ok) := by
  have hneed : (List.range 4).any (fun k => ((List.range 4).map (fun k => beAt b (4 * k) 4)).getD k 0 < s.reserved k + s.relayNeed k) = true ↔
      ¬ ∀ k : Nat, k < 4 → s.reserved k + s.relayNeed k ≤ beAt b (4 * k) 4 := by
    simp only [List.any_eq_true, List.mem_range, decide_eq_true_eq, not_forall, not_le, exists_prop]
    refine exists_congr fun k => and_congr_right fun hk => ?_
    simp [hk]
  have hdef : applyPartitionSizes b s =
      if b.length != 16 || ((List.range 4).map (fun k => beAt b (4 * k) 4)).sum != 65535 then (s, .range)
      else if !s.allIdle then (s, .state)
      else if (List.range 4).any (fun k => ((List.range 4).map (fun k => beAt b (4 * k) 4)).getD k 0 < s.reserved k + s.relayNeed k) then (s, .overcommit)
      else ((List.range 4).foldl State.giveCells (s.writeBlob Obj.PARTITION_SIZES 0 b), .ok) := rfl
  simp only [hdef, hneed, Bool.or_eq_true, bne_iff_ne, Bool.not_eq_true']

/-- The demand of R270 by partition. -/
theorem relayNeed_eq (k : Nat) : s.relayNeed k =
    if k = 0 then ((s.relay.sets ++ s.relay.staged).map (fun e => e.2.demand)).sum
    else if k = 1 then ((s.relay.sets ++ s.relay.staged).map (fun e => if s.replay e.1 then e.2.retention else 0)).sum else 0 := by
  match k with
  | 0 => rfl
  | 1 => rfl
  | k + 2 => rfl

/-- The cells of the four partitions together. -/
def State.poolCells : Nat := ((List.range 4).map s.partSize).sum

theorem popCell_sizes {k c : Nat} {s s' : State} (h : s.popCell k = some (c, s')) : s'.buf.pool.sizes = s.buf.pool.sizes ∧ s'.blob = s.blob := by
  simp only [State.popCell] at h
  split at h
  · obtain ⟨-, rfl⟩ := Prod.mk.inj (Option.some.inj h)
    exact ⟨rfl, rfl⟩
  · split at h
    · obtain ⟨-, rfl⟩ := Prod.mk.inj (Option.some.inj h)
      exact ⟨rfl, rfl⟩
    · cases h

/-- A cell changes its partition only for another of the four, and only where its own is above its size. -/
theorem pushPart_cases (k : Nat) : s.pushPart k = k ∨ s.pushPart k < 4 ∧ 0 < s.partSize k := by
  unfold State.pushPart
  split
  · exact .inl rfl
  · cases h : (List.range 4).find? (fun j => s.partSize j < s.partTarget j) with
    | none => exact .inl rfl
    | some j => exact .inr ⟨List.mem_range.1 (List.mem_of_find?_eq_some h), by omega⟩

theorem poolCells_of_sizes {t : State} (h : t.buf.pool.sizes = s.buf.pool.sizes) : t.poolCells = s.poolCells := by
  have hsize : t.partSize = s.partSize := funext fun k => by rw [State.partSize, State.partSize, h]
  rw [State.poolCells, State.poolCells, hsize]

/-- A cell that moves from partition k to partition j leaves the sum as it is. -/
theorem poolCells_moveSize {k j : Nat} (hk : k < 4) (hj : j = k ∨ j < 4 ∧ 0 < s.partSize k) : (s.moveSize k j).poolCells = s.poolCells := by
  by_cases hjk : j = k
  · rw [State.moveSize, if_pos hjk]
  obtain ⟨hj, hpos⟩ := hj.resolve_left hjk
  have hsize : ∀ x, (s.moveSize k j).partSize x = if x = j then s.partSize j + 1 else if x = k then s.partSize k - 1 else s.partSize x := by
    intro x
    rw [State.moveSize, if_neg hjk]
    by_cases hx : x = j
    · rw [if_pos hx, hx]
      exact tabGet_set_same _ _ _ _
    rw [if_neg hx]
    refine (tabGet_set_other _ _ _ hx).trans ?_
    by_cases hx' : x = k
    · rw [if_pos hx', hx']
      exact tabGet_set_same _ _ _ _
    · rw [if_neg hx']
      exact tabGet_set_other _ _ _ hx'
  have hsum : ∀ u : State, u.poolCells = u.partSize 0 + (u.partSize 1 + (u.partSize 2 + u.partSize 3)) := fun _ => rfl
  rw [hsum, hsum, hsize, hsize, hsize, hsize]
  have hk' : k = 0 ∨ k = 1 ∨ k = 2 ∨ k = 3 := by omega
  have hj' : j = 0 ∨ j = 1 ∨ j = 2 ∨ j = 3 := by omega
  rcases hk' with rfl | rfl | rfl | rfl <;> rcases hj' with rfl | rfl | rfl | rfl <;> simp at hjk ⊢ <;> omega

theorem moveSize_blob (k j : Nat) : (s.moveSize k j).blob = s.blob := by
  unfold State.moveSize
  split <;> rfl

/-- Giving a cell away keeps the number of cells and the sizes asked for. -/
theorem giveCell_keeps {k : Nat} (hk : k < 4) : (s.giveCell k).poolCells = s.poolCells ∧ (s.giveCell k).blob = s.blob := by
  unfold State.giveCell
  split
  case h_1 c u h =>
    obtain ⟨hsizes, hblob⟩ := popCell_sizes h
    have hmove := poolCells_moveSize u hk (pushPart_cases u k)
    refine ⟨?_, (moveSize_blob u k _).trans hblob⟩
    exact (poolCells_of_sizes _ rfl).trans (hmove.trans (poolCells_of_sizes s hsizes))
  case h_2 => exact ⟨rfl, rfl⟩

theorem giveAll_keeps : ((List.range 4).foldl State.giveCells s).poolCells = s.poolCells ∧ ((List.range 4).foldl State.giveCells s).blob = s.blob := by
  have hcells : ∀ (u : State) (k), k ∈ List.range 4 → ((u.giveCells k).poolCells, (u.giveCells k).blob) = (u.poolCells, u.blob) := by
    intro u k hk
    refine foldl_keeps (g := fun (s : State) => (s.poolCells, s.blob)) (fun t _ _ => ?_) u
    have := giveCell_keeps t (List.mem_range.1 hk)
    rw [this.1, this.2]
  exact Prod.mk.inj (foldl_keeps (g := fun (s : State) => (s.poolCells, s.blob)) hcells s)

end

/-! ## The statement -/

/-- Settles O35: what the writes of the pool's and queues' objects refuse, in their order, and what they store. -/
theorem queueWrites : Obligations.QueueWrites := by
  intro s p i v b
  refine ⟨fun ha => ?_, fun ha => ?_, fun ha => ?_, fun ha => ?_, fun ha => ?_, fun ha => ?_, fun ha => ?_, fun ha => ?_⟩
  · have he := applyQueueDesc_eq s i b
    have hno : ∀ {t r}, applyQueueDesc i b s = (t, r) → (r = .range ∨ r = .state ∨ r = .overcommit) →
        Writes (.queueDesc p i b) s r t := writesBlob_refused ha (exec_queueDesc p i b s)
    refine ⟨fun h => hno (he.trans (if_pos h)) (by decide), fun h hm => hno ?_ (by decide), fun h hm ht => hno ?_ (by decide),
      fun h hm ht => ⟨_, writesBlob_ok ha (exec_queueDesc p i b s) rfl ?_, storeDesc_blob s i _, storeDesc_queues s i _,
        storeDesc_of_pacer_kept s i⟩⟩
    · exact he.trans ((if_neg (not_not.2 h)).trans (if_pos hm))
    · exact he.trans ((if_neg (not_not.2 h)).trans ((if_neg hm).trans (if_pos ht)))
    · exact he.trans ((if_neg (not_not.2 h)).trans ((if_neg hm).trans (if_neg ht)))
  · have he := applyQueueBlock_eq s i v
    have hw : ∀ {t r}, applyQueueBlock i v s = (t, r) → r ≠ .busy → Writes (.queueBlock p i v) s r t :=
      writes_num ha (exec_queueBlock p i v s) rfl
    have hi : i % 256 = i := by
      have h := accepts_has ha rfl
      simp only [objHas, Bool.and_eq_true, decide_eq_true_eq] at h
      omega
    rw [queueBlk_eq v] at he
    refine ⟨fun h => hw (he.trans (if_pos h)) (by decide), fun h1 h2 h3 h => hw (he.trans ((if_neg ?_).trans (if_pos ?_))) (by decide),
      fun h1 h2 h3 h hq => ⟨_, hw (he.trans ((if_neg ?_).trans (if_neg ?_))) (by decide), ?_, fun q hb hl hm => ?_⟩⟩
    · exact not_or.2 ⟨not_lt.2 h1, not_or.2 ⟨not_lt.2 h2, not_not.2 h3⟩⟩
    · refine h.imp_right fun ⟨q, hb, hl, hm, hq⟩ => ⟨q, List.mem_append_left _ ((mem_blockLess q _ _).2 ⟨hb, hl, hm⟩), hq⟩
    · exact not_or.2 ⟨not_lt.2 h1, not_or.2 ⟨not_lt.2 h2, not_not.2 h3⟩⟩
    · rintro (hst | ⟨q, hin, hbusy⟩)
      · exact hst h
      · rw [List.mem_append, mem_blockLess, mem_blockLess, queueBlk_eq] at hin
        rw [hq q (by omega)] at hbusy
        cases hbusy
    · rw [cfg_foldl_reown, cfg_foldl_reown, cfg_writeNum_same]
    · have hout : q ∉ blockLess (queueBlk (s.cfg Obj.QUEUE_BLOCK i)) (v / 2 ^ 16 % 2 ^ 16, v % 2 ^ 13) :=
        fun hin => ((mem_blockLess q _ _).1 hin).2.2 ⟨hb, hl⟩
      have hown := foldl_reown_owner (s.writeNum Obj.QUEUE_BLOCK i (v / 2 ^ 16 % 2 ^ 16 * 2 ^ 16 + v % 2 ^ 13)) (by omega : i < 256)
        ((mem_blockLess q (v / 2 ^ 16 % 2 ^ 16, v % 2 ^ 13) (queueBlk (s.cfg Obj.QUEUE_BLOCK i))).2 ⟨hb, hl, hm⟩)
      rw [hi]
      simpa only [State.qTenant, State.qEnable, qdesc_foldl_reown_of_not_mem _ _ hout] using hown
  · have he := applyQueueRing_eq s i b
    have hno : ∀ {t r}, applyQueueRing i b s = (t, r) → (r = .range ∨ r = .state ∨ r = .overcommit) →
        Writes (.queueRing p i b) s r t := writesBlob_refused ha (exec_queueRing p i b s)
    refine ⟨fun h => hno (he.trans (if_pos h)) (by decide), fun h hr => hno ?_ (by decide),
      fun h hr => writesBlob_ok ha (exec_queueRing p i b s) rfl ?_⟩
    · exact he.trans ((if_neg (not_not.2 h)).trans (if_pos hr))
    · exact he.trans ((if_neg (not_not.2 h)).trans (if_neg (not_not.2 hr)))
  · have he := applyMarshal_eq s i b
    have hno : ∀ {t r}, applyMarshal i b s = (t, r) → (r = .range ∨ r = .state ∨ r = .overcommit) →
        Writes (.marshal p i b) s r t := writesBlob_refused ha (exec_marshal p i b s)
    refine ⟨fun h => hno (he.trans (if_pos h)) (by decide), fun h ht => hno ?_ (by decide),
      fun h ht => ⟨_, writesBlob_ok ha (exec_marshal p i b s) rfl ?_, storeMarshal_blb s i b, storeMarshal_buckets s i b⟩⟩
    · exact he.trans ((if_neg (not_not.2 h)).trans (if_pos ht))
    · exact he.trans ((if_neg (not_not.2 h)).trans (if_neg ht))
  · have he := applyQueuePacer_eq s i b
    refine ⟨fun h => writesBlob_refused ha (exec_queuePacer p i b s) (he.trans (if_pos h)) (by decide),
      fun hl hp => ⟨_, writesBlob_ok ha (exec_queuePacer p i b s) rfl (he.trans (if_neg (not_or.2 ⟨not_not.2 hl, not_not.2 hp⟩))),
        storeQueuePacer_blb s i b, storeQueuePacer_pend s i b⟩⟩
  · have he := applyTenantPacer_eq s i b
    have hno : ∀ {t r}, applyTenantPacer i b s = (t, r) → (r = .range ∨ r = .state ∨ r = .overcommit) →
        Writes (.tenantPacer p i b) s r t := writesBlob_refused ha (exec_tenantPacer p i b s)
    refine ⟨fun h => hno (he.trans (if_pos h)) (by decide), fun hl hp hg hf => hno ?_ (by decide),
      fun hl hp hg => ⟨_, writesBlob_ok ha (exec_tenantPacer p i b s) rfl ?_, storeTenantPacer_blb s i b, storeTenantPacer_pend s i b⟩⟩
    · exact he.trans ((if_neg (not_or.2 ⟨not_not.2 hl, not_not.2 hp⟩)).trans (if_pos ⟨hg, hf⟩))
    · exact he.trans ((if_neg (not_or.2 ⟨not_not.2 hl, not_not.2 hp⟩)).trans (if_neg (not_and_or.2 (hg.imp_right not_not.2))))
  · have he := applyHostReserve_eq s i v
    exact ⟨fun h => writes_num ha (exec_hostReserve p i v s) rfl (he.trans (if_pos h)) (by decide),
      fun h => writes_num ha (exec_hostReserve p i v s) rfl (he.trans (if_neg (not_lt.2 h))) (by decide)⟩
  · have he := applyPartitionSizes_eq s b
    simp only [relayNeed_eq] at he
    have hno : ∀ {t r}, applyPartitionSizes b s = (t, r) → (r = .range ∨ r = .state ∨ r = .overcommit) →
        Writes (.partitionSizes p b) s r t := writesBlob_refused ha (exec_partitionSizes p b s)
    have hgive := giveAll_keeps (s.writeBlob Obj.PARTITION_SIZES 0 b)
    have hcells : (s.writeBlob Obj.PARTITION_SIZES 0 b).poolCells = s.poolCells := poolCells_of_sizes s (by rw [State.writeBlob_buf])
    have hsizes : ((List.range 4).foldl State.giveCells (s.writeBlob Obj.PARTITION_SIZES 0 b)).blb Obj.PARTITION_SIZES = b := by
      rw [State.blb, hgive.2]
      exact blb_writeBlob_same s _ _ _
    refine ⟨fun h => hno (he.trans (if_pos h)) (by decide), fun hl hs hi => hno ?_ (by decide), fun hl hs hi hn => hno ?_ (by decide),
      fun hl hs hi hn => ⟨_, writesBlob_ok ha (exec_partitionSizes p b s) rfl ?_, hsizes, hgive.1.trans hcells⟩⟩
    · exact he.trans ((if_neg (not_or.2 ⟨not_not.2 hl, not_not.2 hs⟩)).trans (if_pos hi))
    · exact he.trans ((if_neg (not_or.2 ⟨not_not.2 hl, not_not.2 hs⟩)).trans ((if_neg (by simp [hi])).trans (if_pos hn)))
    · exact he.trans ((if_neg (not_or.2 ⟨not_not.2 hl, not_not.2 hs⟩)).trans ((if_neg (by simp [hi])).trans (if_neg (not_not.2 hn))))

end Sys2Proof.Machine
end

section
/-! PROOFS. The writes of the parser's tables (R138, R139, R148, R155, R157, R159). -/

namespace Sys2Proof.Machine

/-! ## The parse graph (R138, R139) -/

section
variable (s : State) (m i t v : Nat) (b : Blob)

theorem applyParseGraphPending_eq : applyParseGraphPending b s =
    if graphOk b s.startTypes = true then (s.writeBlob Obj.PARSE_GRAPH_PENDING 0 b, .ok) else (s, .range) := rfl

/-- A change of every entry of a table. -/
theorem tabGet?_map {α : Type} (t : Tab α) (f : α → α) (n : Nat) :
    tabGet? (t.map (fun (e : Nat × α) => (e.1, f e.2))) n = (tabGet? t n).map f := by
  induction t with
  | nil => rfl
  | cons e t ih =>
    rw [List.map_cons, tabGet?, tabGet?, ih]
    split <;> rfl

/-- Every frame that has arrived keeps the graph in force (R139). -/
def State.keepGraph : State :=
  { s with frames := s.frames.map (fun (e : Nat × Frame) => (e.1, { e.2 with graph := e.2.graph <|> some (s.blb Obj.PARSE_GRAPH) })) }

/-- The pending graph is in force for frames that arrive from now on (R139). -/
def State.commitGraph : State := s.keepGraph.setBlb Obj.PARSE_GRAPH 0 (s.blb Obj.PARSE_GRAPH_PENDING)

theorem applyGraphCommit_eq : applyGraphCommit v s = if 1 < v then (s, .range) else if v = 0 then (s, .ok) else (s.commitGraph, .ok) := rfl

theorem commitGraph_blb : s.commitGraph.blb Obj.PARSE_GRAPH = s.blb Obj.PARSE_GRAPH_PENDING := blb_setBlb_same _ _ _ _

theorem commitGraph_frame {k : Nat} {f : Frame} (hf : s.frame? k = some f) :
    ∃ h, s.commitGraph.frame? k = some h ∧ s.commitGraph.graphOf h = s.graphOf f := by
  refine ⟨{ f with graph := f.graph <|> some (s.blb Obj.PARSE_GRAPH) }, ?_, ?_⟩
  · have hmap := tabGet?_map s.frames (fun f => { f with graph := f.graph <|> some (s.blb Obj.PARSE_GRAPH) }) k
    rw [show tabGet? s.frames k = some f from hf] at hmap
    exact hmap
  · rw [State.graphOf, State.graphOf]
    cases f.graph <;> rfl

theorem commitGraph_blank : s.commitGraph.graphOf Frame.blank = s.blb Obj.PARSE_GRAPH_PENDING := commitGraph_blb s

theorem applyStartType_eq : applyStartType i v s =
    if v ≤ 63 ∧ (graphType (s.blb Obj.PARSE_GRAPH) v).valid = true then (s.writeNum Obj.START_TYPE i v, .ok) else (s, .range) := by
  unfold applyStartType
  by_cases h : v ≤ 63 <;> cases (graphType (s.blb Obj.PARSE_GRAPH) v).valid <;> simp [h]

theorem applyOdBlock_eq : applyOdBlock t v s =
    if ¬ (v % 32 ≤ 16 ∧ v / 65536 % 65536 + 2 ^ (v % 32) ≤ 65536) then (s, .range)
    else if (s.tenant t).st ≠ .idle then (s, .state)
    else (s.writeNum Obj.OD_BLOCK t v, .ok) := by
  have hlow : bits v 4 0 = v % 32 := by simp [bits]
  have hhigh : bits v 31 16 = v / 65536 % 65536 := rfl
  simp only [applyOdBlock, hlow, hhigh, Bool.or_eq_true, decide_eq_true_eq, bne_iff_ne, not_and_or, not_le]

/-! ## Mask sets (R155) -/

theorem maskSetOk_iff : s.maskSetOk m b = true ↔
    b.length = 96 ∧ (beAt b 1 1 = 255 ∨ (2 ≤ beAt b 1 1 ∧ beAt b 1 1 ≤ 16)) ∧ (∀ k, k < 8 → setField b k / 2 ^ 11 % 32 ≤ 16) ∧
      ((List.range 8).map (fun k => setField b k / 2 ^ 11 % 32)).sum ≤ 40 ∧
      setSize b + ((((List.range 16).filter (· != m)).map (s.blb Obj.MASK_SET ·)).map setSize).sum ≤ 65536 ∧
      ¬ (setOn b = true ∧ ∃ o ∈ ((List.range 16).filter (· != m)).map (s.blb Obj.MASK_SET ·),
        setOn o = true ∧ setGroup o = setGroup b ∧ setPrio o = setPrio b) := by
  have hlen : ∀ x, bits x 15 11 = x / 2 ^ 11 % 32 := fun _ => rfl
  simp only [State.maskSetOk, hlen, Bool.and_eq_true, Bool.or_eq_true, beq_iff_eq, decide_eq_true_eq, List.all_eq_true, List.mem_range,
    Bool.not_eq_true', ← Bool.not_eq_true, List.any_eq_true, and_assoc]

/-- A mask set with no rules takes its new size: the rules of the sets above it move along (R155). -/
def State.storeMaskSet : State :=
  let old := setSize (s.blb Obj.MASK_SET m)
  let top := s.setBase m + old
  let move := fun (k : Nat) => if top ≤ k then k + setSize b - old else k
  State.writeBlob { s with
    parser.rules := s.parser.rules.map (fun (e : Nat × Rule) => (move e.1, e.2))
    tables.invalid := s.tables.invalid.map (fun (e : Nat × Nat) => if e.1 = 6 then (6, move e.2) else e) } Obj.MASK_SET m (maskSetStored b)

theorem applyMaskSet_eq : applyMaskSet m b s =
    if ¬ s.maskSetOk m b = true then (s, .range) else if s.setRules m ≠ [] then (s, .state) else (s.storeMaskSet m b, .ok) := by
  simp only [applyMaskSet, State.storeMaskSet, Bool.not_eq_true', ← Bool.not_eq_true, List.isEmpty_iff, ne_eq]

theorem storeMaskSet_blb : (s.storeMaskSet m b).blb Obj.MASK_SET m = maskSetStored b := blb_writeBlob_same _ _ _ _

theorem storeMaskSet_rules : (s.storeMaskSet m b).parser.rules.map Prod.snd = s.parser.rules.map Prod.snd := by
  rw [State.storeMaskSet, State.writeBlob_parser, List.map_map]
  rfl

/-! ## Rules (R157) -/

/-- A rule whose key is stored is replaced or removed where it lies. -/
theorem applyRule_of_stored {r : RuleRec} {k : Nat} {x : Rule} (hs : s.storedRule r.set r.rule.tenant r.rule.fullKey = some (k, x)) :
    s.applyRule r = if r.op = 1 then (s.putRule k r.rule, .ok) else (s.dropRule k, .ok) := by
  unfold State.applyRule
  rw [hs]
  split
  case h_1 hop h => rw [if_pos hop]; cases h; rfl
  case h_2 hop h => cases h
  case h_3 h hop => rw [if_neg hop]; cases h; rfl
  case h_4 h hop => cases h

/-- One record is applied, or finds no place. -/
theorem applyRule_result (r : RuleRec) : (s.applyRule r).2 = .ok ∨ (s.applyRule r).2 = .overcommit := by
  cases hs : s.storedRule r.set r.rule.tenant r.rule.fullKey with
  | some e =>
    rw [applyRule_of_stored s hs]
    split <;> exact .inl rfl
  | none =>
    unfold State.applyRule
    rw [hs]
    split
    case h_1 h => cases h
    case h_2 =>
      obtain ⟨x, y⟩ := s.ruleBuckets r.set r.rule.tenant r.rule.fullKey
      dsimp only
      cases s.ruleWay x <|> s.ruleWay y with
      | some k => exact .inl rfl
      | none =>
        obtain ⟨room, u⟩ := s.ruleRoom r.set 32 [] x
        cases room with
        | some k => exact .inl rfl
        | none => exact .inr rfl
    case h_3 => exact .inl rfl
    case h_4 => exact .inl rfl

theorem applyRules_cons (r : RuleRec) (rs : List RuleRec) :
    s.applyRules (r :: rs) = if (s.applyRule r).2 = .ok then (s.applyRule r).1.applyRules rs else s.applyRule r := by
  rw [State.applyRules]
  split
  case h_1 t h => rw [h, if_pos rfl]
  case h_2 h =>
    rw [if_neg]
    exact fun hok => h (s.applyRule r).1 (Prod.ext rfl hok)

theorem applyRules_result (rs : List RuleRec) : (s.applyRules rs).2 = .ok ∨ (s.applyRules rs).2 = .overcommit := by
  induction rs generalizing s with
  | nil => exact .inl rfl
  | cons r rs ih =>
    rw [applyRules_cons]
    split
    · exact ih _
    · exact applyRule_result s r

/-- The records of a batch. -/
def batchRecs (b : Blob) : List RuleRec := (List.range (beAt b 0 2)).map (fun k => ruleRecOf ((b.drop (8 + 64 * k)).take 64))

/-- A batch is refused for a bad length or record, or is applied whole or not at all. -/
theorem applyRuleBatch_eq : applyRuleBatch b s =
    if beAt b 0 2 = 0 ∨ 256 < beAt b 0 2 ∨ b.length ≠ 8 + 64 * beAt b 0 2 then (s, .range)
    else if ¬ ((∀ r ∈ batchRecs b, s.ruleRecOk r = true) ∧ s.deletesFind [] (batchRecs b) = true) then (s, .range)
    else if (s.applyRules (batchRecs b)).2 = .ok then ((s.applyRules (batchRecs b)).1, .ok)
    else ({ s with free := (s.applyRules (batchRecs b)).1.free }, (s.applyRules (batchRecs b)).2) := by
  have hlen : (decide (beAt b 0 2 = 0) || decide (256 < beAt b 0 2) || b.length != 8 + 64 * beAt b 0 2) = true ↔
      beAt b 0 2 = 0 ∨ 256 < beAt b 0 2 ∨ b.length ≠ 8 + 64 * beAt b 0 2 := by
    simp only [Bool.or_eq_true, decide_eq_true_eq, bne_iff_ne, or_assoc]
  have hrec : (!(batchRecs b).all s.ruleRecOk || !s.deletesFind [] (batchRecs b)) = true ↔
      ¬ ((∀ r ∈ batchRecs b, s.ruleRecOk r = true) ∧ s.deletesFind [] (batchRecs b) = true) := by
    simp only [Bool.or_eq_true, Bool.not_eq_true', ← Bool.not_eq_true, List.all_eq_true, not_and_or]
  rw [applyRuleBatch, show (List.range (beAt b 0 2)).map (fun k => ruleRecOf ((b.drop (8 + 64 * k)).take 64)) = batchRecs b from rfl]
  simp only [hlen, hrec]
  split
  · rfl
  split
  · rfl
  split
  case h_1 x h => rw [h, if_pos rfl]
  case h_2 x r hne h => rw [h, if_neg hne]

theorem applyRuleBatch_result : (applyRuleBatch b s).2 = .ok ∨ (applyRuleBatch b s).2 = .range ∨ (applyRuleBatch b s).2 = .overcommit := by
  rw [applyRuleBatch_eq]
  split
  · exact .inr (.inl rfl)
  split
  · exact .inr (.inl rfl)
  split
  · exact .inl rfl
  · exact .inr (.inr ((applyRules_result s _).resolve_left ‹_›))

/-- A batch that is refused changes no rule. -/
theorem applyRuleBatch_refused (h : (applyRuleBatch b s).2 ≠ .ok) : (applyRuleBatch b s).1.parser = s.parser := by
  rw [applyRuleBatch_eq] at h ⊢
  split
  · rfl
  split
  · rfl
  split
  · simp_all
  · rfl

theorem batchRecs_one (hn : beAt b 0 2 = 1) : batchRecs b = [ruleRecOf ((b.drop 8).take 64)] := by rw [batchRecs, hn]; rfl

/-- A delete alone finds its key where a rule is stored under it. -/
theorem deletesFind_one (r : RuleRec) :
    s.deletesFind [] [r] = true ↔ (r.op = 2 → (s.storedRule r.set r.rule.tenant r.rule.fullKey).isSome = true) := by
  simp only [State.deletesFind, List.find?_nil, Bool.and_true, Bool.or_eq_true, bne_iff_ne]
  exact ⟨fun h hop => h.resolve_left (not_not.2 hop), fun h => (em (r.op = 2)).elim (fun hop => .inr (h hop)) .inl⟩

/-- A batch of one record that is in order. -/
theorem applyRuleBatch_one {r : RuleRec} (hn : beAt b 0 2 = 1) (hl : b.length = 72) (hr : r = ruleRecOf ((b.drop 8).take 64))
    (hok : s.ruleRecOk r = true) : applyRuleBatch b s =
    if r.op = 2 ∧ s.storedRule r.set r.rule.tenant r.rule.fullKey = none then (s, .range)
    else if (s.applyRule r).2 = .ok then ((s.applyRule r).1, .ok)
    else ({ s with free := (s.applyRule r).1.free }, (s.applyRule r).2) := by
  have hbad : ¬ ((∀ x ∈ [r], s.ruleRecOk x = true) ∧ s.deletesFind [] [r] = true) ↔
      r.op = 2 ∧ s.storedRule r.set r.rule.tenant r.rule.fullKey = none := by
    rw [deletesFind_one]
    simp [hok]
  have hone : s.applyRules [r] = s.applyRule r := by
    rw [applyRules_cons]
    split
    · exact Prod.ext rfl (Eq.symm ‹_›)
    · rfl
  rw [applyRuleBatch_eq, batchRecs_one b hn, ← hr, if_neg (by omega), hone]
  simp only [hbad]

theorem applyEditEntry_eq : applyEditEntry i b s = if editOk b = true then (s.writeBlob Obj.EDIT i b, .ok) else (s, .range) := rfl

/-- What a batch answers: it is stored, refused by the object's rules, or finds no room. -/
theorem ruleBatch_answers {p : Principal} (ha : AcceptsBlob s p Obj.RULE_BATCH 0 b) :
    ∃ r u, exec (.ruleBatch p b) s = .next u ∧ u.reply = ⟨r, [], 0⟩ ∧ (r ≠ .ok → u.parser = s.parser) := by
  have hex := exec_ruleBatch p b s
  by_cases hok : (applyRuleBatch b s).2 = .ok
  · exact ⟨.ok, _, writesBlob_ok ha hex rfl (Prod.ext rfl hok), rfl, fun h => absurd rfl h⟩
  · have hr := (applyRuleBatch_result s b).resolve_left hok
    exact ⟨_, _, writesBlob_refused ha hex rfl (hr.imp_right .inr), rfl, fun _ => applyRuleBatch_refused s b hok⟩

end

/-! ## The statement -/

/-- Settles O38: what the writes of the parser's objects refuse and store. -/
theorem parserWrites : Obligations.ParserWrites := by
  intro s p i v b
  refine ⟨fun ha => ?_, fun ha => ?_, fun ha => ?_, fun ha => ?_, fun ha => ?_, fun ha => ?_, fun ha => ?_⟩
  · have he := applyParseGraphPending_eq s b
    exact ⟨fun h => writesBlob_ok ha (exec_parseGraphPending p b s) rfl (he.trans (if_pos h)),
      fun h => writesBlob_refused ha (exec_parseGraphPending p b s) (he.trans (if_neg (by simp [h]))) (by decide)⟩
  · have he := applyGraphCommit_eq s v
    have hw : ∀ {t r}, applyGraphCommit v s = (t, r) → r ≠ .busy → Writes (.graphCommit p v) s r t :=
      writes_num ha (exec_graphCommit p v s) rfl
    refine ⟨fun h => hw (he.trans (if_pos h)) (by decide), fun h => hw ?_ (by decide), fun h => ⟨s.commitGraph, hw ?_ (by decide),
      commitGraph_blb s, fun _ _ => commitGraph_frame s, commitGraph_blank s⟩⟩
    · exact he.trans ((if_neg (by omega)).trans (if_pos h))
    · exact he.trans ((if_neg (by omega)).trans (if_neg (by omega)))
  · have he := applyStartType_eq s i v
    exact ⟨fun h => writes_num ha (exec_startType p i v s) rfl (he.trans (if_pos h)) (by decide),
      fun h => writes_num ha (exec_startType p i v s) rfl (he.trans (if_neg h)) (by decide)⟩
  · have he := applyOdBlock_eq s i v
    have hw : ∀ {t r}, applyOdBlock i v s = (t, r) → r ≠ .busy → Writes (.odBlock p i v) s r t :=
      writes_num ha (exec_odBlock p i v s) rfl
    refine ⟨fun h => hw (he.trans (if_pos h)) (by decide), fun h ht => hw ?_ (by decide), fun h ht => hw ?_ (by decide)⟩
    · exact he.trans ((if_neg (not_not.2 h)).trans (if_pos ht))
    · exact he.trans ((if_neg (not_not.2 h)).trans (if_neg (not_not.2 ht)))
  · have he := applyMaskSet_eq s i b
    have hno : ∀ {t r}, applyMaskSet i b s = (t, r) → (r = .range ∨ r = .state ∨ r = .overcommit) →
        Writes (.maskSet p i b) s r t := writesBlob_refused ha (exec_maskSet p i b s)
    have hset := maskSetOk_iff s i b
    refine ⟨fun h => hno (he.trans (if_pos (mt hset.1 h))) (by decide), fun h hr => hno ?_ (by decide),
      fun h hr => ⟨_, writesBlob_ok ha (exec_maskSet p i b s) rfl ?_, storeMaskSet_blb s i b, storeMaskSet_rules s i b⟩⟩
    · exact he.trans ((if_neg (not_not.2 (hset.2 h))).trans (if_pos hr))
    · exact he.trans ((if_neg (not_not.2 (hset.2 h))).trans (if_neg (not_not.2 hr)))
  · have he := applyRuleBatch_eq s b
    have hno : ∀ {t r}, applyRuleBatch b s = (t, r) → (r = .range ∨ r = .state ∨ r = .overcommit) →
        Writes (.ruleBatch p b) s r t := writesBlob_refused ha (exec_ruleBatch p b s)
    have hok : ∀ {t}, applyRuleBatch b s = (t, .ok) → WritesBlob (.ruleBatch p b) s .ok Obj.RULE_BATCH 0 t :=
      writesBlob_ok ha (exec_ruleBatch p b s) rfl
    refine ⟨fun h => hno (he.trans (if_pos h)) (by decide), fun h1 h2 h3 ⟨k, hk, hbad⟩ => hno ?_ (by decide), ruleBatch_answers s b ha,
      fun hn hl hr hop hp => hno ?_ (by decide), fun hn hl hr hop k x hp => hok ?_, fun hn hl hr hop k x hp => hok ?_⟩
    · refine he.trans ((if_neg (by omega)).trans (if_pos fun h => ?_))
      have := h.1 _ (List.mem_map_of_mem (List.mem_range.2 hk))
      rw [hbad] at this
      cases this
    · exact (applyRuleBatch_one s b hn hl rfl hr).trans (if_pos ⟨hop, hp⟩)
    · have hone := applyRule_of_stored s hp
      rw [if_neg (by omega)] at hone
      rw [applyRuleBatch_one s b hn hl rfl hr, if_neg (by rw [hp]; simp), hone, if_pos rfl]
      rfl
    · have hone := applyRule_of_stored s hp
      rw [if_pos hop] at hone
      rw [applyRuleBatch_one s b hn hl rfl hr, if_neg (by omega), hone, if_pos rfl]
      rfl
  · have he := applyEditEntry_eq s i b
    exact ⟨fun h => writesBlob_ok ha (exec_edit p i b s) rfl (he.trans (if_pos h)),
      fun h => writesBlob_refused ha (exec_edit p i b s) (he.trans (if_neg (by simp [h]))) (by decide)⟩

end Sys2Proof.Machine
end

section
/-! PROOFS. The squads (R220 to R224, R430, R434, R449). -/

namespace Sys2Proof.Machine

/-! ## Squads as entries of a table -/

/-- Of two settings of one key the later stands. -/
theorem tabSet_tabSet {α : Type} (t : Tab α) (n : Nat) (v w : α) : tabSet (tabSet t n v) n w = tabSet t n w := by
  induction t with
  | nil => simp [tabSet]
  | cons e t ih =>
    obtain ⟨m, u⟩ := e
    rcases Nat.lt_trichotomy n m with h | rfl | h
    · simp [tabSet, h, Nat.ne_of_lt h]
    · simp [tabSet]
    · simp [tabSet, Nat.ne_of_gt h, Nat.not_lt.2 h.le, ih]

section
variable (s : State) (k : Nat) (f g : Squad → Squad)

/-- Two changes of one squad are one. -/
theorem modSquad_modSquad : (s.modSquad k f).modSquad k g = s.modSquad k (fun q => g (f q)) := by
  simp only [State.modSquad, tabUpd, tabGet_set_same, tabSet_tabSet]

variable {s k f g}

/-- A change of a squad is known by what it makes of it. -/
theorem modSquad_congr (h : f (s.squad k) = g (s.squad k)) : s.modSquad k f = s.modSquad k g := by
  simp only [State.modSquad, tabUpd]
  rw [show f (tabGet s.strider.squads k .reset) = g (tabGet s.strider.squads k .reset) from h]
end

/-! ## Images (R220) -/

section
variable {s : State} {i : Nat} {b : Blob} {g : Image}

theorem applyImagePending_none (h : imageOf b = none) : applyImagePending i b s = (s, .range) := by simp only [applyImagePending, h]

theorem applyImagePending_some (h : imageOf b = some g) : applyImagePending i b s =
    ((s.setBlb Obj.IMAGE_PENDING i b).modSquad i (fun q => { q with staged := some g }), .ok) := by simp only [applyImagePending, h]

/-- Each entry of a table filled from words comes from one of them. -/
theorem tabGet?_entries {l : List Nat} {word : Nat → Nat} {fill : Tab (Nat × Nat) → Nat → Tab (Nat × Nat)} {t : Tab (Nat × Nat)} {n : Nat}
    {y : Nat × Nat} (hfill : ∀ t k, fill t k = (entryWord (word k)).elim t (tabSet t k)) (h : tabGet? (l.foldl fill t) n = some y) :
    tabGet? t n = some y ∨ n ∈ l ∧ entryWord (word n) = some y := by
  induction l generalizing t with
  | nil => exact .inl h
  | cons k l ih =>
    rcases ih h with h | ⟨hn, hw⟩
    · rw [hfill] at h
      cases he : entryWord (word k) with
      | none =>
        rw [he] at h
        exact .inl h
      | some e =>
        rw [he, Option.elim_some] at h
        by_cases hk : n = k
        · subst hk
          rw [tabGet?_set_same] at h
          exact .inr ⟨List.mem_cons_self .., he.trans h⟩
        · exact .inl ((tabGet?_set_other t e hk).symm.trans h)
    · exact .inr ⟨List.mem_cons_of_mem k hn, hw⟩

theorem entries_step (t : Tab (Nat × Nat)) (k v : Nat) :
    (match entryWord v with | some e => tabSet t k e | none => t) = (entryWord v).elim t (tabSet t k) := by
  cases entryWord v <;> rfl

/-- What R220 asks of an image that is taken. -/
theorem imageOf_some (h : imageOf b = some g) : beAt b 4 2 = 1 ∧ 0x2000 ≤ g.base ∧ g.base + g.text.length ≤ 65536 ∧
    b.length = 2076 + g.text.length ∧ g.crc = crc32 (b.take (b.length - 4)) ∧
    (∀ e, g.init = some e → g.base ≤ e ∧ e < g.base + g.text.length ∧ e % 2 = 0) ∧
    ∀ n e d, tabGet? g.entries n = some (e, d) → g.base ≤ e ∧ e < g.base + g.text.length ∧ e % 2 = 0 := by
  simp only [imageOf] at h
  split at h
  case isFalse => cases h
  case isTrue hok =>
    obtain rfl := Option.some.inj h
    simp only [Bool.and_eq_true, Bool.or_eq_true, decide_eq_true_eq, beq_iff_eq, and_assoc] at hok
    obtain ⟨hver, -, -, hbase, -, htop, hlen, -, hinit, hwords, hcrc⟩ := hok
    have htext : ((b.drop 2072).take (beAt b 12 4)).length = beAt b 12 4 := by
      rw [List.length_take, List.length_drop, hlen]
      omega
    rw [← htext] at htop hlen hinit hwords
    refine ⟨hver, hbase, htop, hlen, hcrc, fun e he => ?_, fun n e d he => ?_⟩
    · dsimp only at he ⊢
      split at he
      · cases he
      case isFalse hne =>
        obtain rfl := Option.some.inj he
        exact hinit.resolve_left hne
    · have hsize : ((List.range 256).map (fun k => beAt b (24 + 8 * k) 8)).length = 256 := by simp
      dsimp only at he
      generalize (List.range 256).map (fun k => beAt b (24 + 8 * k) 8) = words at he hwords hsize
      rcases tabGet?_entries (word := fun k => words.getD k 0) (fun t k => entries_step t k _) he with he | ⟨hn, hw⟩
      · cases he
      · have hlt : n < words.length := hsize ▸ List.mem_range.1 hn
        have hok := List.all_eq_true.1 hwords _ (List.getElem_mem hlt)
        rw [List.getD_eq_getElem _ _ hlt] at hw
        rw [hw] at hok
        simp only [Bool.and_eq_true, decide_eq_true_eq, beq_iff_eq, and_assoc] at hok
        exact hok.2

theorem applyImageCommit_eq (v : Nat) (s : State) : applyImageCommit v s =
    if 4096 ≤ v then (s, .range)
    else if s.strider.swap ≠ none ∨ ∃ j ∈ (List.range 12).filter (fun j => v.testBit j), (s.squad j).staged = none then (s, .state)
    else (s.swapFrom v ((List.range 12).filter (fun j => v.testBit j)), .ok) := by
  have hwait : (s.strider.swap.isSome || ((List.range 12).filter (bit v)).any (fun k => (s.squad k).staged.isNone)) = true ↔
      s.strider.swap ≠ none ∨ ∃ j ∈ (List.range 12).filter (fun j => v.testBit j), (s.squad j).staged = none := by
    rw [Bool.or_eq_true, Option.isSome_iff_ne_none, List.any_eq_true]
    simp only [Option.isNone_iff_eq_none]
    rfl
  simp only [applyImageCommit, hwait, ge_iff_le]
  rfl

/-- A running squad of a swap drains, to swap (R221). -/
theorem swapFrom_running {mask r : Nat} (rest : List Nat) (h : (s.squad r).st = .running) : s.swapFrom mask (r :: rest) =
    ({ s with strider.swap := some (mask, r) } : State).modSquad r (fun q => { q with
      was := .running, st := .draining, goal := .swap, drainFrom := s.time.gun }) := by
  have hu : ({ s with strider.swap := some (mask, r) } : State).squad r = s.squad r := rfl
  simp only [State.swapFrom, hu, h, beq_self_eq_true, ↓reduceIte, modSquad_modSquad]
  refine modSquad_congr ?_
  simp only [hu, Squad.settled, h]
  rfl
end

/-! ## Drains, loads and the reply to a reset (R221, R434) -/

section
variable {s : State} {k : Nat}

/-- With every thread of a draining squad FREE, its goal says what becomes of it. -/
theorem drained_free (hk : k < 12) (hst : (s.squad k).st = .draining) (hfree : s.squadFree k = true) : s.drained k =
    match (s.squad k).goal with
    | .gate => s.setSquad k .gated
    | .test => s.setSquad k .test
    | .swap => if (s.install k).1 then (s.install k).2 else ((s.install k).2.swapped k).swapOn k
    | .reset => if (s.startInit k).1 then (s.startInit k).2 else (s.startInit k).2.setSquad k ((s.startInit k).2.squad k).was := by
  unfold State.drained
  refine (if_pos (by simp [hk, hst, hfree])).trans ?_
  cases (s.squad k).goal <;> rfl

theorem drained_waits (h : (s.squad k).st ≠ .draining ∨ s.squadFree k = false) : s.drained k = s := by
  unfold State.drained
  refine if_neg fun hd => ?_
  simp only [Bool.and_eq_true, decide_eq_true_eq, beq_iff_eq] at hd
  rcases h with h | h
  · exact h hd.1.2
  · exact Bool.false_ne_true (h.symm.trans hd.2)

theorem squadReply_waits (h : (s.squad k).asked = false ∨ (s.squad k).st = .draining ∨ (s.squad k).st = .loading) :
    s.squadReply k = s := by
  unfold State.squadReply
  refine if_pos ?_
  rcases h with h | h | h <;> simp [Squad.busy, h]

/-- Once the reply to a reset is due, the squad asks for it no more. -/
theorem squadReply_asked (hd : (s.squad k).st ≠ .draining) (hl : (s.squad k).st ≠ .loading) :
    ((s.squadReply k).squad k).asked = false := by
  have hclear : ∀ u : State, u.strider = (s.modSquad k (fun q => { q with asked := false })).strider → (u.squad k).asked = false := by
    intro u hu
    rw [State.squad, hu]
    exact congrArg Squad.asked (State.squad_modSquad_same s k _)
  have hbusy : (s.squad k).busy = false := by simp [Squad.busy, hd, hl]
  cases ha : (s.squad k).asked with
  | false => rw [squadReply_waits (.inl ha), ha]
  | true =>
    simp only [State.squadReply, ha, hbusy, Bool.not_true, Bool.or_self, Bool.false_eq_true, ↓reduceIte]
    split
    · exact hclear _ (congrArg (fun y => y.2.2) (deliverDue_kept _))
    · exact hclear _ rfl

theorem exec_drainLimitExpiry_late (hk : k < 12) (hst : (s.squad k).st = .draining)
    (h : (s.squad k).drainFrom + s.cfg Obj.DRAIN_LIMIT * 65536000 ≤ s.time.gun) : exec (.drainLimitExpiry k) s = .next (s.stopSquad k) := by
  have hns : s.cfg Obj.DRAIN_LIMIT * 1000 * ns = s.cfg Obj.DRAIN_LIMIT * 65536000 := Nat.mul_assoc _ 1000 65536
  have hdue := hns.symm ▸ h
  rw [exec_drainLimitExpiry, execDrainLimitExpiry]
  exact if_pos (by simp only [hk, hst, hdue, decide_true, beq_self_eq_true, Bool.and_self])

theorem exec_drainLimitExpiry_early (h : s.time.gun < (s.squad k).drainFrom + s.cfg Obj.DRAIN_LIMIT * 65536000) :
    exec (.drainLimitExpiry k) s = .next s := by
  have hns : s.cfg Obj.DRAIN_LIMIT * 1000 * ns = s.cfg Obj.DRAIN_LIMIT * 65536000 := Nat.mul_assoc _ 1000 65536
  have hdue := Nat.not_le.2 (hns.symm ▸ h)
  rw [exec_drainLimitExpiry, execDrainLimitExpiry]
  exact if_neg (by simp only [hdue, decide_false, Bool.and_false, Bool.false_eq_true, not_false_eq_true])

theorem loadLate_due (hk : k < 12) (hst : (s.squad k).st = .loading) (h : (s.squad k).loadFrom + 655360000000 ≤ s.time.gun) :
    s.loadLate k = ((s.modSquad k (fun q => { q with st := .loadFailed })).raise 2 none Obj.SQUAD_STATE k).swapOn k :=
  if_pos (by simpa [hk, hst, ns] using h)

theorem loadLate_other (h : (s.squad k).st ≠ .loading) : s.loadLate k = s := if_neg (by simp [h])
end

/-! ## Clock (R3, R223, R449) -/

section
variable (s : State) (k v highest : Nat)

/-- A recomputed VDD_CORE target changes no squad, no time and no wake (R448). -/
theorem recomputeAvs_keeps :
    s.recomputeAvs.strider = s.strider ∧ s.recomputeAvs.time = s.time ∧ s.recomputeAvs.rel.wakes = s.rel.wakes := by
  unfold State.recomputeAvs
  split <;> exact ⟨rfl, rfl, rfl⟩

theorem startFreq_strider : (s.startFreq k v highest).strider =
    (s.modSquad k (fun q => { q with freqTarget := some v, freqNext := none })).strider := by
  simp only [State.startFreq]
  split
  · split
    · exact (recomputeAvs_keeps _).1
    · rfl
  · rfl

variable {s k v}

/-- A fall of the clock asks the limiter for nothing. -/
theorem startFreq_fall (h : v < (s.squad k).freqActual) : s.startFreq k v highest =
    s.modSquad k (fun q => { q with freqTarget := some v, freqNext := none }) := if_neg (by
  simp only [Bool.and_eq_true, decide_eq_true_eq]
  exact fun hr => Nat.lt_asymm h hr.1)

/-- A rise waits for its step: 1.6 µs for each 1,000 MHz. -/
theorem startFreq_rise (h : (s.squad k).freqActual < v) (hst : (s.squad k).st ≠ .gated) : ∃ pre, (s.startFreq k v highest).rel.wakes =
    pre ++ [⟨s.time.gun, k, 1000, (v - (s.squad k).freqActual) * 1600 * 65536 / 1000, none, s.time.gun⟩] := by
  have hstep : ∀ n : Nat, n * 16 * ns / 10 = n * 1600 * 65536 / 1000 := by
    intro n
    simp only [ns]
    omega
  have hrise : (decide ((s.squad k).freqActual < v) && (s.squad k).st != .gated) = true := by simp [h, hst]
  refine ⟨s.rel.wakes, ?_⟩
  simp only [State.startFreq, hrise, ↓reduceIte, hstep]
  split
  · rw [(recomputeAvs_keeps _).2.2]
    rfl
  · rfl

theorem applySquadFreq_eq : applySquadFreq k v s =
    if ¬ (1000 ≤ v ∧ v ≤ s.freqMax ∧ v % 25 = 0) then (s, .range)
    else if (s.squad k).freqTarget ≠ none then ((s.writeNum Obj.SQUAD_FREQ k v).modSquad k (fun q => { q with freqNext := some v }), .ok)
    else if (s.squad k).freqActual = v then (s.writeNum Obj.SQUAD_FREQ k v, .ok)
    else ((s.writeNum Obj.SQUAD_FREQ k v).startFreq k v s.highestFreq, .ok) := by
  have hrange : (decide (v < 1000) || decide (s.freqMax < v) || v % 25 != 0) = true ↔ ¬ (1000 ≤ v ∧ v ≤ s.freqMax ∧ v % 25 = 0) := by
    simp only [Bool.or_eq_true, decide_eq_true_eq, bne_iff_ne]
    omega
  simp only [applySquadFreq, hrange, squad_writeNum, Option.isSome_iff_ne_none]

/-- A squad whose new clock is in effect, with a change that was asked meanwhile begun (R223). -/
def State.takeFreq (s : State) (k f : Nat) : State :=
  let u := s.modSquad k (fun q => { q with freqActual := f, freqTarget := none, freqNext := none })
  match (s.squad k).freqNext with
  | some n => if n = f then u else u.startFreq k n u.highestFreq
  | none => u

theorem exec_squadFreqChangeComplete_waits (h : (s.squad k).freqTarget = none ∨ s.wakePending k = true) :
    exec (.squadFreqChangeComplete k) s = .next s := by
  rw [exec_squadFreqChangeComplete, execSquadFreqChangeComplete]
  dsimp only
  split
  · rfl
  case h_2 f hf =>
    rcases h with h | h
    · exact absurd (h.symm.trans hf) (by simp)
    · exact if_pos h

/-- Whether VDD_CORE is computed anew then or later, the squads are those of the clock taken. -/
theorem exec_squadFreqChangeComplete_takes {f : Nat} (hf : (s.squad k).freqTarget = some f) (hw : s.wakePending k = false) :
    ∃ u, exec (.squadFreqChangeComplete k) s = .next u ∧ u.strider = (s.takeFreq k f).strider := by
  have hkeeps : ∀ (u : State) (idle due : Bool), (if idle then { (if due then u.recomputeAvs else u) with rel.avsDue := false }
      else { u with rel.avsDue := due } : State).strider = u.strider := by
    intro u idle due
    cases idle with
    | false => rfl
    | true =>
      cases due with
      | false => rfl
      | true => exact (recomputeAvs_keeps u).1
  rw [exec_squadFreqChangeComplete, execSquadFreqChangeComplete]
  dsimp only
  split
  case h_1 hn => cases hn.symm.trans hf
  case h_2 g hg =>
    obtain rfl := Option.some.inj (hg.symm.trans hf)
    rw [if_neg (by rw [hw]; exact Bool.false_ne_true)]
    refine ⟨_, rfl, (hkeeps _ _ _).trans ?_⟩
    unfold State.takeFreq
    cases (s.squad k).freqNext <;> rfl

theorem takeFreq_actual (f : Nat) : ((s.takeFreq k f).squad k).freqActual = f := by
  have hu : ((s.modSquad k (fun q => { q with freqActual := f, freqTarget := none, freqNext := none })).squad k).freqActual = f := by
    rw [State.squad_modSquad_same]
  unfold State.takeFreq
  dsimp only
  split
  · split
    · exact hu
    · rw [State.squad, startFreq_strider]
      refine (congrArg Squad.freqActual (State.squad_modSquad_same ..)).trans hu
  · exact hu

theorem takeFreq_target_none {f : Nat} (h : (s.squad k).freqNext = none ∨ (s.squad k).freqNext = some f) :
    ((s.takeFreq k f).squad k).freqTarget = none := by
  unfold State.takeFreq
  rcases h with h | h <;> simp [h]

theorem takeFreq_target_some {f n : Nat} (h : (s.squad k).freqNext = some n) (hn : n ≠ f) :
    ((s.takeFreq k f).squad k).freqTarget = some n := by
  simp only [State.takeFreq, h, hn, ↓reduceIte]
  rw [State.squad, startFreq_strider]
  exact congrArg Squad.freqTarget (State.squad_modSquad_same ..)
end

/-! ## Mode (R224) -/

section
variable {s : State} {k v : Nat}

theorem applySquadMode_range (h : 2 < v) : applySquadMode k v s = (s, .range) := if_pos h

theorem applySquadMode_taken (h : v ≤ 2) : applySquadMode k v s = ((s.writeNum Obj.SQUAD_MODE k v).setMode k v, .ok) :=
  if_neg (Nat.not_lt.2 h)

/-- A squad begins to drain, towards a goal. -/
def State.drainTo (s : State) (k : Nat) (g : DrainGoal) : State :=
  s.modSquad k (fun q => { q with st := .draining, goal := g, drainFrom := s.time.gun })

/-- What a mode makes of a squad that neither loads nor drains, by the state it is in. -/
theorem setMode_running (h : (s.squad k).st = .running) :
    s.setMode k v = if v = 0 then s.drainTo k .gate else if v = 1 then s else s.drainTo k .test := by
  simp only [State.setMode, h]
  rfl

theorem setMode_test (h : (s.squad k).st = .test) :
    s.setMode k v = if v = 0 then s.drainTo k .gate else if v = 1 then s.setSquad k .running else s := by
  simp only [State.setMode, h]
  rfl

theorem setMode_loadFailed (h : (s.squad k).st = .loadFailed) :
    s.setMode k v = if v = 0 then s.drainTo k .gate else if v = 1 then s.setSquad k .running else s.drainTo k .test := by
  simp only [State.setMode, h]
  rfl

theorem setMode_gated (h : (s.squad k).st = .gated) : s.setMode k v = if v = 0 then s else s.wakeSquad k := by
  simp only [State.setMode, h]

theorem setMode_waking (h : (s.squad k).st = .waking) : s.setMode k v =
    if v = 0 then { s.setSquad k .gated with rel.wakes := s.rel.wakes.filter (fun w => w.key != k) } else s := by
  simp only [State.setMode, h]

/-- A drain for a swap or a reset goes on, and a load: the mode is what follows it. -/
theorem setMode_busy (h : (s.squad k).st = .loading ∨
    ((s.squad k).st = .draining ∧ ((s.squad k).goal = .swap ∨ (s.squad k).goal = .reset))) :
    s.setMode k v = s.modSquad k (fun q => { q with was := modeState v }) := by
  rcases h with h | ⟨h, hg⟩
  · simp only [State.setMode, h]
  · rcases hg with hg | hg <;> simp [State.setMode, h, hg]

/-- A drain towards a gate or TEST changes its goal, or ends where the squad shall run. -/
theorem setMode_draining (h : (s.squad k).st = .draining) (hg : (s.squad k).goal = .gate ∨ (s.squad k).goal = .test) : s.setMode k v =
    if v = 0 then s.modSquad k (fun q => { q with goal := .gate })
    else if v = 1 then s.setSquad k .running
    else s.modSquad k (fun q => { q with goal := .test }) := by
  rcases hg with hg | hg <;> simp [State.setMode, h, hg]

theorem exec_squadWakeComplete_waking {t : Time} (h : (s.squad k).st = .waking) (ht : (s.squad k).wakeAt = some t) :
    exec (.squadWakeComplete k) s = .next (if t + 5000 * 65536 ≤ s.time.gun
      then s.setSquad k (if s.cfg Obj.SQUAD_MODE k = 2 then .test else .running) else s) := by
  rw [exec_squadWakeComplete, execSquadWakeComplete]
  simp only [h, ht, ns]
  split <;> rfl

theorem exec_squadWakeComplete_other (h : (s.squad k).st ≠ .waking) : exec (.squadWakeComplete k) s = .next s := by
  rw [exec_squadWakeComplete, execSquadWakeComplete]
  split
  case h_1 hst _ => exact absurd hst h
  case h_2 => rfl
end

/-- A mode that is taken: what it makes of the squad. -/
theorem writes_squadMode {s u : State} {p : Principal} {k v : Nat} (ha : AcceptsNum s p Obj.SQUAD_MODE k v) (hv : v ≤ 2)
    (hu : (s.writeNum Obj.SQUAD_MODE k v).setMode k v = u) : Writes (.squadMode p k v) s .ok u :=
  writes_num ha (exec_squadMode p k v s) rfl ((applySquadMode_taken hv).trans (by rw [hu])) (by decide)

/-- Settles O40: images and their swap, drains and loads, the reply to a reset, the clock and the mode of a squad. -/
theorem squadResults : Obligations.SquadResults := by
  intro s k i v b p
  refine ⟨fun ha => ?image, fun g hg => imageOf_some hg, fun ha => ?commit, fun r rest h => swapFrom_running rest h,
    fun hk hst hfree => ?drained, fun h => squadReply_waits h, fun _ hd hl => squadReply_asked hd hl, fun h => ?settled,
    fun h => ?drains, fun hk hst h => exec_drainLimitExpiry_late hk hst h, fun h => exec_drainLimitExpiry_early h,
    fun hk hst h => ?late, fun h => ?loaded, fun ha => ?freq, fun h => exec_squadFreqChangeComplete_waits (.inl h),
    fun _ _ h => exec_squadFreqChangeComplete_waits (.inr h), fun f hf hw => ?taken, fun ha => ?mode,
    fun g h hg => exec_squadWakeComplete_waking h hg, fun h => exec_squadWakeComplete_other h⟩
  case image =>
    exact ⟨fun h => writesBlob_refused ha (exec_imagePending p i b s) (applyImagePending_none h) (by decide),
      fun g h => writesBlob_ok ha (exec_imagePending p i b s) rfl (applyImagePending_some h)⟩
  case commit =>
    have hw : ∀ {t r}, applyImageCommit v s = (t, r) → r ≠ .busy → Writes (.imageCommit p v) s r t :=
      writes_num ha (exec_imageCommit p v s) rfl
    have he := applyImageCommit_eq v s
    refine ⟨fun h => hw (he.trans (if_pos h)) (by decide), fun h hs => hw ?_ (by decide), fun h hs hn => hw ?_ (by decide)⟩
    · exact he.trans ((if_neg (Nat.not_le.2 h)).trans (if_pos hs))
    · refine he.trans ((if_neg (Nat.not_le.2 h)).trans (if_neg ?_))
      rintro (hs' | ⟨j, hj, hj'⟩)
      · exact hs' hs
      · exact hn j hj hj'
  case drained =>
    refine ⟨fun hg => ?_, fun hg => ?_, fun hg => ?_, fun hg => ?_⟩ <;>
      rw [exec_drainComplete, execDrainComplete, drained_free hk hst hfree, hg]
  case settled => simp only [Squad.settled, h]
  case drains => rw [exec_drainComplete, execDrainComplete, drained_waits h]
  case late => rw [exec_initTimeout, execInitTimeout, loadLate_due hk hst h]
  case loaded => rw [exec_initTimeout, execInitTimeout, loadLate_other h]
  case freq =>
    have hw : ∀ {t r}, applySquadFreq i v s = (t, r) → r ≠ .busy → Writes (.squadFreq p i v) s r t :=
      writes_num ha (exec_squadFreq p i v s) rfl
    have he := applySquadFreq_eq (s := s) (k := i) (v := v)
    have hsq : (s.writeNum Obj.SQUAD_FREQ i v).squad i = s.squad i := squad_writeNum ..
    refine ⟨fun hc => hw (he.trans (if_pos hc)) (by decide), fun hc ht => hw ?_ (by decide), fun hc ht hf => hw ?_ (by decide),
      fun hc ht hf => hw ?_ (by decide), fun h => startFreq_fall _ (by rwa [hsq]), fun h hst => ?_⟩
    · exact he.trans ((if_neg (not_not.2 hc)).trans (if_pos ht))
    · exact he.trans ((if_neg (not_not.2 hc)).trans ((if_neg (not_not.2 ht)).trans (if_pos hf)))
    · exact he.trans ((if_neg (not_not.2 hc)).trans ((if_neg (not_not.2 ht)).trans (if_neg hf)))
    · have hrise := startFreq_rise (s := s.writeNum Obj.SQUAD_FREQ i v) (k := i) (v := v) s.highestFreq (by rwa [hsq]) (by rwa [hsq])
      rwa [hsq, State.writeNum_time] at hrise
  case taken =>
    obtain ⟨u, hu, hstrider⟩ := exec_squadFreqChangeComplete_takes hf hw
    have hsq : u.squad k = (s.takeFreq k f).squad k := by rw [State.squad, hstrider]; rfl
    refine ⟨u, hu, hsq ▸ takeFreq_actual f, fun h => hsq ▸ takeFreq_target_none h, fun n h hn => hsq ▸ takeFreq_target_some h hn⟩
  case mode =>
    have hsq : (s.writeNum Obj.SQUAD_MODE k v).squad k = s.squad k := squad_writeNum ..
    have hdrain : ∀ g, (s.writeNum Obj.SQUAD_MODE k v).drainTo k g = (s.writeNum Obj.SQUAD_MODE k v).modSquad k
        (fun q => { q with st := .draining, goal := g, drainFrom := s.time.gun }) := by
      intro g
      rw [State.drainTo, State.writeNum_time]
    have hset : ∀ {u}, v ≤ 2 → (s.writeNum Obj.SQUAD_MODE k v).setMode k v = u → Writes (.squadMode p k v) s .ok u := writes_squadMode ha
    have hthree : ∀ {a b c : State}, (s.writeNum Obj.SQUAD_MODE k v).setMode k v = (if v = 0 then a else if v = 1 then b else c) →
        (v = 0 → Writes (.squadMode p k v) s .ok a) ∧ (v = 1 → Writes (.squadMode p k v) s .ok b) ∧
          (v = 2 → Writes (.squadMode p k v) s .ok c) := fun he =>
      ⟨fun hv => hset (by omega) (he.trans (if_pos hv)), fun hv => hset (by omega) (he.trans ((if_neg (by omega)).trans (if_pos hv))),
        fun hv => hset (by omega) (he.trans ((if_neg (by omega)).trans (if_neg (by omega))))⟩
    refine ⟨fun h => writes_num ha (exec_squadMode p k v s) rfl (applySquadMode_range h) (by decide), fun h => ?running, fun h => ?test,
      fun h => ?gated, fun h => ?waking, fun h => ?loadFailed, fun h hg => ?draining, fun h hv => hset hv (setMode_busy (hsq ▸ h))⟩
    case running =>
      have he := setMode_running (v := v) (hsq.symm ▸ h)
      simp only [hdrain] at he
      exact hthree he
    case test =>
      have he := setMode_test (v := v) (hsq.symm ▸ h)
      simp only [hdrain] at he
      exact hthree he
    case loadFailed =>
      have he := setMode_loadFailed (v := v) (hsq.symm ▸ h)
      simp only [hdrain] at he
      exact hthree he
    case gated =>
      have he := setMode_gated (v := v) (hsq.symm ▸ h)
      exact ⟨fun hv => hset (by omega) (he.trans (if_pos hv)), fun hv => hset (by omega) (he.trans (if_neg (by omega)))⟩
    case waking =>
      have he := setMode_waking (v := v) (hsq.symm ▸ h)
      rw [State.writeNum_wakes] at he
      exact ⟨fun hv => hset (by omega) (he.trans (if_pos hv)), fun hv => hset (by omega) (he.trans (if_neg (by omega)))⟩
    case draining =>
      exact hthree (setMode_draining (hsq.symm ▸ h) (hsq.symm ▸ hg))

end Sys2Proof.Machine
end

section
/-! PROOFS. The tables, learning and balance (R165, R166, R171 to R174, R180 to R189). -/

namespace Sys2Proof.Machine

/-! ## Loads and batches of the tries (R171 to R174) -/

section
variable {s t : State} {p : Principal} {o i n : Nat} {b : Blob} {c : Instr} {r : Result}

/-- A write that accepts no load or batch is answered at once. -/
theorem deferFlip_same (h : t.tables.jobNo = s.tables.jobNo) : s.deferFlip t = t := if_neg (by rw [h]; exact Nat.lt_irrefl _)

theorem deferFlip_accepted (h : s.tables.jobNo < t.tables.jobNo) : s.deferFlip t = { t with reply := s.reply } := if_pos h

theorem writes_trieRefused {f : Blob → State → State × Result} (ha : AcceptsBlob s p o i b)
    (hc : exec c s = .next (s.deferFlip (s.writeBlobCmd p o i b f))) (hf : f b s = (s, r)) (hr : r = .range ∨ r = .state ∨ r = .overcommit) :
    Writes c s r s := by
  have hne : r ≠ .ok ∧ r ≠ .partialRes ∧ r ≠ .busy := by rcases hr with rfl | rfl | rfl <;> decide
  rw [Writes, hc, writeBlob_refused ha f (by rw [hf]; exact hne.1) (by rw [hf]; exact hne.2.1) (by rw [hf]; exact hne.2.2), hf]
  exact congrArg Host.Outcome.next (deferFlip_same rfl)

theorem writesBusy_trie {f : Blob → State → State × Result} (ha : AcceptsBlob s p o i b)
    (hc : exec c s = .next (s.deferFlip (s.writeBlobCmd p o i b f))) (hf : f b s = (s, .busy)) : WritesBusy c s s := by
  refine ⟨Config.freeNat s.free % 65536, Nat.mod_lt _ (by decide), ?_⟩
  rw [hc, State.writeBlobCmd, write_accepts ha, hf]
  exact congrArg Host.Outcome.next (deferFlip_same rfl)

/-- One that is accepted keeps the reply before it: its own is sent after the flip. -/
theorem exec_trieAccepted {f : Blob → State → State × Result} (ha : AcceptsBlob s p o i b) (ho : typeCode o = 14)
    (hc : exec c s = .next (s.deferFlip (s.writeBlobCmd p o i b f))) (hf : f b s = (t, .ok)) (hn : s.tables.jobNo < t.tables.jobNo) :
    ∃ w, exec c s = .next w ∧ w.tables = t.tables ∧ w.reply = s.reply := by
  rw [hc, writeBlob_accepts ha ho f (by rw [hf]), hf]
  refine ⟨_, congrArg Host.Outcome.next (deferFlip_accepted ?_), rfl, rfl⟩
  exact hn

/-- The nodes that a job builds are nodes of the trie that it makes. -/
theorem jobNodes_subset {load : Bool} {old : Option Trie} {g : Trie} : ∀ y ∈ (jobNodes load old (some g)).1, y ∈ g.nodes := by
  intro y hy
  cases load with
  | true => exact hy
  | false =>
    cases old with
    | none => exact hy
    | some o =>
      simp only [jobNodes] at hy
      split at hy
      · cases hy
      · exact (List.mem_filter.1 hy).1

/-- The placing of nodes draws free values, and that alone; each node has its place then. -/
theorem placeNodes_spec (s : State) (g : Trie) (ns : List (Nat × Nat)) :
    (s.placeNodes g ns).2.tables = s.tables ∧ ∀ y ∈ ns, ∃ a, tabGet? (s.placeNodes g ns).1 (nodeKey y) = some a := by
  have hfold : ∀ {f : Tab Nat × State → Nat × Nat → Tab Nat × State}, (∀ y n, (f y n).2.tables = y.2.tables) →
      (∀ y n, ∃ a, (f y n).1 = tabSet y.1 (nodeKey n) a) → ∀ z : Tab Nat × State,
      (ns.foldl f z).2.tables = z.2.tables ∧ ∀ k, (k ∈ ns.map nodeKey ∨ ∃ a, tabGet? z.1 k = some a) →
        ∃ a, tabGet? (ns.foldl f z).1 k = some a := by
    intro f hkeeps hsets
    induction ns with
    | nil => exact fun z => ⟨rfl, fun k hk => hk.resolve_left (List.not_mem_nil)⟩
    | cons m ns ih =>
      intro z
      obtain ⟨a, ha⟩ := hsets z m
      refine ⟨(ih (f z m)).1.trans (hkeeps z m), fun k hk => (ih (f z m)).2 k ?_⟩
      by_cases hkm : k = nodeKey m
      · exact .inr ⟨a, by rw [ha, hkm, tabGet?_set_same]⟩
      · rcases hk with hk | ⟨a', ha'⟩
        · exact .inl ((List.mem_cons.1 hk).resolve_left hkm)
        · exact .inr ⟨a', by rw [ha, tabGet?_set_other _ _ hkm, ha']⟩
  suffices h : (s.placeNodes g ns).2.tables = s.tables ∧ ∀ k, (k ∈ ns.map nodeKey ∨ ∃ a, tabGet? ([] : Tab Nat) k = some a) →
      ∃ a, tabGet? (s.placeNodes g ns).1 k = some a from ⟨h.1, fun y hy => h.2 _ (.inl (List.mem_map_of_mem hy))⟩
  refine hfold (fun _ _ => ?_) (fun _ _ => ?_) ([], s)
  · rfl
  · exact ⟨_, rfl⟩

/-- A trie that a job makes has a place for every node of it that was built. -/
theorem placed_built {g : Trie} {old new : Tab Nat} {y : Nat × Nat} (hy : y ∈ g.nodes) (hn : ∃ a, tabGet? new (nodeKey y) = some a) :
    ∃ a, tabGet? (g.placed old new).places (nodeKey y) = some a := by
  have hfold : ∀ {f : Tab Nat → Nat × Nat → Tab Nat}, (∀ m n, f m n = ((tabGet? new (nodeKey n)).or (tabGet? old (nodeKey n))).elim m (tabSet m (nodeKey n))) →
      ∀ (ns : List (Nat × Nat)) (z : Tab Nat), (y ∈ ns ∨ ∃ a, tabGet? z (nodeKey y) = some a) → ∃ a, tabGet? (ns.foldl f z) (nodeKey y) = some a := by
    intro f hf ns
    induction ns with
    | nil => exact fun z hz => hz.resolve_left List.not_mem_nil
    | cons m ns ih =>
      intro z hz
      refine ih _ ?_
      rw [hf]
      by_cases hkm : nodeKey y = nodeKey m
      · obtain ⟨a, ha⟩ := hn
        exact .inr ⟨a, by rw [← hkm, ha, Option.some_or, Option.elim_some, tabGet?_set_same]⟩
      · refine hz.imp (fun h => (List.mem_cons.1 h).resolve_left fun e => hkm (congrArg nodeKey e)) fun ⟨a, ha⟩ => ⟨a, ?_⟩
        cases (tabGet? new (nodeKey m)).or (tabGet? old (nodeKey m)) with
        | none => exact ha
        | some a' => rw [Option.elim_some, tabGet?_set_other _ _ hkm, ha]
  refine hfold (fun m n => ?_) _ [] (.inl hy)
  cases tabGet? new (nodeKey n) with
  | some a => rfl
  | none => cases tabGet? old (nodeKey n) <;> rfl

variable {load : Bool} {g : Option Trie}

/-- Whether the new nodes of a job fit in the free entries of every stage (R171). -/
abbrev jobFits (s : State) (n : Nat) (load : Bool) (g : Option Trie) : Prop :=
  ∀ t, g = some t → ∀ d, d < 12 → t.entriesIn (jobNodes load (s.trieAfter n) g).1 d ≤ s.stageFree d

theorem not_jobFits_iff : (!(match g with
    | some t => (List.range 12).all (fun d => t.entriesIn (jobNodes load (s.trieAfter n) g).1 d ≤ s.stageFree d)
    | none => true)) = true ↔ ¬ jobFits s n load g := by
  rw [Bool.not_eq_true', ← Bool.not_eq_true]
  cases g with
  | none => simp [jobFits]
  | some t => simp only [jobFits, List.all_eq_true, List.mem_range, decide_eq_true_eq, Option.some.injEq, forall_eq']

theorem acceptJob_overcommit (h : ¬ jobFits s n load g) : s.acceptJob n load g = (s, .overcommit) := by
  simp only [State.acceptJob]
  exact if_pos (not_jobFits_iff.2 h)

theorem acceptJob_busy (h : jobFits s n load g) (hl : 4 ≤ s.tables.jobs.length) : s.acceptJob n load g = (s, .busy) := by
  simp only [State.acceptJob]
  exact (if_neg (fun e => not_jobFits_iff.1 e h)).trans (if_pos hl)

/-- A load or batch joins those that wait for their flip. -/
def State.addJob (s : State) (n : Nat) (load : Bool) (built : List (Nat × Nat)) (q : Option Trie) : State :=
  { s with tables.jobs := s.tables.jobs ++ [(n, ⟨s.tables.jobNo, n, q, load, built⟩)], tables.jobNo := s.tables.jobNo + 1 }

theorem acceptJob_ok (h : jobFits s n load g) (hl : s.tables.jobs.length < 4) : s.acceptJob n load g =
    (let built := (jobNodes load (s.trieAfter n) g).1
    match g with
    | none => (s.addJob n load built none, .ok)
    | some t => ((s.placeNodes t built).2.addJob n load built
        (some (t.placed (((s.trieAfter n).map Trie.places).getD []) (s.placeNodes t built).1)), .ok)) := by
  simp only [State.acceptJob]
  refine (if_neg fun e => not_jobFits_iff.1 e h).trans ((if_neg (Nat.not_le.2 hl)).trans ?_)
  cases g <;> rfl

theorem acceptJob_taken (h : jobFits s n load g) (hl : s.tables.jobs.length < 4) : ∃ w q, s.acceptJob n load g = (w, .ok) ∧
    s.tables.jobNo < w.tables.jobNo ∧
    w.tables.jobs = s.tables.jobs ++ [(n, ⟨s.tables.jobNo, n, q, load, (jobNodes load (s.trieAfter n) g).1⟩)] ∧
    w.tables.tries = s.tables.tries ∧ (g = none → q = none) ∧ ∀ t, g = some t → ∃ u : Trie, q = some u ∧ u = { t with places := u.places } ∧
      ∀ y ∈ (jobNodes load (s.trieAfter n) g).1, ∃ a, tabGet? u.places (nodeKey y) = some a := by
  have hadd : ∀ (u : State) (built : List (Nat × Nat)) (q : Option Trie), u.tables = s.tables →
      s.tables.jobNo < (u.addJob n load built q).tables.jobNo ∧
      (u.addJob n load built q).tables.jobs = s.tables.jobs ++ [(n, ⟨s.tables.jobNo, n, q, load, built⟩)] ∧
      (u.addJob n load built q).tables.tries = s.tables.tries := by
    intro u built q hu
    rw [← hu]
    exact ⟨Nat.lt_succ_self _, rfl, rfl⟩
  have hok := acceptJob_ok h hl
  cases g with
  | none =>
    obtain ⟨hno, hjobs, htries⟩ := hadd s (jobNodes load (s.trieAfter n) none).1 none rfl
    exact ⟨_, none, hok, hno, hjobs, htries, fun _ => rfl, nofun⟩
  | some t =>
    obtain ⟨htab, hplaces⟩ := placeNodes_spec s t (jobNodes load (s.trieAfter n) (some t)).1
    obtain ⟨hno, hjobs, htries⟩ := hadd _ (jobNodes load (s.trieAfter n) (some t)).1
      (some (t.placed (((s.trieAfter n).map Trie.places).getD []) (s.placeNodes t (jobNodes load (s.trieAfter n) (some t)).1).1)) htab
    refine ⟨_, _, hok, hno, hjobs, htries, nofun, fun u hu => ?_⟩
    obtain rfl := Option.some.inj hu
    exact ⟨_, rfl, rfl, fun x hx => placed_built (jobNodes_subset x hx) (hplaces x hx)⟩
end

/-- What a write answers that is taken as a load or batch (R171, R173, R174). -/
theorem job_answers {s : State} {p : Principal} {o i n : Nat} {b : Blob} {c : Instr} {load : Bool} {g : Option Trie}
    {f : Blob → State → State × Result} (ha : AcceptsBlob s p o i b) (ho : typeCode o = 14)
    (hc : exec c s = .next (s.deferFlip (s.writeBlobCmd p o i b f))) (hf : f b s = s.acceptJob n load g) :
    (¬ jobFits s n load g → Writes c s .overcommit s) ∧ (jobFits s n load g → 4 ≤ s.tables.jobs.length → WritesBusy c s s) ∧
    (jobFits s n load g → s.tables.jobs.length < 4 → ∃ w q, exec c s = .next w ∧
      w.tables.jobs = s.tables.jobs ++ [(n, ⟨s.tables.jobNo, n, q, load, (jobNodes load (s.trieAfter n) g).1⟩)] ∧
      w.tables.tries = s.tables.tries ∧ w.reply = s.reply ∧ (g = none → q = none) ∧ ∀ t, g = some t → ∃ u : Trie, q = some u ∧
        u = { t with places := u.places } ∧ ∀ y ∈ (jobNodes load (s.trieAfter n) g).1, ∃ a, tabGet? u.places (nodeKey y) = some a) := by
  refine ⟨fun h => writes_trieRefused ha hc (hf.trans (acceptJob_overcommit h)) (by decide),
    fun h hl => writesBusy_trie ha hc (hf.trans (acceptJob_busy h hl)), fun h hl => ?_⟩
  obtain ⟨w, q, hok, hno, hjobs, htries, hq⟩ := acceptJob_taken h hl
  obtain ⟨u, hu, htab, hreply⟩ := exec_trieAccepted ha ho hc (hf.trans hok) hno
  exact ⟨u, q, hu, by rw [htab, hjobs], by rw [htab, htries], hreply, hq⟩

section
variable {s : State} {n : Nat} {b : Blob}

/-- The strides of a descriptor (Table 6.2), one nibble for each level. -/
theorem strideNibbles {d levels : Nat} (h : levels ≤ 12) : (List.range levels).map (fun k => bits d (47 - 4 * k) (44 - 4 * k) + 1) =
    (List.range levels).map (fun k => d / 2 ^ (44 - 4 * k) % 16 + 1) := by
  refine List.map_congr_left fun k hk => ?_
  have hlt := List.mem_range.1 hk
  rw [bits, show 47 - 4 * k + 1 - (44 - 4 * k) = 4 by omega]
  rfl

theorem applyTrieLoad_length (h : b.length < 20 ∨ b.length ≠ 20 + 24 * beAt b 16 4) : applyTrieLoad n b s = (s, .range) :=
  if_pos (by simpa using h)

/-- A descriptor that is not VALID empties the trie (R172). -/
theorem applyTrieLoad_empty (hb : b.length = 20) (hc : beAt b 16 4 = 0) (hd : beAt b 0 16 < 2 ^ 127) :
    applyTrieLoad n b s = s.acceptJob n true none := by
  have hv : bit (beAt b 0 16) 127 = false := Nat.testBit_lt_two_pow hd
  simp only [applyTrieLoad, hb, hc, hv]
  rfl

/-- A VALID descriptor with no level, or with a plan wider than any key, is refused. -/
theorem applyTrieLoad_plan (hlen : b.length = 20 + 24 * beAt b 16 4) (hv : (beAt b 0 16).testBit 127 = true)
    (hbad : (List.range (bits (beAt b 0 16) 123 120)).map (fun k => beAt b 0 16 / 2 ^ (44 - 4 * k) % 16 + 1) = [] ∨
      128 < ((List.range (bits (beAt b 0 16) 123 120)).map (fun k => beAt b 0 16 / 2 ^ (44 - 4 * k) % 16 + 1)).sum) :
    applyTrieLoad n b s = (s, .range) := by
  have hlong : (decide (b.length < 20) || b.length != 20 + 24 * beAt b 16 4) = false := by simp [hlen]
  have hvalid : (!bit (beAt b 0 16) 127) = false := by rw [bit, hv]; rfl
  simp only [applyTrieLoad, hlong, hvalid, Bool.false_eq_true, ↓reduceIte]
  refine if_pos ?_
  generalize bits (beAt b 0 16) 123 120 = levels at hbad ⊢
  by_cases hmax : 12 < levels
  · simp only [hmax, decide_true, Bool.or_true, Bool.true_or]
  rw [strideNibbles (Nat.not_lt.1 hmax)]
  rcases hbad with hbad | hbad
  · have hzero : levels = 0 := by simpa using hbad
    simp only [hzero, decide_true, Bool.or_true, Bool.true_or]
  · have hwide : (if bit (beAt b 0 16) 126 = true then 128 else 32) ≤ 128 := by split <;> decide
    simp only [Nat.lt_of_le_of_lt hwide hbad, decide_true, Bool.or_true]

/-- One with a plan that fits its keys is a load of its prefixes, each of which the plan reaches. -/
theorem applyTrieLoad_taken {ps : List (Nat × TriePrefix)} (hlen : b.length = 20 + 24 * beAt b 16 4)
    (hv : (beAt b 0 16).testBit 127 = true) (hone : 1 ≤ bits (beAt b 0 16) 123 120) (hmax : bits (beAt b 0 16) 123 120 ≤ 12)
    (hclean : ∀ d, d < 12 → bits (beAt b 0 16) 123 120 ≤ d → beAt b 0 16 / 2 ^ (44 - 4 * d) % 16 = 0)
    (hsum : ((List.range (bits (beAt b 0 16) 123 120)).map (fun k => beAt b 0 16 / 2 ^ (44 - 4 * k) % 16 + 1)).sum ≤
      if (beAt b 0 16).testBit 126 then 128 else 32)
    (hps : prefixesOf ((beAt b 0 16).testBit 126) b 20 (beAt b 16 4) = some ps)
    (hreach : ∀ q ∈ ps, q.1 = 1 ∧
      q.2.plen ≤ ((List.range (bits (beAt b 0 16) 123 120)).map (fun k => beAt b 0 16 / 2 ^ (44 - 4 * k) % 16 + 1)).sum) :
    applyTrieLoad n b s = s.acceptJob n true (some ⟨(beAt b 0 16).testBit 126, bits (beAt b 0 16) 119 112,
      (List.range (bits (beAt b 0 16) 123 120)).map (fun k => beAt b 0 16 / 2 ^ (44 - 4 * k) % 16 + 1), [], ps.map Prod.snd⟩) := by
  have hlong : (decide (b.length < 20) || b.length != 20 + 24 * beAt b 16 4) = false := by simp [hlen]
  have hvalid : (!bit (beAt b 0 16) 127) = false := by rw [bit, hv]; rfl
  have hzero : ∀ k < 12, bits (beAt b 0 16) 123 120 ≤ k → bits (beAt b 0 16) (47 - 4 * k) (44 - 4 * k) = 0 := by
    intro k hk hle
    rw [bits, show 47 - 4 * k + 1 - (44 - 4 * k) = 4 by omega]
    exact hclean k hk hle
  simp only [applyTrieLoad, hlong, hvalid, Bool.false_eq_true, ↓reduceIte]
  rw [strideNibbles hmax]
  generalize (List.range (bits (beAt b 0 16) 123 120)).map (fun k => beAt b 0 16 / 2 ^ (44 - 4 * k) % 16 + 1) = strides at hsum hreach ⊢
  refine (if_neg ?_).trans ?_
  · simp only [Bool.or_eq_true, Bool.not_eq_true', decide_eq_true_eq, ← Bool.not_eq_true, List.all_eq_true, List.mem_range, beq_iff_eq, not_or,
      not_not]
    refine ⟨⟨⟨fun k hk => ?_, by omega⟩, by omega⟩, Nat.not_lt.2 hsum⟩
    exact (Nat.lt_or_ge k _).imp_right (hzero k hk)
  · rw [show prefixesOf (bit (beAt b 0 16) 126) b 20 (beAt b 16 4) = some ps from hps]
    refine if_neg ?_
    simp only [List.any_eq_true, Bool.or_eq_true, bne_iff_ne, decide_eq_true_eq, not_exists, not_and, not_or, not_not]
    exact fun q hq => ⟨(hreach q hq).1, Nat.not_lt.2 (hreach q hq).2⟩

variable {t : Trie}

theorem applyTrieBatch_none (h : s.trieAfter (beAt b 0 1) = none) : applyTrieBatch b s = (s, .range) := by
  simp only [applyTrieBatch, h]

theorem applyTrieBatch_range (h : s.trieAfter (beAt b 0 1) = some t) (hbad : 64 ≤ beAt b 0 1 ∨ beAt b 2 2 = 0 ∨ 4096 < beAt b 2 2 ∨
    b.length ≠ 8 + 24 * beAt b 2 2 ∨ prefixesOf t.wide b 8 (beAt b 2 2) = none) : applyTrieBatch b s = (s, .range) := by
  simp only [applyTrieBatch, h, Bool.or_eq_true, decide_eq_true_eq, bne_iff_ne, or_assoc]
  by_cases hshape : 64 ≤ beAt b 0 1 ∨ beAt b 2 2 = 0 ∨ 4096 < beAt b 2 2 ∨ b.length ≠ 8 + 24 * beAt b 2 2
  · exact if_pos hshape
  · have hnone : prefixesOf t.wide b 8 (beAt b 2 2) = none := by tauto
    rw [if_neg hshape, hnone]

/-- A batch of one record that adds: it takes the place of a record of its name. -/
theorem applyTrieBatch_add {q : TriePrefix} (h : s.trieAfter (beAt b 0 1) = some t) (hn : beAt b 0 1 < 64) (hc : beAt b 2 2 = 1)
    (hb : b.length = 32) (hps : prefixesOf t.wide b 8 1 = some [(1, q)]) (hreach : q.plen ≤ t.strides.sum) :
    applyTrieBatch b s = s.acceptJob (beAt b 0 1) false (some { t with
      prefixes := t.prefixes.filter (fun y => !(q.plen == y.plen && q.bits == y.bits)) ++ [q] }) := by
  simp only [applyTrieBatch, h, hc, hps]
  refine (if_neg (by simp [hn, hb])).trans ((if_neg (by simp [hreach])).trans ?_)
  simp
end

/-! ## The flip, the free nodes and the bank map (R166, R173) -/

section
variable {s : State} {n : Nat} {j : TrieJob} {rest : List (Nat × TrieJob)}

theorem flip_spec : (s.flip n j rest).tables.jobs = rest ∧ tabGet? (s.flip n j rest).tables.tries n = j.result ∧
    (∀ m, m ≠ n → tabGet? (s.flip n j rest).tables.tries m = tabGet? s.tables.tries m) ∧
    (s.flip n j rest).cfg Obj.TRIE_FLIPS n = (s.cfg Obj.TRIE_FLIPS n + 1) % 2 ^ 32 := by
  refine ⟨rfl, ?_, fun m hm => ?_, cfg_setCfg_same _ _ _ _⟩
  · simp only [State.flip, State.setCfg]
    cases j.result with
    | none => exact tabGet?_del_same _ _
    | some t => exact tabGet?_set_same _ _ _
  · simp only [State.flip, State.setCfg]
    cases j.result with
    | none => exact tabGet?_del_other _ hm
    | some t => exact tabGet?_set_other _ _ hm

/-- The flip of a job and its reply: the reply's way out changes nothing of what was flipped. -/
theorem exec_trieFlip_job (h : s.tables.jobs = (n, j) :: rest) : ∃ w, exec .trieFlip s = .next w ∧ w.kept = (s.flip n j rest).kept ∧
    ((∀ h ∈ s.mgmt.held, j.no ∉ h.jobs) → w.reply = ⟨.ok, [], 0⟩) := by
  rw [exec_trieFlip, execTrieFlip, h]
  dsimp only
  split
  case isTrue hheld =>
    refine ⟨_, rfl, deliverDue_kept _, fun hno => ?_⟩
    obtain ⟨y, hy, hj⟩ := List.any_eq_true.1 hheld
    exact absurd (by simpa using hj) (hno y hy)
  case isFalse => exact ⟨_, rfl, rfl, fun _ => rfl⟩

theorem applyBankMap_eq (b : Blob) : applyBankMap b s =
    if ¬ (b.length = 128 ∧ ∀ y ∈ b, y.toNat ≤ 11) then (s, .range)
    else if s.tables.tries ≠ [] ∨ s.tables.jobs ≠ [] then (s, .state)
    else (s.writeBlob Obj.BANK_MAP 0 b, .ok) := by
  have hmap : (b.length != 128 || b.any (fun x => x.toNat > 11)) = true ↔ ¬ (b.length = 128 ∧ ∀ y ∈ b, y.toNat ≤ 11) := by
    simp [imp_iff_not_or]
  have huse : (!s.tables.tries.isEmpty || !s.tables.jobs.isEmpty) = true ↔ s.tables.tries ≠ [] ∨ s.tables.jobs ≠ [] := by
    simp only [Bool.or_eq_true, Bool.not_eq_true', List.isEmpty_eq_false_iff]
  simp only [applyBankMap, hmap, huse]

theorem exec_nodeFree_spec : ∃ w, exec .nodeFree s = .next w ∧ w = { s with tables.freeing := w.tables.freeing } ∧
    ∀ y, y ∈ w.tables.freeing ↔ y ∈ s.tables.freeing ∧ s.time.gun * 9 < y.since * 9 + 64 * 5 * 65536 := by
  rw [exec_nodeFree, execNodeFree]
  refine ⟨_, rfl, rfl, fun y => List.mem_filter.trans (and_congr_right fun _ => ?_)⟩
  rw [decide_eq_true_eq]
end

/-! ## Counters, work items and records of the error log (R364, R385, R417) -/

section
variable {s : State}

theorem cfg_count_same (o i : Nat) : (s.count o i).cfg o i = min (s.cfg o i + 1) (2 ^ 64 - 1) := cfg_setCfg_same s o i _

theorem cfg_count_other {o i o' i' : Nat} (h : objKey o' i' ≠ objKey o i) : (s.count o i).cfg o' i' = s.cfg o' i' := cfg_setCfg_other s _ h

theorem post_tables (q tenant what : Nat) : (s.post q tenant what).tables = s.tables := by
  simp only [State.post]
  split
  · split <;> rfl
  · rfl

/-- A work item counts at most what a full queue loses. -/
theorem cfg_post {o i : Nat} (q tenant what : Nat) (hcard : objKey o i ≠ objKey Obj.FAULT_CARDS_LOST 0)
    (hover : objKey o i ≠ objKey Obj.WORKQ_OVERFLOWS q) : (s.post q tenant what).cfg o i = s.cfg o i := by
  simp only [State.post]
  split
  · rw [cfg_count_other hover]
    split
    · exact cfg_count_other hcard
    · rfl
  · rfl

theorem logError_tables (source severity att : Nat) (tenant : Option Nat) (o i detail : Nat) :
    (s.logError source severity att tenant o i detail).tables = s.tables := by
  have hcount : ∀ (full : Prop) [Decidable full], (if full then s.count Obj.ERROR_LOG_OVERWRITTEN else s).tables = s.tables := by
    intro full _
    split <;> rfl
  simp only [State.logError]
  split <;> split
  · rfl
  · exact (post_tables ..).trans (hcount _)
  · rfl
  · exact (post_tables ..).trans (hcount _)

/-- A record of the error log counts at most the record and the work item that give way to it. -/
theorem cfg_logError {o i : Nat} (source severity att : Nat) (tenant : Option Nat) (o' i' detail : Nat)
    (hlost : objKey o i ≠ objKey Obj.ERROR_LOG_OVERWRITTEN 0) (hcard : objKey o i ≠ objKey Obj.FAULT_CARDS_LOST 0)
    (hover : objKey o i ≠ objKey Obj.WORKQ_OVERFLOWS 5) : (s.logError source severity att tenant o' i' detail).cfg o i = s.cfg o i := by
  have hcount : ∀ (full : Prop) [Decidable full],
      (if full then s.count Obj.ERROR_LOG_OVERWRITTEN else s).cfg o i = s.cfg o i := by
    intro full _
    split
    · exact cfg_count_other hlost
    · rfl
  simp only [State.logError]
  split <;> split
  · rfl
  · exact (cfg_post _ _ _ hcard hover).trans (hcount _)
  · rfl
  · exact (cfg_post _ _ _ hcard hover).trans (hcount _)

theorem sramEvent_tables (u addr : Nat) (e : Ecc) : (s.sramEvent u addr e).tables = s.tables := by
  cases e with
  | clean => rfl
  | corrected => exact logError_tables ..
  | uncorrectable => exact logError_tables ..
end

/-! ## The audit and the restoring of entries (R188, R189) -/

section
variable {s : State} {k n : Nat} {e : Ecc} {differs poisoned : Bool} {tbl : ShadowTable}

theorem follows_iff (a : Audit) : a.follows k n = true ↔ a.table < k ∨ (a.table = k ∧ a.entry ≤ n) ∨ a.table = 9 := by
  simp only [Audit.follows, Bool.or_eq_true, Bool.and_eq_true, decide_eq_true_eq, beq_iff_eq, or_assoc]

/-- The audit passes over an entry without DRAM, out of its order, and in a trie table under a load or batch. -/
theorem auditSkips_iff : (s.noDram || !s.tables.audit.follows k n || ((k = 0 || k = 1) && !s.tables.jobs.isEmpty)) = true ↔
    s.noDram = true ∨ ¬ (s.tables.audit.table < k ∨ (s.tables.audit.table = k ∧ s.tables.audit.entry ≤ n) ∨ s.tables.audit.table = 9) ∨
      (k ≤ 1 ∧ s.tables.jobs ≠ []) := by
  rw [Bool.or_eq_true, Bool.or_eq_true, Bool.not_eq_true', ← Bool.not_eq_true, follows_iff, Bool.and_eq_true, Bool.or_eq_true,
    decide_eq_true_eq, decide_eq_true_eq, Bool.not_eq_true', List.isEmpty_eq_false_iff, or_assoc, ← Nat.le_one_iff_eq_zero_or_eq_one]

theorem exec_auditCompare_eq : exec (.auditCompare tbl n e differs poisoned) s = .next
    (if s.noDram = true ∨ ¬ (s.tables.audit.table < ShadowTable.code tbl ∨ (s.tables.audit.table = ShadowTable.code tbl ∧ s.tables.audit.entry ≤ n) ∨
      s.tables.audit.table = 9) ∨ (ShadowTable.code tbl ≤ 1 ∧ s.tables.jobs ≠ []) then s
    else ((s.auditAt (ShadowTable.code tbl) n).auditEntry (ShadowTable.code tbl) n e differs poisoned).auditDone (ShadowTable.code tbl) n) := by
  rw [exec_auditCompare, execAuditCompare]
  simp only [auditSkips_iff]
  split <;> rfl

theorem auditAt_place : (s.auditAt k n).tables.audit.table = k ∧ (s.auditAt k n).tables.audit.entry = n + 1 := by
  refine ⟨?_, rfl⟩
  simp only [State.auditAt]
  split
  case isTrue h => exact h
  case isFalse => rfl

theorem mem_invalidate : (k, n) ∈ (s.invalidate k n).tables.invalid := by
  simp only [State.invalidate]
  split
  case isTrue h => exact List.contains_iff_mem.1 h
  case isFalse => exact List.mem_cons_self ..

theorem auditEntry_uncorrectable : (k, n) ∈ (s.auditEntry k n .uncorrectable differs poisoned).tables.invalid := mem_invalidate

/-- A poisoned shadow is noted and counted, not compared. -/
theorem auditEntry_poisoned (he : e ≠ .uncorrectable) (h : poisoned = true ∨ (k, n) ∈ s.tables.shadowBad) :
    s.auditEntry k n e differs poisoned = ({ s.sramEvent (auditUnit k) n e with
      tables.shadowBad := if (k, n) ∈ s.tables.shadowBad then s.tables.shadowBad else (k, n) :: s.tables.shadowBad } : State).count
        Obj.AUDIT_POISON_SKIPS := by
  have hne : (e == .uncorrectable) = false := beq_eq_false_iff_ne.2 he
  have hbad : (poisoned || s.tables.shadowBad.contains (k, n)) = true := by simpa using h
  simp only [State.auditEntry, hne, sramEvent_tables, hbad, ↓reduceIte, Bool.false_eq_true, List.contains_iff_mem]

theorem auditEntry_compared (he : e ≠ .uncorrectable) (hp : poisoned = false) (h : (k, n) ∉ s.tables.shadowBad) :
    s.auditEntry k n e differs poisoned = if differs then
      (({ s.sramEvent (auditUnit k) n e with tables.audit.mismatch := true } : State).count Obj.AUDIT_MISMATCHES).logError 3 1 2 none
        Obj.AUDIT_MISMATCHES 0 (k * 2 ^ 56 + n)
      else s.sramEvent (auditUnit k) n e := by
  have hne : (e == .uncorrectable) = false := beq_eq_false_iff_ne.2 he
  have hbad : (poisoned || s.tables.shadowBad.contains (k, n)) = false := by simpa [hp] using h
  simp only [State.auditEntry, hne, sramEvent_tables, hbad, ↓reduceIte, Bool.false_eq_true, auditDetail]

theorem auditDone_within (h : ¬ (k, n) = (9, 65535)) : s.auditDone k n = s :=
  if_neg (by simpa using h)

/-- The last member word ends the pass. -/
theorem auditDone_last (hk : k = 9) : (s.auditDone k 65535).starter.rebuilding = false ∧ (s.auditDone k 65535).tables.audit =
    ⟨9, 65536, false, s.time.gun, (s.time.gun - s.tables.audit.since) / 65536000 % 2 ^ 32⟩ := by
  subst hk
  have hleaves : s.auditLeaves.time = s.time ∧ s.auditLeaves.tables.audit = s.tables.audit := by
    simp only [State.auditLeaves]
    split <;> exact ⟨rfl, rfl⟩
  have hdone : s.auditDone 9 65535 = { s.auditLeaves with
      starter.rebuilding := false
      tables.audit := ⟨9, 65536, false, s.auditLeaves.time.gun,
        (s.auditLeaves.time.gun - s.auditLeaves.tables.audit.since) / 65536000 % 2 ^ 32⟩ } := rfl
  rw [hdone]
  refine ⟨rfl, ?_⟩
  dsimp only
  rw [hleaves.1, hleaves.2]

theorem exec_tableEntryRestore_none (h : (ShadowTable.code tbl, n) ∉ s.tables.invalid ∨ (ShadowTable.code tbl, n) ∈ s.tables.shadowBad) :
    exec (.tableEntryRestore tbl n poisoned) s = .next s := by
  rw [exec_tableEntryRestore, execTableEntryRestore]
  exact if_pos (by simpa using h)

section
variable (hi : (ShadowTable.code tbl, n) ∈ s.tables.invalid) (hs : (ShadowTable.code tbl, n) ∉ s.tables.shadowBad)
include hi hs

/-- An entry restored from its shadow is valid again, it alone. -/
theorem exec_tableEntryRestore_good : ∃ w, exec (.tableEntryRestore tbl n false) s = .next w ∧
    (ShadowTable.code tbl, n) ∉ w.tables.invalid ∧
    (∀ y, y ≠ (ShadowTable.code tbl, n) → (y ∈ w.tables.invalid ↔ y ∈ s.tables.invalid)) ∧
    w.cfg Obj.TABLE_ECC_REPAIRS = min (s.cfg Obj.TABLE_ECC_REPAIRS + 1) (2 ^ 64 - 1) := by
  have hgo : (!s.tables.invalid.contains (ShadowTable.code tbl, n) || s.tables.shadowBad.contains (ShadowTable.code tbl, n)) = false := by
    simp [hi, hs]
  rw [exec_tableEntryRestore, execTableEntryRestore]
  simp only [hgo, Bool.false_eq_true, ↓reduceIte]
  refine ⟨_, rfl, ?_, fun y hy => ?_, ?_⟩
  · rw [logError_tables]
    simp [State.count, State.countN, State.setCfg]
  · rw [logError_tables]
    simp [State.count, State.countN, State.setCfg, hy]
  · rw [cfg_logError _ _ _ _ _ _ _ (by decide) (by decide) (by decide), cfg_count_same]
    rfl

/-- One whose shadow is poisoned stays lost. -/
theorem exec_tableEntryRestore_lost : ∃ w, exec (.tableEntryRestore tbl n true) s = .next w ∧
    (ShadowTable.code tbl, n) ∈ w.tables.invalid ∧ (ShadowTable.code tbl, n) ∈ w.tables.shadowBad ∧
    w.cfg Obj.TABLE_ENTRIES_LOST = min (s.cfg Obj.TABLE_ENTRIES_LOST + 1) (2 ^ 64 - 1) := by
  have hgo : (!s.tables.invalid.contains (ShadowTable.code tbl, n) || s.tables.shadowBad.contains (ShadowTable.code tbl, n)) = false := by
    simp [hi, hs]
  rw [exec_tableEntryRestore, execTableEntryRestore]
  simp only [hgo, Bool.false_eq_true, ↓reduceIte]
  refine ⟨_, rfl, ?_, ?_, ?_⟩
  · rw [logError_tables]
    exact hi
  · rw [logError_tables]
    exact List.mem_cons_self ..
  · rw [cfg_logError _ _ _ _ _ _ _ (by decide) (by decide) (by decide), cfg_count_same]
    rfl
end
end

/-! ## Ageing, static records, flushes and the seed (R165, R180, R181) -/

section
variable {s : State} {x : LearnPlace × LearnEntry}

theorem ageOne_fixed (h : x.2.fixed = true) : s.ageOne x = s := if_pos h

theorem ageOne_hit (h : x.2.fixed = false) (hh : x.2.hit = true) : s.ageOne x = s.putLearn x.1 { x.2 with hit := false, age := 0 } :=
  (if_neg (by simp [h])).trans (if_pos hh)

theorem ageOne_older (h : x.2.fixed = false) (hh : x.2.hit = false) (ha : x.2.age < 2) :
    s.ageOne x = s.putLearn x.1 { x.2 with age := x.2.age + 1 } :=
  (if_neg (by simp [h])).trans ((if_neg (by simp [hh])).trans (if_pos ha))

theorem ageOne_aged (h : x.2.fixed = false) (hh : x.2.hit = false) (ha : 2 ≤ x.2.age) :
    s.ageOne x = ((s.dropLearn x.1).count Obj.AGED).postLearn x.2 .aged :=
  (if_neg (by simp [h])).trans ((if_neg (by simp [hh])).trans (if_neg (Nat.not_lt.2 ha)))

theorem exec_ageingVisit_eq : exec .ageingVisit s =
    .next (if s.cfg Obj.AGE_INTERVAL = 0 then s else (s.learnEntries.map (fun z => z.2.key)).foldl State.ageKey s) := by
  rw [exec_ageingVisit, execAgeingVisit]
  split <;> rfl

variable {b : Blob} {r : Nat × LearnKey × Nat × Nat}

theorem applyLearnStaticData_range (h : beAt b 0 2 = 0 ∨ 1024 < beAt b 0 2 ∨ b.length ≠ 8 + 16 * beAt b 0 2) :
    applyLearnStaticData b s = ((s, .range), []) := by
  refine if_pos ?_
  simp only [Bool.or_eq_true, decide_eq_true_eq, bne_iff_ne, or_assoc]
  rcases h with h | h | h
  · exact .inl h
  · exact .inr (.inl h)
  · exact .inr (.inr (.inl h))

/-- A batch of one static record. -/
theorem applyLearnStaticData_one (hc : beAt b 0 2 = 1) (hb : b.length = 24) (hr : staticRecord ((b.drop 8).take 16) = some r) :
    applyLearnStaticData b s =
      if (s.applyStatic r).1 = true then (((s.applyStatic r).2, .ok), []) else (((s.applyStatic r).2, .partialRes), [0]) := by
  have hrs : (List.range 1).filterMap (fun k => staticRecord ((b.drop (8 + 16 * k)).take 16)) = [r] := by simp [hr]
  have happly : s.applyStatics [r] 0 = (if (s.applyStatic r).1 = true then 1 else 0, (s.applyStatic r).2) := by
    simp only [State.applyStatics]
    obtain ⟨placed, u⟩ := s.applyStatic r
    cases placed <;> rfl
  simp only [applyLearnStaticData, hc, hb, hrs, happly]
  cases (s.applyStatic r).1 <;> rfl

variable {p : Principal} {i v : Nat}

theorem exec_learnStatic_eq (ha : AcceptsBlob s p Obj.LEARN_STATIC 0 b) {t : State} {q : Result} {data : Blob}
    (hf : applyLearnStaticData b s = ((t, q), data)) (hq : q ≠ .busy) : exec (.learnStatic p b) s =
    .next { (if q = .ok ∨ q = .partialRes then t.bumpGen Obj.LEARN_STATIC 0 else t) with
      reply := ⟨q, if q = .partialRes then data else [], 0⟩ } := by
  have hf' : applyLearnStatic b s = (t, q) := congrArg Prod.fst hf
  rw [exec_learnStatic, execLearnStatic, write_accepts ha, hf', hf]
  cases q
  case busy => exact absurd rfl hq
  all_goals rfl

theorem applyLearnFlush_range (h : v ≠ 1 ∧ v ≠ 2) : applyLearnFlush i v s = (s, .range) := if_pos (by simpa using h)

theorem applyLearnFlush_ok (h : v = 1 ∨ v = 2) : ∃ w, applyLearnFlush i v s = (w, .ok) := by
  refine ⟨_, if_neg ?_⟩
  rcases h with rfl | rfl <;> decide

/-- A flush that meets no entry to remove changes nothing. -/
theorem applyLearnFlush_none (h : v = 1 ∨ v = 2)
    (hnone : s.learnEntries.all (fun y => y.2.tenant != i || (v == 1 && y.2.fixed)) = true) : applyLearnFlush i v s = (s, .ok) := by
  have hdead : s.learnEntries.filter (fun (x : LearnPlace × LearnEntry) => x.2.tenant == i && (v == 2 || !x.2.fixed)) = [] := by
    refine List.filter_eq_nil_iff.2 fun y hy => ?_
    have hkeep := List.all_eq_true.1 hnone y hy
    rcases h with rfl | rfl <;> simpa [imp_iff_not_or] using hkeep
  have hv : (v != 1 && v != 2) = false := by rcases h with rfl | rfl <;> rfl
  simp only [applyLearnFlush, hv, hdead]
  rfl

/-- What the seed may be set in: no entry, fragment or rule that was hashed under another. -/
abbrev seedClear (s : State) : Prop :=
  s.allIdle = true ∧ (∀ y ∈ s.learnEntries, y.2.fixed = true) ∧ s.parser.frags = [] ∧ s.parser.rules = []

theorem seedBarred_iff : (!s.allIdle || s.learnEntries.any (fun (x : LearnPlace × LearnEntry) => !x.2.fixed) || !s.parser.frags.isEmpty ||
    !s.parser.rules.isEmpty) = true ↔ ¬ seedClear s := by
  rw [← Bool.not_eq_false, not_iff_not]
  simp only [Bool.or_eq_false_iff, Bool.not_eq_false', List.any_eq_false, Bool.not_eq_true', Bool.not_eq_false, List.isEmpty_iff, and_assoc,
    seedClear]

theorem applyHashTestSeed_length (h : b.length ≠ 16) : applyHashTestSeed b s = (s, .range) := if_pos (by simpa using h)

theorem applyHashTestSeed_barred (hb : b.length = 16) (h : ¬ seedClear s) : applyHashTestSeed b s = (s, .state) :=
  (if_neg (by simp [hb])).trans (if_pos (seedBarred_iff.2 h))

theorem applyHashTestSeed_set (hb : b.length = 16) (h : seedClear s) :
    applyHashTestSeed b s = ({ s with tables.seed := beNat b, tables.salt := 0 }, .ok) :=
  (if_neg (by simp [hb])).trans (if_neg fun hbar => seedBarred_iff.1 hbar h)
end

/-! ## Groups, the reseed and polarization (R183, R186, R187) -/

section
variable {s : State} {g v : Nat} {b : Blob}

/-- What R183 asks of a group: its length, its count and its members' ports. -/
abbrev groupOk (b : Blob) : Prop := 8 + 4 * groupCount b = b.length ∧ groupCount b ≤ 256 ∧
  ∀ m, m < groupCount b → groupMember b m / 2 ^ 26 % 32 ≤ 16 ∨ groupMember b m / 2 ^ 26 % 32 = 31

theorem groupBad_iff : (decide (b.length < 8) || decide (256 < groupCount b) || b.length != 8 + 4 * groupCount b ||
    (List.range (groupCount b)).any (fun m => 16 < bits (groupMember b m) 30 26 && bits (groupMember b m) 30 26 != 31)) = true ↔
    ¬ groupOk b := by
  have hport : ∀ m, bits (groupMember b m) 30 26 = groupMember b m / 2 ^ 26 % 32 := fun _ => rfl
  rw [← Bool.not_eq_false, not_iff_not]
  simp only [Bool.or_eq_false_iff, List.any_eq_false, List.mem_range, Bool.and_eq_true, decide_eq_true_eq, decide_eq_false_iff_not,
    bne_iff_ne, bne_eq_false_iff_eq, hport, not_and_or, not_not, not_lt, groupOk]
  generalize groupCount b = n
  exact ⟨fun ⟨⟨⟨_, hn⟩, hl⟩, hm⟩ => ⟨hl.symm, hn, hm⟩, fun ⟨hl, hn, hm⟩ => ⟨⟨⟨by omega, hn⟩, hl.symm⟩, hm⟩⟩

theorem applyGroup_bad (h : ¬ groupOk b) : applyGroup g b s = (s, .range) := if_pos (groupBad_iff.2 h)

theorem applyGroup_full (h : groupOk b) (hm : 65536 < s.memberWords + groupCount b) : applyGroup g b s = (s, .overcommit) :=
  (if_neg fun hbad => groupBad_iff.1 hbad h).trans (if_pos hm)

theorem applyGroup_stored (h : groupOk b) (hm : s.memberWords + groupCount b ≤ 65536) :
    applyGroup g b s = (s.writeBlob Obj.GROUP g (groupStored b), .ok) :=
  (if_neg fun hbad => groupBad_iff.1 hbad h).trans (if_neg (Nat.not_lt.2 hm))

/-- Bits 25 and 24 of a member word are reserved, and all but bit 7 of byte 2 (R4, R183). -/
theorem groupStored_eq : groupStored b = b.take 2 ++ beBytes 1 (beAt b 2 1 / 128 * 128) ++ (b.drop 3).take 1 ++ [0, 0, 0, 0] ++
    (List.range (groupCount b)).flatMap (fun m => beBytes 4 (groupMember b m - groupMember b m / 2 ^ 24 % 4 * 2 ^ 24)) := rfl

theorem applyReseedLap_eq : applyReseedLap v s =
    if 2 ^ 48 ≤ v then (s, .range)
    else if v = 2 ^ 48 - 1 then (s.writeNum Obj.RESEED_LAP 0 v, .ok)
    else if ¬ (1 ≤ lapsAhead s v ∧ lapsAhead s v ≤ 2 ^ 47 - 1 ∧ s.time.gun + 10000 * 65536 ≤ s.lapStartIn (lapsAhead s v)) then (s, .state)
    else (s.writeNum Obj.RESEED_LAP 0 v, .ok) := by
  have hlap : (!lapOk v) = true ↔ 2 ^ 48 ≤ v := by simp only [lapOk, Bool.not_eq_true', decide_eq_false_iff_not, not_lt]
  have hled : (!lapFuture s v || decide (s.lapStartIn (lapsAhead s v) < s.time.gun + 10000 * ns)) = true ↔
      ¬ (1 ≤ lapsAhead s v ∧ lapsAhead s v ≤ 2 ^ 47 - 1 ∧ s.time.gun + 10000 * 65536 ≤ s.lapStartIn (lapsAhead s v)) := by
    simp only [lapFuture, ns, Bool.or_eq_true, Bool.not_eq_true', Bool.and_eq_false_iff, decide_eq_false_iff_not, decide_eq_true_eq,
      not_and_or, not_le, or_assoc]
  simp only [applyReseedLap, hlap, hled]

/-- The end of a window judges each monitored group that was heard of. -/
theorem exec_polarWindowEnd_eq : exec .polarWindowEnd s = .next { s.tables.bytesOut.foldl (fun (u : State) y => u.judgeGroup y.1 y.2)
    { s with tables.polarSince := s.tables.polarSince.filter (fun z => (tabGet? s.tables.bytesOut z.1).isSome) } with
    tables.bytesOut := [] } := by
  have hheard : ∀ z : Nat × Nat, (!(tabGet? s.tables.bytesOut z.1).isNone) = (tabGet? s.tables.bytesOut z.1).isSome := fun z => by
    rw [Option.not_isNone]
  rw [exec_polarWindowEnd, execPolarWindowEnd]
  simp only [hheard]

/-- The imbalance of a group is the share of its busiest member, as percent of an even share. -/
theorem cfg_judgeGroup {counts : Tab Nat} (hg : g < 4096) (hmon : (beAt (s.blb Obj.GROUP g) 2 1).testBit 7 = true)
    (hn : 2 ≤ groupCount (s.blb Obj.GROUP g)) (hpos : 0 < (counts.map Prod.snd).sum)
    (hmin : s.cfg Obj.POLAR_MIN_BYTES ≤ (counts.map Prod.snd).sum) : (s.judgeGroup g counts).cfg Obj.IMBALANCE g =
      100 * (counts.map Prod.snd).foldl max 0 * groupCount (s.blb Obj.GROUP g) / (counts.map Prod.snd).sum := by
  have hkey : ∀ o i, o ≠ 0x3228 → i < 4096 → objKey Obj.IMBALANCE g ≠ objKey o i := by
    intro o i ho hi
    simp only [objKey, Obj.IMBALANCE]
    omega
  have hjudged : (!bit (beAt (s.blb Obj.GROUP g) 2 1) 7 || decide (groupCount (s.blb Obj.GROUP g) < 2) ||
      decide ((counts.map Prod.snd).sum < s.cfg Obj.POLAR_MIN_BYTES) || decide ((counts.map Prod.snd).sum = 0)) = false := by
    simp [bit, hmon, Nat.lt_of_succ_le hn, hmin, Nat.pos_iff_ne_zero.1 hpos]
  simp only [State.judgeGroup, hjudged, Bool.false_eq_true, ↓reduceIte]
  split
  · split
    · rw [cfg_post 6 0 g (hkey _ _ (by decide) (by decide)) (hkey _ _ (by decide) (by decide))]
      exact (cfg_count_other (hkey _ _ (by decide) (by decide))).trans (cfg_setCfg_same ..)
    · exact cfg_setCfg_same ..
  · exact cfg_setCfg_same ..
end

/-- Settles O41: loads, batches and flips of the tries, the audit and its repairs, ageing, static records and flushes, groups and their balance. -/
theorem tableResults : Obligations.TableResults := by
  intro s p i v n b tbl e differs poisoned j rest t x
  refine ⟨fun ha => ?load, fun ha => ?batch, fun h => ?idle, fun h => ?flip, exec_nodeFree_spec, fun ha => ?bankMap, fun h => ?skips,
    fun hd hf hj => ?compares, auditAt_place, fun he => ?lost, fun he h => auditEntry_poisoned he h,
    fun he hp h => auditEntry_compared he hp h, fun h => auditDone_within h, fun h => ?done, fun h => exec_tableEntryRestore_none h,
    fun hi hs => exec_tableEntryRestore_good hi hs, fun hi hs => exec_tableEntryRestore_lost hi hs, exec_ageingVisit_eq,
    fun h => ageOne_fixed h, fun h hh => ageOne_hit h hh, fun h hh ha => ageOne_older h hh ha, fun h hh ha => ageOne_aged h hh ha,
    fun ha => ?static, fun ha => ?flush, fun ha => ?seed, fun ha => ?group, fun ha => ?reseed, ⟨_, exec_polarWindowEnd_eq, rfl, rfl⟩,
    fun y hn hy hmon hcount hpos hmin => ?polar⟩
  case load =>
    have hc := exec_trieLoad p i b s
    have hno : applyTrieLoad i b s = (s, .range) → Writes (.trieLoad p i b) s .range s :=
      fun hf => writes_trieRefused ha hc hf (by decide)
    refine ⟨fun h => hno (applyTrieLoad_length h), fun hb hcnt hd => job_answers ha rfl hc (applyTrieLoad_empty hb hcnt hd),
      fun ps hlen hv hone hmax hclean hsum hps hreach => job_answers ha rfl hc (applyTrieLoad_taken hlen hv hone hmax hclean hsum hps hreach),
      fun _ hlen hv hbad => hno (applyTrieLoad_plan hlen ?_ hbad)⟩
    rw [Nat.testBit_eq_decide_div_mod_eq]
    exact decide_eq_true hv
  case batch =>
    have hc := exec_trieBatch p b s
    exact ⟨fun h => writes_trieRefused ha hc (applyTrieBatch_none h) (by decide),
      fun h hbad => writes_trieRefused ha hc (applyTrieBatch_range h hbad) (by decide),
      fun q h hn hcnt hb hps hreach => job_answers ha rfl hc (applyTrieBatch_add h hn hcnt hb hps hreach)⟩
  case idle => rw [exec_trieFlip, execTrieFlip, h]
  case flip =>
    obtain ⟨w, hw, hkept, hreply⟩ := exec_trieFlip_job h
    obtain ⟨hjobs, htrie, hothers, hcount⟩ := flip_spec (s := s) (n := n) (j := j) (rest := rest)
    have hnum : w.num = (s.flip n j rest).num := congrArg Prod.fst hkept
    have htab : w.tables = (s.flip n j rest).tables := congrArg (fun y => y.2.1) hkept
    refine ⟨w, hw, by rw [htab, hjobs], by rw [htab, htrie], fun m hm => by rw [htab, hothers m hm], ?_, hreply⟩
    rw [← hcount, State.cfg, hnum]
    rfl
  case bankMap =>
    have he := applyBankMap_eq (s := s) b
    have hno : ∀ {t r}, applyBankMap b s = (t, r) → (r = .range ∨ r = .state ∨ r = .overcommit) → Writes (.bankMap p b) s r t :=
      writesBlob_refused ha (exec_bankMap p b s)
    refine ⟨fun h => hno (he.trans (if_pos h)) (by decide), fun h hu => hno (he.trans ((if_neg (not_not.2 h)).trans (if_pos hu))) (by decide),
      fun h ht hj => writesBlob_ok ha (exec_bankMap p b s) rfl (he.trans ((if_neg (not_not.2 h)).trans (if_neg ?_)))⟩
    rw [ht, hj]
    simp
  case skips => exact exec_auditCompare_eq.trans (congrArg Host.Outcome.next (if_pos h))
  case compares =>
    refine exec_auditCompare_eq.trans (congrArg Host.Outcome.next (if_neg ?_))
    rintro (h | h | ⟨h1, h2⟩)
    · exact Bool.false_ne_true (hd.symm.trans h)
    · exact h hf
    · exact hj.elim (fun h3 => absurd (Nat.le_trans h3 h1) (by decide)) h2
  case lost =>
    subst he
    exact auditEntry_uncorrectable
  case done =>
    obtain ⟨hk, rfl⟩ := Prod.mk.inj h
    exact auditDone_last hk
  case static =>
    refine ⟨fun h => ?_, fun r hcnt hb hr hok => ?_, fun r hcnt hb hr hno => ?_⟩
    · exact exec_learnStatic_eq ha (applyLearnStaticData_range h) (by decide)
    · exact exec_learnStatic_eq ha ((applyLearnStaticData_one hcnt hb hr).trans (if_pos hok)) (by decide)
    · refine ⟨_, exec_learnStatic_eq ha ((applyLearnStaticData_one hcnt hb hr).trans (if_neg ?_)) (by decide), rfl⟩
      rw [hno]
      exact Bool.false_ne_true
  case flush =>
    have hw : ∀ {t r}, applyLearnFlush i v s = (t, r) → r ≠ .busy → Writes (.learnFlush p i v) s r t :=
      writes_num ha (exec_learnFlush p i v s) rfl
    refine ⟨fun h => hw (applyLearnFlush_range h) (by decide), fun h hnone => hw (applyLearnFlush_none h hnone) (by decide), fun h => ?_⟩
    obtain ⟨w, hok⟩ := applyLearnFlush_ok (s := s) (i := i) h
    exact ⟨w, hw hok (by decide)⟩
  case seed =>
    have hno : ∀ {t r}, applyHashTestSeed b s = (t, r) → (r = .range ∨ r = .state ∨ r = .overcommit) → Writes (.hashTestSeed p b) s r t :=
      writesBlob_refused ha (exec_hashTestSeed p b s)
    exact ⟨fun h => hno (applyHashTestSeed_length h) (by decide), fun hb h => hno (applyHashTestSeed_barred hb h) (by decide),
      fun hb h => ⟨_, writesBlob_ok ha (exec_hashTestSeed p b s) rfl (applyHashTestSeed_set hb h), rfl, rfl⟩⟩
  case group =>
    have hno : ∀ {t r}, applyGroup i b s = (t, r) → (r = .range ∨ r = .state ∨ r = .overcommit) → Writes (.group p i b) s r t :=
      writesBlob_refused ha (exec_group p i b s)
    refine ⟨fun h => hno (applyGroup_bad h) (by decide), fun h hm => hno (applyGroup_full h hm) (by decide), fun h hm => ?_⟩
    have hok := applyGroup_stored (g := i) h hm
    rw [groupStored_eq] at hok
    exact writesBlob_ok ha (exec_group p i b s) rfl hok
  case reseed =>
    have hw : ∀ {t r}, applyReseedLap v s = (t, r) → r ≠ .busy → Writes (.reseedLap p v) s r t :=
      writes_num ha (exec_reseedLap p v s) rfl
    have he := applyReseedLap_eq (s := s) (v := v)
    refine ⟨fun h => hw (he.trans (if_pos h)) (by decide), fun h hl => hw ?_ (by decide), fun h => hw ?_ (by decide)⟩
    · exact he.trans ((if_neg (by omega)).trans ((if_neg (by omega)).trans (if_pos hl)))
    · rcases h with h | ⟨h, hl⟩
      · exact he.trans ((if_neg (by omega)).trans (if_pos h))
      · refine he.trans ((if_neg (by omega)).trans ?_)
        split
        · rfl
        · exact if_neg (not_not.2 hl)
  case polar =>
    refine ⟨_, exec_polarWindowEnd_eq, ?_⟩
    rw [hy]
    exact cfg_judgeGroup hn hmon hcount hpos hmin

end Sys2Proof.Machine
end

section
/-! PROOFS. What the buffer pool's operations and the starts of frames leave alone (R262 to R269, R289). -/

namespace Sys2Proof.Machine

/-! ## What an allocation changes is the pool alone (R261, R262) -/

/-- The state with a pool. -/
def State.withPool (s : State) (x : Pool) : State := { s with buf.pool := x }

/-- A cell is popped from the pool, whatever the rest of the state. -/
theorem popCell_withPool (s t : State) (k : Nat) :
    (t.withPool s.buf.pool).popCell k = (s.popCell k).map (fun x => (x.1, t.withPool x.2.buf.pool)) := by
  have hstack : (t.withPool s.buf.pool).stack k = s.stack k := rfl
  simp only [State.popCell, hstack]
  split
  · rfl
  · split <;> rfl

theorem popCell_pool {s u : State} {k c : Nat} (h : s.popCell k = some (c, u)) : u = s.withPool u.buf.pool := by
  have he := popCell_withPool s s k
  rw [show s.withPool s.buf.pool = s from rfl, h] at he
  exact (Prod.mk.inj (Option.some.inj he)).2

theorem popChain_withPool (s t : State) (k n : Nat) :
    (t.withPool s.buf.pool).popChain k n = (s.popChain k n).map (fun x => (x.1, t.withPool x.2.buf.pool)) := by
  induction n with
  | zero => rfl
  | succ n ih =>
    rw [State.popChain, State.popChain, ih]
    cases s.popChain k n with
    | none => rfl
    | some x =>
      simp only [Option.map_some, popCell_withPool x.2 t k]
      cases x.2.popCell k <;> rfl

/-- What a frame is given lies in the pool; the rest of the state counts by its gun time alone (R262, R263). -/
theorem allocFrame_withPool {s t : State} (ht : t.time = s.time) (k len grp : Nat) :
    (t.withPool s.buf.pool).allocFrame k len grp = (s.allocFrame k len grp).map (fun x => (x.1, t.withPool x.2.buf.pool)) := by
  have hopen : tabGet? (t.withPool s.buf.pool).buf.pool.openHalf (k * 64 + grp) = tabGet? s.buf.pool.openHalf (k * 64 + grp) := rfl
  simp only [State.allocFrame, State.allocCells, hopen, popCell_withPool, popChain_withPool]
  split
  · cases tabGet? s.buf.pool.openHalf (k * 64 + grp) with
    | some x => rfl
    | none =>
      cases hpop : s.popCell k with
      | none => rfl
      | some x =>
        have htime : x.2.time = t.time := by
          rw [popCell_pool hpop, ht]
          rfl
        simp only [Option.map_some, State.setCell, State.withPool, State.cell, htime]
  · rcases s.popChain k (cellsFor len) with - | ⟨- | ⟨c, cs⟩, u⟩ <;> rfl

theorem allocFrame_pool {s u : State} {k len grp a : Nat} (h : s.allocFrame k len grp = some (a, u)) : u = s.withPool u.buf.pool := by
  have he := allocFrame_withPool (s := s) (t := s) rfl k len grp
  rw [show s.withPool s.buf.pool = s from rfl, h] at he
  exact (Prod.mk.inj (Option.some.inj he)).2

/-! ## What the ends of copies leave alone -/

/-- What left the device, and the queues: the pool's operations and the Starter's submissions touch neither. -/
def State.sending (s : State) : List Emission × Tab Queue := (s.out, s.buf.queues)

theorem sending_out {s t : State} (h : t.sending = s.sending) : t.out = s.out := (Prod.mk.inj h).1

theorem sending_queue {s t : State} (h : t.sending = s.sending) (q : Nat) : t.queue q = s.queue q := by
  rw [State.queue, (Prod.mk.inj h).2, State.queue]

theorem post_sending (s : State) (q tenant what : Nat) : (s.post q tenant what).sending = s.sending := by
  unfold State.post
  dsimp only
  split
  · split <;> rfl
  · rfl

theorem logError_sending (s : State) (source severity att : Nat) (tenant : Option Nat) (o i detail : Nat) :
    (s.logError source severity att tenant o i detail).sending = s.sending := by
  have hraise : ∀ u : State, (if att = 0 then u else u.raise att tenant o i).sending = u.sending := fun u => by split <;> rfl
  unfold State.logError
  dsimp only
  rw [hraise]
  split
  · rfl
  · rw [post_sending]
    split <;> rfl

theorem refuseBaton_sending (s : State) (b : Nat) : (s.refuseBaton b).sending = s.sending := by
  have hraise : ∀ (quiet : Bool) (u : State),
      (if quiet then u else { u with buf.pool.lastRaise := some u.time.gun }).sending = u.sending := fun quiet u => by cases quiet <;> rfl
  unfold State.refuseBaton
  dsimp only
  rw [logError_sending]
  exact hraise _ _

theorem pushCell_sending (s : State) (c : Nat) : (s.pushCell c).sending = s.sending := by
  unfold State.pushCell
  dsimp only
  split
  · rfl
  · split <;> rfl

theorem release_sending (s : State) (b : Nat) : (s.release b).sending = s.sending := by
  unfold State.release State.decRef
  split
  · exact refuseBaton_sending s b
  · dsimp only
    split
    · exact refuseBaton_sending s b
    · split
      · exact foldl_keeps (g := State.sending) (fun u c _ => pushCell_sending u c) _
      · rfl

theorem releaseCopy_sending (s : State) (c : Copy) : (s.releaseCopy c).sending = s.sending := by
  unfold State.releaseCopy State.forget
  split <;> exact release_sending s c.baton

theorem exchangeCells_sending (s : State) (b : Nat) : (s.exchangeCells b).2.sending = s.sending := by
  unfold State.exchangeCells
  dsimp only
  split
  · rfl
  · refine foldl_keeps (g := State.sending) (fun u c _ => ?_) s
    split
    case h_1 => rfl
    case h_2 r w hw =>
      rw [popCell_pool hw]
      rfl

/-- The retention copy of a slab is kept or released in the pool (R99, R267). -/
theorem retain_sending (s : State) (p : Nat) (c : Copy) : (s.retain p c).sending = s.sending := by
  unfold State.retain
  split
  · exact releaseCopy_sending s c
  · split
    · exact releaseCopy_sending s c
    · split
      · exact releaseCopy_sending s c
      · dsimp only
        split
        · exact exchangeCells_sending s c.baton
        · exact (releaseCopy_sending _ c).trans (exchangeCells_sending s c.baton)

theorem submitStarter_sending {s t : State} {w : Blob} {cls port sub fid : Nat} (h : s.submitStarter w cls port sub = some (fid, t)) :
    t.sending = s.sending := by
  unfold State.submitStarter at h
  generalize (if packs 3 w.length then 1 else cellsFor w.length) = n at h
  dsimp only at h
  split at h
  · cases h
  · split at h
    · cases h
    case h_2 b u hu =>
      obtain ⟨-, rfl⟩ := Prod.mk.inj (Option.some.inj h)
      rw [allocFrame_pool hu]
      rfl

theorem starterFlush_sending (s : State) : s.starterFlush.sending = s.sending := by
  refine foldl_keeps (g := fun (y : List StarterSend × State) => y.2.sending) (fun y x _ => ?_) (([], s) : List StarterSend × State)
  split
  · rfl
  · split
    case h_1 h => exact submitStarter_sending h
    case h_2 => rfl

/-! ## What the start of a frame changes (R285, R289) -/

/-- The pacers of a queue pay in their own tables. -/
theorem pacersTake_on (s : State) (q n : Nat) :
    ∃ y z, s.pacersTake q n = { s with buf.qpacers := y, buf.tpacers := z } := by
  unfold State.pacersTake
  dsimp only
  split
  · exact ⟨_, _, rfl⟩
  · split <;> split <;> exact ⟨_, _, rfl⟩

/-- The head of a queue goes to the wire, and the copies behind it stay. -/
theorem startHead_queue {s : State} {q : Nat} {c : Copy} {rest : List Copy} (h : (s.queue q).copies = c :: rest) :
    ((s.startHead q).queue q).copies = rest ∧ ((s.startHead q).queue q).wire = (s.queue q).wire ++ [c] := by
  rw [State.startHead, State.queue_modQueue_same, h]
  cases rest <;> exact ⟨rfl, rfl⟩

/-- A ring's place and its posted descriptors stay as a head starts. -/
theorem startHead_ring (s : State) (q : Nat) :
    ((s.startHead q).queue q).posted = (s.queue q).posted ∧ ((s.startHead q).queue q).ringHead = (s.queue q).ringHead := by
  rw [State.startHead, State.queue_modQueue_same]
  split <;> exact ⟨rfl, rfl⟩

end Sys2Proof.Machine
end

section
/-! PROOFS. Selection, launch, the end on the wire and missed launches (R21, R58, R59, R93, R105, R107, R128, R278, R284, R285, R287). -/

namespace Sys2Proof.Machine

/-! ## Selection (R21, R285) -/

section
variable {s : State} {p sub : Nat}

/-- The queues of a sub-port whose head may start. -/
def State.ableQueues (s : State) (p sub : Nat) : List Nat :=
  s.busyQueues.filter (fun q => s.qPort q == p && s.qSub q == sub && s.headMayStart q)

/-- The sub-port with no queue selected. -/
def State.unselect (s : State) (p sub : Nat) : State := s.modPort p (fun x => { x with sel := tabDel x.sel sub })

theorem selHolds_iff : s.selHolds p sub = true ↔ ∃ r, tabGet? (s.port p).sel sub = some r ∧ s.headMayStart r = true := by
  unfold State.selHolds
  cases tabGet? (s.port p).sel sub <;> simp

theorem qClass_le (s : State) (q : Nat) : s.qClass q ≤ 7 := Nat.le_of_lt_succ (Nat.mod_lt _ (by decide))

/-- The least of a number and a list is one of them, and none of them lies below it. -/
theorem foldl_min_spec (l : List Nat) (a : Nat) :
    (l.foldl min a = a ∨ l.foldl min a ∈ l) ∧ l.foldl min a ≤ a ∧ ∀ c ∈ l, l.foldl min a ≤ c := by
  induction l generalizing a with
  | nil => simp
  | cons c l ih =>
    obtain ⟨hin, hle, hall⟩ := ih (min a c)
    simp only [List.foldl_cons, List.mem_cons, forall_eq_or_imp]
    refine ⟨?_, by omega, by omega, hall⟩
    rcases hin with hin | hin
    · omega
    · exact .inr (.inr hin)

/-- The lowest class of some queues is that of one of them. -/
theorem foldl_min_class (s : State) {l : List Nat} (h : l ≠ []) :
    (∃ q ∈ l, s.qClass q = (l.map s.qClass).foldl min 7) ∧ ∀ q ∈ l, (l.map s.qClass).foldl min 7 ≤ s.qClass q := by
  obtain ⟨hin, hle, hall⟩ := foldl_min_spec (l.map s.qClass) 7
  refine ⟨?_, fun q hq => hall _ (List.mem_map_of_mem hq)⟩
  rcases hin with hin | hin
  · obtain ⟨q, hq⟩ := List.exists_mem_of_ne_nil l h
    have hmin := hall _ (List.mem_map_of_mem hq)
    have hmax := qClass_le s q
    exact ⟨q, hq, by omega⟩
  · exact List.mem_map.1 hin

/-- A list that is not empty has a queue of smallest tag (R285). -/
theorem smallestTag_some (s : State) {l : List Nat} (h : l ≠ []) : ∃ r ∈ l, s.smallestTag l = some r := by
  induction l with
  | nil => exact absurd rfl h
  | cons q l ih =>
    rw [State.smallestTag]
    cases hr : s.smallestTag l with
    | none => exact ⟨q, List.mem_cons_self .., rfl⟩
    | some r =>
      have hne : l ≠ [] := by
        rintro rfl
        cases hr
      obtain ⟨r', hmem, hr'⟩ := ih hne
      obtain rfl := Option.some.inj (hr.symm.trans hr')
      by_cases hb : vBefore (s.ftag r) (s.ftag q) = true
      · exact ⟨r, List.mem_cons_of_mem q hmem, if_pos hb⟩
      · exact ⟨q, List.mem_cons_self .., if_neg hb⟩

theorem exec_egressSelection_holds (h : s.selHolds p sub = true) : exec (.egressSelection p sub) s = .next s := if_pos h

/-- A selection that may not start is given up where no queue may (log 124). -/
theorem exec_egressSelection_none (h : s.selHolds p sub = false) (hable : (s.unselect p sub).ableQueues p sub = []) :
    exec (.egressSelection p sub) s = .next (s.unselect p sub) := by
  rw [State.ableQueues] at hable
  rw [exec_egressSelection, execEgressSelection, if_neg (by simp [h])]
  unfold State.unselect at hable ⊢
  simp only [hable, List.map_nil, List.filter_nil, State.smallestTag]

/-- Of the queues that may start one of the lowest class is taken, and its tag becomes the virtual time of that class. -/
theorem exec_egressSelection_takes (h : s.selHolds p sub = false) (hable : (s.unselect p sub).ableQueues p sub ≠ []) :
    ∃ r ∈ (s.unselect p sub).ableQueues p sub, (∀ o ∈ (s.unselect p sub).ableQueues p sub, s.qClass r ≤ s.qClass o) ∧
      exec (.egressSelection p sub) s = .next ((s.unselect p sub).modPort p (fun x => { x with
        sel := tabSet x.sel sub r, vtime := tabSet x.vtime (sub * 8 + s.qClass r) (s.ftag r) })) := by
  obtain ⟨⟨q, hq, hc⟩, hmin⟩ := foldl_min_class (s.unselect p sub) hable
  have hlow : ((s.unselect p sub).ableQueues p sub).filter (fun o => (s.unselect p sub).qClass o ==
      (((s.unselect p sub).ableQueues p sub).map (s.unselect p sub).qClass).foldl min 7) ≠ [] :=
    List.ne_nil_of_mem (List.mem_filter.2 ⟨hq, beq_iff_eq.2 hc⟩)
  obtain ⟨r, hr, htag⟩ := smallestTag_some (s.unselect p sub) hlow
  obtain ⟨hmem, hclass⟩ := List.mem_filter.1 hr
  have hclass : s.qClass r = _ := beq_iff_eq.1 hclass
  refine ⟨r, hmem, fun o ho => hclass ▸ hmin o ho, ?_⟩
  rw [exec_egressSelection, execEgressSelection, if_neg (by simp [h]), hclass]
  unfold State.unselect State.ableQueues at htag ⊢
  simp only [htag]
  rfl

/-! ## Launch (R58, R93, R105) -/

variable {q : Nat} {c : Copy} {rest : List Copy}

theorem exec_frameLaunch_unselected (h : tabGet? (s.port p).sel sub = none) : exec (.frameLaunch p sub) s = .next s := by
  simp only [exec_frameLaunch, execFrameLaunch, h]

theorem exec_frameLaunch_empty (h : tabGet? (s.port p).sel sub = some q) (hc : (s.queue q).copies = []) :
    exec (.frameLaunch p sub) s = .next (s.unselect p sub) := by
  simp only [exec_frameLaunch, execFrameLaunch, h, hc, State.unselect]

theorem exec_frameLaunch_waits (h : tabGet? (s.port p).sel sub = some q) (hm : s.headMayStart q = false) (hc : (s.queue q).copies ≠ []) :
    exec (.frameLaunch p sub) s = .next s := by
  obtain ⟨c, rest, hc⟩ := List.exists_cons_of_ne_nil hc
  simp only [exec_frameLaunch, execFrameLaunch, h, hc, hm, Bool.not_false, Bool.or_true, if_true]

/-- The departure of a Delay_Req is a time of the clock alone (R46). -/
theorem ptpDeparts_on (s : State) (p : Nat) (f : Frame) : ∃ x, s.ptpDeparts p f = { s with time := x } := by
  unfold State.ptpDeparts
  split
  · split
    · dsimp only
      split <;> exact ⟨_, rfl⟩
    · exact ⟨_, rfl⟩
  · exact ⟨_, rfl⟩

theorem serveNotice_on (s : State) (p : Nat) (f : Frame) : ∃ x, s.serveNotice p f = { s with relay := x } := by
  unfold State.serveNotice
  split <;> exact ⟨_, rfl⟩

/-- The sub-port takes the head, which starts at its nominal time. -/
def State.launched (s : State) (p sub q : Nat) (c : Copy) : State :=
  (s.startHead q).modPort p (fun x => { x with
    sel := tabDel x.sel sub, tx := tabSet x.tx sub ⟨q, s.qClass q, c, s.txTime p⟩, ctlRun := 0
    sent := if isPsiot p && s.qClass q ≥ 2 then tabUpd x.sent (s.qClass q) 0 (fun n => (n + c.wire / 40) % 2 ^ 32) else x.sent })

theorem launched_port (s : State) (p sub q : Nat) (c : Copy) :
    tabGet? ((s.launched p sub q c).port p).tx sub = some ⟨q, s.qClass q, c, s.txTime p⟩ ∧
      tabGet? ((s.launched p sub q c).port p).sel sub = none := by
  rw [State.launched, State.port_modPort_same]
  exact ⟨tabGet?_set_same _ _ _, tabGet?_del_same _ _⟩

/-- What follows a launch leaves the port and the queue as the launch made them. -/
theorem exec_frameLaunch_starts (h : tabGet? (s.port p).sel sub = some q) (hc : (s.queue q).copies = c :: rest) (hp : p < 16)
    (hfree : tabGet? (s.port p).tx sub = none) (hawake : (s.port p).sleep = .awake) (hm : s.headMayStart q = true) :
    ∃ t, exec (.frameLaunch p sub) s = .next t ∧ t.port p = (s.launched p sub q c).port p ∧ t.queue q = (s.startHead q).queue q := by
  have hgo : (decide (p ≥ 16) || (tabGet? (s.port p).tx sub).isSome || (s.port p).sleep != .awake || !s.headMayStart q) = false := by
    simp [hfree, hawake, hm, hp]
  have hlaunched : (s.launched p sub q c) = (s.startHead q).modPort p (fun x => { x with
      sel := tabDel x.sel sub, tx := tabSet x.tx sub ⟨q, (s.startHead q).qClass q, c, (s.startHead q).txTime p⟩, ctlRun := 0
      sent := if isPsiot p && (s.startHead q).qClass q ≥ 2 then
        tabUpd x.sent ((s.startHead q).qClass q) 0 (fun n => (n + c.wire / 40) % 2 ^ 32) else x.sent }) := rfl
  obtain ⟨y, z, hpay⟩ := pacersTake_on (s.launched p sub q c) q c.wire
  simp only [exec_frameLaunch, execFrameLaunch, h, hc, hgo, Bool.false_eq_true, if_false, ← hlaunched, hpay]
  split
  case h_1 f _ =>
    refine ⟨_, rfl, ?_⟩
    obtain ⟨x, hx⟩ := ptpDeparts_on { s.launched p sub q c with buf.qpacers := y, buf.tpacers := z } p f
    rw [hx]
    split
    · obtain ⟨r, hr⟩ := serveNotice_on { s.launched p sub q c with buf.qpacers := y, buf.tpacers := z, time := x } p f
      rw [hr]
      exact ⟨rfl, rfl⟩
    · exact ⟨rfl, rfl⟩
  case h_2 => exact ⟨_, rfl, rfl, rfl⟩

/-! ## The end on the wire (R107, R278) -/

variable {w : OnWire} {f : Frame} {x : Shell}

theorem exec_frameTransmitEnd_idle (h : tabGet? (s.port p).tx sub = none) (e : Ecc) : exec (.frameTransmitEnd p sub e) s = .next s := by
  simp only [exec_frameTransmitEnd, execFrameTransmitEnd, h]

theorem exec_frameTransmitEnd_uncorrectable (h : tabGet? (s.port p).tx sub = some w) (hf : s.frame? w.copy.fid = some f) :
    exec (.frameTransmitEnd p sub .uncorrectable) s = .next ((s.sramEvent 28 (bCell w.copy.baton * 32) .uncorrectable).stomp p sub 1 false) := by
  simp only [exec_frameTransmitEnd, execFrameTransmitEnd, h, hf, if_true]

/-- What a copy's bytes are padded to on the wire: whole flits on Psiot (R107). -/
theorem padded_eq (s : State) (p : Nat) (f : Frame) (c : Copy) (cls : Nat) : s.padded p f c cls =
    if p < 14 then s.outBytes p f c cls ++ List.replicate (40 * flitsOf ((s.outBytes p f c cls).length - 36) -
      (36 + ((s.outBytes p f c cls).length - 36))) 0 else s.outBytes p f c cls := by
  simp only [State.padded, isPsiot, decide_eq_true_eq, framePad]

/-- A copy that has left whole counts as sent. -/
def State.countSent (s : State) (p sub : Nat) (w : OnWire) (f : Frame) : State :=
  (((s.emit (.frame p sub w.copy.fid (s.padded p f w.copy w.cls) w.started)).count Obj.DEQUEUED w.q).countN Obj.BYTES_OUT w.q w.copy.wire).count
    Obj.FRAMES_TX p

/-- A marked copy on Psiot is counted. -/
def State.countMark (s : State) (p : Nat) (w : OnWire) : State := if w.copy.ce = true ∧ p < 14 then s.count Obj.CE_MARKS w.q else s

theorem exec_frameTransmitEnd_whole (h : tabGet? (s.port p).tx sub = some w) (hf : s.frame? w.copy.fid = some f) (hw : f.whole = true)
    (hb : s.shellBuilt w.copy.fid = true) (ht : w.started + s.wireTime p w.copy.wire ≤ s.time.gun) :
    let marked := (s.countSent p sub w f).countMark p w
    let off := State.offWire (if f.relay then marked.captureOutput p w.copy.fid f else marked) p sub w
    exec (.frameTransmitEnd p sub .clean) s = .next (State.starterFlush (if w.cls = 0 then off.retain p w.copy else off.releaseCopy w.copy)) := by
  have hnow : ¬ s.time.gun < w.started + s.wireTime p w.copy.wire := Nat.not_lt.2 ht
  have hmark : ∀ u : State, (if (w.copy.ce && isPsiot p) = true then u.count Obj.CE_MARKS w.q else u) = u.countMark p w := by
    simp only [State.countMark, isPsiot, Bool.and_eq_true, decide_eq_true_eq, implies_true]
  have hclean : ¬ Ecc.clean = Ecc.uncorrectable := by decide
  simp only [exec_frameTransmitEnd, execFrameTransmitEnd, h, hf, if_neg hclean, State.sramEvent, hw, hb, Bool.not_true, Bool.false_or,
    decide_eq_true_eq, hnow, if_false, hmark, State.countSent, beq_iff_eq]

/-! ## Stomps (R93, R128) -/

/-- A stomp leaves the device behind what left it before; nothing else leaves with it. -/
theorem stomp_out (h : tabGet? (s.port p).tx sub = some w) (reason : Nat) (keep : Bool) : (s.stomp p sub reason keep).out = s.out ++
    [.stomp p sub w.copy.fid (s.sentBytes p w)
      (if p < 14 then flitBytes 9 0 (beBytes 1 reason) else (fcs (s.sentBytes p w)).map (fun z => ~~~z)) (p == 14 || p == 15)] := by
  have hfree : ∀ u : State, (if isPsiot p = true then u.modPort p (fun y => { y with wireFree := u.time.gun + u.wireTime p 40 }) else u).out =
      u.out := fun u => by split <;> rfl
  have hend : ∀ u : State, (if keep = true then u.retain p w.copy else u.releaseCopy w.copy).out = u.out := fun u => by
    split
    · exact sending_out (retain_sending u p w.copy)
    · exact sending_out (releaseCopy_sending u w.copy)
  simp only [State.stomp, h, hend, hfree]
  simp only [isPsiot, decide_eq_true_eq]
  rfl

theorem exec_streamUnderrun_stomps (h : tabGet? (s.port p).tx 0 = some w) (hx : s.shellOf w.copy.fid = some x) (hb : x.built = false)
    (hsent : 256 * s.cellsFilled x ≤ (s.time.gun - w.started) * s.rateOut p / (8 * 65536)) :
    exec (.streamUnderrun p) s = .next ((s.count Obj.UNDERRUNS x.t).stomp p 0 2 true) := by
  have hgo : (x.built || decide ((s.time.gun - w.started) * s.rateOut p / (8 * ns) < 256 * s.cellsFilled x)) = false := by
    rw [hb, Bool.false_or]
    exact decide_eq_false (Nat.not_lt.2 hsent)
  simp only [exec_streamUnderrun, execStreamUnderrun, h, hx, hgo, Bool.false_eq_true, if_false]

/-! ## Missed launches (R59) -/

theorem exec_missedLaunch_other (h : s.qClass q ≠ 0) : exec (.missedLaunch q) s = .next s := by
  rw [exec_missedLaunch, execMissedLaunch, if_pos (bne_iff_ne.2 h)]

theorem exec_missedLaunch_relay (h : s.qClass q = 0) : exec (.missedLaunch q) s =
    .next ((s.takeOut q (s.missed (s.qPort q))).1.foldl (fun (t : State) d => t.missLaunch q d) (s.takeOut q (s.missed (s.qPort q))).2) := by
  rw [exec_missedLaunch, execMissedLaunch, if_neg (by simp [h])]

/-- A slab is late once its lap is over, or its tenant's last open interval of its lap has ended. -/
theorem missed_iff {m : Nat} (hf : s.frame? c.fid = some f) (hm : f.relayLap = some m) : s.missed p c = true ↔
    s.lapOver m = true ∨ (m = s.time.lap ∧ ∃ d, s.lastRelayEnd p f.parseTenant m = some d ∧ s.time.lapStart + d * 65536 ≤ s.time.gun) := by
  simp only [State.missed, hf, hm, Bool.or_eq_true, Bool.and_eq_true, beq_iff_eq]
  cases s.lastRelayEnd p f.parseTenant m <;> simp

end

end Sys2Proof.Machine
end

section
/-! PROOFS. Doorbells and the vectors of the rings of port P (R130, R131, R281). -/

namespace Sys2Proof.Machine

/-! ## What leaves in a row -/

/-- Things that leave in a row are appended in their order, where each is told by what no emission changes. -/
theorem foldl_emit {β : Type} {g : State → β → Emission} (hg : ∀ (t : State) o x, g { t with out := o } x = g t x) (l : List β) (s : State) :
    l.foldl (fun (u : State) x => u.emit (g u x)) s = { s with out := s.out ++ l.map (g s) } := by
  induction l generalizing s with
  | nil => rw [List.map_nil, List.append_nil]; rfl
  | cons x l ih =>
    have hmap : l.map (g (s.emit (g s x))) = l.map (g s) := List.map_congr_left (fun y _ => hg s _ y)
    rw [List.foldl_cons, ih, hmap, List.map_cons]
    simp [State.emit]

section
variable {s : State} {q fn off slot n : Nat} {v : BitVec 64} {descs : List Blob}

/-! ## Vectors (R130) -/

/-- Whether a function's vector is masked (Table 4.12, log 123). -/
def State.masked (s : State) (fn v : Nat) : Bool := (beAt (s.msixEntry fn v) 12 4).testBit 0

theorem raiseVector_open {v : Nat} (h : s.masked fn v = false) :
    s.raiseVector fn v = s.emit (.msix fn v (beAt (s.msixEntry fn v) 0 8) (beAt (s.msixEntry fn v) 8 4)) :=
  if_neg (Bool.eq_false_iff.1 h)

/-- A masked vector pends, and nothing leaves. -/
theorem raiseVector_masked {v : Nat} (h : s.masked fn v = true) :
    (s.raiseVector fn v).out = s.out ∧ fn * 512 + v ∈ (s.raiseVector fn v).pcie.pendingBits := by
  have hmask : bit (beAt (s.msixEntry fn v) 12 4) 0 = true := h
  rw [State.raiseVector, if_pos hmask]
  refine ⟨rfl, ?_⟩
  dsimp only
  split
  case isTrue hin => exact List.contains_iff_mem.1 hin
  case isFalse => exact List.mem_cons_self ..

/-- The ring's vector is raised when it is due. -/
theorem exec_msixModerationExpiry_due {t : Time} {ts : List Time} (h : (s.queue q).raiseAt = t :: ts) (ht : t ≤ s.time.gun) :
    exec (.msixModerationExpiry q) s =
      .next ((s.modQueue q (fun z => { z with raiseAt := ts })).raiseVector (s.qTenant q + 1) (beAt (s.blb Obj.QUEUE_RING q) 10 2)) := by
  simp only [exec_msixModerationExpiry, execMsixModerationExpiry, h, ht, if_true]

theorem exec_msixModerationExpiry_none (h : (s.queue q).raiseAt = []) : exec (.msixModerationExpiry q) s = .next s := by
  simp only [exec_msixModerationExpiry, execMsixModerationExpiry, h]

/-! ## The places of BAR0 (Table 4.12) -/

/-- An offset among a function's doorbells. -/
def inDoors (fn off : Nat) : Prop := 0x1000 ≤ off ∧ off ≤ (if fn = 0 then 0x20FFF else 0x8FFF)

/-- Where a function's MSI-X table starts. -/
def msixBase (fn : Nat) : Nat := if fn = 0 then 0x80000 else 0xC000

/-- An offset in a function's MSI-X table. -/
def inTable (fn off : Nat) : Prop := msixBase fn ≤ off ∧ off < msixBase fn + 16 * msixVectors fn

theorem bar0_doors (h : inDoors fn off) : bar0 fn off = .doorbell ((off - 0x1000) / 8) :=
  if_pos (by simpa only [Bool.and_eq_true, decide_eq_true_eq, inDoors] using h)

/-- The doorbells end below the table. -/
theorem not_inDoors_of_inTable (h : inTable fn off) : ¬ inDoors fn off := by
  unfold inTable msixBase msixVectors at h
  unfold inDoors
  by_cases hfn : fn = 0
  · simp only [hfn, if_true] at h ⊢
    omega
  · simp only [hfn, if_false] at h ⊢
    omega

theorem bar0_eq_of_not_inDoors (h : ¬ inDoors fn off) : bar0 fn off =
    if (decide (msixBase fn ≤ off) && decide (off < msixBase fn + 16 * msixVectors fn)) = true then .msix ((off - msixBase fn) / 8) else .none :=
  if_neg (by simpa only [Bool.and_eq_true, decide_eq_true_eq, inDoors] using h)

theorem bar0_table (h : inTable fn off) : bar0 fn off = .msix ((off - msixBase fn) / 8) := by
  rw [bar0_eq_of_not_inDoors (not_inDoors_of_inTable h)]
  exact if_pos (by simpa only [Bool.and_eq_true, decide_eq_true_eq, inTable] using h)

theorem bar0_none (hd : ¬ inDoors fn off) (ht : ¬ inTable fn off) : bar0 fn off = .none := by
  rw [bar0_eq_of_not_inDoors hd]
  exact if_neg (by simpa only [Bool.and_eq_true, decide_eq_true_eq, inTable] using ht)

theorem exec_doorbellWrite_doors (h : inDoors fn off) :
    exec (.doorbellWrite fn off v descs) s = .next (s.doorbell fn ((off - 0x1000) / 8) v.toNat descs) := by
  simp only [exec_doorbellWrite, execDoorbellWrite, bar0_doors h]

theorem exec_doorbellWrite_table (h : inTable fn off) :
    exec (.doorbellWrite fn off v descs) s = .next (s.msixWrite fn ((off - msixBase fn) / 8) v.toNat) := by
  simp only [exec_doorbellWrite, execDoorbellWrite, bar0_table h]

theorem exec_doorbellWrite_none (hd : ¬ inDoors fn off) (ht : ¬ inTable fn off) : exec (.doorbellWrite fn off v descs) s = .next s := by
  simp only [exec_doorbellWrite, execDoorbellWrite, bar0_none hd ht]

/-- A word of the table is stored, and a pending vector that it unmasks is raised. -/
theorem msixWrite_eq (s : State) (fn k x : Nat) : s.msixWrite fn k x =
    let z := overwrite (s.msixEntry fn (k / 2)) (8 * (k % 2)) (beBytes 8 x)
    let t : State := { s with pcie.vectors := tabSet s.pcie.vectors (fn * 512 + k / 2) z }
    if fn * 512 + k / 2 ∈ s.pcie.pendingBits ∧ (beAt z 12 4).testBit 0 = false then
      ({ t with pcie.pendingBits := t.pcie.pendingBits.filter (· != fn * 512 + k / 2) } : State).raiseVector fn (k / 2) else t := by
  simp only [State.msixWrite, bit, Bool.and_eq_true, List.contains_iff_mem, Bool.not_eq_true']

/-! ## Doorbells (R281) -/

theorem doorbell_noRing {x : Nat} (h : s.slotQueue fn slot = none) : s.doorbell fn slot x descs = s.count Obj.DOORBELL_ERRORS := by
  simp only [State.doorbell, h]

/-- A doorbell of a queue that is no ring, or one that would post a negative number, only counts. -/
theorem doorbell_refused {x : Nat} (h : s.slotQueue fn slot = some q) (hn : s.ringEntries q = n)
    (hbad : n = 0 ∨ (x % 65536 % n + n - (s.queue q).ringHead % n) % n < s.ringPosted q) :
    s.doorbell fn slot x descs = s.count Obj.DOORBELL_ERRORS := by
  subst hn
  simp only [State.doorbell, h]
  refine if_pos ?_
  rcases Nat.eq_zero_or_pos (s.ringEntries q) with h0 | hpos
  · rw [decide_eq_true h0, Bool.true_or]
  · rw [Nat.max_eq_right hpos, decide_eq_true (hbad.resolve_left (Nat.ne_of_gt hpos)), Bool.or_true]

/-- Any other doorbell moves TAIL and reads the descriptors it posts. -/
theorem doorbell_posts {x tail : Nat} (h : s.slotQueue fn slot = some q) (hn : s.ringEntries q = n) (hpos : 0 < n) (ht : x % 65536 % n = tail)
    (hok : s.ringPosted q ≤ (tail + n - (s.queue q).ringHead % n) % n) :
    let more := (tail + n - (s.queue q).ringTail % n) % n
    s.doorbell fn slot x descs = State.txArrives (State.modQueue { s with out := s.out ++ (List.range more).map (fun k =>
        .dmaRead (s.ringBase64 q + 16 * (((s.queue q).ringTail + k) % n)) 16) } q (fun z => { z with
      ringTail := tail, posted := z.posted ++ (List.range more).map (fun k => (descs.getD k []).take 16), armed := z.armed || x.testBit 31 }))
      q (s.queue q).txReady := by
  subst hn
  have hgo : ¬ (decide (s.ringEntries q = 0) || decide ((tail + s.ringEntries q - (s.queue q).ringHead % s.ringEntries q) % s.ringEntries q <
      s.ringPosted q)) = true := by
    simp only [Bool.or_eq_true, decide_eq_true_eq, not_or]
    exact ⟨Nat.ne_of_gt hpos, Nat.not_lt.2 hok⟩
  have hreads := foldl_emit (g := fun (u : State) k => .dmaRead (u.ringBase64 q + 16 * (((s.queue q).ringTail + k) % s.ringEntries q)) 16)
    (fun _ _ _ => rfl) (List.range ((tail + s.ringEntries q - (s.queue q).ringTail % s.ringEntries q) % s.ringEntries q)) s
  simp only [State.doorbell, h, Nat.max_eq_right hpos, ht, if_neg hgo, hreads]
  rfl

end

end Sys2Proof.Machine
end

section
/-! PROOFS. The DMA rings of port P (R129, R269, R280, R281). -/

namespace Sys2Proof.Machine

/-! ## DMA and completions (R129, R280) -/

/-- The writes of a DMA write, of at most 512 bytes each. -/
def dmaPieces (a : Nat) (w : Blob) : List Emission :=
  (List.range ((w.length + 511) / 512)).map (fun k => .dma (a + 512 * k) ((w.drop (512 * k)).take 512))

theorem dmaWrite_eq (s : State) (a : Nat) (w : Blob) : s.dmaWrite a w = { s with out := s.out ++ dmaPieces a w } :=
  foldl_emit (fun _ _ _ => rfl) _ s

/-- The buffers of descriptors are read from the host. -/
def State.fetchAll (s : State) (ds : List Blob) : State := ds.foldl (fun (u : State) d => u.dmaFetch (descAddr d) (descLen d)) s

theorem fetchAll_on (s : State) (ds : List Blob) : ∃ o, s.fetchAll ds = { s with out := o } := by
  induction ds generalizing s with
  | nil => exact ⟨s.out, rfl⟩
  | cons d ds ih =>
    obtain ⟨o, ho⟩ := ih (s.dmaFetch (descAddr d) (descLen d))
    refine ⟨o, ?_⟩
    rw [State.fetchAll, List.foldl_cons]
    rw [State.fetchAll] at ho
    rw [ho, State.dmaFetch, foldl_emit (fun _ _ _ => rfl)]

section
variable (s : State) (q : Nat)

theorem completeOne_out (ctl : Nat) : (s.completeOne q ctl).out =
    s.out ++ dmaPieces (s.ringBase64 q + 16 * (s.queue q).ringHead + 8) (beBytes 8 ctl) := by
  simp only [State.completeOne, dmaWrite_eq, State.modQueue_out]

theorem completeOne_posted (ctl : Nat) : ((s.completeOne q ctl).queue q).posted = (s.queue q).posted.drop 1 := by
  rw [State.completeOne, State.queue_modQueue_same, dmaWrite_eq]
  rfl

theorem completeOne_frames (ctl : Nat) : (s.completeOne q ctl).frames = s.frames := by
  simp only [State.completeOne, dmaWrite_eq, State.modQueue_frames]

theorem armFires_posted : ((s.armFires q).queue q).posted = (s.queue q).posted := by
  rw [State.armFires, State.queue_modQueue_same]
  split <;> rfl

/-- Operations that each take the oldest posted descriptor of a ring take as many as they are. -/
theorem posted_foldl {β : Type} {f : State → β → State} (hf : ∀ u x, ((f u x).queue q).posted = (u.queue q).posted.drop 1) (l : List β) :
    ((l.foldl f s).queue q).posted = (s.queue q).posted.drop l.length := by
  induction l generalizing s with
  | nil => rfl
  | cons x l ih => rw [List.foldl_cons, ih, hf, List.drop_drop, List.length_cons, Nat.add_comm]

/-- Operations that each only add to what left the device only add to it. -/
theorem out_prefix_foldl {β : Type} {f : State → β → State} (hf : ∀ u x, u.out <+: (f u x).out) (l : List β) : s.out <+: (l.foldl f s).out := by
  induction l generalizing s with
  | nil => exact List.prefix_rfl
  | cons x l ih => exact (hf s x).trans (ih (f s x))

theorem complete_posted (ctls : List Nat) : ((s.complete q ctls).queue q).posted = (s.queue q).posted.drop ctls.length := by
  rw [State.complete, armFires_posted, posted_foldl s q (fun u v => completeOne_posted u q v)]

theorem complete_frames (ctls : List Nat) : (s.complete q ctls).frames = s.frames :=
  foldl_keeps (g := State.frames) (fun u v _ => completeOne_frames u q v) s

theorem txServed_posted : ((s.txServed q).queue q).posted = (s.queue q).posted := by
  unfold State.txServed
  dsimp only
  split
  · rw [State.queue_modQueue_same]
    rfl
  · rfl

theorem txServed_frames : (s.txServed q).frames = s.frames := by
  unfold State.txServed
  dsimp only
  split <;> rfl

end

/-! ## The transmit ring (R269, R281) -/

section
variable {s : State} {q : Nat} {reads : List (Blob × Bool)}

/-- What the reads of descriptors returned, each cut to its buffer, and whether it is poisoned or short. -/
def fetchedParts (ds : List Blob) (reads : List (Blob × Bool)) : List (Blob × Bool) :=
  ds.zipIdx.map (fun e => ((reads.getD e.2 ([], true)).1.take (descLen e.1),
    (reads.getD e.2 ([], true)).2 || (reads.getD e.2 ([], true)).1.length < descLen e.1))

theorem fetchedParts_eq {ds : List Blob} (h : reads.length = ds.length) : fetchedParts ds reads =
    List.zipWith (fun (d : Blob) (r : Blob × Bool) => (r.1.take (descLen d), r.2 || decide (r.1.length < descLen d))) ds reads := by
  refine List.ext_getElem (by simp [fetchedParts, h]) (fun k h1 h2 => ?_)
  have hk : k < reads.length := by
    rw [List.length_zipWith] at h2
    omega
  simp [fetchedParts, List.getElem?_eq_getElem hk]

/-- Reads that return every buffer whole are taken whole, and none is in error. -/
theorem fetchedParts_whole {ds : List Blob} (h : reads.map (fun r => r.1.length) = ds.map descLen) (hok : ∀ r ∈ reads, r.2 = false) :
    fetchedParts ds reads = reads := by
  have hlen : reads.length = ds.length := by simpa using congrArg List.length h
  rw [fetchedParts_eq hlen]
  refine List.ext_getElem (by simp [hlen]) (fun k h1 h2 => ?_)
  have hd : k < ds.length := hlen ▸ h2
  have hbuf : reads[k].1.length = descLen ds[k] := by
    have hget : (reads.map (fun r => r.1.length))[k]? = (ds.map descLen)[k]? := congrArg (·[k]?) h
    simpa [List.getElem?_eq_getElem, h2, hd] using hget
  have hgood := hok _ (List.getElem_mem h2)
  rw [List.getElem_zipWith, ← hbuf, List.take_length, hgood, Bool.false_or, decide_eq_false (Nat.lt_irrefl _), ← hgood]

/-- A read in error spoils what the reads returned. -/
theorem fetchedParts_error {ds : List Blob} (h : reads.length = ds.length) (hbad : ∃ r ∈ reads, r.2 = true) :
    (fetchedParts ds reads).any Prod.snd = true := by
  obtain ⟨r, hr, hbad⟩ := hbad
  obtain ⟨k, hk, rfl⟩ := List.getElem_of_mem hr
  have hz : k < (fetchedParts ds reads).length := by simp only [fetchedParts, List.length_map, List.length_zipIdx]; omega
  refine List.any_eq_true.2 ⟨(fetchedParts ds reads)[k], List.getElem_mem hz, ?_⟩
  simp only [fetchedParts_eq h, List.getElem_zipWith, hbad, Bool.true_or]

/-- Why a transmit frame is not sent: too short, too long, or a read in error (R269, R281). -/
def txBad (ds : List Blob) (reads : List (Blob × Bool)) : Bool :=
  (ds.map descLen).sum < 14 || 16000 < (ds.map descLen).sum || (fetchedParts ds reads).any Prod.snd

/-- The cells a frame takes of the shared region of a partition. -/
def txCells (k : Nat) (w : Blob) : Nat := if packs k w.length then 1 else cellsFor w.length

/-- The record of a frame that a transmit ring sends. -/
def State.txFrame (s : State) (q k baton : Nat) (w : Blob) : Frame :=
  { Frame.blank with
    src := 2, cls := s.qClass q, tenant := s.qTenant q, parseTenant := s.qTenant q, bytes := w, tf := s.time.gun, phys := w.length
    startType := s.cfg Obj.START_TYPE 16, baton := baton, charge := .shared k (txCells k w) }

/-- The frame of descriptors enters the device in the cells it was given, and the descriptors complete; without cells nothing is done. -/
def State.txSend (s : State) (q k : Nat) (ds : List Blob) (w : Blob) : Option (Nat × State) → State
  | none => s
  | some (a, u) =>
    (((((u.newFrame (u.txFrame q k a w)).2.writeBaton a 0 w).pacersTake q w.length).complete q (ds.map (txDone false))).txServed q)

/-- The ring whose turn it is: a bad frame completes its descriptors with ERROR, and any other waits or is sent. -/
theorem exec_txDescriptorFetch_turn {ds : List Blob} {w : Blob} {k : Nat} (h : s.txTurn = some q) (hds : nextFrame (s.queue q).posted = ds)
    (hw : ((fetchedParts ds reads).map Prod.fst).flatten = w) (hk : partOf (s.qClass q) = k) :
    exec (.txDescriptorFetch q reads) s =
      if txBad ds reads = true then .next (((s.fetchAll ds).complete q (ds.map (txDone true))).txServed q)
      else if s.sharedFits k (txCells k w) = false then .next s
      else .next (s.txSend q k ds w ((s.fetchAll ds).allocFrame k w.length 15)) := by
  subst hds hw hk
  have hfull : ∀ b : Bool, (!b) = true ↔ b = false := by decide
  refine (if_neg (by simp [h])).trans (if_congr Iff.rfl rfl (if_congr (hfull _) rfl ?_))
  split
  case h_1 hx => exact congrArg (fun x => Host.Outcome.next (s.txSend q _ _ _ x)) hx.symm
  case h_2 hx => exact congrArg (fun x => Host.Outcome.next (s.txSend q _ _ _ x)) hx.symm

/-- Reads that return every buffer of a frame of an allowed length whole are sent (R269). -/
theorem not_txBad {ds : List Blob} (h : reads.map (fun r => r.1.length) = ds.map descLen) (hok : ∀ r ∈ reads, r.2 = false)
    (h14 : 14 ≤ (reads.map Prod.fst).flatten.length) (h16 : (reads.map Prod.fst).flatten.length ≤ 16000) : ¬ txBad ds reads = true := by
  have hlen : (ds.map descLen).sum = (reads.map Prod.fst).flatten.length := by
    rw [List.length_flatten, List.map_map, ← h]
    rfl
  have hany : reads.any Prod.snd = false := List.any_eq_false.2 (fun r hr => Bool.eq_false_iff.1 (hok r hr))
  rw [txBad, fetchedParts_whole h hok, hlen, hany, decide_eq_false (Nat.not_lt.2 h14), decide_eq_false (Nat.not_lt.2 h16)]
  decide

theorem txBad_error {ds : List Blob} (h : reads.length = ds.length) (hbad : ∃ r ∈ reads, r.2 = true) : txBad ds reads = true := by
  rw [txBad, fetchedParts_error h hbad, Bool.or_true]

theorem exec_txDescriptorFetch_other (h : s.txTurn ≠ some q) : exec (.txDescriptorFetch q reads) s = .next s := if_pos (bne_iff_ne.2 h)

/-- What is read from the host does not bear on the cells of a frame; once it is sent, its record stands, and its descriptors are taken. -/
theorem txSend_fetched {k a : Nat} {ds : List Blob} {w : Blob} {u : State} (ha : s.allocFrame k w.length 15 = some (a, u)) :
    ∃ t, s.txSend q k ds w ((s.fetchAll ds).allocFrame k w.length 15) = t ∧ t.frame? s.nextFid = some (s.txFrame q k a w) ∧
      (t.queue q).posted = (s.queue q).posted.drop ds.length := by
  obtain ⟨o, ho⟩ := fetchAll_on s ds
  have halloc := allocFrame_withPool (s := s) (t := { s with out := o }) rfl k w.length 15
  rw [show State.withPool { s with out := o } s.buf.pool = s.fetchAll ds from ho.symm, ha] at halloc
  rw [halloc, Option.map_some, State.txSend]
  obtain ⟨y, z, hpay⟩ := pacersTake_on (((State.withPool { s with out := o } u.buf.pool).newFrame
    ((State.withPool { s with out := o } u.buf.pool).txFrame q k a w)).2.writeBaton a 0 w) q w.length
  refine ⟨_, rfl, ?_, ?_⟩
  · rw [State.frame?, txServed_frames, complete_frames, hpay]
    exact tabGet?_set_same _ _ _
  · rw [txServed_posted, complete_posted, hpay, List.length_map]
    rfl

end

/-! ## The receive ring (R281) -/

theorem fillBuffers_nil (sizes : List Nat) : fillBuffers sizes [] = some [] := by cases sizes <;> rfl

theorem fillBuffers_cons (n : Nat) (ns : List Nat) (b : Byte) (w : Blob) : fillBuffers (n :: ns) (b :: w) =
    if n = 0 then none else (fillBuffers ns ((b :: w).drop n)).map ((b :: w).take n :: ·) := rfl

/-- Posted buffers hold a frame in their order, every one full but the last. -/
theorem fillBuffers_spec {sizes : List Nat} {w : Blob} {ps : List Blob} (h : fillBuffers sizes w = some ps) :
    ps.flatten = w ∧ ps.length ≤ sizes.length ∧ ∀ i, i + 1 < ps.length → (ps.getD i []).length = sizes.getD i 0 := by
  induction sizes generalizing w ps with
  | nil =>
    cases w with
    | nil => obtain rfl := Option.some.inj h; simp
    | cons b w => cases h
  | cons n ns ih =>
    cases w with
    | nil => obtain rfl := Option.some.inj h; simp
    | cons b w =>
      rw [fillBuffers_cons] at h
      split at h
      · cases h
      · obtain ⟨qs, hqs, rfl⟩ := Option.map_eq_some_iff.1 h
        obtain ⟨hflat, hlen, hfull⟩ := ih hqs
        refine ⟨by rw [List.flatten_cons, hflat, List.take_append_drop], Nat.succ_le_succ hlen, fun i hi => ?_⟩
        cases i with
        | succ i => exact hfull i (Nat.lt_of_succ_lt_succ hi)
        | zero =>
          have hlt : n < (b :: w).length := by
            by_contra hge
            rw [List.drop_eq_nil_of_le (Nat.not_lt.1 hge), fillBuffers_nil] at hqs
            obtain rfl := Option.some.inj hqs
            exact absurd hi (Nat.lt_irrefl 1)
          exact List.length_take_of_le hlt.le

section
variable {s : State} {q : Nat} {c : Copy} {f : Frame} {rest : List Copy} {part : Blob} {parts : List Blob}

theorem exec_rxDmaDelivery_empty (h : (s.queue q).copies = []) : exec (.rxDmaDelivery q) s = .next s := by
  simp only [exec_rxDmaDelivery, execRxDmaDelivery, h]

/-- A ring delivers its head alone that is selected and may start. -/
theorem exec_rxDmaDelivery_waits (h : tabGet? (s.port 16).sel (s.qSub q) ≠ some q ∨ s.headMayStart q = false) :
    exec (.rxDmaDelivery q) s = .next s := by
  have hwait : (tabGet? (s.port 16).sel (s.qSub q) != some q || !s.headMayStart q) = true := by
    rcases h with h | h
    · rw [bne_iff_ne.2 h, Bool.true_or]
    · rw [h, Bool.not_false, Bool.or_true]
  simp only [exec_rxDmaDelivery, execRxDmaDelivery, hwait, if_true]
  split
  · rfl
  · split <;> rfl

/-- One buffer is written, its control word after its data. -/
def State.deliverPart (q stamp n : Nat) (ds : List Blob) (s : State) (e : Blob × Nat) : State :=
  (s.dmaWrite (descAddr (ds.getD e.2 [])) e.1).completeOne q
    (2 ^ 63 + nat01 (e.2 + 1 == n) * 2 ^ 62 + e.1.length * 2 ^ 42 + stamp)

theorem deliverPart_out (stamp n : Nat) (ds : List Blob) (e : Blob × Nat) : (State.deliverPart q stamp n ds s e).out =
    s.out ++ dmaPieces (descAddr (ds.getD e.2 [])) e.1 ++ dmaPieces (s.ringBase64 q + 16 * (s.queue q).ringHead + 8)
      (beBytes 8 (2 ^ 63 + nat01 (e.2 + 1 == n) * 2 ^ 62 + e.1.length * 2 ^ 42 + stamp)) := by
  rw [State.deliverPart, completeOne_out, dmaWrite_eq]
  rfl

theorem deliverPart_posted (stamp n : Nat) (ds : List Blob) (e : Blob × Nat) :
    ((State.deliverPart q stamp n ds s e).queue q).posted = (s.queue q).posted.drop 1 := by
  rw [State.deliverPart, completeOne_posted, dmaWrite_eq]
  rfl

/-- The state in which a ring's head has started (R285, R289). -/
def State.rxStarted (s : State) (q : Nat) (c : Copy) : State := ((s.startHead q).unselect 16 (s.qSub q)).pacersTake q c.wire

/-- A delivery writes the parts of its head in turn; what follows neither leaves the device nor changes the ring. -/
theorem exec_rxDmaDelivery_writes (hc : (s.queue q).copies = c :: rest) (hf : s.frame? c.fid = some f)
    (hsel : tabGet? (s.port 16).sel (s.qSub q) = some q) (hm : s.headMayStart q = true)
    (hfill : fillBuffers ((s.queue q).posted.map descLen) (s.outBytes 16 f c (s.qClass q)) = some (part :: parts)) :
    ∃ t, exec (.rxDmaDelivery q) s = .next t ∧
      let u := (part :: parts).zipIdx.foldl (State.deliverPart q ((f.card.map Card.stamp).getD 0) (part :: parts).length (s.queue q).posted)
        (s.rxStarted q c)
      t.out = u.out ∧ (t.queue q).posted = (u.queue q).posted := by
  have hgo : (tabGet? (s.port 16).sel (s.qSub q) != some q || !s.headMayStart q) = false := by simp [hsel, hm]
  simp only [exec_rxDmaDelivery, execRxDmaDelivery, hc, hf, hgo, hfill, Bool.false_eq_true, if_false]
  refine ⟨_, rfl, ?_, ?_⟩
  · rw [sending_out (starterFlush_sending _), sending_out (releaseCopy_sending _ _)]
    rfl
  · rw [sending_queue (starterFlush_sending _), sending_queue (releaseCopy_sending _ _), State.queue_modQueue_same]
    exact armFires_posted _ q

/-- The start of a head leaves the ring and what left the device. -/
theorem rxStarted_ring (s : State) (q : Nat) (c : Copy) : (s.rxStarted q c).out = s.out ∧
    ((s.rxStarted q c).queue q).posted = (s.queue q).posted ∧ ((s.rxStarted q c).queue q).ringHead = (s.queue q).ringHead ∧
    (s.rxStarted q c).ringBase64 q = s.ringBase64 q := by
  obtain ⟨y, z, hpay⟩ := pacersTake_on ((s.startHead q).unselect 16 (s.qSub q)) q c.wire
  obtain ⟨hposted, hhead⟩ := startHead_ring s q
  rw [State.rxStarted, hpay]
  exact ⟨rfl, hposted, hhead, rfl⟩

/-- The first part of a delivery leaves first, its control word behind it. -/
theorem deliverParts_out (stamp n : Nat) (ds : List Blob) (e : Blob × Nat) (l : List (Blob × Nat)) :
    ∃ post, ((e :: l).foldl (State.deliverPart q stamp n ds) s).out =
      s.out ++ dmaPieces (descAddr (ds.getD e.2 [])) e.1 ++ dmaPieces (s.ringBase64 q + 16 * (s.queue q).ringHead + 8)
        (beBytes 8 (2 ^ 63 + nat01 (e.2 + 1 == n) * 2 ^ 62 + e.1.length * 2 ^ 42 + stamp)) ++ post := by
  obtain ⟨post, hpost⟩ := out_prefix_foldl (State.deliverPart q stamp n ds s e) (f := State.deliverPart q stamp n ds)
    (fun u x => ⟨_, by rw [deliverPart_out, List.append_assoc]⟩) l
  exact ⟨post, by rw [List.foldl_cons, ← hpost, deliverPart_out]⟩

theorem deliverParts_posted (stamp n : Nat) (ds : List Blob) (l : List (Blob × Nat)) :
    ((l.foldl (State.deliverPart q stamp n ds) s).queue q).posted = (s.queue q).posted.drop l.length :=
  posted_foldl s q (fun _ e => deliverPart_posted stamp n ds e) l

end

end Sys2Proof.Machine
end

section
/-! PROOFS. Frames going out and the rings of port P: the statement. -/

namespace Sys2Proof.Machine

/-- Settles O34: what a selection, a launch, the end on the wire, a stomp and a missed launch do, and what the doorbells, vectors and rings of port
P do. -/
theorem frameOutResults : Obligations.FrameOutResults := by
  refine ⟨fun s p sub q w f c rest x => ⟨exec_egressSelection_holds, selHolds_iff, exec_egressSelection_none, fun h hable => ?select,
    exec_frameLaunch_unselected, exec_frameLaunch_empty, fun h hc hp hfree hawake hm => ?launch, exec_frameLaunch_waits, exec_frameTransmitEnd_idle,
    fun h hf hw hb ht => ?sent, exec_frameTransmitEnd_uncorrectable, fun h reason => ⟨_, rfl, [], stomp_out h reason true⟩, exec_streamUnderrun_stomps,
    exec_missedLaunch_other, exec_missedLaunch_relay, fun m _ hf hm => missed_iff hf hm⟩,
    fun s q fn off v descs f c rest => ⟨fun hd hs => ?noRing, fun hd hs hbad => ?refused, fun hd hs hpos hok => ?posts, fun ht => ?table,
    exec_doorbellWrite_none, fun t ts h ht => ⟨fun hopen => ?raised, fun hmask => ?pends⟩, exec_msixModerationExpiry_none,
    fun reads => exec_txDescriptorFetch_other, fun reads h hlen hgood h14 h16 => ⟨fun hfull => ?waits, fun a u hfits ha => ?sends⟩,
    fun reads h hlen hbad => ?error, exec_rxDmaDelivery_empty, exec_rxDmaDelivery_waits, fun part parts hc hf hsel hm hfill => ?delivers,
    fun sizes ps h => fillBuffers_spec h⟩⟩
  case select =>
    obtain ⟨r, hr, hclass, he⟩ := exec_egressSelection_takes h hable
    refine ⟨_, r, he, ?_, hr, hclass, ?_⟩
    · rw [State.port_modPort_same]
      exact tabGet?_set_same _ _ _
    · rw [State.port_modPort_same]
      exact tabGet_set_same _ _ _ _
  case launch =>
    obtain ⟨t, he, hport, hqueue⟩ := exec_frameLaunch_starts h hc hp hfree hawake hm
    obtain ⟨htx, hsel⟩ := launched_port s p sub q c
    obtain ⟨hrest, hwire⟩ := startHead_queue hc
    rw [← hport] at htx hsel
    rw [← hqueue] at hrest hwire
    exact ⟨t, he, htx, hrest, hwire, hsel⟩
  case sent =>
    have he := exec_frameTransmitEnd_whole h hf hw hb ht
    simp only [State.countSent, padded_eq] at he
    exact he
  case noRing => exact (exec_doorbellWrite_doors hd).trans (congrArg _ (doorbell_noRing hs))
  case refused => exact (exec_doorbellWrite_doors hd).trans (congrArg _ (doorbell_refused hs rfl hbad))
  case posts => exact (exec_doorbellWrite_doors hd).trans (congrArg _ (doorbell_posts hs rfl hpos rfl hok))
  case table => exact (exec_doorbellWrite_table ht).trans (congrArg _ (msixWrite_eq s fn _ v.toNat))
  case raised => exact (exec_msixModerationExpiry_due h ht).trans (congrArg _ (raiseVector_open hopen))
  case pends =>
    obtain ⟨hout, hpend⟩ := raiseVector_masked (s := s.modQueue q (fun z => { z with raiseAt := ts })) hmask
    exact ⟨_, exec_msixModerationExpiry_due h ht, hout, hpend⟩
  case waits =>
    rw [exec_txDescriptorFetch_turn h rfl (by rw [fetchedParts_whole hlen hgood]) rfl, if_neg (not_txBad hlen hgood h14 h16)]
    exact if_pos hfull
  case sends =>
    obtain ⟨t, ht, hframe, hposted⟩ := txSend_fetched (q := q) (ds := nextFrame (s.queue q).posted) ha
    have he := exec_txDescriptorFetch_turn h rfl (by rw [fetchedParts_whole hlen hgood]) rfl
    rw [if_neg (not_txBad hlen hgood h14 h16)] at he
    have hgo := he.trans (if_neg (ne_false_of_eq_true hfits))
    rw [ht] at hgo
    exact ⟨t, _, hgo, hframe, rfl, rfl, rfl, rfl, rfl, hposted⟩
  case error =>
    have he := (exec_txDescriptorFetch_turn (reads := reads) h rfl rfl rfl).trans (if_pos (txBad_error hlen hbad))
    obtain ⟨o, ho⟩ := fetchAll_on s (nextFrame (s.queue q).posted)
    refine ⟨_, he, ?_, ?_⟩
    · rw [txServed_frames, complete_frames, ho]
    · rw [txServed_posted, complete_posted, ho, List.length_map]
      rfl
  case delivers =>
    obtain ⟨t, he, hout, hposted⟩ := exec_rxDmaDelivery_writes hc hf hsel hm hfill
    obtain ⟨hout0, hposted0, hhead0, hbase0⟩ := rxStarted_ring s q c
    rw [List.zipIdx_cons] at hout hposted
    obtain ⟨post, hpost⟩ := deliverParts_out (s := s.rxStarted q c) (q := q) ((f.card.map Card.stamp).getD 0) (part :: parts).length
      (s.queue q).posted (part, 0) (parts.zipIdx (0 + 1))
    have hlast : nat01 (0 + 1 == (part :: parts).length) * 2 ^ 62 = if parts = [] then 2 ^ 62 else 0 := by cases parts <;> simp [nat01]
    rw [hout0, hhead0, hbase0, hlast] at hpost
    refine ⟨t, he, ?_, post, hout.trans hpost⟩
    rw [hposted, deliverParts_posted, hposted0, List.length_cons, List.length_zipIdx, Nat.add_comm]

end Sys2Proof.Machine
end

section
/-! PROOFS. The lap boundary and the swap (R35, R37, R53, R62, R65, R311). -/

namespace Sys2Proof.Machine

section
variable {s : State}

/-! ## The step of the lap (R35, R37, R50) -/

theorem exec_lapBoundary_early (h : s.time.gun < s.time.next) : exec .lapBoundary s = .next s := if_pos h

theorem stepLap_starts (s : State) : s.stepLap.time.lapStart = s.time.next ∧ s.stepLap.time.prevStart = s.time.lapStart := by
  unfold State.stepLap
  cases s.time.adopt <;> exact ⟨rfl, rfl⟩

theorem stepLap_next (h : s.time.adopt = none) : s.stepLap.time.lap = (s.time.lap + 1) % 2 ^ 48 ∧ s.stepLap.lapLen = s.lapLen := by
  unfold State.stepLap
  rw [h]
  exact ⟨rfl, rfl⟩

theorem stepLap_adopts {l k : Nat} (h : s.time.adopt = some (l, k)) :
    s.stepLap.time.lap = l ∧ s.stepLap.cfg Obj.LAP_LENGTH = k ∧ s.stepLap.time.adopt = none := by
  unfold State.stepLap
  rw [h]
  exact ⟨rfl, cfg_setCfg_same s Obj.LAP_LENGTH 0 k, rfl⟩

/-! ## The swap (R62) -/

/-- Different objects stand under different keys. -/
theorem objKey_ne {o o' i i' : Nat} (ho : o ≠ o') (hi : i < 2 ^ 20) (hi' : i' < 2 ^ 20) : objKey o i ≠ objKey o' i' := by
  unfold objKey
  omega

/-- One staged list, or the lap length, changes places with its operational copy. -/
def State.swapOne (s : State) (k : Nat) : State :=
  if k < 16 then s.exchangeList Obj.GATE_LIST_PENDING Obj.GATE_LIST k
  else if k < 32 then s.exchangeList Obj.RX_WINDOWS_PENDING Obj.RX_WINDOWS (k - 16)
  else (s.setCfg Obj.LAP_LENGTH_PENDING 0 s.lapLen).setCfg Obj.LAP_LENGTH 0 (s.cfg Obj.LAP_LENGTH_PENDING)

/-- The swap lap is taken back, and the former receive windows are kept (R62, R65). -/
def State.swapTaken (s : State) : State := { s.setCfg Obj.SWAP_LAP 0 noLap with
  time.staged := []
  time.swapped := s.time.staged
  time.formerRx := sortBy Prod.fst
    ((s.time.staged.filter (fun k => 16 ≤ k && k < 32)).map (fun k => (k - 16, s.blb Obj.RX_WINDOWS (k - 16)))) }

/-- What is staged has changed places; the relay sets and the guarantees of the ports follow. -/
def State.swapDone (s : State) : State := s.time.staged.foldl State.swapOne s.swapTaken

theorem swapLists_due (h : s.cfg Obj.SWAP_LAP = s.time.lap) :
    s.swapLists = (List.range 16).foldl State.guaranteeShort s.swapDone.swapRelay := if_neg (by simp [h])

theorem swapLists_early (h : s.cfg Obj.SWAP_LAP ≠ s.time.lap) : s.swapLists = s := if_pos (by simpa using h)

/-- Relay sets change places in their own objects, whose keys lie above those of the schedule (R84). -/
theorem swapRelay_keeps (s : State) : s.swapRelay.time = s.time ∧ s.swapRelay.num = s.num ∧
    ∀ o i, o < 0x3800 → i < 2 ^ 20 → s.swapRelay.blb o i = s.blb o i := by
  refine ⟨?time, ?num, fun o i ho hi => ?_⟩
  case time => exact foldl_keeps (g := State.time) (fun u e _ => by rfl) s
  case num => exact foldl_keeps (g := State.num) (fun u e _ => by rfl) s
  have hother : ∀ (u : State) (o' t : Nat) (b : Blob), 0x3800 ≤ o' → (u.setBlb o' t b).blb o i = u.blb o i := fun u o' t b ho' =>
    blb_setBlb_other u b (by unfold objKey; omega)
  refine foldl_keeps (g := fun u : State => u.blb o i) (fun u e _ => ?_) s
  dsimp only
  rw [hother _ _ _ _ (by decide), hother _ _ _ _ (by decide)]
  rfl

/-- A shortfall of a port is counted and raised, and changes nothing of the schedule (R288). -/
theorem guaranteeShort_keeps (s : State) (q : Nat) : (s.guaranteeShort q).time = s.time ∧ (s.guaranteeShort q).blob = s.blob ∧
    ∀ o, o ≠ Obj.GUARANTEE_SHORTFALLS → q < 16 → (s.guaranteeShort q).cfg o = s.cfg o := by
  unfold State.guaranteeShort
  split
  · exact ⟨rfl, rfl, fun o ho hq => cfg_count_other (objKey_ne ho (by omega) (by omega))⟩
  · exact ⟨rfl, rfl, fun _ _ _ => rfl⟩

section
variable (h : s.cfg Obj.SWAP_LAP = s.time.lap)
include h

theorem swapLists_time : s.swapLists.time = s.swapDone.time := by
  rw [swapLists_due h, foldl_keeps (g := State.time) (fun u q _ => (guaranteeShort_keeps u q).1)]
  exact (swapRelay_keeps _).1

theorem swapLists_cfg {o : Nat} (ho : o ≠ Obj.GUARANTEE_SHORTFALLS) : s.swapLists.cfg o = s.swapDone.cfg o := by
  rw [swapLists_due h, foldl_keeps (g := fun u : State => u.cfg o)
    (fun u q hq => (guaranteeShort_keeps u q).2.2 o ho (List.mem_range.1 hq)), State.cfg, (swapRelay_keeps _).2.1]
  rfl

theorem swapLists_blb {o i : Nat} (ho : o < 0x3800) (hi : i < 2 ^ 20) : s.swapLists.blb o i = s.swapDone.blb o i := by
  rw [swapLists_due h, foldl_keeps (g := fun u : State => u.blb o i)
    (fun u q _ => by rw [State.blb, (guaranteeShort_keeps u q).2.1]; rfl)]
  exact (swapRelay_keeps _).2.2 o i ho hi

end

theorem exchangeList_pending (s : State) {pend oper p : Nat} (h : pend ≠ oper) (hp : p < 2 ^ 20) :
    (s.exchangeList pend oper p).blb pend p = s.blb oper p := by
  rw [State.exchangeList, blb_setBlb_other _ _ (objKey_ne h hp hp), blb_setBlb_same]

theorem exchangeList_operational (s : State) (pend oper p : Nat) : (s.exchangeList pend oper p).blb oper p = s.blb pend p := by
  rw [State.exchangeList, blb_setBlb_same]

theorem exchangeList_other (s : State) {pend oper p o i : Nat} (h : objKey o i ≠ objKey pend p) (h' : objKey o i ≠ objKey oper p) :
    (s.exchangeList pend oper p).blb o i = s.blb o i := by
  rw [State.exchangeList, blb_setBlb_other _ _ h', blb_setBlb_other _ _ h]

theorem swapOne_time (s : State) (k : Nat) : (s.swapOne k).time = s.time := by
  unfold State.swapOne
  split
  · rfl
  · split <;> rfl

/-- The exchanges leave the swap lap, as it was taken back. -/
theorem swapOne_swapLap (s : State) (k : Nat) : (s.swapOne k).cfg Obj.SWAP_LAP = s.cfg Obj.SWAP_LAP := by
  unfold State.swapOne
  split
  · rfl
  · split
    · rfl
    · rw [cfg_setCfg_other _ _ (by decide), cfg_setCfg_other _ _ (by decide)]

/-- A gate list is exchanged for its own port alone. -/
theorem swapOne_gates (s : State) {k p : Nat} (hp : p < 16) (h : p ≠ k) : (s.swapOne k).blb Obj.GATE_LIST p = s.blb Obj.GATE_LIST p := by
  unfold State.swapOne
  split
  · exact exchangeList_other s (by unfold objKey; omega) (by unfold objKey; omega)
  · split
    · exact exchangeList_other s (objKey_ne (by decide) (by omega) (by omega)) (objKey_ne (by decide) (by omega) (by omega))
    · rfl

theorem swapDone_time (s : State) : s.swapDone.time = s.swapTaken.time := foldl_keeps (g := State.time) (fun u k _ => swapOne_time u k) _

theorem swapDone_swapLap (s : State) : s.swapDone.cfg Obj.SWAP_LAP = 2 ^ 48 - 1 :=
  (foldl_keeps (g := fun u : State => u.cfg Obj.SWAP_LAP) (fun u k _ => swapOne_swapLap u k) _).trans (cfg_setCfg_same s Obj.SWAP_LAP 0 noLap)

theorem swapDone_gates {p : Nat} (hp : p < 16) (h : p ∉ s.time.staged) : s.swapDone.blb Obj.GATE_LIST p = s.blb Obj.GATE_LIST p :=
  foldl_keeps (g := fun u : State => u.blb Obj.GATE_LIST p) (fun u _ hk => swapOne_gates u hp (fun e => h (e ▸ hk))) _

theorem swapDone_lapLength (h : s.time.staged = [32]) : s.swapDone.cfg Obj.LAP_LENGTH = s.cfg Obj.LAP_LENGTH_PENDING ∧
    s.swapDone.cfg Obj.LAP_LENGTH_PENDING = s.lapLen := by
  have hother : ∀ o, o ≠ Obj.SWAP_LAP → s.swapTaken.cfg o = s.cfg o := fun o ho =>
    cfg_setCfg_other s noLap (objKey_ne ho (by decide) (by decide))
  have hdone : s.swapDone =
      (s.swapTaken.setCfg Obj.LAP_LENGTH_PENDING 0 s.swapTaken.lapLen).setCfg Obj.LAP_LENGTH 0 (s.swapTaken.cfg Obj.LAP_LENGTH_PENDING) := by
    rw [State.swapDone, h]
    rfl
  rw [hdone]
  refine ⟨(cfg_setCfg_same ..).trans (hother _ (by decide)), ?_⟩
  rw [cfg_setCfg_other _ _ (by decide), cfg_setCfg_same]
  exact hother _ (by decide)

theorem swapDone_gateList {k : Nat} (hk : k < 16) (h : s.time.staged = [k]) :
    s.swapDone.blb Obj.GATE_LIST k = s.blb Obj.GATE_LIST_PENDING k ∧ s.swapDone.blb Obj.GATE_LIST_PENDING k = s.blb Obj.GATE_LIST k ∧
      s.swapDone.blb Obj.RX_WINDOWS k = s.blb Obj.RX_WINDOWS k := by
  have hdone : s.swapDone = s.swapTaken.exchangeList Obj.GATE_LIST_PENDING Obj.GATE_LIST k := by
    rw [State.swapDone, h]
    exact if_pos hk
  rw [hdone]
  exact ⟨exchangeList_operational .., exchangeList_pending _ (by decide) (by omega),
    exchangeList_other _ (objKey_ne (by decide) (by omega) (by omega)) (objKey_ne (by decide) (by omega) (by omega))⟩

theorem swapDone_rxWindows {k : Nat} (hk : k < 16) (h : s.time.staged = [16 + k]) :
    s.swapDone.blb Obj.RX_WINDOWS k = s.blb Obj.RX_WINDOWS_PENDING k ∧ s.swapDone.time.formerRx = [(k, s.blb Obj.RX_WINDOWS k)] := by
  have hsub : 16 + k - 16 = k := Nat.add_sub_cancel_left 16 k
  have hdone : s.swapDone = s.swapTaken.exchangeList Obj.RX_WINDOWS_PENDING Obj.RX_WINDOWS k := by
    rw [State.swapDone, h, List.foldl_cons, List.foldl_nil, State.swapOne, if_neg (by omega), if_pos (by omega), hsub]
  refine ⟨by rw [hdone]; exact exchangeList_operational .., ?_⟩
  have hkept : (decide (16 ≤ 16 + k) && decide (16 + k < 32)) = true := by simp; omega
  rw [swapDone_time]
  simp only [State.swapTaken, h, List.filter_cons, hkept, if_true, List.filter_nil, List.map_cons, List.map_nil, hsub]
  rfl

/-! ### What a swap leaves -/

section
variable (h : s.cfg Obj.SWAP_LAP = s.time.lap)
include h

theorem swapLists_unstages :
    s.swapLists.time.staged = [] ∧ s.swapLists.cfg Obj.SWAP_LAP = 2 ^ 48 - 1 ∧ s.swapLists.time.lap = s.time.lap := by
  rw [swapLists_time h, swapDone_time, swapLists_cfg h (by decide)]
  exact ⟨rfl, swapDone_swapLap s, rfl⟩

theorem swapLists_lapLength (hs : s.time.staged = [32]) : s.swapLists.cfg Obj.LAP_LENGTH = s.cfg Obj.LAP_LENGTH_PENDING ∧
    s.swapLists.cfg Obj.LAP_LENGTH_PENDING = s.lapLen := by
  rw [swapLists_cfg h (by decide), swapLists_cfg h (by decide)]
  exact swapDone_lapLength hs

theorem swapLists_gateList {k : Nat} (hk : k < 16) (hs : s.time.staged = [k]) :
    s.swapLists.blb Obj.GATE_LIST k = s.blb Obj.GATE_LIST_PENDING k ∧ s.swapLists.blb Obj.GATE_LIST_PENDING k = s.blb Obj.GATE_LIST k ∧
      s.swapLists.blb Obj.RX_WINDOWS k = s.blb Obj.RX_WINDOWS k := by
  have hblb : ∀ o, o < 0x3800 → s.swapLists.blb o k = s.swapDone.blb o k := fun o ho => swapLists_blb h ho (by omega)
  rw [hblb _ (by decide), hblb _ (by decide), hblb _ (by decide)]
  exact swapDone_gateList hk hs

theorem swapLists_rxWindows {k : Nat} (hk : k < 16) (hs : s.time.staged = [16 + k]) :
    s.swapLists.blb Obj.RX_WINDOWS k = s.blb Obj.RX_WINDOWS_PENDING k ∧
      s.swapLists.time.formerRx = [(k, s.blb Obj.RX_WINDOWS k)] := by
  rw [swapLists_blb h (by decide) (by omega), swapLists_time h]
  exact swapDone_rxWindows hk hs

theorem swapLists_unstaged {k : Nat} (hk : k < 16) (hs : k ∉ s.time.staged) :
    s.swapLists.blb Obj.GATE_LIST k = s.blb Obj.GATE_LIST k := by
  rw [swapLists_blb h (by decide) (by omega)]
  exact swapDone_gates hk hs

end

/-! ## The first splits (R37) -/

/-- A wake that is late is counted alone (R69). -/
theorem lateWake_port (s : State) (p : Nat) (idle : Bool) (q : Nat) : (s.lateWake p idle).port q = s.port q := by
  unfold State.lateWake
  split <;> rfl

theorem firstSplits_gateRow (s : State) (idle : List Bool) {p : Nat} (hp : p < 16) : ((s.firstSplits idle).port p).gateRow = 0 := by
  have hfold : ∀ (l : List Nat) (u : State), (p ∈ l ∨ (u.port p).gateRow = 0) →
      ((l.foldl (fun s p => (s.modPort p (fun x => { x with gateRow := 0 })).lateWake p (idle.getD p false)) u).port p).gateRow = 0 := by
    intro l
    induction l with
    | nil => exact fun u h => h.resolve_left (List.not_mem_nil)
    | cons q l ih =>
      intro u h
      refine ih _ ?_
      rw [lateWake_port]
      by_cases hq : p = q
      · subst hq
        rw [State.port_modPort_same]
        exact .inr rfl
      · rw [State.port_modPort_other _ _ hq]
        exact h.imp_left fun hm => (List.mem_cons.1 hm).resolve_left hq
  exact hfold _ s (.inl (List.mem_range.2 hp))

end

/-! ## The statement -/

/-- Settles O27: the boundary takes its operations in order, the counter steps or is adopted, what is staged swaps at the swap lap, and each port
goes back to its first split. -/
theorem lapBoundaryResults : Obligations.LapBoundaryResults := by
  intro s
  refine ⟨exec_lapBoundary_early, fun h => ?due, (stepLap_starts _).1, (stepLap_starts _).2, stepLap_next, fun _ _ => stepLap_adopts,
    swapLists_early, fun h => ?swap, fun _ => firstSplits_gateRow _ _⟩
  case due => rw [exec_lapBoundary, execLapBoundary, if_neg (Nat.not_lt.2 h)]
  case swap =>
    obtain ⟨hstaged, hswap, hlap⟩ := swapLists_unstages h
    exact ⟨hstaged, hswap, hlap, swapLists_lapLength h, fun _ => swapLists_gateList h, fun _ => swapLists_rxWindows h,
      fun _ => swapLists_unstaged h⟩

end Sys2Proof.Machine
end

section
/-! PROOFS. When a frame may start and how a slab is judged (R56 to R58, R64, R65). -/

namespace Sys2Proof.Machine

section
variable {s : State} {p c f : Nat}

/-! ## Gates and open intervals (R56, R57) -/

theorem splitOpens_iff {x : Split} {n : Nat} :
    s.splitOpens x c n = true ↔ x.gate.testBit c = true ∧ (2 ≤ c ∨ x.tenant = 0 ∨ s.activeLap x.tenant n = true) := by
  simp only [State.splitOpens, bit, Bool.and_eq_true, Bool.or_eq_true, decide_eq_true_eq, beq_iff_eq, ge_iff_le, or_assoc]

/-- A class that is open at a gated port: its split has the gate bit, and C0 and C1 are on the mark in an active lap (R53, R56). -/
theorem classOpen_gives (hp : p < 16) (h : s.classOpen p c = true) : s.rel.boot.halted = false ∧
    s.splitOpens (s.splitNow p) c s.time.lap = true ∧ (c < 2 → s.time.offMark = false) := by
  simp only [State.classOpen, State.relayOpen, ge_iff_le, Nat.not_le.2 hp, decide_false, Bool.false_or, Bool.and_eq_true, Bool.or_eq_true,
    Bool.not_eq_true', decide_eq_true_eq] at h
  obtain ⟨⟨hhalt, hopen⟩, hrelay⟩ := h
  exact ⟨hhalt, hopen, fun hc => (hrelay.resolve_left (Nat.not_le.2 hc)).1.2⟩

/-- A class may start a frame where it is open and, in an interval with an end, the frame's end and the guard lie within it (R58). -/
theorem mayLaunch_open (hp : p < 16) (h : s.mayLaunch p c f = true) : s.classOpen p c = true := by
  simp only [State.mayLaunch, ge_iff_le, Nat.not_le.2 hp, decide_false, Bool.false_or, Bool.and_eq_true] at h
  exact h.1

theorem mayLaunch_iff {d g : Nat} (hp : p < 16) (hi : s.interval p c = some (d, g, false)) : s.mayLaunch p c f = true ↔
    s.classOpen p c = true ∧ s.time.gun + f + g * 65536 ≤ s.splitStart p (s.port p).gateRow + d * 65536 := by
  simp only [State.mayLaunch, hi, ge_iff_le, Nat.not_le.2 hp, decide_false, Bool.false_or, Bool.and_eq_true, decide_eq_true_eq, ns]

/-- Going on over further splits only lengthens an interval. -/
theorem extend_le (s : State) (c n t : Nat) (l : List Split) (y : Nat × Nat) : y.1 ≤ (s.extend c n t l y).1 := by
  induction l generalizing y with
  | nil => exact Nat.le_refl _
  | cons x l ih =>
    rw [State.extend]
    split
    · exact (Nat.le_add_right y.1 x.dur).trans (ih (y.1 + x.dur, x.guard))
    · exact Nat.le_refl _

theorem extendLaps_le (s : State) (p c t fuel j : Nat) (y : Nat × Nat) : y.1 ≤ (s.extendLaps p c t fuel j y).1 := by
  induction fuel generalizing j y with
  | zero => exact Nat.le_refl _
  | succ fuel ih =>
    have hle := extend_le s c (lapAdd s.time.lap j) t (s.gateListIn p j) y
    rw [State.extendLaps]
    split
    case h_1 d g h =>
      rw [h] at hle
      exact hle.trans (ih (j + 1) (d, g))
    case h_2 => exact hle

theorem interval_closed (h : s.splitOpens (s.splitNow p) c s.time.lap = false) : s.interval p c = none := if_pos (by simp [h])

/-- An interval lasts at least to the end of the split in force (R57). -/
theorem interval_open (h : s.splitOpens (s.splitNow p) c s.time.lap = true) :
    ∃ y, s.interval p c = some y ∧ (s.splitNow p).dur ≤ y.1 := by
  have hle := extend_le s c s.time.lap (s.splitNow p).tenant ((s.gateListIn p 0).drop ((s.port p).gateRow + 1)) ((s.splitNow p).dur, (s.splitNow p).guard)
  simp only [State.interval, h, Bool.not_true, Bool.false_eq_true, if_false]
  split
  case h_1 d g he =>
    rw [he] at hle
    exact ⟨_, rfl, hle.trans (extendLaps_le s p c _ 64 1 (d, g))⟩
  case h_2 => exact ⟨_, rfl, hle⟩

theorem interval_none_iff : s.interval p c = none ↔ s.splitOpens (s.splitNow p) c s.time.lap = false := by
  refine ⟨fun h => ?_, interval_closed⟩
  by_contra hopen
  obtain ⟨y, hy, -⟩ := interval_open (Bool.not_eq_false _ ▸ hopen)
  rw [h] at hy
  cases hy

theorem interval_dur_le {y : Nat × Nat × Bool} (h : s.interval p c = some y) : (s.splitNow p).dur ≤ y.1 := by
  have hopen : s.splitOpens (s.splitNow p) c s.time.lap = true := by
    by_contra hopen
    rw [interval_none_iff.2 (Bool.eq_false_of_not_eq_true hopen)] at h
    cases h
  obtain ⟨z, hz, hle⟩ := interval_open hopen
  rw [h] at hz
  exact Option.some.inj hz ▸ hle

/-- A split that does not open the class ends the interval. -/
theorem interval_ends {y : Split} {ys : List Split} (hd : (s.gateListIn p 0).drop ((s.port p).gateRow + 1) = y :: ys)
    (hx : s.splitOpens (s.splitNow p) c s.time.lap = true) (hy : s.splitOpens y c s.time.lap = false) :
    s.interval p c = some ((s.splitNow p).dur, (s.splitNow p).guard, false) := by
  simp only [State.interval, hx, hd, State.extend, hy, Bool.not_true, Bool.false_and, Bool.false_eq_true, if_false]

/-! ## The judgement of a slab (R64, R65) -/

variable {t n : Nat} {tf tl : Int} {w : Window}

/-- The opening of a window in lap n at port p (R64). -/
def State.opensAt (s : State) (p n : Nat) (w : Window) : Int := s.lapStartOf n + w.opens * 65536 + s.delayIn p

/-- The closing of a window in lap n at port p. -/
def State.closesAt (s : State) (p n : Nat) (w : Window) : Int := s.opensAt p n w + w.length * 65536

/-- The deadline of a window in lap n at port p. -/
def State.deadlineAt (s : State) (p n : Nat) (w : Window) : Int := s.closesAt p n w + w.deadline * 65536

theorem windowTimes_eq (s : State) (p n : Nat) (w : Window) :
    s.windowTimes p n w = (s.opensAt p n w, s.closesAt p n w, s.deadlineAt p n w) := by
  simp only [State.windowTimes, State.opensAt, State.closesAt, State.deadlineAt, ns, Prod.mk.injEq]
  refine ⟨?_, ?_, ?_⟩ <;> push_cast <;> ring

/-- A first flit lies within a window and the grace of its port. -/
def State.fitsWindow (s : State) (p n : Nat) (tf : Int) : Window → Bool := fun w =>
  decide (s.opensAt p n w - s.cfg Obj.GRACE p * 65536 ≤ tf) && decide (tf ≤ s.closesAt p n w + s.cfg Obj.GRACE p * 65536)

/-- The windows that a slab of tenant t and lap n may have on port p. -/
def State.slabWindows (s : State) (p t n : Nat) : List Window := (s.windowsIn p n).filter (fun w => w.tenant == t || w.tenant == 0)

/-- The laps that a slab may be of: the current one and its neighbours. -/
def State.lapNear (s : State) (n : Nat) : Prop := n = s.time.lap ∨ n = lapAdd s.time.lap 1 ∨ n = lapSub s.time.lap 1

theorem lapNear_iff : (n = s.time.lap || n = lapAdd s.time.lap 1 || n = lapSub s.time.lap 1) = true ↔ s.lapNear n := by
  simp only [State.lapNear, Bool.or_eq_true, decide_eq_true_eq, or_assoc]

theorem judge_far (h : s.time.offMark = true ∨ ¬ s.lapNear n) : s.judge p t n tf tl = .late := by
  refine if_pos ?_
  rw [Bool.or_eq_true, Bool.or_eq_true, Bool.not_eq_true', Bool.not_eq_true', ← Bool.not_eq_true (_ || _), lapNear_iff]
  exact h.imp_left .inl

section
variable (hm : s.time.offMark = false) (hr : s.relayOpen p = true) (hn : s.lapNear n)
include hm hr hn

theorem judge_goes : ¬ (s.time.offMark || !s.relayOpen p || !(n = s.time.lap || n = lapAdd s.time.lap 1 || n = lapSub s.time.lap 1)) = true := by
  rw [lapNear_iff.2 hn, hm, hr]
  decide

/-- The first window that the first flit fits decides, by the flit and the end of the slab. -/
theorem judge_window (hw : (s.slabWindows p t n).find? (s.fitsWindow p n tf) = some w) : s.judge p t n tf tl =
    if s.opensAt p n w ≤ tf ∧ tl ≤ s.closesAt p n w then .onTime
    else if tl ≤ s.closesAt p n w + s.cfg Obj.GRACE p * 65536 then (if tf < s.opensAt p n w then .falseStart else .overrun)
    else if tl ≤ s.deadlineAt p n w then .wide
    else .late := by
  unfold State.fitsWindow State.slabWindows at hw
  rw [State.judge, if_neg (judge_goes hm hr hn)]
  simp only [windowTimes_eq, ns, Nat.cast_mul, Nat.cast_ofNat, hw, Bool.and_eq_true, decide_eq_true_eq]

theorem judge_byEnd (hw : (s.slabWindows p t n).find? (s.fitsWindow p n tf) = some w) :
    (s.opensAt p n w ≤ tf → tl ≤ s.closesAt p n w → s.judge p t n tf tl = .onTime) ∧
    (tf < s.opensAt p n w → tl ≤ s.closesAt p n w + s.cfg Obj.GRACE p * 65536 → s.judge p t n tf tl = .falseStart) ∧
    (s.opensAt p n w ≤ tf → s.closesAt p n w < tl → tl ≤ s.closesAt p n w + s.cfg Obj.GRACE p * 65536 → s.judge p t n tf tl = .overrun) ∧
    (s.closesAt p n w + s.cfg Obj.GRACE p * 65536 < tl → tl ≤ s.deadlineAt p n w → s.judge p t n tf tl = .wide) ∧
    (s.closesAt p n w + s.cfg Obj.GRACE p * 65536 < tl → s.deadlineAt p n w < tl → s.judge p t n tf tl = .late) := by
  rw [judge_window hm hr hn hw]
  refine ⟨fun ho hc => if_pos ⟨ho, hc⟩, fun ho hg => ?_, fun ho hc hg => ?_, fun hg hd => ?_, fun hg hd => ?_⟩
  · rw [if_neg (by omega), if_pos hg, if_pos ho]
  · rw [if_neg (by omega), if_pos hg, if_neg (by omega)]
  · rw [if_neg (by omega), if_neg (by omega), if_pos hd]
  · rw [if_neg (by omega), if_neg (by omega), if_neg (by omega)]

/-- Without one the slab is accepted wide up to the latest deadline of its tenant, and late beyond it. -/
theorem judge_windowless (hw : (s.slabWindows p t n).find? (s.fitsWindow p n tf) = none) :
    ((∃ w ∈ s.slabWindows p t n, tl ≤ s.deadlineAt p n w) → s.judge p t n tf tl = .wide) ∧
    ((∀ w ∈ s.slabWindows p t n, s.deadlineAt p n w < tl) → s.judge p t n tf tl = .late) := by
  have hj : s.judge p t n tf tl = if (s.slabWindows p t n).any (fun w => decide (tl ≤ s.deadlineAt p n w)) then .wide else .late := by
    unfold State.fitsWindow State.slabWindows at hw
    rw [State.judge, if_neg (judge_goes hm hr hn)]
    simp only [windowTimes_eq, ns, Nat.cast_mul, Nat.cast_ofNat, hw, State.slabWindows]
    congr!
  rw [hj]
  refine ⟨fun ⟨w, hmem, hd⟩ => if_pos (List.any_eq_true.2 ⟨w, hmem, decide_eq_true hd⟩), fun hd => if_neg fun h => ?_⟩
  obtain ⟨w, hmem, hle⟩ := List.any_eq_true.1 h
  exact absurd (of_decide_eq_true hle) (not_le.2 (hd w hmem))

end

theorem fitsWindow_iff : s.fitsWindow p n tf w = true ↔
    s.opensAt p n w - s.cfg Obj.GRACE p * 65536 ≤ tf ∧ tf ≤ s.closesAt p n w + s.cfg Obj.GRACE p * 65536 := by
  simp only [State.fitsWindow, Bool.and_eq_true, decide_eq_true_eq]

theorem find?_fitsWindow_none {ws : List Window} (h : ∀ w ∈ ws, ¬ (s.opensAt p n w - s.cfg Obj.GRACE p * 65536 ≤ tf ∧
    tf ≤ s.closesAt p n w + s.cfg Obj.GRACE p * 65536)) : ws.find? (s.fitsWindow p n tf) = none :=
  List.find?_eq_none.2 fun w hw => by rw [fitsWindow_iff]; exact h w hw

theorem find?_fitsWindow_some {pre post : List Window} (h : ∀ y ∈ pre, ¬ (s.opensAt p n y - s.cfg Obj.GRACE p * 65536 ≤ tf ∧
    tf ≤ s.closesAt p n y + s.cfg Obj.GRACE p * 65536)) (hw : s.opensAt p n w - s.cfg Obj.GRACE p * 65536 ≤ tf ∧
    tf ≤ s.closesAt p n w + s.cfg Obj.GRACE p * 65536) : (pre ++ w :: post).find? (s.fitsWindow p n tf) = some w := by
  rw [List.find?_append, find?_fitsWindow_none h, List.find?_cons_of_pos (fitsWindow_iff.2 hw)]
  rfl

end

/-! ## The statement -/

/-- Settles O29: a frame may start in an open split and interval, and a slab is judged by the first window that its first flit fits. -/
theorem launchAndJudgement : Obligations.LaunchAndJudgement := by
  refine ⟨fun s p c f hp => ⟨fun hl => ?launch, fun d g hi => ⟨interval_dur_le hi, fun hl => ((mayLaunch_iff hp hi).1 hl).2,
      fun ho he => (mayLaunch_iff hp hi).2 ⟨ho, he⟩⟩, fun hc => ?closed, fun _ _ => interval_ends⟩,
    fun s p t n tf tl => ⟨judge_far, fun hm hr _ hn => ⟨fun pre w post hws hpre hw => ?window, fun hno hd => ?wide, fun hno hd => ?late⟩⟩⟩
  case launch =>
    obtain ⟨hhalt, hopen, hmark⟩ := classOpen_gives hp (mayLaunch_open hp hl)
    obtain ⟨hgate, hten⟩ := splitOpens_iff.1 hopen
    exact ⟨hgate, hhalt, fun hc => ⟨hmark hc, hten.resolve_left (Nat.not_le.2 hc)⟩⟩
  case closed =>
    rw [interval_none_iff, ← Bool.not_eq_true, splitOpens_iff, ← Bool.not_eq_true]
    exact not_congr (and_iff_left (.inl hc))
  case window =>
    have hfind : (s.slabWindows p t n).find? (s.fitsWindow p n tf) = some w := by
      rw [State.slabWindows, hws]
      exact find?_fitsWindow_some hpre hw
    exact judge_byEnd hm hr hn hfind
  case wide => exact (judge_windowless hm hr hn (find?_fitsWindow_none hno)).1 hd
  case late => exact (judge_windowless hm hr hn (find?_fitsWindow_none hno)).2 hd

end Sys2Proof.Machine
end

section
/-! PROOFS. Splits, lane sleep and the wake limiter (R56, R66 to R69, R126, R436, R437). -/

namespace Sys2Proof.Machine

section
variable {s : State} {port : Nat}

/-! ## Splits (R56) -/

theorem exec_splitBoundary_due (hp : port < 16) (hk : (s.port port).gateRow + 1 < (s.gateListIn port 0).length)
    (ht : s.splitStart port ((s.port port).gateRow + 1) ≤ s.time.gun) : exec (.splitBoundary port) s =
      .next ((s.modPort port (fun x => { x with gateRow := (s.port port).gateRow + 1 })).lateWake port
        (s.splitIdle port (s.splitNow port) s.time.lap)) := if_pos (by simp [hp, hk, ht])

theorem exec_splitBoundary_early (h : s.time.gun < s.splitStart port ((s.port port).gateRow + 1)) :
    exec (.splitBoundary port) s = .next s := if_neg (by simp [Nat.not_le.2 h])

/-! ## Sleep (R66, R67) -/

/-- A port may enter sleep: nothing is on the wire, and a sleep run of at least 3.0 µs begins with the split in force. -/
def State.mayEnter (s : State) (port : Nat) : Prop :=
  port < 16 ∧ (s.port port).st = .up ∧ (s.port port).sleep = .awake ∧ (s.port port).tx = [] ∧
    s.splitIdle port (s.splitNow port) s.time.lap = true ∧ s.sleepStarts port = true ∧ 3000 ≤ s.sleepRun port

theorem mayEnter_iff : (port < 16 && (s.port port).st == .up && (s.port port).sleep == .awake && (s.port port).tx.isEmpty &&
    s.splitIdle port (s.splitNow port) s.time.lap && s.sleepStarts port && s.sleepRun port ≥ 3000) = true ↔ s.mayEnter port := by
  simp only [State.mayEnter, Bool.and_eq_true, decide_eq_true_eq, beq_iff_eq, List.isEmpty_iff, ge_iff_le, and_assoc]

/-- What leaves before the lanes enter sleep on a Psiot port: what is due there, and the SLEEP marker with the run's end (R112). -/
def State.sendSleep (s : State) (port : Nat) (stop : Time) : State :=
  if isPsiot port then (sortBy CtlFlit.rank (s.port port).ctl ++ [CtlFlit.sleep stop]).foldl (fun s f => s.sendCtl port f) s else s

/-- The lanes of a port are entering sleep. -/
def State.entering (s : State) (port : Nat) (start stop : Time) : State :=
  (s.modPort port (fun x => { x with ctl := [], sleep := .entering stop, sleptAt := start + 500 * 65536 })).noteAwake 400

theorem exec_sleepEntry_enters (h : s.mayEnter port) : exec (.sleepEntry port) s = .next
    ((s.sendSleep port (s.splitStart port (s.port port).gateRow + s.sleepRun port * 65536)).entering port
      (s.splitStart port (s.port port).gateRow) (s.splitStart port (s.port port).gateRow + s.sleepRun port * 65536)) :=
  if_pos (mayEnter_iff.2 h)

theorem exec_sleepEntry_stays (h : ¬ s.mayEnter port) : exec (.sleepEntry port) s = .next s := if_neg (mt mayEnter_iff.1 h)

theorem noteAwake_port (s : State) (d p : Nat) : (s.noteAwake d).port p = s.port p := rfl

theorem entering_port (s : State) (port : Nat) (start stop : Time) : ((s.entering port start stop).port port).sleep = .entering stop ∧
    ((s.entering port start stop).port port).ctl = [] ∧ ((s.entering port start stop).port port).sleptAt = start + 500 * 65536 := by
  simp only [State.entering, noteAwake_port, State.port_modPort_same, and_self]

theorem entering_out (s : State) (port : Nat) (start stop : Time) : (s.entering port start stop).out = s.out := rfl

theorem sendSleep_host (h : 14 ≤ port) (stop : Time) : s.sendSleep port stop = s :=
  if_neg (by simp [isPsiot, Nat.not_lt.2 h])

/-- Where nothing else is due the marker leaves alone. -/
theorem sendSleep_out (h : port < 14) (hc : (s.port port).ctl = []) (stop : Time) :
    (s.sendSleep port stop).out = s.out ++ [.ctl port (flitBytes 8 0 (beBytes 10 stop)) (s.txTime port)] := by
  have hone : s.sendSleep port stop = s.sendCtl port (.sleep stop) := by
    rw [State.sendSleep, if_pos (show isPsiot port = true from decide_eq_true h), hc]
    rfl
  rw [hone]
  rfl

/-! ## Pre-wake (R67, R436) -/

variable {stop : Time}

/-- One wake is asked for per transmit lane, and the sleep so far is counted. -/
def State.askWakes (s : State) (port : Nat) : State :=
  { (s.countN Obj.SLEEP_TIME port (s.sleptNow port)).modPort port (fun x => { x with sleep := .preWake (s.runEnd port) }) with
    rel.wakes := s.rel.wakes ++
      ((s.port port).lanes port).map (fun l => ⟨s.runEnd port, 12 + 16 * port + l, 250, 1000 * 65536, none, s.time.gun⟩) }

theorem askWakes_sleep (s : State) (port : Nat) : ((s.askWakes port).port port).sleep = .preWake (s.runEnd port) := by
  have hport : (s.askWakes port).port port =
      ((s.countN Obj.SLEEP_TIME port (s.sleptNow port)).modPort port (fun x => { x with sleep := .preWake (s.runEnd port) })).port port := rfl
  rw [hport, State.port_modPort_same]

theorem askWakes_slept (h : (s.port port).sleep = .entering stop) : (s.askWakes port).cfg Obj.SLEEP_TIME port =
    min (s.cfg Obj.SLEEP_TIME port + (s.time.gun - (s.port port).sleptAt) / 65536) (2 ^ 64 - 1) := by
  have hslept : s.sleptNow port = (s.time.gun - (s.port port).sleptAt) / 65536 := by simp only [State.sleptNow, h, ns]
  rw [← hslept]
  exact cfg_setCfg_same s Obj.SLEEP_TIME port _

theorem exec_preWake_asks (h : (s.port port).sleep = .entering stop) (ht : s.runEnd port ≤ s.time.gun + 2000 * 65536) :
    exec (.preWake port) s = .next (s.askWakes port) := by
  rw [exec_preWake, execPreWake]
  simp only [h, ns, ht, if_true]
  rfl

theorem exec_preWake_early (h : (s.port port).sleep = .entering stop) (ht : s.time.gun + 2000 * 65536 < s.runEnd port) :
    exec (.preWake port) s = .next s := by
  rw [exec_preWake, execPreWake]
  simp only [h, ns, Nat.not_le.2 ht, if_false]

/-! ## The limiter (R437) -/

/-- The wakes granted are the first of those that wait, each with the end of its ramp. -/
theorem grantWakes_eq_take (rate now slope : Nat) (ws : List Wake) : grantWakes rate now ws slope =
    (ws.take (grantWakes rate now ws slope).length).map (fun w => { w with ends := some (now + w.ramp) }) := by
  induction ws generalizing slope with
  | nil => rfl
  | cons w ws ih =>
    rw [grantWakes]
    split
    · rw [List.length_cons, List.take_succ_cons, List.map_cons, ← ih]
    · rfl

/-- They add to the slope no more than the rate allows. -/
theorem grantWakes_slope (rate now slope : Nat) (ws : List Wake) (h : slope ≤ rate) :
    slope + ((grantWakes rate now ws slope).map Wake.slope).sum ≤ rate := by
  induction ws generalizing slope with
  | nil => exact h
  | cons w ws ih =>
    rw [grantWakes]
    split
    case isTrue hw =>
      have hle := ih (slope + w.slope) hw
      simp only [List.map_cons, List.sum_cons]
      omega
    case isFalse => exact h

theorem grantWakes_granted {rate now slope : Nat} {ws : List Wake} {w : Wake} (h : w ∈ grantWakes rate now ws slope) : w.ends.isSome = true := by
  rw [grantWakes_eq_take] at h
  obtain ⟨v, -, rfl⟩ := List.mem_map.1 h
  rfl

theorem activeSlope_append (xs ys : List Wake) : activeSlope (xs ++ ys) = activeSlope xs + activeSlope ys := by
  simp only [activeSlope, List.filter_append, List.map_append, List.sum_append]

/-- The limiter never grants beyond the total slope (110Ch). -/
theorem activeSlope_grants {rate : Nat} (now : Nat) (act pend : List Wake) (h : activeSlope act ≤ rate) :
    activeSlope (act ++ grantWakes rate now pend (activeSlope act)) ≤ rate := by
  have hall : (grantWakes rate now pend (activeSlope act)).filter (fun w => w.ends.isSome) = grantWakes rate now pend (activeSlope act) :=
    List.filter_eq_self.2 fun w hw => grantWakes_granted hw
  rw [activeSlope_append, activeSlope.eq_def (grantWakes ..), hall]
  exact grantWakes_slope rate now _ pend h

/-- What is pending, in the order of R437: by need, then by key. -/
def State.wakesPending (s : State) : List Wake := sortBy (fun w => w.need * 512 + w.key) (s.rel.wakes.filter (fun w => w.ends.isNone))

/-- What ramps. -/
def State.wakesActive (s : State) : List Wake := s.rel.wakes.filter (fun w => w.ends.isSome)

/-- What one evaluation of R437 grants. -/
def State.wakesGranted (s : State) : List Wake := grantWakes (s.cfg Obj.WAKE_RATE) s.time.gun s.wakesPending (activeSlope s.wakesActive)

theorem exec_wakeGrant_wakes (s : State) : ∃ u, exec .wakeGrant s = .next u ∧
    u.rel.wakes = s.wakesActive ++ s.wakesGranted ++ s.wakesPending.drop s.wakesGranted.length := by
  refine ⟨_, rfl, ?_⟩
  refine (foldl_keeps (g := fun u : State => u.rel.wakes) (fun u p _ => ?_) _).trans
    (foldl_keeps (g := fun u : State => u.rel.wakes) (fun u k _ => by rfl) _)
  dsimp only
  split <;> rfl

/-- A ramp that ends leaves the sum. -/
theorem exec_rampEnd_wakes (s : State) : ∃ u, exec .rampEnd s = .next u ∧ u = { s with rel.wakes := u.rel.wakes } ∧
    ∀ w, w ∈ u.rel.wakes ↔ w ∈ s.rel.wakes ∧ ∀ e, w.ends = some e → s.time.gun < e := by
  refine ⟨_, rfl, rfl, fun w => List.mem_filter.trans (and_congr_right fun _ => ?_)⟩
  cases w.ends <;> simp

theorem exec_laneWakeComplete_waking {t : Time} (h : (s.port port).sleep = .waking t) : exec (.laneWakeComplete port) s =
    if t + 1500 * 65536 ≤ s.time.gun then .next ((s.modPort port (fun y => { y with sleep := .awake })).noteAwake 0) else .next s := by
  rw [exec_laneWakeComplete, execLaneWakeComplete]
  simp only [h, ns]

end

/-! ## The statement -/

/-- Settles O30: the splits take effect in turn, lanes sleep through a long run and ask to wake before its end, and the limiter grants in order
within its slope. -/
theorem sleepResults : Obligations.SleepResults := by
  intro s port stop t
  refine ⟨fun hp hk ht => ?split, exec_splitBoundary_early, fun h => ?enters, exec_sleepEntry_stays,
    fun h ht => ⟨_, exec_preWake_asks h ht, askWakes_sleep s port, rfl, askWakes_slept h⟩, exec_preWake_early, ?grants, exec_rampEnd_wakes s, fun h ht => (exec_laneWakeComplete_waking h).trans (if_pos ht),
    fun h ht => (exec_laneWakeComplete_waking h).trans (if_neg (Nat.not_le.2 ht))⟩
  case split =>
    refine ⟨_, exec_splitBoundary_due hp hk ht, ?_, fun q hq => ?_⟩
    · rw [lateWake_port, State.port_modPort_same]
    · rw [lateWake_port, State.port_modPort_other _ _ hq]
  case enters =>
    obtain ⟨hsleep, hctl, hslept⟩ := entering_port
      (s.sendSleep port (s.splitStart port (s.port port).gateRow + s.sleepRun port * 65536)) port
      (s.splitStart port (s.port port).gateRow) (s.splitStart port (s.port port).gateRow + s.sleepRun port * 65536)
    exact ⟨_, exec_sleepEntry_enters h, hsleep, hctl, hslept, fun hp => (entering_out ..).trans (congrArg State.out (sendSleep_host hp _)),
      fun hp hc => (entering_out ..).trans (sendSleep_out hp hc _)⟩
  case grants =>
    obtain ⟨u, hu, hwakes⟩ := exec_wakeGrant_wakes s
    exact ⟨u, hu, hwakes, activeSlope_grants s.time.gun s.wakesActive s.wakesPending, grantWakes_eq_take ..⟩

end Sys2Proof.Machine
end

section
/-! PROOFS. Frames coming in (R32, R105, R107 to R109, R112 to R114, R119, R123, R124, R127, R128, R262, R268, R269). -/

namespace Sys2Proof.Machine

section
variable {s : State} {port sub flits fine fid : Nat} {b : Blob} {f : Frame}

/-! ## The arrival (R105, R112) -/

/-- A sub-port takes no frame: there is none, it is down, or its port passes no frames (R119, R123). -/
def State.outOfService (s : State) (port sub : Nat) : Prop :=
  15 < port ∨ s.subports port ≤ sub ∨ sub ∈ (s.port port).subDown ∨
    ¬ ((s.port port).st = .up ∨ ((s.port port).st = .isolated ∧ port < 14))

theorem outOfService_iff : (port > 15 || s.subports port ≤ sub || (s.port port).subDown.contains sub ||
    !((s.port port).st == .up || ((s.port port).st == .isolated && isPsiot port))) = true ↔ s.outOfService port sub := by
  simp only [State.outOfService, isPsiot, Bool.or_eq_true, Bool.not_eq_true', ← Bool.not_eq_true, Bool.and_eq_true, decide_eq_true_eq,
    beq_iff_eq, List.contains_iff_mem, gt_iff_lt, or_assoc]

theorem exec_frameArrival_ignored (h : s.outOfService port sub) : exec (.frameArrival port sub b flits fine) s = .next s :=
  if_pos (outOfService_iff.2 h)

theorem inService_psiot (hp : port < 14) (hd : 0 ∉ (s.port port).subDown) (hst : (s.port port).st = .up ∨ (s.port port).st = .isolated) :
    ¬ s.outOfService port 0 := by
  have hsub : s.subports port = 1 := if_neg (by simp [isHost]; omega)
  simp only [State.outOfService, hsub, hp, hd, hst, and_true, not_true, or_false, not_or, not_lt, not_le]
  omega

theorem inService_host (hp : port = 14 ∨ port = 15) (hsub : sub < s.subports port) (hd : sub ∉ (s.port port).subDown)
    (hst : (s.port port).st = .up) : ¬ s.outOfService port sub := by
  simp only [State.outOfService, hd, hst, true_or, not_true, or_false, not_or, not_lt, not_le]
  exact ⟨by omega, hsub⟩

/-- A frame as it enters on a sub-port, its first flit at the pin to a step of 78.125 ps (R32). -/
def State.arriving (e : State) (port sub : Nat) (b : Blob) (flits fine : Nat) : Frame := { Frame.blank with
  src := 0, port := port, sub := sub, bytes := b, flits := flits
  tf := (((e.time.gun + fine % 16 * 5120 : Nat) : Int) - e.timePath (8 * port + 4)).toNat
  ended := .arriving, startType := e.cfg Obj.START_TYPE port }

/-- The same with what a fabric header says (R108). -/
def State.arrivingFabric (e : State) (port sub : Nat) (b : Blob) (flits fine : Nat) : Frame := { e.arriving port sub b flits fine with
  cls := fhClass b, phys := 32 + fhLength b, parseTenant := fhDest b / 2 ^ 24, tenant := fhDest b / 2 ^ 24 }

/-- On a Psiot port a frame is dropped for its header, its class or its credits, or enters (R109, R113, R119). -/
theorem exec_frameArrival_psiot (h : ¬ s.outOfService port sub) (hp : port < 14) : exec (.frameArrival port sub b flits fine) s =
    .next (if headerOk b = false then (s.endFrame port sub .cut).enterFrame ((s.endFrame port sub .cut).arrivingFabric port sub b flits fine) true
      else if (s.port port).st = .isolated ∧ fhClass b ≠ 3 then
        ((s.endFrame port sub .cut).count Obj.ISOLATED_DROPS port).enterFrame ((s.endFrame port sub .cut).arrivingFabric port sub b flits fine) true
      else if 2 ≤ fhClass b ∧ ((s.endFrame port sub .cut).port port).freeFlits (fhClass b) < flits then
        (((s.endFrame port sub .cut).count Obj.CREDIT_VIOLATIONS port).raise 2 none Obj.CREDIT_VIOLATIONS port).enterFrame
          ((s.endFrame port sub .cut).arrivingFabric port sub b flits fine) true
      else (s.endFrame port sub .cut).enterFrame ((s.endFrame port sub .cut).arrivingFabric port sub b flits fine) false) := by
  have hpsiot : isPsiot port = true := decide_eq_true hp
  rw [exec_frameArrival, execFrameArrival, if_neg (mt outOfService_iff.1 h)]
  simp only [hpsiot, if_true, Bool.not_eq_true', Bool.and_eq_true, beq_iff_eq, bne_iff_ne, decide_eq_true_eq, ge_iff_le]
  split
  · rfl
  · split
    · rfl
    · split <;> rfl

/-- On a host port a frame enters, dropped where it is shorter than 64 bytes (R127). -/
theorem exec_frameArrival_host (h : ¬ s.outOfService port sub) (hp : 14 ≤ port) : ∃ cls t,
    exec (.frameArrival port sub b flits fine) s = .next ((s.endFrame port sub .cut).enterFrame
      { (s.endFrame port sub .cut).arriving port sub b flits fine with phys := b.length - 4, cls := cls, parseTenant := t, tenant := t }
      (decide (b.length < 64))) := by
  have hhost : isPsiot port = false := decide_eq_false (Nat.not_lt.2 hp)
  rw [exec_frameArrival, execFrameArrival, if_neg (mt outOfService_iff.1 h)]
  simp only [hhost, Bool.false_eq_true, if_false]
  exact ⟨_, _, rfl⟩

/-! ## The end (R109, R124, R127, R128) -/

theorem exec_frameEnd_idle {k : EndKind} (h : tabGet? s.ingress (port * 8 + sub) = none) : exec (.frameEnd port sub k) s = .next s := by
  rw [exec_frameEnd, execFrameEnd, State.endFrame, ingressKey, h]

theorem verdict_psiot (h : f.port < 14) : s.verdict f .whole =
    if 402 ≤ f.flits then some (some Obj.GIANTS, 4)
    else if ¬ (headerOk f.bytes = true ∧ f.flits = flitsOf (fhLength f.bytes) ∧ f.bytes.length = 36 + fhLength f.bytes) then
      some (some Obj.HEADER_ERRORS, 1)
    else if crc32 (f.bytes.take (f.bytes.length - 4)) ≠ beAt f.bytes (32 + fhLength f.bytes) 4 then some (some Obj.BAD_CRC, 1)
    else none := by
  have hbad : (!headerOk f.bytes || f.flits != flitsOf (fhLength f.bytes) || f.bytes.length != 36 + fhLength f.bytes) = true ↔
      ¬ (headerOk f.bytes = true ∧ f.flits = flitsOf (fhLength f.bytes) ∧ f.bytes.length = 36 + fhLength f.bytes) := by
    simp only [Bool.or_eq_true, Bool.not_eq_true', ← Bool.not_eq_true, bne_iff_ne, ne_eq, not_and_or, or_assoc]
  have hpsiot : isPsiot f.port = true := decide_eq_true h
  simp only [State.verdict, hpsiot, if_true, hbad, ge_iff_le, bne_iff_ne]
  split
  · rfl
  · split
    · rfl
    case isFalse hgood =>
      obtain ⟨-, -, hlen⟩ := not_not.1 hgood
      rw [hlen, show 36 + fhLength f.bytes - 4 = 32 + fhLength f.bytes by omega]

theorem verdict_host (h : 14 ≤ f.port) : s.verdict f .whole =
    if f.bytes.length < 64 then some (some Obj.RUNTS, 1)
    else if s.cfg Obj.MAX_FRAME f.port < f.bytes.length then some (some Obj.GIANTS, 4)
    else if f.bytes.drop (f.bytes.length - 4) = (fcs (f.bytes.take (f.bytes.length - 4))).map (fun y => ~~~y) then some (some Obj.STOMPS_RX, 1)
    else if f.bytes.drop (f.bytes.length - 4) ≠ fcs (f.bytes.take (f.bytes.length - 4)) then some (some Obj.BAD_CRC, 1)
    else none := by
  have hhost : isPsiot f.port = false := decide_eq_false (Nat.not_lt.2 h)
  simp only [State.verdict, hhost, Bool.false_eq_true, if_false, beq_iff_eq, bne_iff_ne]

end

/-! ## The statement -/

/-- Settles O33: which frames enter, which are counted and dropped, and what a frame's end makes of it. -/
theorem frameInResults : Obligations.FrameInResults := by
  intro s port sub flits fine b k fid f
  refine ⟨exec_frameArrival_ignored, ?header, ?isolated, ?credit, ?enters, ?host, exec_frameEnd_idle, fun hi hf => ?ends, fun _ => rfl, rfl,
    rfl, rfl, verdict_psiot, verdict_host⟩
  case header =>
    rintro ⟨hp, rfl, hd, hst⟩ hh
    exact (exec_frameArrival_psiot (inService_psiot hp hd hst) hp).trans (by rw [if_pos hh]; rfl)
  case isolated =>
    rintro ⟨hp, rfl, hd, hst⟩ hh hi hc
    exact (exec_frameArrival_psiot (inService_psiot hp hd hst) hp).trans (by rw [if_neg (by simp [hh]), if_pos ⟨hi, hc⟩]; rfl)
  case credit =>
    rintro ⟨hp, rfl, hd, hst⟩ hh hs hc hf
    have htaken : ¬ ((s.port port).st = .isolated ∧ fhClass b ≠ 3) := fun h => hs.elim (fun hu => by simp [hu] at h) h.2
    exact (exec_frameArrival_psiot (inService_psiot hp hd hst) hp).trans
      (by rw [if_neg (by simp [hh]), if_neg htaken, if_pos ⟨hc, hf⟩]; rfl)
  case enters =>
    rintro ⟨hp, rfl, hd, hst⟩ hh hs hc
    have htaken : ¬ ((s.port port).st = .isolated ∧ fhClass b ≠ 3) := fun h => hs.elim (fun hu => by simp [hu] at h) h.2
    have hfits : ¬ (2 ≤ fhClass b ∧ ((s.endFrame port 0 .cut).port port).freeFlits (fhClass b) < flits) := fun h =>
      hc.elim (Nat.not_lt.2 h.1) (Nat.not_le.2 h.2)
    exact (exec_frameArrival_psiot (inService_psiot hp hd hst) hp).trans
      (by rw [if_neg (by simp [hh]), if_neg htaken, if_neg hfits]; rfl)
  case host =>
    intro hu hp hsub hd
    obtain ⟨cls, t, he⟩ := exec_frameArrival_host (b := b) (flits := flits) (fine := fine) (inService_host hp hsub hd hu) (by omega)
    exact ⟨_, he, rfl, rfl, rfl, rfl, rfl, rfl⟩
  case ends =>
    have hframe : ({ s with ingress := tabDel s.ingress (port * 8 + sub) } : State).frame? fid = some f := hf
    rw [exec_frameEnd, execFrameEnd, State.endFrame, ingressKey, hi]
    simp only [hframe]
    rfl

end Sys2Proof.Machine
end

section
/-! PROOFS. The parse and the fragments (R65, R86, R135, R139 to R146, R148, R150 to R153). -/

namespace Sys2Proof.Machine

section
variable {s : State} {fid n : Nat} {e : Ecc} {f h : Frame}

/-! ## Frames of a state -/

/-- A frame reads back as it was changed. -/
theorem frame?_modFrame (s : State) (fid : Nat) (g : Frame → Frame) : (s.modFrame fid g).frame? fid = (s.frame? fid).map g := by
  unfold State.modFrame State.frame? tabMod
  dsimp only
  split
  case h_1 v hv => rw [tabGet?_set_same, hv, Option.map_some]
  case h_2 hv => rw [hv, Option.map_none]

theorem post_frames (s : State) (q tenant what : Nat) : (s.post q tenant what).frames = s.frames := by
  simp only [State.post]
  split
  · split <;> rfl
  · rfl

theorem logError_frames (s : State) (source severity att : Nat) (tenant : Option Nat) (o i detail : Nat) :
    (s.logError source severity att tenant o i detail).frames = s.frames := by
  have hraise : ∀ u : State, (if att = 0 then u else u.raise att tenant o i).frames = u.frames := fun u => by split <;> rfl
  simp only [State.logError, hraise]
  split
  · rfl
  · rw [post_frames]
    split <;> rfl

theorem sramEvent_frames (s : State) (u addr : Nat) (e : Ecc) : (s.sramEvent u addr e).frames = s.frames := by
  cases e with
  | clean => rfl
  | corrected => exact logError_frames ..
  | uncorrectable => exact logError_frames ..

/-- A frame that is forgotten is not found any more. -/
theorem frame?_of_forget {u : State} (hd : (u.forget fid).frame? fid = some h) : u.frame? fid = some h := by
  unfold State.forget at hd
  split at hd
  · exact hd
  · rw [State.frame?, tabGet?_del_same] at hd
    cases hd

/-- A frame dropped at its judgement holds no cells, where its record stays (R65). -/
theorem dropArrival_baton (hd : (s.dropArrival fid).frame? fid = some h) : h.baton = 0 := by
  have hzero : ∀ u : State, (u.modFrame fid (fun f => { f with baton := 0 })).frame? fid = some h → h.baton = 0 := by
    intro u hu
    rw [frame?_modFrame] at hu
    obtain ⟨y, -, rfl⟩ := Option.map_eq_some_iff.1 hu
    rfl
  unfold State.dropArrival at hd
  split at hd
  case h_1 hn =>
    rw [hn] at hd
    cases hd
  case h_2 => exact hzero _ (frame?_of_forget hd)

/-! ## The walk (R139 to R146) -/

/-- The walk of a frame's window under its graph; a host frame that still arrives behind its window has no length yet (R141). -/
def State.walkOf (s : State) (f : Frame) : Walk := walk (s.graphOf f) (windowBytes f.bytes f.phys) f.startType
  (if f.src == 0 && isHost f.port && f.ended == .arriving && f.phys > 256 then none else some f.phys)

/-- The class that the walk finds (R147). -/
def State.walkClass (s : State) (f : Frame) : Nat :=
  if f.src == 0 then s.classOf (s.graphOf f) f.port (windowBytes f.bytes f.phys) (s.walkOf f).headers (s.walkOf f).inner else f.cls

/-- The parse tenant that the walk finds (R146). -/
def State.walkTenant (s : State) (f : Frame) : Nat := s.tenantBySource f (s.graphOf f) (windowBytes f.bytes f.phys) (s.walkOf f).headers

/-- What the walk meets in the parse graph (R189). -/
def State.walkEcc (s : State) (f : Frame) (e : Ecc) : Bool × State := s.graphEcc ((s.walkOf f).headers.map Prod.fst) e

/-- The flags of the card after the walk: an uncorrectable entry of the graph drops the frame. -/
def State.walkFlags (s : State) (f : Frame) (e : Ecc) : CardFlags :=
  if (s.walkEcc f e).1 then { s.walkActions (s.walkTenant f) (s.walkOf f).flags with drop := true }
  else s.walkActions (s.walkTenant f) (s.walkOf f).flags

/-- The walk counts the frame and what is wrong with its headers (R140, R141, R144). -/
def State.walkCounted (s : State) (f : Frame) (e : Ecc) : State :=
  let u := (s.walkEcc f e).2.count Obj.PARSED f.inst
  let u := if (s.walkOf f).flags.depthExceeded then u.count Obj.DEPTH_EXCEEDED f.inst else u
  let u := if (s.walkOf f).flags.lenConflict then u.count Obj.LEN_CONFLICTS f.inst else u
  if (s.walkOf f).csumBad = 0 then u else u.countN Obj.L3_CSUM_ERRORS f.inst (s.walkOf f).csumBad

/-- What the walk enters in a frame's record. -/
def State.walked (s : State) (f : Frame) (e : Ecc) (y : Frame) : Frame := { y with
  walked := true, walkFlags := s.walkFlags f e, headers := (s.walkOf f).headers, inner := (s.walkOf f).inner, tags := (s.walkOf f).tags
  claim := (s.walkOf f).claim, frag := (s.walkOf f).frag, parseTenant := s.walkTenant f, tenant := s.walkTenant f
  cls := s.walkClass f, graph := some (s.graphOf f) }

theorem walkFrame_eq (s : State) (fid : Nat) (f : Frame) (e : Ecc) : s.walkFrame fid f e =
    if f.src == 0 && s.walkClass f < 2 then ((s.walkCounted f e).modFrame fid (s.walked f e)).registerSlab fid
    else (s.walkCounted f e).modFrame fid (s.walked f e) := rfl

theorem walkOf_eq (s : State) (f : Frame) : s.walkOf f = walk (s.graphOf f) (windowBytes f.bytes f.phys) f.startType
    (if f.src = 0 ∧ isHost f.port = true ∧ f.ended = .arriving ∧ 256 < f.phys then none else some f.phys) := by
  simp only [State.walkOf, Bool.and_eq_true, beq_iff_eq, decide_eq_true_eq, gt_iff_lt, and_assoc]

theorem walkClass_eq (s : State) (f : Frame) : s.walkClass f = if f.src = 0 then
    s.classOf (s.graphOf f) f.port (windowBytes f.bytes f.phys) (s.walkOf f).headers (s.walkOf f).inner else f.cls := by
  simp only [State.walkClass, beq_iff_eq]

theorem walkCounted_frames (s : State) (f : Frame) (e : Ecc) : (s.walkCounted f e).frames = s.frames := by
  have hecc : (s.walkEcc f e).2.frames = s.frames := by
    unfold State.walkEcc State.graphEcc
    dsimp only
    split <;> exact sramEvent_frames s 26 0 e
  have hcount : ∀ (c : Bool) (o : Nat) (u : State), (if c then u.count o f.inst else u).frames = u.frames := fun c o u => by cases c <;> rfl
  have hsum : ∀ (k : Nat) (u : State), (if k = 0 then u else u.countN Obj.L3_CSUM_ERRORS f.inst k).frames = u.frames := fun k u => by
    split <;> rfl
  simp only [State.walkCounted, hsum, hcount, State.count_frames, hecc]

theorem walkFlags_uncorrectable (s : State) (f : Frame) : (s.walkFlags f .uncorrectable).drop = true := rfl

/-- The walk of a frame that is no relay slab changes its record alone among the frames. -/
theorem walkFrame_frame? (hf : s.frame? fid = some f) (hp : ¬ (f.src = 0 ∧ s.walkClass f < 2)) :
    (s.walkFrame fid f e).frame? fid = some (s.walked f e f) := by
  rw [walkFrame_eq, if_neg (by simpa using hp), frame?_modFrame, State.frame?, walkCounted_frames, ← State.frame?, hf]
  rfl

theorem judgeSlab_plain (hf : s.frame? fid = some f) (hp : f.src ≠ 0 ∨ 2 ≤ f.cls) : s.judgeSlab fid = s := by
  have hno : (f.src != 0 || f.cls ≥ 2 || f.relayLap.isSome || f.baton = 0) = true := by
    rcases hp with hp | hp <;> simp [hp]
  simp only [State.judgeSlab, hf, hno, if_true]

/-- The judgement of a relay slab of the lap that its header names (R65, R74). -/
def State.slabJudged (s : State) (f : Frame) : Judgement :=
  s.judge f.port (fhDest f.bytes / 2 ^ 24) (s.lapOf (relayWordOf (fhWord f.bytes)).lap) f.tf (f.tf + (s.port f.port).flitTime f.flits : Nat)

section
variable (hf : s.frame? fid = some f) (hsrc : f.src = 0) (hcls : f.cls < 2) (hlap : f.relayLap = none) (hb : f.baton ≠ 0)
include hf hsrc hcls hlap hb

omit hf in
theorem judgeSlab_goes : ¬ (f.src != 0 || f.cls ≥ 2 || f.relayLap.isSome || f.baton = 0) = true := by
  simp [hsrc, hlap, hb, hcls]

theorem judgeSlab_late (hj : s.slabJudged f = .late) : s.judgeSlab fid = (s.count Obj.LATE_DROPS f.port).dropArrival fid := by
  unfold State.slabJudged at hj
  simp only [State.judgeSlab, hf, if_neg (judgeSlab_goes hsrc hcls hlap hb), hj]

theorem judgeSlab_onTime (hj : s.slabJudged f = .onTime) : s.judgeSlab fid = s.modFrame fid (fun y => { y with
    relayLap := some (s.lapOf (relayWordOf (fhWord f.bytes)).lap), parseTenant := fhDest f.bytes / 2 ^ 24 }) := by
  unfold State.slabJudged at hj
  simp only [State.judgeSlab, hf, if_neg (judgeSlab_goes hsrc hcls hlap hb), hj]

end

/-- A frame waits for its walk. -/
def Frame.awaitsWalk (f : Frame) : Prop := f.walked = false ∧ f.baton ≠ 0 ∧ f.src ≠ 1

theorem awaitsWalk_iff : (f.walked || f.baton = 0 || f.src == 1) = true ↔ ¬ f.awaitsWalk := by
  simp only [Frame.awaitsWalk, Bool.or_eq_true, decide_eq_true_eq, beq_iff_eq, not_and_or, Bool.not_eq_false, not_not, or_assoc]

theorem exec_parseWalk_idle (hf : s.frame? fid = some f) (hw : ¬ f.awaitsWalk) : exec (.parseWalk fid e) s = .next s := by
  rw [exec_parseWalk, execParseWalk]
  simp only [hf, awaitsWalk_iff.2 hw, if_true]

section
variable (hf : s.frame? fid = some f) (hw : f.awaitsWalk)
include hf hw

theorem exec_parseWalk_walks (hh : (s.judgeSlab fid).frame? fid = some h) (hb : h.baton ≠ 0) :
    exec (.parseWalk fid e) s = .next ((s.judgeSlab fid).walkFrame fid h e) := by
  rw [exec_parseWalk, execParseWalk]
  simp only [hf, if_neg (fun hn => awaitsWalk_iff.1 hn hw), hh, if_neg hb]

/-- A slab that its judgement drops is not walked. -/
theorem exec_parseWalk_dropped (hh : ∀ h, (s.judgeSlab fid).frame? fid = some h → h.baton = 0) :
    exec (.parseWalk fid e) s = .next (s.judgeSlab fid) := by
  rw [exec_parseWalk, execParseWalk]
  simp only [hf, if_neg (fun hn => awaitsWalk_iff.1 hn hw)]
  split
  case h_1 => rfl
  case h_2 h hs => rw [if_pos (hh h hs)]

end

/-! ## The card (R135, R148, R152) -/

/-- A frame's card may be written: its window is filled or it has ended, and no earlier frame of its engine waits. -/
def State.cardDue (s : State) (fid : Nat) (f : Frame) : Prop :=
  f.walked = true ∧ f.card = none ∧ f.baton ≠ 0 ∧ f.src ≠ 1 ∧ (f.whole = true ∨ 256 ≤ f.phys) ∧ s.cardBehind fid f = false

theorem cardDue_iff : (!f.walked || f.card.isSome || f.baton = 0 || f.src == 1 || !(f.whole || f.phys ≥ 256) || s.cardBehind fid f) = true ↔
    ¬ s.cardDue fid f := by
  simp only [State.cardDue, Bool.or_eq_true, Bool.not_eq_true', ← Bool.not_eq_true, decide_eq_true_eq, beq_iff_eq, ge_iff_le,
    Option.isSome_iff_ne_none, ne_eq, not_and_or, not_not, or_assoc]

theorem not_relay (hp : h.src ≠ 0 ∨ 2 ≤ h.cls) : (h.src == 0 && decide (h.cls < 2)) = false := by
  rcases hp with hp | hp
  · simp [hp]
  · simp [Nat.not_lt.2 hp]

theorem exec_cardWrite_waits (hf : s.frame? fid = some f) (hd : ¬ s.cardDue fid f) : exec (.cardWrite fid) s = .next s := by
  rw [exec_cardWrite, execCardWrite]
  simp only [hf, cardDue_iff.2 hd, if_true]

/-- The frame of a card, its length compared (R141). -/
def State.cardFrame (s : State) (fid : Nat) (f : Frame) : Frame := ((s.resolvePending fid f).frame? fid).getD f

section
variable (hf : s.frame? fid = some f) (hd : s.cardDue fid f)
include hf hd

theorem exec_cardWrite_slab (hsrc : (s.cardFrame fid f).src = 0) (hcls : (s.cardFrame fid f).cls < 2) : exec (.cardWrite fid) s =
    .next ((s.resolvePending fid f).sendCard fid { (s.cardFrame fid f).baseCard with
      od := (s.resolvePending fid f).odIn (s.cardFrame fid f).baseCard.tenant (s.cardFrame fid f).port } true) := by
  have hslab : ((s.cardFrame fid f).src == 0 && decide ((s.cardFrame fid f).cls < 2)) = true := by simp [hsrc, hcls]
  rw [exec_cardWrite, execCardWrite]
  unfold State.cardFrame at hslab ⊢
  simp only [hf, if_neg (fun hn => cardDue_iff.1 hn hd), hslab, if_true]

variable (hp : (s.cardFrame fid f).src ≠ 0 ∨ 2 ≤ (s.cardFrame fid f).cls)
include hp

theorem exec_cardWrite_ruled (hfrag : (s.cardFrame fid f).frag = none) : exec (.cardWrite fid) s = .next
    (((s.resolvePending fid f).ruleCard (s.cardFrame fid f) (s.cardFrame fid f).baseCard).2.sendCard fid
      ((s.resolvePending fid f).ruleCard (s.cardFrame fid f) (s.cardFrame fid f).baseCard).1 true) := by
  have hplain := not_relay hp
  rw [exec_cardWrite, execCardWrite]
  unfold State.cardFrame at hplain hfrag ⊢
  simp only [hf, if_neg (fun hn => cardDue_iff.1 hn hd), hplain, hfrag, Bool.false_eq_true, if_false]

theorem exec_cardWrite_first {y : Nat} {key : Blob} (hfrag : (s.cardFrame fid f).frag = some (y, 0))
    (hkey : (s.cardFrame fid f).fragKey? = some key) : exec (.cardWrite fid) s =
    .next ((s.resolvePending fid f).firstFragment fid (s.cardFrame fid f) (s.cardFrame fid f).baseCard key) := by
  have hplain := not_relay hp
  rw [exec_cardWrite, execCardWrite]
  unfold State.cardFrame at hplain hfrag hkey ⊢
  simp only [hf, if_neg (fun hn => cardDue_iff.1 hn hd), hplain, hfrag, hkey, Bool.false_eq_true, if_false]

theorem exec_cardWrite_later {y z : Nat} {key : Blob} (hfrag : (s.cardFrame fid f).frag = some (y, z + 1))
    (hkey : (s.cardFrame fid f).fragKey? = some key) : exec (.cardWrite fid) s =
    .next ((s.resolvePending fid f).laterFragment fid (s.cardFrame fid f) (s.cardFrame fid f).baseCard
      ((s.resolvePending fid f).findFrag (s.cardFrame fid f).parseTenant key)) := by
  have hplain := not_relay hp
  rw [exec_cardWrite, execCardWrite]
  unfold State.cardFrame at hplain hfrag hkey ⊢
  simp only [hf, if_neg (fun hn => cardDue_iff.1 hn hd), hplain, hfrag, hkey, Bool.false_eq_true, if_false]

end

theorem resolvePending_compared (hl : f.walkFlags.lenPending = false) : s.resolvePending fid f = s := if_pos (by simp [hl])

/-! ## Fragments (R151 to R153) -/

variable {en : FragEntry} {t : Time} {c : Card}

theorem laterFragment_decided (hst : en.st = .decided) : s.laterFragment fid f c (some (n, en)) = s.sendCard fid { c with
    flags := { c.flags with fragLater := true }, od := en.od, program := en.program, edit := en.edit, metaW := en.metaW, results := en.results
    fragEntry := n } true := if_pos hst

theorem exec_fragHoldExpiry_held (hf : s.frame? fid = some f) (ht : f.heldAt = some t) (hc : f.card = some c) : exec (.fragHoldExpiry fid) s =
    .next (if f.tf + s.cfg Obj.HOLD_TIME * 1000 * 65536 ≤ s.time.gun then ((s.unholdFrag fid).count Obj.HOLD_TIMEOUTS).fragExpire fid f c
      else s) := by
  rw [exec_fragHoldExpiry, execFragHoldExpiry]
  simp only [hf, ht, hc]
  split <;> rfl

theorem exec_fragHoldExpiry_unheld (hf : s.frame? fid = some f) (ht : f.heldAt = none) : exec (.fragHoldExpiry fid) s = .next s := by
  rw [exec_fragHoldExpiry, execFragHoldExpiry]
  simp only [hf, ht]

theorem exec_fragEntryExpiry_some (he : tabGet? s.parser.frags n = some en) : exec (.fragEntryExpiry n) s =
    .next (if en.created + s.cfg Obj.FRAG_LIFETIME * 1000 * 65536 ≤ s.time.gun then { s with parser.frags := tabDel s.parser.frags n }
      else s) := by
  rw [exec_fragEntryExpiry, execFragEntryExpiry]
  simp only [he]
  split <;> rfl

theorem exec_fragEntryExpiry_none (he : tabGet? s.parser.frags n = none) : exec (.fragEntryExpiry n) s = .next s := by
  rw [exec_fragEntryExpiry, execFragEntryExpiry]
  simp only [he]

end

/-! ## The statement -/

/-- Settles O37: what a walk enters in a frame's record or drops, the card by its kind, and the lapse of held fragments and of entries. -/
theorem parseResults : Obligations.ParseResults := by
  intro s fid n e f en t c hf
  refine ⟨exec_parseWalk_idle hf, fun hw hp hc => ?walks, fun hw hsrc hcls hlap => ⟨fun hj => ?late, fun hj => ?onTime⟩, exec_cardWrite_waits hf,
    exec_cardWrite_slab hf, exec_cardWrite_ruled hf, fun y key hd hp => exec_cardWrite_first hf hd hp,
    fun y z key hd hp => exec_cardWrite_later hf hd hp, resolvePending_compared, laterFragment_decided, exec_fragHoldExpiry_held hf,
    exec_fragHoldExpiry_unheld hf, exec_fragEntryExpiry_some, exec_fragEntryExpiry_none⟩
  case walks =>
    have ⟨_, hb, _⟩ := hw
    have hjudge := judgeSlab_plain hf hp
    simp only [← walkOf_eq, ← walkClass_eq] at hc ⊢
    have he := exec_parseWalk_walks (e := e) hf hw (hjudge.symm ▸ hf) hb
    rw [hjudge] at he
    exact ⟨_, _, he, walkFrame_frame? hf hc, rfl, rfl, rfl, rfl, rfl, rfl, rfl, rfl, rfl, fun hu => hu ▸ walkFlags_uncorrectable s f⟩
  case late =>
    have ⟨_, hb, _⟩ := hw
    have hjudge := judgeSlab_late hf hsrc hcls hlap hb hj
    rw [← hjudge]
    exact exec_parseWalk_dropped hf hw fun h hh => dropArrival_baton (hjudge ▸ hh)
  case onTime =>
    have ⟨_, hb, _⟩ := hw
    have hjudge := judgeSlab_onTime hf hsrc hcls hlap hb hj
    rw [← hjudge]
    refine exec_parseWalk_walks hf hw ?_ hb
    rw [hjudge, frame?_modFrame, hf]
    rfl

end Sys2Proof.Machine
end

section
/-! PROOFS. Gun time, its ticks, its alignment and PTP (R31, R33, R46 to R49). -/

namespace Sys2Proof.Machine

section
variable {s : State}

/-! ## Ticks (R31, R33) -/

/-- Gun time never runs backwards. -/
theorem tick_forward {a : Nat} {t : Int} (h : (a : Int) + max 0 t / 65536 < 2 ^ 80) : a ≤ ((a : Int) + max 0 t / 65536).toNat % 2 ^ 80 := by
  have hdiv : 0 ≤ max 0 t / 65536 := Int.ediv_nonneg (le_max_left 0 t) (by decide)
  rw [Nat.mod_eq_of_lt (by omega)]
  omega

/-! ## 1PPS_IN (R47) -/

/-- The Anchor judges edges in the modes that take 1PPS_IN. -/
def State.judgesPps (s : State) : Prop :=
  s.time.role = .anchor ∧ (s.cfg Obj.EXT_ALIGN = 1 ∨ s.cfg Obj.EXT_ALIGN = 4 ∨ s.cfg Obj.EXT_ALIGN = 5)

theorem judgesPps_iff : (s.time.role == .anchor && s.ppsMode) = true ↔ s.judgesPps := by
  simp only [State.judgesPps, State.ppsMode, Bool.and_eq_true, beq_iff_eq, List.contains_iff_mem, List.mem_cons, List.not_mem_nil, or_false]

theorem judgesNoPps_iff : (s.time.role != .anchor || !s.ppsMode) = true ↔ ¬ s.judgesPps := by
  rw [← judgesPps_iff, bne, ← Bool.not_and, Bool.not_eq_true', Bool.not_eq_true]

theorem phasesAgree_iff (l : List Time) : phasesAgree l = true ↔
    l.Pairwise (fun a b => (a + second - b + 1000 * 65536) % second ≤ 2000 * 65536) := by
  induction l with
  | nil => simp [phasesAgree]
  | cons f l ih => simp only [phasesAgree, Bool.and_eq_true, List.all_eq_true, decide_eq_true_eq, List.pairwise_cons, ih]

section
variable {fine : Nat}

theorem exec_ppsEdge_ignored (h : ¬ s.judgesPps) : exec (.ppsEdge fine) s = .next s := if_pos (judgesNoPps_iff.2 h)

/-- The offset of an edge from the nearest whole second of gun time, at the pin. -/
def State.edgeOff (s : State) (fine : Nat) : Int := edgeOffset (s.pinTime 128 fine)

/-- The phases of the last eight edges, the newest first. -/
def State.edgePhases (s : State) (fine : Nat) : List Time := (s.pinTime 128 fine % second :: s.time.ppsPhases).take 8

section
variable (h : s.judgesPps)
include h

theorem exec_ppsEdge_first (hf : s.time.ppsFirst = true) : exec (.ppsEdge fine) s = .next (s.acceptEdge (s.edgeOff fine)) :=
  (if_neg (fun hn => judgesNoPps_iff.1 hn h)).trans (if_pos hf)

variable (hf : s.time.ppsFirst = false)
include hf

theorem exec_ppsEdge_near (hs : s.cfg Obj.PPS_STATE ≠ 2) (hn : (s.edgeOff fine).natAbs ≤ 100000 * 65536) :
    exec (.ppsEdge fine) s = .next (s.acceptEdge (s.edgeOff fine)) := by
  unfold State.edgeOff at hn ⊢
  rw [exec_ppsEdge, execPpsEdge, if_neg (fun hn => judgesNoPps_iff.1 hn h)]
  simp only [hf, hs, hn, ns, beq_iff_eq, decide_true, Bool.false_eq_true, if_true, if_false]

/-- The third edge in a row that is far off begins external holdover. -/
theorem exec_ppsEdge_far (hs : s.cfg Obj.PPS_STATE ≠ 2) (hn : ¬ (s.edgeOff fine).natAbs ≤ 100000 * 65536) :
    exec (.ppsEdge fine) s = .next (if 3 ≤ s.time.ppsBad + 1
      then ({ s.count Obj.PPS_REJECTS with time.ppsBad := s.time.ppsBad + 1 } : State).extHoldover
      else { s.count Obj.PPS_REJECTS with time.ppsBad := s.time.ppsBad + 1 }) := by
  unfold State.edgeOff at hn
  rw [exec_ppsEdge, execPpsEdge, if_neg (fun hn => judgesNoPps_iff.1 hn h)]
  simp only [hf, hs, hn, ns, beq_iff_eq, decide_false, Bool.false_eq_true, if_false, State.count_time, ge_iff_le]

/-- The third edge in a row that is near ends external holdover. -/
theorem exec_ppsEdge_regained (hs : s.cfg Obj.PPS_STATE = 2) (hn : (s.edgeOff fine).natAbs ≤ 100000 * 65536) :
    exec (.ppsEdge fine) s = .next (if 3 ≤ s.time.ppsGood + 1 then s.acceptEdge (s.edgeOff fine)
      else { s with time.ppsGood := s.time.ppsGood + 1, time.ppsPhases := [] }) := by
  unfold State.edgeOff at hn ⊢
  rw [exec_ppsEdge, execPpsEdge, if_neg (fun hn => judgesNoPps_iff.1 hn h)]
  simp only [hf, hs, hn, ns, beq_self_eq_true, decide_true, Bool.false_eq_true, if_true, if_false, ge_iff_le]
  split <;> rfl

/-- So do eight edges that agree (log 132). -/
theorem exec_ppsEdge_agreed (hs : s.cfg Obj.PPS_STATE = 2) (hn : ¬ (s.edgeOff fine).natAbs ≤ 100000 * 65536) :
    exec (.ppsEdge fine) s = .next (if (s.edgePhases fine).length = 8 ∧
        (s.edgePhases fine).Pairwise (fun a b => (a + second - b + 1000 * 65536) % second ≤ 2000 * 65536) then s.acceptEdge (s.edgeOff fine)
      else { s.count Obj.PPS_REJECTS with time.ppsGood := 0, time.ppsPhases := s.edgePhases fine }) := by
  unfold State.edgeOff at hn ⊢
  rw [exec_ppsEdge, execPpsEdge, if_neg (fun hn => judgesNoPps_iff.1 hn h)]
  simp only [hf, hs, hn, ns, beq_self_eq_true, decide_false, Bool.false_eq_true, if_true, if_false, Bool.and_eq_true, decide_eq_true_eq,
    phasesAgree_iff]
  unfold State.edgePhases
  split <;> rfl

end
end

theorem ppsSilent_iff : (s.time.role == .anchor && s.ppsMode && s.time.ppsLast + usTicks 2500000 ≤ s.time.ticks) = true ↔
    s.judgesPps ∧ s.time.ppsLast + 2000000000 ≤ s.time.ticks := by
  rw [Bool.and_eq_true, judgesPps_iff, decide_eq_true_eq]

theorem exec_ppsTimeout_silent (h : s.judgesPps ∧ s.time.ppsLast + 2000000000 ≤ s.time.ticks) :
    exec .ppsTimeout s = .next s.extHoldover := if_pos (ppsSilent_iff.2 h)

theorem exec_ppsTimeout_heard (h : ¬ (s.judgesPps ∧ s.time.ppsLast + 2000000000 ≤ s.time.ticks)) :
    exec .ppsTimeout s = .next s := if_neg (mt ppsSilent_iff.1 h)

theorem extHoldover_enters (h : s.cfg Obj.PPS_STATE ≠ 2) :
    s.extHoldover.cfg Obj.PPS_STATE = 2 ∧ s.extHoldover.time.slew = 0 ∧ s.extHoldover.time.ppsPhases = [] := by
  rw [State.extHoldover, if_neg (by simpa using h)]
  exact ⟨cfg_setCfg_same s Obj.PPS_STATE 0 2, rfl, rfl⟩

/-! ## Corrections (R48) -/

section
variable {a : Int}

theorem correct_slews (h : a.natAbs ≤ 1000000 * 65536) : s.correct a = { s with time.slew := -a * 65536 } := if_pos h

theorem correct_steps (h : 1000000 * 65536 < a.natAbs) (hi : s.allIdle = true) : s.correct a = s.stepTo ((s.time.gun : Int) - a).toNat :=
  (if_neg (Nat.not_le.2 h)).trans (if_pos hi)

theorem correct_warns (h : 1000000 * 65536 < a.natAbs) (hi : s.allIdle = false) :
    s.correct a = ({ s with time.slew := -a * 65536 } : State).raise 1 none Obj.EXT_ALIGN :=
  (if_neg (Nat.not_le.2 h)).trans (if_neg (ne_true_of_eq_false hi))

end

/-! ## 1PPS_OUT (R49) -/

theorem exec_ppsOutRise_due (he : s.cfg Obj.PPS_OUT_ENABLE = 1) (ho : s.time.ppsOut = false) (hp : s.ppsPhaseOut < 10000 * 65536) :
    exec .ppsOutRise s = .next { s with time.ppsOut := true, out := s.out ++ [.pps true] } := if_pos (by simp [he, ho, hp])

theorem exec_ppsOutRise_other (h : s.cfg Obj.PPS_OUT_ENABLE ≠ 1 ∨ s.time.ppsOut = true ∨ 10000 * 65536 ≤ s.ppsPhaseOut) :
    exec .ppsOutRise s = .next s := by
  refine if_neg ?_
  simp only [Bool.and_eq_true, beq_iff_eq, Bool.not_eq_true', decide_eq_true_eq, ns]
  rintro ⟨⟨he, ho⟩, hp⟩
  rcases h with h | h | h
  · exact h he
  · rw [ho] at h
    cases h
  · exact Nat.not_lt.2 h hp

theorem exec_ppsOutFall_due (ho : s.time.ppsOut = true) (hp : 10000 * 65536 ≤ s.ppsPhaseOut) :
    exec .ppsOutFall s = .next { s with time.ppsOut := false, out := s.out ++ [.pps false] } := if_pos (by simp [ho, hp])

theorem exec_ppsOutFall_other (h : s.time.ppsOut = false ∨ s.ppsPhaseOut < 10000 * 65536) : exec .ppsOutFall s = .next s := by
  refine if_neg ?_
  simp only [Bool.and_eq_true, decide_eq_true_eq, ns, ge_iff_le]
  rintro ⟨ho, hp⟩
  rcases h with h | h
  · rw [ho] at h
    cases h
  · exact Nat.not_lt.2 hp h

theorem applyGunTimeStep_eq (v : Nat) (s : State) :
    applyGunTimeStep v s = if s.time.role = .anchor ∧ s.allIdle = true then (s.stepTo v, .ok) else (s, .state) := by
  have hno : (s.time.role != .anchor || !s.allIdle) = true ↔ ¬ (s.time.role = .anchor ∧ s.allIdle = true) := by
    simp only [Bool.or_eq_true, bne_iff_ne, Bool.not_eq_true', ← Bool.not_eq_true, not_and_or, ne_eq]
  simp only [applyGunTimeStep, hno, ite_not]

/-! ## PTP (R46) -/

variable {g : PtpFrame} {gs : List PtpFrame} {n : Nat}

/-- The Anchor's clock takes PTP messages of a port that its mode names (1209h). -/
def State.hearsPtp (s : State) (p : Nat) : Prop := s.time.role = .anchor ∧
  (((s.cfg Obj.EXT_ALIGN = 2 ∨ s.cfg Obj.EXT_ALIGN = 4) ∧ p = 14) ∨ ((s.cfg Obj.EXT_ALIGN = 3 ∨ s.cfg Obj.EXT_ALIGN = 5) ∧ p = 15))

theorem ptpPort_iff {p : Nat} : s.ptpPort p = true ↔ s.hearsPtp p := by
  simp only [State.ptpPort, State.hearsPtp, Bool.and_eq_true, Bool.or_eq_true, beq_iff_eq]

/-- The oldest PTP message leaves the queue of the time engine. -/
def State.ptpLeft (s : State) (gs : List PtpFrame) : State := { s with time.ptpIn := gs }

section
variable (h : s.time.ptpIn = g :: gs)
include h

theorem exec_ptpMessageReceive_none (ha : ptpAt g.frame = none) : exec .ptpMessageReceive s = .next (s.ptpLeft gs) := by
  rw [exec_ptpMessageReceive, execPtpMessageReceive]
  simp only [h, ha, State.ptpLeft]

theorem exec_ptpMessageReceive_other (hm : ¬ s.hearsPtp g.port) : exec .ptpMessageReceive s = .next (s.ptpLeft gs) := by
  have hport : ¬ (s.ptpLeft gs).ptpPort g.port = true := fun hp => hm (ptpPort_iff.1 hp)
  rw [exec_ptpMessageReceive, execPtpMessageReceive]
  unfold State.ptpLeft at hport ⊢
  simp only [h, if_neg hport]
  split <;> rfl

theorem exec_ptpMessageReceive_mine (hm : s.hearsPtp g.port) (ha : ptpAt g.frame = some n) :
    exec .ptpMessageReceive s = .next ((s.ptpLeft gs).ptpMessage g n).starterFlush := by
  have hport : (s.ptpLeft gs).ptpPort g.port = true := ptpPort_iff.2 hm
  rw [exec_ptpMessageReceive, execPtpMessageReceive]
  unfold State.ptpLeft at hport ⊢
  simp only [h, ha, hport, if_true]

end

/-- A message of the clock's version and domain, long enough for a header (PRESUMED, log 122). -/
def State.ptpKnown (s : State) (m : Blob) : Prop := beAt m 1 1 % 16 = 2 ∧ beAt m 4 1 = s.cfg Obj.PTP_DOMAIN ∧ 44 ≤ m.length

theorem ptpUnknown_iff {m : Blob} :
    (beAt m 1 1 % 16 != 2 || beAt m 4 1 != s.cfg Obj.PTP_DOMAIN || m.length < 44) = true ↔ ¬ s.ptpKnown m := by
  simp only [State.ptpKnown, Bool.or_eq_true, bne_iff_ne, decide_eq_true_eq, not_and_or, not_le, or_assoc, ne_eq]

theorem ptpMessage_unknown (hk : ¬ s.ptpKnown (g.frame.drop n)) : s.ptpMessage g n = s := if_pos (ptpUnknown_iff.2 hk)

/-- The message comes from the master that the clock follows. -/
def State.ptpFollows (s : State) (m : Blob) : Prop := s.time.ptp.source = (m.drop 20).take 10

section
variable (hk : s.ptpKnown (g.frame.drop n))
include hk

theorem ptpMessage_stranger (ht : beAt (g.frame.drop n) 0 1 % 16 ≠ 11) (hs : ¬ s.ptpFollows (g.frame.drop n)) : s.ptpMessage g n = s := by
  unfold State.ptpFollows at hs
  simp only [State.ptpMessage, if_neg (fun hu => ptpUnknown_iff.1 hu hk), if_neg ht, bne_iff_ne, ne_eq, hs, not_false_eq_true, if_true]

/-- The clock follows the first master that it hears. -/
theorem ptpMessage_announce (ht : beAt (g.frame.drop n) 0 1 % 16 = 11) (hl : 64 ≤ (g.frame.drop n).length) (hs : s.time.ptp.source = []) :
    (s.ptpMessage g n).time.ptp.source = ((g.frame.drop n).drop 20).take 10 ∧ (s.ptpMessage g n).time.ptp.heardAt = s.time.ticks := by
  simp only [State.ptpMessage, if_neg (fun hu => ptpUnknown_iff.1 hu hk), ht, hl, if_true, State.ptpAnnounce, hs, List.isEmpty_nil,
    Bool.or_true, Bool.true_or, and_self]

variable (hs : s.ptpFollows (g.frame.drop n))
include hs

theorem ptpMessage_sync (ht : beAt (g.frame.drop n) 0 1 % 16 = 0) (htwo : beAt (g.frame.drop n) 6 1 / 2 % 2 = 0) : s.ptpMessage g n =
    (s.ptpSync ((ptpTime (g.frame.drop n) 34 : Int) + ptpCorrection (g.frame.drop n)) g.at_).ptpRequest g n := by
  have hstep : bit (beAt (g.frame.drop n) 6 1) 1 = false := by simp [bit, Nat.testBit_eq_decide_div_mod_eq, htwo]
  unfold State.ptpFollows at hs
  simp only [State.ptpMessage, if_neg (fun hu => ptpUnknown_iff.1 hu hk), ht, hs, bne_self_eq_false, hstep, Bool.false_eq_true, if_false, if_true,
    OfNat.zero_ne_ofNat]

/-- A two-step Sync waits for its Follow_Up. -/
theorem ptpMessage_twoStep (ht : beAt (g.frame.drop n) 0 1 % 16 = 0) (htwo : beAt (g.frame.drop n) 6 1 / 2 % 2 = 1) : s.ptpMessage g n =
    ({ s with time.ptp.sync := some (beAt (g.frame.drop n) 30 2, g.at_, ptpCorrection (g.frame.drop n)) } : State).ptpRequest g n := by
  have hstep : bit (beAt (g.frame.drop n) 6 1) 1 = true := by simp [bit, Nat.testBit_eq_decide_div_mod_eq, htwo]
  unfold State.ptpFollows at hs
  simp only [State.ptpMessage, if_neg (fun hu => ptpUnknown_iff.1 hu hk), ht, hs, bne_self_eq_false, hstep, Bool.false_eq_true, if_false, if_true,
    OfNat.zero_ne_ofNat]

theorem ptpMessage_followUp {t2 : Time} {k : Int} (ht : beAt (g.frame.drop n) 0 1 % 16 = 8)
    (hw : s.time.ptp.sync = some (beAt (g.frame.drop n) 30 2, t2, k)) : s.ptpMessage g n =
    s.ptpSync ((ptpTime (g.frame.drop n) 34 : Int) + ptpCorrection (g.frame.drop n) + k) t2 := by
  unfold State.ptpFollows at hs
  simp only [State.ptpMessage, if_neg (fun hu => ptpUnknown_iff.1 hu hk), ht, hs, bne_self_eq_false, hw, Bool.false_eq_true, if_false, if_true,
    beq_self_eq_true, Nat.reduceEqDiff]

/-- The Delay_Resp to the last Delay_Req measures the mean path delay. -/
theorem ptpMessage_delayResp {t1 : Int} {t2 t3 : Time} (ht : beAt (g.frame.drop n) 0 1 % 16 = 9) (hl : 54 ≤ (g.frame.drop n).length)
    (hp : s.time.ptp.pair = some (t1, t2)) (hr : s.time.ptp.reqAt = some t3) (hq : beAt (g.frame.drop n) 30 2 = s.time.ptp.reqSeq)
    (hb : beAt (g.frame.drop n) 44 8 = s.rel.boot.bib) : s.ptpMessage g n = { s with
      time.ptp.delay := some ((((t2 : Int) - t1) + ((ptpTime (g.frame.drop n) 34 : Int) - ptpCorrection (g.frame.drop n) - t3)) / 2)
      time.ptp.reqAt := none } := by
  unfold State.ptpFollows at hs
  simp only [State.ptpMessage, if_neg (fun hu => ptpUnknown_iff.1 hu hk), ht, hs, bne_self_eq_false, hl, Bool.false_eq_true, if_false, if_true,
    Nat.reduceEqDiff, State.ptpDelay, hp, hr, hq, hb, beq_self_eq_true, Bool.and_self]

end

theorem ptpCorrect_whole {a : Int} (hm : s.cfg Obj.EXT_ALIGN < 4) : s.ptpCorrect a = s.correct a := if_pos hm

/-- In modes 4 and 5 the whole seconds nearest an offset are corrected, no others (R46). -/
theorem ptpCorrect_seconds {a k : Int} (hm : 4 ≤ s.cfg Obj.EXT_ALIGN) (hhi : 2 * (a - k * (1000000000 * 65536)) < 1000000000 * 65536)
    (hlo : -(1000000000 * 65536) ≤ 2 * (a - k * (1000000000 * 65536))) :
    s.ptpCorrect a = if k = 0 then s else s.correct (k * (1000000000 * 65536)) := by
  have hk : (a + (second / 2 : Nat)) / (second : Nat) = k := by
    show (a + 32768000000000) / 65536000000000 = k
    omega
  have hz : k * (second : Nat) = 0 ↔ k = 0 := by
    show k * 65536000000000 = 0 ↔ k = 0
    omega
  rw [State.ptpCorrect, if_neg (Nat.not_lt.2 hm)]
  simp only [hk, hz]
  rfl

end

/-! ## The statement -/

/-- Settles O24: what a tick, an edge at 1PPS_IN or its absence, 1PPS_OUT, a write of 120Bh and each PTP message do to gun time and to the clock. -/
theorem gunTimeResults : Obligations.GunTimeResults := by
  refine ⟨fun s fine p v => ⟨?tick, tick_forward, exec_ppsEdge_ignored, exec_ppsEdge_first, exec_ppsEdge_near, exec_ppsEdge_far,
      exec_ppsEdge_regained, exec_ppsEdge_agreed, ?timeout, extHoldover_enters, fun a => ⟨correct_slews, correct_steps, correct_warns⟩,
      exec_ppsOutRise_due, exec_ppsOutRise_other, exec_ppsOutFall_due, exec_ppsOutFall_other, fun ha => ⟨fun h => ⟨?steps, rfl, rfl⟩, fun h => ?refused⟩⟩,
    fun s g gs h => ⟨exec_ptpMessageReceive_other h, exec_ptpMessageReceive_none h, fun n hm ha => ?message,
      fun t a => ⟨ptpCorrect_whole, fun hmode k => ptpCorrect_seconds hmode⟩⟩⟩
  case tick =>
    rw [exec_timeTick, execTimeTick]
    simp only [beq_iff_eq]
    rfl
  case timeout =>
    split
    case isTrue h => exact exec_ppsTimeout_silent h
    case isFalse h => exact exec_ppsTimeout_heard h
  case steps => exact writes_num ha (exec_gunTimeStep p v s) rfl ((applyGunTimeStep_eq v s).trans (if_pos h)) (by decide)
  case refused => exact writes_num ha (exec_gunTimeStep p v s) rfl ((applyGunTimeStep_eq v s).trans (if_neg h)) (by decide)
  case message =>
    have he := exec_ptpMessageReceive_mine h hm ha
    refine ⟨fun hk => ?unknown, fun hk ht hs => ?stranger, fun hk hs ht htwo => ?sync, fun hk hs ht htwo => ?twoStep, fun t2 k hk hs ht hw => ?followUp,
      fun t1 t2 t3 hk hs ht hl hp hr hq hb => ?delayResp, fun hk ht hl hs => ?announce⟩
    case unknown => rw [he, ptpMessage_unknown (s := s.ptpLeft gs) hk]; rfl
    case stranger => rw [he, ptpMessage_stranger (s := s.ptpLeft gs) hk ht hs]; rfl
    case sync => rw [he, ptpMessage_sync (s := s.ptpLeft gs) hk hs ht htwo]; rfl
    case twoStep => rw [he, ptpMessage_twoStep (s := s.ptpLeft gs) hk hs ht htwo]; rfl
    case followUp => rw [he, ptpMessage_followUp (s := s.ptpLeft gs) hk hs ht hw]; rfl
    case delayResp => rw [he, ptpMessage_delayResp (s := s.ptpLeft gs) hk hs ht hl hp hr hq hb]; rfl
    case announce => exact ⟨_, he, ptpMessage_announce (s := s.ptpLeft gs) hk ht hl hs⟩

end Sys2Proof.Machine
end

section
/-! PROOFS. The two-way exchange and the servo (R32, R42 to R44, R50, R68, R110, R111). -/

namespace Sys2Proof.Machine

section
variable {s u : State} {port : Nat} {flit : Blob}

/-! ## Control flits that come in (R110, R112) -/

/-- A flit that comes in acts in the state that has ended a frame in reception. -/
theorem ctlIn_acts {ty : Nat} (h : FlitIn s port ty flit u) (g : State → State) : s.ctlIn port ty flit g = .next (g u) := by
  obtain ⟨hp, hpass, hok, hty, rfl⟩ := h
  simp only [State.ctlIn, hp, hpass, hok, hty, Bool.and_self, Bool.not_true, bne_self_eq_false, Bool.false_eq_true, if_false]

/-- A flit whose check fails is discarded and counted. -/
theorem ctlIn_discards (hp : isPsiot port = true) (hpass : (s.port port).passes = true) (hbad : flitOk flit = false) (ty : Nat)
    (g : State → State) : s.ctlIn port ty flit g = .next ((s.endFrame port 0 .cut).count Obj.CONTROL_ERRORS port) := by
  simp only [State.ctlIn, hp, hpass, hbad, Bool.and_self, Bool.not_true, Bool.not_false, Bool.false_eq_true, if_false, if_true]

theorem queueCtl_time (s : State) (p : Nat) (f : CtlFlit) : (s.queueCtl p f).time = s.time := by
  unfold State.queueCtl
  split <;> rfl

/-! ## The servo (R43) -/

section
variable {off est : Int}

/-- Leaving the lock concerns the estimate, and external alignment at the Anchor (R41, R51). -/
theorem unlock_keeps (s : State) : s.unlock.time.gun = s.time.gun ∧ s.unlock.time.lap = s.time.lap ∧ s.unlock.time.next = s.time.next ∧
    s.unlock.time.stepWanted = s.time.stepWanted ∧ s.unlock.time.tclkLost = s.time.tclkLost := by
  unfold State.unlock
  split <;> exact ⟨rfl, rfl, rfl, rfl, rfl⟩

/-- The servo sets a rate, which is free (log 9). -/
def State.rated (s : State) : State := { s.drawInt.2 with time.rate := s.drawInt.1 }

/-- The offsets in a row within 1 ns. -/
def State.runWith (s : State) (off : Int) : Nat := if off.natAbs < 65536 then s.time.lockRun + 1 else 0

theorem servo_eq (s : State) (off est : Int) : s.servo off est =
    if 4 * 65536 < off.natAbs ∧ s.time.role = .locked then ({ s.rated.unlock with time.role := .acquiring } : State).noteEst
    else if s.time.role = .locked ∨ 1000 ≤ s.runWith off then
      ({ s.rated with
        time.lockRun := s.runWith off, time.role := .locked, time.everLocked := true, time.est := est + off, time.estFrom := none } : State).noteEst
    else ({ s.rated with time.lockRun := s.runWith off } : State).noteEst := by
  unfold State.runWith
  simp only [State.servo, Bool.and_eq_true, Bool.or_eq_true, beq_iff_eq, decide_eq_true_eq, gt_iff_lt, ge_iff_le, ns, State.drawInt_time]
  split
  · rfl
  · split <;> rfl

theorem servo_keeps (s : State) (off est : Int) :
    (s.servo off est).time.gun = s.time.gun ∧ (s.servo off est).time.stepWanted = s.time.stepWanted := by
  rw [servo_eq]
  split
  · obtain ⟨hgun, -, -, hwant, -⟩ := unlock_keeps s.rated
    exact ⟨hgun, hwant⟩
  · split <;> exact ⟨rfl, rfl⟩

/-- An offset beyond 4 ns ends the lock. -/
theorem servo_loses (h : 4 * 65536 < off.natAbs) : (s.servo off est).time.role ≠ .locked ∨ s.time.role ≠ .locked := by
  by_cases hr : s.time.role = .locked
  · rw [servo_eq, if_pos ⟨h, hr⟩]
    refine .inl fun hl => ?_
    cases hl
  · exact .inr hr

theorem servo_locked (hr : s.time.role = .locked) (h : off.natAbs ≤ 4 * 65536) :
    (s.servo off est).time.role = .locked ∧ (s.servo off est).time.est = est + off := by
  rw [servo_eq, if_neg (by omega), if_pos (.inl hr)]
  exact ⟨rfl, rfl⟩

theorem servo_waits (hr : s.time.role ≠ .locked) (h : s.time.lockRun + 1 < 1000) : (s.servo off est).time.role = s.time.role := by
  have hrun : s.runWith off < 1000 := by
    unfold State.runWith
    split <;> omega
  rw [servo_eq, if_neg (fun hl => hr hl.2), if_neg (not_or.2 ⟨hr, Nat.not_le.2 hrun⟩)]
  rfl

/-- The thousandth offset in a row within 1 ns locks. -/
theorem servo_locks (h : off.natAbs < 65536) (hl : 999 ≤ s.time.lockRun) : (s.servo off est).time.role = .locked := by
  have hrun : 1000 ≤ s.runWith off := by
    rw [State.runWith, if_pos h]
    omega
  rw [servo_eq, if_neg (by omega), if_pos (.inr hrun)]
  rfl

end

/-! ## The exchange (R42) -/

theorem exec_syncTick_due (hp : port < 14) (hst : (s.port port).st = .up) (hi : s.initiates port = true) : exec (.syncTick port) s =
    .next (s.queueCtl port (.sync (((s.exchange port).seq + 1) % 65536) (s.exchange port).seq (s.exchange port).t4)) :=
  if_pos (by simp [hp, hst, hi])

theorem exec_syncTick_other (h : 14 ≤ port ∨ (s.port port).st ≠ .up ∨ s.initiates port = false) : exec (.syncTick port) s = .next s := by
  refine if_neg ?_
  simp only [Bool.and_eq_true, decide_eq_true_eq, beq_iff_eq]
  rintro ⟨⟨hp, hst⟩, hi⟩
  rcases h with h | h | h
  · exact Nat.not_lt.2 h hp
  · exact h hst
  · exact ne_true_of_eq_false h hi

@[simp] theorem exchange_setExchange_same (s : State) (port : Nat) (x : Exchange) : (s.setExchange port x).exchange port = x :=
  tabGet_set_same _ _ _ _

/-- The exchange before a SYNC, completed with the time t4 that it brings (R42). -/
def Exchange.completed (x : Exchange) (prev t4 : Nat) : Exchange :=
  if x.seq == prev && x.t3 != 0 then
    { x with mean := some ((((t4 : Int) - x.t1) - ((x.t3 : Int) - x.t2)) / 2), t4 := t4, done := x.done + 1 }
  else x

theorem Exchange.completed_eq (x : Exchange) (prev t4 : Nat) : x.completed prev t4 = if x.seq = prev ∧ x.t3 ≠ 0 then
    { x with mean := some ((((t4 : Int) - x.t1) - ((x.t3 : Int) - x.t2)) / 2), t4 := t4, done := x.done + 1 } else x := by
  simp only [Exchange.completed, Bool.and_eq_true, beq_iff_eq, bne_iff_ne]

/-- The exchange that a SYNC begins. -/
def Exchange.begun (x : Exchange) (seq t1 prev t4 t2 : Nat) : Exchange :=
  { x.completed prev t4 with seq := seq, t1 := t1, t2 := t2, t3 := 0 }

/-- The state in which a child steers by a SYNC. -/
def State.syncTaken (s : State) (port seq t1 prev t4 t2 : Nat) : State :=
  s.setExchange port ((s.exchange port).begun seq t1 prev t4 t2)

variable {seq t1 prev t4 t2 : Nat}

theorem steers_iff : s.steers port = true ↔ s.time.parent = some port ∧ (s.time.role = .locked ∨ s.time.role = .acquiring) := by
  simp only [State.steers, Bool.and_eq_true, Bool.or_eq_true, beq_iff_eq]

section
variable (s : State) (port : Nat) (x : Exchange)

theorem steers_setExchange : (s.setExchange port x).steers port = s.steers port := rfl

theorem heard_setExchange : (s.setExchange port x).time.heard = s.time.heard := rfl

end

/-- Where the child does not steer, or the mean delay is not known, the REPLY alone is due. -/
theorem takeSync_answers (h : s.steers port = false ∨ ((s.exchange port).completed prev t4).mean = none) :
    s.takeSync port seq t1 prev t4 t2 = (s.syncTaken port seq t1 prev t4 t2).queueCtl port (.reply seq t2) := by
  unfold State.syncTaken Exchange.begun
  unfold Exchange.completed at h ⊢
  by_cases hs : s.steers port = true
  · simp only [State.takeSync, steers_setExchange, hs, h.resolve_left (ne_false_of_eq_true hs), exchange_setExchange_same]
  · simp only [State.takeSync, steers_setExchange, Bool.eq_false_of_not_eq_true hs, exchange_setExchange_same]

/-- The offset by which a child steers (R43). -/
def State.syncOffset (w : State) (port t1 t2 : Nat) : Int := ((t2 : Int) - t1) - w.delayIn port

/-- The offset calls for a step: the first beyond 20 ns, or lap states that differ (R44, R50). -/
def State.stepsBy (s : State) (off : Int) (a : AnnounceBody) : Prop :=
  (s.time.stepWanted = true ∧ 20 * 65536 < off.natAbs) ∨ s.lapAgrees a = false

theorem stepsBy_iff {off : Int} {a : AnnounceBody} :
    (s.time.stepWanted && decide (off.natAbs > 20 * ns) || !s.lapAgrees a) = true ↔ s.stepsBy off a := by
  simp only [State.stepsBy, Bool.or_eq_true, Bool.and_eq_true, decide_eq_true_eq, Bool.not_eq_true', gt_iff_lt, ns]

section
variable {m : Int} {h : Heard} (hs : s.steers port = true) (hm : ((s.exchange port).completed prev t4).mean = some m)
  (hh : tabGet? s.time.heard port = some h)
include hs hm hh

/-- A child that steps takes the parent's gun time and lap state (R44, R50). -/
theorem takeSync_steps (hf : (s.syncTaken port seq t1 prev t4 t2).stepsBy ((s.syncTaken port seq t1 prev t4 t2).syncOffset port t1 t2) h.body) :
    (s.takeSync port seq t1 prev t4 t2).time.gun =
        ((s.time.gun : Int) - (s.syncTaken port seq t1 prev t4 t2).syncOffset port t1 t2).toNat ∧
      (s.takeSync port seq t1 prev t4 t2).time.est = (s.syncTaken port seq t1 prev t4 t2).syncOffset port t1 t2 ∧
      (s.takeSync port seq t1 prev t4 t2).time.adopt.isSome = true ∧ (s.takeSync port seq t1 prev t4 t2).time.stepWanted = false := by
  replace hf := stepsBy_iff.2 hf
  unfold State.syncOffset State.syncTaken Exchange.begun Exchange.completed at *
  simp only [State.takeSync, steers_setExchange, heard_setExchange, hs, hm, hh] at hf ⊢
  rw [if_pos hf, queueCtl_time]
  exact ⟨rfl, rfl, rfl, rfl⟩

/-- Else the servo takes its offset (R43). -/
theorem takeSync_time (hf : ¬ (s.syncTaken port seq t1 prev t4 t2).stepsBy ((s.syncTaken port seq t1 prev t4 t2).syncOffset port t1 t2) h.body) :
    (s.takeSync port seq t1 prev t4 t2).time = (State.servo { s.syncTaken port seq t1 prev t4 t2 with time.stepWanted := false }
      ((s.syncTaken port seq t1 prev t4 t2).syncOffset port t1 t2) (psToUnits h.body.offset)).time := by
  replace hf := mt stepsBy_iff.1 hf
  unfold State.syncOffset State.syncTaken Exchange.begun Exchange.completed at *
  simp only [State.takeSync, steers_setExchange, heard_setExchange, hs, hm, hh] at hf ⊢
  rw [if_neg hf, queueCtl_time]

/-- A child that does not step is locked or waits as the servo has it (R43). -/
theorem takeSync_servo {off : Int} (ho : (s.syncTaken port seq t1 prev t4 t2).syncOffset port t1 t2 = off)
    (hf : ¬ (s.syncTaken port seq t1 prev t4 t2).stepsBy off h.body) :
    (s.takeSync port seq t1 prev t4 t2).time.gun = s.time.gun ∧ (s.takeSync port seq t1 prev t4 t2).time.stepWanted = false ∧
    (4 * 65536 < off.natAbs → (s.takeSync port seq t1 prev t4 t2).time.role ≠ .locked ∨ s.time.role ≠ .locked) ∧
    (s.time.role = .locked → off.natAbs ≤ 4 * 65536 → (s.takeSync port seq t1 prev t4 t2).time.role = .locked ∧
      (s.takeSync port seq t1 prev t4 t2).time.est = psToUnits h.body.offset + off) ∧
    (s.time.role ≠ .locked → s.time.lockRun + 1 < 1000 → (s.takeSync port seq t1 prev t4 t2).time.role = s.time.role) ∧
    (off.natAbs < 65536 → 999 ≤ s.time.lockRun → (s.takeSync port seq t1 prev t4 t2).time.role = .locked) := by
  subst ho
  obtain ⟨hgun, hwant⟩ := servo_keeps { s.syncTaken port seq t1 prev t4 t2 with time.stepWanted := false }
    ((s.syncTaken port seq t1 prev t4 t2).syncOffset port t1 t2) (psToUnits h.body.offset)
  rw [takeSync_time hs hm hh hf]
  exact ⟨hgun, hwant, fun h4 => servo_loses h4, fun hr h4 => servo_locked hr h4, fun hr hrun => servo_waits hr hrun,
    fun h1 hrun => servo_locks h1 hrun⟩

end

theorem exec_sync_acts {fine : Nat} (h : FlitIn s port 3 flit u) (hp : port < 8) : exec (.sync port flit fine) s = .next
    (u.takeSync port (beAt flit 2 2) (beAt flit 4 10) (beAt flit 14 2) (beAt flit 16 10) (u.pinTime (8 * port + 4) fine)) := by
  rw [exec_sync, execSync, ctlIn_acts h, if_pos hp]

theorem exec_reply_acts {fine : Nat} (h : FlitIn s port 4 flit u) : exec (.reply port flit fine) s = .next
    (u.takeReply port (beAt flit 2 2) (beAt flit 4 10) (beAt flit 14 10) (u.pinTime (8 * port + 4) fine)) := by
  rw [exec_reply, execReply, ctlIn_acts h]

theorem takeReply_completes {t2 t3 t4 : Nat} (hs : (s.exchange port).seq = seq) (h1 : (s.exchange port).t1 ≠ 0) :
    s.takeReply port seq t2 t3 t4 = s.setExchange port { s.exchange port with
      t2 := t2, t3 := t3, t4 := t4, t1 := 0
      mean := some ((((t4 : Int) - (s.exchange port).t1) - ((t3 : Int) - t2)) / 2), done := (s.exchange port).done + 1 } :=
  if_pos (by simp [hs, h1])

theorem takeReply_other {t2 t3 t4 : Nat} (hs : (s.exchange port).seq ≠ seq) : s.takeReply port seq t2 t3 t4 = s := if_neg (by simp [hs])

end

/-! ## The statement -/

/-- Settles O26: when a SYNC is due, what it and a REPLY complete, and how a child steers by its offset. -/
theorem exchangeResults : Obligations.ExchangeResults := by
  intro s u port fine flit
  refine ⟨exec_syncTick_due, exec_syncTick_other, fun hp hpass hbad => ?discards, fun h hp hc => ?stranger, fun h hp hm => ?unknown,
    fun hd m h hp hc hm hh => ⟨fun hf => ?steps, fun hf => ?servo⟩, fun h hs h1 => ?completes, fun h hs => ?other⟩
  case discards =>
    rw [exec_sync, exec_reply, exec_announce]
    exact ⟨ctlIn_discards hp hpass hbad 3 _, ctlIn_discards hp hpass hbad 4 _, ctlIn_discards hp hpass hbad 2 _⟩
  case stranger =>
    have hs : u.steers port = false := Bool.eq_false_of_not_eq_true (mt steers_iff.1 hc)
    simp only [← Exchange.completed_eq]
    rw [exec_sync_acts h hp, takeSync_answers (.inl hs)]
    rfl
  case unknown =>
    simp only [← Exchange.completed_eq] at hm ⊢
    rw [exec_sync_acts h hp, takeSync_answers (.inr hm)]
    rfl
  case steps =>
    simp only [← Exchange.completed_eq] at hm hf ⊢
    exact ⟨_, exec_sync_acts h hp, takeSync_steps (steers_iff.2 hc) hm hh hf⟩
  case servo =>
    simp only [← Exchange.completed_eq] at hm hf ⊢
    exact ⟨_, exec_sync_acts h hp, takeSync_servo (steers_iff.2 hc) hm hh rfl hf⟩
  case completes => exact (exec_reply_acts h).trans (congrArg _ (takeReply_completes hs h1))
  case other => exact (exec_reply_acts h).trans (congrArg _ (takeReply_other hs))

end Sys2Proof.Machine
end

section
/-! PROOFS. The choice of the Anchor (R39 to R41, R53). -/

namespace Sys2Proof.Machine

/-! ## The least candidate (R40) -/

section
variable {a b c : Candidate}

theorem below_iff : Candidate.below a b = true ↔ a.1 < b.1 ∨ (a.1 = b.1 ∧ (a.2.1 < b.2.1 ∨ (a.2.1 = b.2.1 ∧
    (a.2.2.1 < b.2.2.1 ∨ (a.2.2.1 = b.2.2.1 ∧ a.2.2.2 < b.2.2.2))))) := by
  simp only [Candidate.below, Bool.or_eq_true, Bool.and_eq_true, decide_eq_true_eq, beq_iff_eq]

theorem below_irrefl (a : Candidate) : Candidate.below a a = false := by
  rw [← Bool.not_eq_true, below_iff]
  omega

theorem below_asymm (h : Candidate.below a b = true) : Candidate.below b a = false := by
  rw [below_iff] at h
  rw [← Bool.not_eq_true, below_iff]
  omega

/-- `b` at most `a` and `c` at most `b` make `c` at most `a`. -/
theorem not_below_trans (hab : Candidate.below a b = false) (hbc : Candidate.below b c = false) : Candidate.below a c = false := by
  rw [← Bool.not_eq_true, below_iff] at hab hbc ⊢
  omega

end

/-- The better of the best candidate so far and the next. -/
def Candidate.better (b : Option Candidate) (c : Candidate) : Candidate :=
  match b with
  | none => c
  | some x => if Candidate.below c x then c else x

theorem better_least (b : Option Candidate) (c : Candidate) : Candidate.better b c ∈ b.toList ++ [c] ∧
    ∀ e ∈ b.toList ++ [c], Candidate.below e (Candidate.better b c) = false := by
  cases b with
  | none => simp [Candidate.better, below_irrefl]
  | some x =>
    by_cases h : Candidate.below c x = true
    · simp [Candidate.better, h, below_irrefl, below_asymm h]
    · simp [Candidate.better, h, below_irrefl]

/-- The least of the candidates, from the best so far over the list of the others. -/
def Candidate.least (b : Option Candidate) (l : List Candidate) : Option Candidate := l.foldl (fun b c => some (Candidate.better b c)) b

theorem least_eq_none_iff {b : Option Candidate} {l : List Candidate} : Candidate.least b l = none ↔ b.toList ++ l = [] := by
  induction l generalizing b with
  | nil => cases b <;> simp [Candidate.least]
  | cons x xs ih => exact ih.trans (by simp)

theorem least_eq_some {b : Option Candidate} {l : List Candidate} {c : Candidate} (h : Candidate.least b l = some c) :
    c ∈ b.toList ++ l ∧ ∀ e ∈ b.toList ++ l, Candidate.below e c = false := by
  induction l generalizing b with
  | nil =>
    obtain rfl : b = some c := h
    simp [below_irrefl]
  | cons x xs ih =>
    obtain ⟨hmem, hleast⟩ := ih h
    obtain ⟨hin, hbelow⟩ := better_least b x
    simp only [Option.toList_some, List.singleton_append, List.mem_cons, forall_eq_or_imp] at hmem hleast
    rw [List.append_cons]
    refine ⟨?_, fun e he => ?_⟩
    · rcases hmem with rfl | hmem
      · exact List.mem_append_left _ hin
      · exact List.mem_append_right _ hmem
    · rcases List.mem_append.1 he with he | he
      · exact not_below_trans (hbelow e he) hleast.1
      · exact hleast.2 e he

section
variable {s : State}

/-- The device itself, as a candidate while its rank is not 0. -/
def State.ownCand (s : State) : Option Candidate := if s.cfg Obj.ANCHOR_RANK > 0 then some (s.cfg Obj.ANCHOR_RANK, s.rel.boot.bib, 0, 8) else none

theorem ownCand_toList : s.ownCand.toList = if 0 < s.cfg Obj.ANCHOR_RANK then [(s.cfg Obj.ANCHOR_RANK, s.rel.boot.bib, 0, 8)] else [] := by
  unfold State.ownCand
  split <;> rfl

theorem bestCand_eq (s : State) : s.bestCand = Candidate.least s.ownCand s.heardCands := by
  refine congrArg (fun f => s.heardCands.foldl f s.ownCand) (funext fun b => funext fun c => ?_)
  cases b with
  | none => rfl
  | some x => exact (apply_ite some _ _ _).symm

theorem ignores_iff {a : AnnounceBody} : s.ignores a = true ↔
    63 ≤ a.hops ∨ (a.bib = s.rel.boot.bib ∧ (s.time.role ≠ .anchor ∨ s.cfg Obj.ANCHOR_RANK = 0)) := by
  simp only [State.ignores, Bool.or_eq_true, Bool.and_eq_true, decide_eq_true_eq, beq_iff_eq, bne_iff_ne]

/-! ## What the evaluation leaves alone (R41) -/

/-- A state with the gun time, lap state and rank of another. -/
def State.ClockAs (t s : State) : Prop :=
  t.time.gun = s.time.gun ∧ t.time.lap = s.time.lap ∧ t.time.next = s.time.next ∧ t.cfg Obj.ANCHOR_RANK = s.cfg Obj.ANCHOR_RANK

theorem State.ClockAs.refl (s : State) : s.ClockAs s := ⟨rfl, rfl, rfl, rfl⟩

theorem State.ClockAs.trans {t u : State} (h : u.ClockAs t) (h' : t.ClockAs s) : u.ClockAs s := by
  obtain ⟨hgun, hlap, hnext, hrank⟩ := h
  obtain ⟨hgun', hlap', hnext', hrank'⟩ := h'
  exact ⟨hgun.trans hgun', hlap.trans hlap', hnext.trans hnext', hrank.trans hrank'⟩

theorem clockAs_queueCtl (s : State) (p : Nat) (f : CtlFlit) : (s.queueCtl p f).ClockAs s := by
  unfold State.queueCtl
  split <;> exact .refl s

theorem clockAs_unlock (s : State) : s.unlock.ClockAs s := by
  unfold State.unlock
  split
  · exact ⟨rfl, rfl, rfl, cfg_setCfg_other (o' := Obj.ANCHOR_RANK) (i' := 0) (o := Obj.PPS_STATE) (i := 0) s 0 (by decide)⟩
  · exact .refl s
  · exact .refl s

theorem clockAs_waveUp (s : State) (t op wave value : Nat) : (s.waveUp t op wave value).ClockAs s := by
  unfold State.waveUp
  split
  · exact clockAs_queueCtl ..
  · exact clockAs_queueCtl ..
  · exact .refl s

theorem clockAs_flushUp (s : State) : s.flushUp.ClockAs s :=
  List.foldlRecOn (motive := fun t : State => t.ClockAs s) s.ten.upWait _ (.refl s) fun _ ht _ _ => (clockAs_waveUp ..).trans ht

/-- The state that has left the lock and, where it has a parent, has sent LEAVE to it. -/
def State.left (s : State) : State :=
  match s.unlock.time.parent with
  | some q => s.unlock.queueCtl q (.wave 0 1 0 0 s.unlock.rel.boot.bib)
  | none => s.unlock

theorem clockAs_left (s : State) : s.left.ClockAs s := by
  unfold State.left
  split
  · exact (clockAs_queueCtl ..).trans (clockAs_unlock s)
  · exact clockAs_unlock s

theorem clockAs_dropParent (s : State) (role : Role) : (s.dropParent role).ClockAs s := clockAs_left s

theorem clockAs_takeParent (s : State) (p hops : Nat) : (s.takeParent p hops).ClockAs s := by
  unfold State.takeParent
  split
  · exact clockAs_flushUp _
  · exact (clockAs_flushUp _).trans ((clockAs_queueCtl ..).trans (clockAs_left s))

/-- The evaluation neither steps gun time nor moves the laps. -/
theorem clockAs_evaluate (s : State) : s.evaluate.ClockAs s := by
  unfold State.evaluate
  split
  · split
    · exact .refl s
    · exact clockAs_dropParent ..
  · split
    · exact clockAs_takeParent ..
    · split
      · exact .refl s
      · exact .refl s
      · exact .refl s
      · exact clockAs_dropParent ..
      · exact clockAs_dropParent ..

/-- Without a candidate the device runs free. -/
theorem evaluate_role_freeRun (h : s.bestCand = none) : s.evaluate.time.role = .freeRun := by
  simp only [State.evaluate, h]
  split
  case isTrue hr => exact beq_iff_eq.1 hr
  case isFalse => rfl

/-! ## Announces (R39, R40) -/

theorem announce_up {u : State} {port : Nat} {flit : Blob} (h : FlitIn s port 2 flit u) (hp : port < 8) (hst : (u.port port).st = .up) :
    exec (.announce port flit) s = .next (if u.ignores (announceOf flit) then u else
      { u with time.heard := tabSet u.time.heard port ⟨announceOf flit, u.time.ticks⟩ }).evaluate := by
  rw [exec_announce, execAnnounce, ctlIn_acts h, if_pos (by simp [hp, hst])]

theorem announce_elsewhere {u : State} {port : Nat} {flit : Blob} (h : FlitIn s port 2 flit u) (hp : 8 ≤ port ∨ (u.port port).st ≠ .up) :
    exec (.announce port flit) s = .next u := by
  rw [exec_announce, execAnnounce, ctlIn_acts h, if_neg (by simpa only [Bool.and_eq_true, decide_eq_true_eq, beq_iff_eq, not_and_or, Nat.not_lt] using hp)]

/-! ## The takeover (R41) -/

/-- The Anchor that 64 µs without a better announce have made. -/
def State.madeAnchor (s : State) : State :=
  State.noteEst { s.unlock with
    time.role := .anchor, time.parent := none, time.hops := 0, time.everLocked := true
    time.slew := 0, time.ppsFirst := true, time.ppsLast := s.unlock.time.ticks }

theorem madeAnchor_estimate (s : State) : s.madeAnchor.estimate = if s.time.tclkLost then none else some 0 := by
  obtain ⟨-, -, -, -, htclk⟩ := unlock_keeps s
  rw [← htclk]
  rfl

theorem takeover_due {r i : Nat} (hb : s.bestCand = some (r, i, 0, 8)) (hrole : s.time.role ≠ .anchor)
    (ht : s.time.lastBetter + 51200 ≤ s.time.ticks) : exec .anchorTakeover s = .next s.madeAnchor.serveWaves.starterFlush := by
  rw [exec_anchorTakeover]
  simp only [execAnchorTakeover, hb]
  exact if_pos (by simp [hrole, ht])

theorem takeover_early (ht : s.time.ticks < s.time.lastBetter + 51200) : exec .anchorTakeover s = .next s := by
  rw [exec_anchorTakeover]
  unfold execAnchorTakeover
  split
  · exact if_neg (by simpa only [Bool.and_eq_true, decide_eq_true_eq, not_and, Nat.not_le] using fun _ => ht)
  · rfl

/-! ## The rank (R41) -/

/-- The state in which a rank is written; the 64 µs begin anew where it was 0. -/
def State.ranked (s : State) (v : Nat) : State :=
  if s.cfg Obj.ANCHOR_RANK = 0 && v != 0 then
    { s.writeNum Obj.ANCHOR_RANK 0 v with time.lastBetter := (s.writeNum Obj.ANCHOR_RANK 0 v).time.ticks }
  else s.writeNum Obj.ANCHOR_RANK 0 v

theorem applyAnchorRank_eq (s : State) (v : Nat) : applyAnchorRank v s = ((s.ranked v).evaluate, .ok) := rfl

theorem ranked_cfg (s : State) (v : Nat) : (s.ranked v).cfg Obj.ANCHOR_RANK = v := by
  unfold State.ranked
  split <;> exact cfg_writeNum_same s _ 0 v

theorem ranked_clock (s : State) (v : Nat) :
    (s.ranked v).time.gun = s.time.gun ∧ (s.ranked v).time.lap = s.time.lap ∧ (s.ranked v).time.next = s.time.next := by
  unfold State.ranked
  split <;> simp only [State.writeNum_time, and_self]

theorem ranked_zero (s : State) : s.ranked 0 = s.writeNum Obj.ANCHOR_RANK 0 0 := if_neg (by simp)

theorem writeNum_bib (s : State) (o i v : Nat) : (s.writeNum o i v).rel.boot.bib = s.rel.boot.bib := by
  rcases writeNum_cases s o i v with h | h <;> rw [h] <;> rfl

/-- At rank 0 no announce is heeded that was ignored before. -/
theorem ignores_ranked_zero {a : AnnounceBody} (h : s.ignores a = true) : (s.ranked 0).ignores a = true := by
  rw [ignores_iff] at h ⊢
  rw [ranked_cfg, ranked_zero, State.writeNum_time, writeNum_bib]
  exact h.imp_right fun hb => ⟨hb.1, .inr rfl⟩

/-- Rank 0 without a valid announce leaves no candidate. -/
theorem bestCand_ranked_zero (h : s.heardCands = []) : (s.ranked 0).bestCand = none := by
  rw [bestCand_eq, least_eq_none_iff, ownCand_toList, ranked_cfg, if_neg (Nat.lt_irrefl 0), List.nil_append]
  have htime : (s.ranked 0).time = s.time := by rw [ranked_zero, State.writeNum_time]
  simp only [State.heardCands, List.filterMap_eq_nil_iff, htime, ite_eq_right_iff, reduceCtorEq, imp_false, Bool.and_eq_true,
    Bool.not_eq_true', not_and, Bool.not_eq_false] at h ⊢
  exact fun e he hc => ignores_ranked_zero (h e he hc)

theorem anchorRank_writes {p : Principal} {v : Nat} (ha : AcceptsNum s p Obj.ANCHOR_RANK 0 v) :
    Writes (.anchorRank p v) s .ok (s.ranked v).evaluate :=
  writes_num ha (exec_anchorRank p v s) (by decide) (applyAnchorRank_eq s v) (by decide)

/-! ## Off the mark (R53) -/

/-- The state off the mark, before its attention. -/
def State.offTheMark (s : State) : State := State.count { s with time.offMark := true, time.lowSince := none } Obj.OFF_THE_MARK

theorem raise_cfg (s : State) (level : Nat) (tenant : Option Nat) (o i o' i' : Nat) : (s.raise level tenant o i).cfg o' i' = s.cfg o' i' := rfl

theorem offTheMark_cfg (s : State) : s.offTheMark.cfg Obj.OFF_THE_MARK = min (s.cfg Obj.OFF_THE_MARK + 1) (2 ^ 64 - 1) :=
  cfg_count_same (s := { s with time.offMark := true, time.lowSince := none }) Obj.OFF_THE_MARK 0

theorem offTheMark_due (hoff : s.time.offMark = false) (he : s.estBeyond 20 = true) :
    exec .offTheMarkEntry s = .next (s.offTheMark.raise 4 none Obj.OFF_THE_MARK) := by
  rw [exec_offTheMarkEntry, execOffTheMarkEntry, hoff, he]
  rfl

theorem offTheMark_other (h : s.time.offMark = true ∨ s.estBeyond 20 = false) : exec .offTheMarkEntry s = .next s := by
  rw [exec_offTheMarkEntry]
  exact if_neg (by rcases h with h | h <;> simp [h])

/-- Off the mark no relay class is open on a gated port. -/
theorem classOpen_offMark {q k : Nat} (h : s.time.offMark = true) (hk : k < 2) (hq : q < 16) : s.classOpen q k = false := by
  refine Bool.eq_false_of_not_eq_true fun ho => ?_
  obtain ⟨-, -, hmark⟩ := classOpen_gives hq ho
  exact Bool.noConfusion (h.symm.trans (hmark hk))

end

/-! ## The statement -/

/-- Settles O25: the least candidate, what an announce and a tick do, and who becomes Anchor. -/
theorem anchorChoice : Obligations.AnchorChoice := by
  intro s u port v flit p c
  simp only [← ownCand_toList, bestCand_eq s]
  refine ⟨least_eq_none_iff, least_eq_some, fun h => ⟨fun hp hst hi => ?heard, fun hp hst hi => ?ignored, announce_elsewhere h⟩,
    ⟨fun hb => ?silent, fun b hb => ?announces⟩, fun r i hb hrole ht => ?takeover, takeover_early, fun q h hq hh => ?ageout,
    fun hq => ?orphan, fun ha => ?rank, fun hoff he => ?offMark, offTheMark_other⟩
  case heard => rw [announce_up h hp hst, if_neg (mt ignores_iff.1 hi)]
  case ignored => rw [announce_up h hp hst, if_pos (ignores_iff.2 hi)]
  case silent =>
    rw [exec_announceTick]
    simp only [execAnnounceTick, hb]
  case announces =>
    rw [exec_announceTick]
    simp only [execAnnounceTick, hb, beq_iff_eq]
  case takeover =>
    rw [← bestCand_eq] at hb
    obtain ⟨hgun, hlap, hnext, -⟩ := clockAs_unlock s
    exact ⟨s.madeAnchor, takeover_due hb hrole ht, rfl, rfl, hgun, hlap, hnext, madeAnchor_estimate s⟩
  case ageout =>
    rw [exec_announceAgeout]
    simp only [execAnnounceAgeout, hq, hh]
    split <;> rfl
  case orphan =>
    rw [exec_announceAgeout]
    simp only [execAnnounceAgeout, hq]
  case rank =>
    obtain ⟨hgun, hlap, hnext⟩ := ranked_clock s v
    obtain ⟨hgun', hlap', hnext', hrank⟩ := clockAs_evaluate (s.ranked v)
    refine ⟨_, anchorRank_writes ha, rfl, hgun'.trans hgun, hlap'.trans hlap, hnext'.trans hnext, hrank.trans (ranked_cfg s v), ?_⟩
    rintro rfl hheard
    exact evaluate_role_freeRun (bestCand_ranked_zero hheard)
  case offMark => exact ⟨_, offTheMark_due hoff he, rfl, (raise_cfg ..).trans (offTheMark_cfg s), fun q k hk hq => classOpen_offMark rfl hk hq⟩

end Sys2Proof.Machine
end

section
/-! PROOFS. Relay sets, shells and builds, the runs of an output, and lost slabs (R76, R81 to R83, R85, R88 to R92, R97, R98). -/

namespace Sys2Proof.Machine

/-! ## A written set (R81 to R83, R270) -/

section
variable {s : State} {i : Nat} {b : Blob} {r : RelaySet}

/-- What R81 asks of a slab-table entry. -/
theorem relaySetOk_slab (hok : relaySetOk i r = true) {e : SlabEntry} (he : e ∈ r.slabs.map slabOf) :
    e.tenant = i ∧ e.valid = true ∧ e.port ≤ 13 ∧ 1 ≤ e.tens ∧ e.tens ≤ 12800 ∧ ¬ (e.pass = true ∧ e.passPort = e.port) := by
  simp only [relaySetOk, Bool.and_eq_true, List.all_eq_true] at hok
  obtain ⟨⟨⟨-, hslabs⟩, -⟩, -⟩ := hok
  obtain ⟨v, hv, rfl⟩ := List.mem_map.1 he
  have h := hslabs v hv
  simp only [beq_iff_eq, decide_eq_true_eq, Bool.not_eq_true', Bool.and_eq_false_iff, beq_eq_false_iff_ne] at h
  obtain ⟨⟨⟨⟨⟨⟨⟨htenant, hvalid⟩, -⟩, hport⟩, -⟩, hlo⟩, hhi⟩, hpass⟩ := h
  refine ⟨htenant, hvalid, hport, hlo, hhi, fun ⟨hp, hq⟩ => ?_⟩
  rcases hpass with hpass | hpass
  · exact Bool.noConfusion (hpass.symm.trans hp)
  · exact hpass hq

/-- What R81 asks of a signal-map entry (Table 3.3; the width, the offset and FOUR are log 74). -/
theorem relaySetOk_signal (hok : relaySetOk i r = true) {y : Nat} (hy : y ∈ r.signals) :
    y / 2 ^ 56 % 256 = i ∧ y.testBit 55 = true ∧ y / 2 ^ 15 % 2 ^ 17 ≤ 127999 ∧ 1 ≤ y % 2 ^ 15 ∧
      (y.testBit 54 = true → y / 2 ^ 15 % 2 = 0) ∧ ∃ e, r.slab? (y / 2 ^ 32 % 65536) = some e ∧ e.four = y.testBit 54 := by
  simp only [relaySetOk, Bool.and_eq_true, List.all_eq_true] at hok
  obtain ⟨⟨-, hsignals⟩, -⟩ := hok
  have h := hsignals y hy
  simp only [signalOk, bit, Bool.and_eq_true, beq_iff_eq, decide_eq_true_eq, Bool.not_eq_true', Bool.and_eq_false_iff,
    beq_eq_false_iff_ne] at h
  obtain ⟨⟨⟨⟨⟨⟨htenant, hvalid⟩, -⟩, hoff⟩, hwidth⟩, hfour⟩, hslab⟩ := h
  have hbits : bits y 14 0 = y % 2 ^ 15 := by simp [bits]
  refine ⟨htenant, hvalid, hoff, hbits ▸ hwidth, fun h54 => ?_, ?_⟩
  · have hodd : bits y 31 15 % 2 = y / 2 ^ 15 % 2 := by unfold bits; omega
    rcases hfour with h | h
    · exact Bool.noConfusion (h.symm.trans h54)
    · omega
  · split at hslab
    case h_1 e he => exact ⟨e, he, beq_iff_eq.1 hslab⟩
    case h_2 => cases hslab

/-- The state once a set of tenant i is staged and its blob stored (R83). -/
def State.stageRelay (s : State) (i : Nat) (b : Blob) (r : RelaySet) : State :=
  ({ s with relay.staged := tabSet s.relay.staged i r } : State).writeBlob Obj.RELAY_SET_PENDING i b

/-- The state against which the demands of a new set of tenant i are judged: its former staged set is freed (R83). -/
def State.freeRelay (s : State) (i : Nat) : State := { s with relay.staged := tabDel s.relay.staged i }

theorem applyRelaySetPending_none (h : relaySetOf b = none) : applyRelaySetPending i b s = (s, .range) := by
  simp only [applyRelaySetPending, h]

theorem applyRelaySetPending_some (h : relaySetOf b = some r) : applyRelaySetPending i b s =
    if relaySetOk i r = false then (s, .range)
    else if ¬ s.cfg Obj.SWAP_LAP = 2 ^ 48 - 1 then (s, .state)
    else if (s.freeRelay i).setFits i r = false then (s, .overcommit)
    else (s.stageRelay i b r, .ok) := by
  simp only [applyRelaySetPending, h, Bool.not_eq_true', bne_iff_ne, ne_eq, noLap]
  rfl

end

/-! ## The least of a list -/

section
variable {α : Type} {f : α → Nat} {l : List α} {x : α}

theorem leastBy_eq_none_iff : leastBy f l = none ↔ l = [] := by
  cases l with
  | nil => exact iff_of_true rfl rfl
  | cons y l =>
    refine iff_of_false (fun h => ?_) (List.cons_ne_nil y l)
    rw [leastBy] at h
    split at h
    · split at h <;> cases h
    · cases h

theorem leastBy_eq_some (h : leastBy f l = some x) : x ∈ l ∧ ∀ y ∈ l, f x ≤ f y := by
  induction l generalizing x with
  | nil => cases h
  | cons y l ih =>
    rw [leastBy] at h
    split at h
    case h_1 z hz =>
      obtain ⟨hmem, hle⟩ := ih hz
      split at h
      case isTrue hyz =>
        cases h
        exact ⟨List.mem_cons_self .., List.forall_mem_cons.2 ⟨Nat.le_refl _, fun w hw => Nat.le_trans hyz (hle w hw)⟩⟩
      case isFalse hyz =>
        cases h
        exact ⟨List.mem_cons_of_mem _ hmem, List.forall_mem_cons.2 ⟨by omega, hle⟩⟩
    case h_2 hz =>
      cases h
      rw [leastBy_eq_none_iff.1 hz]
      exact ⟨List.mem_singleton.2 rfl, fun w hw => Nat.le_of_eq (congrArg f (List.mem_singleton.1 hw).symm)⟩

end

/-! ## What the distributor leaves of a frame (R149, R206 to R208) -/

/-- The relay state is the same, and a frame keeps all but its sequence number. -/
def State.SequencedFrom (t s : State) : Prop :=
  t.relay = s.relay ∧ ∀ n f, s.frame? n = some f → ∃ q, t.frame? n = some { f with seqNo := q }

section
variable {s t u : State}

theorem State.SequencedFrom.of_same (hr : t.relay = s.relay) (hf : t.frames = s.frames) : t.SequencedFrom s :=
  ⟨hr, fun n f h => ⟨f.seqNo, by rw [State.frame?, hf]; exact h⟩⟩

theorem State.SequencedFrom.trans (h : u.SequencedFrom t) (k : t.SequencedFrom s) : u.SequencedFrom s := by
  refine ⟨h.1.trans k.1, fun n f hf => ?_⟩
  obtain ⟨q, hq⟩ := k.2 n f hf
  obtain ⟨q', hq'⟩ := h.2 n _ hq
  exact ⟨q', hq'⟩

theorem frame?_modFrame_other (s : State) {fid n : Nat} (g : Frame → Frame) (h : n ≠ fid) : (s.modFrame fid g).frame? n = s.frame? n := by
  unfold State.modFrame State.frame? tabMod
  dsimp only
  split
  · exact tabGet?_set_other _ _ h
  · rfl

theorem modFrame_seqNo_sequenced (s : State) (fid : Nat) (q : Option Nat) :
    (s.modFrame fid (fun f => { f with seqNo := q })).SequencedFrom s := by
  refine ⟨rfl, fun n f hf => ?_⟩
  by_cases hn : n = fid
  · subst hn
    exact ⟨q, by rw [frame?_modFrame, hf]; rfl⟩
  · exact ⟨f.seqNo, by rw [frame?_modFrame_other s _ hn, hf]⟩

theorem takeSeq_sequenced (s : State) (fid : Nat) : (s.takeSeq fid).SequencedFrom s := by
  unfold State.takeSeq
  split
  · exact .of_same rfl rfl
  · exact (modFrame_seqNo_sequenced _ fid _).trans (.of_same rfl rfl)

theorem giveThread_sequenced (s : State) (fid x : Nat) : (s.giveThread fid x).SequencedFrom s := by
  unfold State.giveThread State.fillWindow
  split
  · split <;> exact .of_same rfl rfl
  · exact .of_same rfl rfl

theorem tryDispatch_sequenced (s : State) (fid : Nat) : (s.tryDispatch fid).2.SequencedFrom s := by
  unfold State.tryDispatch
  split
  · exact .of_same rfl rfl
  · dsimp only
    split
    · exact (giveThread_sequenced ..).trans (takeSeq_sequenced ..)
    · split
      · exact State.SequencedFrom.trans (.of_same rfl rfl) (takeSeq_sequenced s fid)
      · exact .of_same rfl rfl

theorem offerCard_sequenced (s : State) (fid : Nat) : (s.offerCard fid).2.SequencedFrom s := by
  unfold State.offerCard
  split
  · exact .of_same rfl rfl
  · dsimp only
    split
    · exact .of_same rfl rfl
    · exact tryDispatch_sequenced s fid

theorem dispatch_sequenced (s : State) (fid : Nat) : (s.dispatch fid).SequencedFrom s := by
  have hoffer := offerCard_sequenced s fid
  unfold State.dispatch
  split
  case h_1 h => rwa [h] at hoffer
  case h_2 h =>
    rw [h] at hoffer
    exact State.SequencedFrom.trans (.of_same rfl rfl) hoffer

end

/-! ## Shells (R88, R89) -/

section
variable {s z : State} {t lap lane k c : Nat} {h : Head} {vs : List Nat} {start : Time}

theorem exec_shellIssue_past (hs : s.startOfLap lap = none) : exec (.shellIssue t lap lane k) s = .next s := by
  rw [exec_shellIssue, execShellIssue, hs]

/-- A shell is due in a lap that is active, from its shell time on, while there is none of its HEAD and lap (R88). -/
def State.shellDue (s : State) (t lap lane k : Nat) (start : Time) : Prop :=
  s.activeLap t lap = true ∧ start ≤ s.time.gun + s.cfg Obj.SHELL_LEAD t * 65536 ∧
    ∀ y ∈ s.relay.shells, ¬ (y.t = t ∧ y.lap = lap ∧ y.lane = lane ∧ y.k = k)

theorem shellDue_iff : (s.activeLap t lap && decide (start ≤ s.time.gun + s.cfg Obj.SHELL_LEAD t * ns) &&
    !s.relay.shells.any (fun x => x.t == t && x.lap == lap && x.lane == lane && x.k == k)) = true ↔ s.shellDue t lap lane k start := by
  simp only [State.shellDue, Bool.and_eq_true, decide_eq_true_eq, Bool.not_eq_true', List.any_eq_false, beq_iff_eq, and_assoc]

theorem exec_shellIssue_due (hs : s.startOfLap lap = some start) (hh : ((s.relaySetFor t lap).heads lane)[k]? = some (h, vs))
    (hd : s.shellDue t lap lane k start) : exec (.shellIssue t lap lane k) s = .next (s.issueShell t lap lane k h) := by
  rw [exec_shellIssue, execShellIssue, hs, hh]
  exact if_pos (shellDue_iff.2 hd)

theorem exec_shellIssue_other (hs : s.startOfLap lap = some start) (hh : ((s.relaySetFor t lap).heads lane)[k]? = some (h, vs))
    (hd : ¬ s.shellDue t lap lane k start) : exec (.shellIssue t lap lane k) s = .next s := by
  rw [exec_shellIssue, execShellIssue, hs, hh]
  exact if_neg (mt shellDue_iff.1 hd)

/-- Noting which HEADs are ready changes of a shell that time alone (R90). -/
theorem mem_noteReady {x : Shell} (hx : x ∈ s.relay.shells) : ∃ q, { x with readySince := q } ∈ s.noteReady.relay.shells := by
  have hmem := List.mem_map_of_mem (f := fun x : Shell =>
    if x.readySince.isNone && !x.built && s.shellReady x then { x with readySince := some s.time.gun } else x) hx
  split at hmem
  · exact ⟨_, hmem⟩
  · exact ⟨x.readySince, hmem⟩

/-- With cells for it, a shell is entered under a new frame of relay traffic, which goes to the distributor (R88). -/
theorem issueShell_alloc (ha : s.allocCells 0 (cellsFor (36 + tensBytes h.tens)) = some (c, z)) : ∃ (v : State) (f : Frame),
    s.issueShell t lap lane k h = v.noteReady.dispatch z.nextFid ∧
      (⟨t, lap, lane, k, z.nextFid, c, none, none, false⟩ : Shell) ∈ v.relay.shells ∧ v.frame? z.nextFid = some f ∧ f.src = 1 ∧
      f.port = h.port ∧ f.relayLap = some lap ∧ f.phys = 32 + tensBytes h.tens := by
  unfold State.issueShell
  simp only [ha]
  exact ⟨_, _, rfl, List.mem_append_right _ (List.mem_singleton.2 rfl), tabGet?_set_same .., rfl, rfl, rfl, rfl⟩

theorem issueShell_enters (ha : s.allocCells 0 (cellsFor (36 + tensBytes h.tens)) = some (c, z)) : ∃ y f,
    y ∈ (s.issueShell t lap lane k h).relay.shells ∧ y.t = t ∧ y.lap = lap ∧ y.lane = lane ∧ y.k = k ∧ y.baton = c ∧ y.built = false ∧
      (s.issueShell t lap lane k h).frame? y.fid = some f ∧ f.src = 1 ∧ f.port = h.port ∧ f.relayLap = some lap ∧
      f.phys = 32 + tensBytes h.tens := by
  obtain ⟨v, f, hv, hx, hf, hsrc, hport, hlap, hphys⟩ := issueShell_alloc (t := t) (lap := lap) (lane := lane) (k := k) ha
  obtain ⟨hrelay, hframes⟩ := dispatch_sequenced v.noteReady z.nextFid
  obtain ⟨q, hq⟩ := mem_noteReady hx
  obtain ⟨m, hm⟩ := hframes _ f hf
  rw [hv, hrelay]
  exact ⟨_, _, hq, rfl, rfl, rfl, rfl, rfl, rfl, hm, hsrc, hport, hlap, hphys⟩

end

/-! ## Builds (R90 to R92) -/

section
variable {s : State} {u : Nat} {x : Shell} {h : Head} {vs : List Nat}

theorem unitBusy_iff : s.unitBusy u = true ↔ ∃ e ∈ s.relay.busy, e.1 = u ∧ s.time.gun < e.2.1 + e.2.2 * 655360 / 18 := by
  have htime : ∀ n, exchTime n = n * 655360 / 18 := fun n => by simp only [exchTime, ns, Nat.mul_assoc]
  simp only [State.unitBusy, List.any_eq_true, Bool.and_eq_true, beq_iff_eq, decide_eq_true_eq, htime]

/-- The definition as a function: so the kernel compares its two sides without evaluating the set of the shell's lap. -/
theorem buildCycles_fun : State.buildCycles = fun (s : State) (x : Shell) => match s.shellHead x with
  | some (_, vs) => 1 + ((vs.filterMap runOf).map Run.cycles).sum
  | none => 0 := rfl

theorem buildCycles_eq (hx : s.shellHead x = some (h, vs)) : s.buildCycles x = 1 + ((vs.filterMap runOf).map Run.cycles).sum := by
  rw [buildCycles_fun]
  simp only [hx]

theorem buildCycles_noteReady : s.noteReady.buildCycles x = s.buildCycles x := by
  have hhead : s.noteReady.shellHead x = s.shellHead x := rfl
  rw [buildCycles_fun]
  simp only [hhead]

theorem exec_buildStart_busy (hb : s.unitBusy u = true) : exec (.buildStart u) s = .next s := if_pos hb

/-- The shells of the next HEADs of a unit that are ready. -/
def State.readyHeads (s : State) (u : Nat) : List Shell := (s.noteReady.nextHeads u).filter (fun y => y.readySince.isSome)

theorem exec_buildStart_none (hb : s.unitBusy u = false) (hr : s.readyHeads u = []) : exec (.buildStart u) s = .next s.noteReady := by
  have hl := leastBy_eq_none_iff (f := fun x : Shell => x.readySince.getD 0 * 256 + x.t).2 hr
  rw [State.readyHeads] at hl
  rw [exec_buildStart, execBuildStart, hb]
  simp only [hl, Bool.false_eq_true, if_false]

theorem mem_shells_of_readyHeads (hx : x ∈ s.readyHeads u) : x ∈ s.noteReady.relay.shells :=
  List.mem_of_mem_filter (List.mem_of_mem_filter (List.mem_of_mem_filter hx))

/-- Unit u starts the build of a shell now (R90). -/
def State.startBuild (s : State) (u : Nat) (h : Shell) : State := { s with
  relay.shells := s.relay.shells.map (fun x =>
    if x.fid == h.fid && x.t == h.t && x.lap == h.lap && x.lane == h.lane && x.k == h.k then { x with startAt := some s.time.gun } else x)
  relay.busy := s.relay.busy.filter (fun e => s.time.gun ≤ e.2.1 + exchTime e.2.2 + 1000000 * ns) ++ [(u, s.time.gun, s.buildCycles h)] }

/-- An idle unit starts the HEAD that became ready first, the tenant of the lower number first of two. -/
theorem exec_buildStart_takes (hb : s.unitBusy u = false) (hr : s.readyHeads u ≠ []) : ∃ y w, y ∈ s.readyHeads u ∧
    (∀ z ∈ s.readyHeads u, y.readySince.getD 0 * 256 + y.t ≤ z.readySince.getD 0 * 256 + z.t) ∧ exec (.buildStart u) s = .next w ∧
      { y with startAt := some s.time.gun } ∈ w.relay.shells ∧ (u, s.time.gun, s.buildCycles y) ∈ w.relay.busy := by
  obtain ⟨y, hy⟩ := Option.ne_none_iff_exists'.1 (mt (leastBy_eq_none_iff (f := fun x : Shell => x.readySince.getD 0 * 256 + x.t)).1 hr)
  obtain ⟨hmem, hle⟩ := leastBy_eq_some hy
  refine ⟨y, s.noteReady.startBuild u y, hmem, hle, ?_, ?_, ?_⟩
  · rw [State.readyHeads] at hy
    rw [exec_buildStart, execBuildStart, hb]
    simp only [hy, Bool.false_eq_true, if_false]
    rfl
  · exact List.mem_map.2 ⟨y, mem_shells_of_readyHeads hmem, if_pos (by simp)⟩
  · rw [← buildCycles_noteReady]
    exact List.mem_append_right _ (List.mem_singleton.2 rfl)

/-- The shells whose build unit u has under way. -/
def State.building (s : State) (u : Nat) : List Shell := s.relay.shells.filter (fun y => y.lane == u && !y.built && y.startAt.isSome)

/-- The oldest of them. -/
def State.going (s : State) (u : Nat) : Option Shell := leastBy (fun y => y.startAt.getD 0) (s.building u)

theorem exec_buildComplete_none (hb : s.building u = []) : exec (.buildComplete u) s = .next s := by
  have hg := leastBy_eq_none_iff (f := fun y : Shell => y.startAt.getD 0).2 hb
  rw [State.building] at hg
  rw [exec_buildComplete, execBuildComplete, hg]

/-! In the next two the shells' HEADs stand as a function of which nothing is known but its value at x: so the kernel does not evaluate
the set of the shell's lap. -/

theorem exec_buildComplete_gone (hg : s.going u = some x) (hx : s.shellHead x = none) :
    exec (.buildComplete u) s = .next (s.abandonShell x.fid) := by
  rw [State.going, State.building] at hg
  obtain ⟨head, hhead⟩ : ∃ f, f = s.shellHead := ⟨_, rfl⟩
  rw [exec_buildComplete, execBuildComplete, ← hhead, hg]
  rw [← hhead] at hx
  simp only [hx]

/-- The oldest build ends after the cycles of its runs and 16 more (R92). -/
theorem exec_buildComplete_head (hg : s.going u = some x) (hx : s.shellHead x = some (h, vs)) : exec (.buildComplete u) s =
    .next (if (s.time.gun - x.startAt.getD 0) * 18 / 655360 < 16 + ((vs.filterMap runOf).map Run.cycles).sum then s
      else (s.build x h vs).abandonShell x.fid) := by
  rw [State.going, State.building] at hg
  obtain ⟨head, hhead⟩ : ∃ f, f = s.shellHead := ⟨_, rfl⟩
  rw [exec_buildComplete, execBuildComplete, ← hhead, hg]
  rw [← hhead] at hx
  simp only [hx]
  exact (apply_ite Host.Outcome.next _ _ _).symm

end

/-! ## The tens of an output (R8, R72, R73, R91) -/

/-- The tens of a payload as one number, first ten first. -/
def tensNat (ts : List Nat) : Nat := ts.foldl (fun v x => v * 1024 + x % 1024) 0

theorem tensNat_append (ts : List Nat) (x : Nat) : tensNat (ts ++ [x]) = tensNat ts * 1024 + x % 1024 := by
  rw [tensNat, List.foldl_append]
  rfl

theorem tensNat_lt (ts : List Nat) : tensNat ts < 2 ^ (10 * ts.length) := by
  induction ts using List.reverseRecOn with
  | nil => exact Nat.one_pos
  | append_singleton ts x ih =>
    have hpow : 2 ^ (10 * (ts.length + 1)) = 2 ^ (10 * ts.length) * 1024 := by rw [Nat.mul_succ, Nat.pow_add]
    rw [tensNat_append, List.length_append, List.length_singleton, hpow]
    omega

theorem tensNat_digits {ts : List Nat} (h : ∀ y ∈ ts, y < 1024) :
    (List.range ts.length).map (fun j => tensNat ts / 2 ^ (10 * (ts.length - 1 - j)) % 1024) = ts := by
  induction ts using List.reverseRecOn with
  | nil => rfl
  | append_singleton ts x ih =>
    obtain ⟨hts, hx⟩ := List.forall_mem_append.1 h
    have hx : x < 1024 := hx x (List.mem_singleton.2 rfl)
    rw [tensNat_append, List.length_append, List.length_singleton, List.range_succ, List.map_append]
    congr 1
    · refine (List.map_congr_left fun j hj => ?_).trans (ih hts)
      have hj := List.mem_range.1 hj
      have hpow : 2 ^ (10 * (ts.length + 1 - 1 - j)) = 1024 * 2 ^ (10 * (ts.length - 1 - j)) := by
        rw [show 10 * (ts.length + 1 - 1 - j) = 10 + 10 * (ts.length - 1 - j) by omega, Nat.pow_add]
      rw [hpow, ← Nat.div_div_eq_div_mul]
      congr 2
      omega
    · rw [List.map_singleton, show 10 * (ts.length + 1 - 1 - ts.length) = 0 by omega, Nat.pow_zero, Nat.div_one]
      congr 1
      omega

/-- A payload reads back as the tens it was made of. -/
theorem tensOf_packTens {ts : List Nat} (h : ∀ y ∈ ts, y < 1024) : tensOf (packTens ts) ts.length = ts := by
  have hbytes : 10 * ts.length ≤ 8 * tensBytes ts.length := by unfold tensBytes; omega
  have hlt : tensNat ts * 2 ^ (8 * tensBytes ts.length - 10 * ts.length) < 256 ^ tensBytes ts.length := by
    calc tensNat ts * 2 ^ (8 * tensBytes ts.length - 10 * ts.length)
        < 2 ^ (10 * ts.length) * 2 ^ (8 * tensBytes ts.length - 10 * ts.length) :=
          Nat.mul_lt_mul_of_pos_right (tensNat_lt ts) (Nat.two_pow_pos _)
      _ = 256 ^ tensBytes ts.length := by
          rw [← Nat.pow_add, Nat.add_sub_cancel' hbytes, Nat.pow_mul]
  have hpack : packTens ts = beBytes (tensBytes ts.length) (tensNat ts * 2 ^ (8 * tensBytes ts.length - 10 * ts.length)) := rfl
  rw [tensOf, hpack, List.take_of_length_le (length_beBytes ..).le, beNat_beBytes, Nat.mod_eq_of_lt hlt,
    Nat.mul_div_cancel _ (Nat.two_pow_pos _)]
  exact tensNat_digits h

theorem length_setValueBit (ts : List Nat) (k : Nat) (v : Bool) : (setValueBit ts k v).length = ts.length := List.length_modify ..

theorem valueBit_setValueBit {ts : List Nat} {k : Nat} (hk : k < 10 * ts.length) (v : Bool) (c : Nat) :
    valueBit (setValueBit ts k v) c = if c = k then v else valueBit ts c := by
  have hword : k / 10 < ts.length := by omega
  rw [valueBit, setValueBit, List.getD_eq_getElem?_getD, List.getElem?_modify, valueBit, List.getD_eq_getElem?_getD]
  dsimp only [Option.map_eq_map]
  by_cases hq : k / 10 = c / 10
  · simp only [if_pos hq]
    rw [← hq, List.getElem?_eq_getElem hword]
    dsimp only [Option.map_some, Option.getD_some, Function.comp]
    by_cases hc : c = k
    · subst hc
      rw [if_pos rfl]
      cases hb : (ts[c / 10]).testBit (c % 10) <;> cases v <;> simp [hb]
    · have hr : k % 10 ≠ c % 10 := by omega
      rw [if_neg hc]
      split
      · rfl
      · rw [Nat.testBit_xor, Nat.testBit_two_pow_of_ne hr, Bool.xor_false]
  · have hc : c ≠ k := by rintro rfl; exact hq rfl
    simp only [if_neg hq, if_neg hc, Option.map_id']

/-- Bits copied one by one into a range that the tens hold. -/
theorem valueBit_copyBits {ts xs : List Nat} {n a d : Nat} (hd : d + n ≤ 10 * ts.length) (c : Nat) :
    valueBit ((List.range n).foldl (fun ts k => setValueBit ts (d + k) (valueBit xs (a + k))) ts) c =
        (if d ≤ c ∧ c < d + n then valueBit xs (a + (c - d)) else valueBit ts c) ∧
      ((List.range n).foldl (fun ts k => setValueBit ts (d + k) (valueBit xs (a + k))) ts).length = ts.length := by
  induction n with
  | zero => exact ⟨(if_neg (by omega)).symm, rfl⟩
  | succ n ih =>
    obtain ⟨hbit, hlen⟩ := ih (by omega)
    rw [List.range_succ, List.foldl_append, List.foldl_cons, List.foldl_nil, length_setValueBit, hlen,
      valueBit_setValueBit (by rw [hlen]; omega), hbit]
    refine ⟨?_, rfl⟩
    by_cases hc : c = d + n
    · rw [if_pos hc, if_pos (by omega), hc, Nat.add_sub_cancel_left]
    · rw [if_neg hc]
      exact if_congr (by omega) rfl rfl

theorem getElem?_putTens {ts xs : List Nat} {d : Nat} (h : d + xs.length ≤ ts.length) (k : Nat) :
    (putTens ts d xs)[k]? = if d ≤ k ∧ k < d + xs.length then xs[k - d]? else ts[k]? := by
  have hlen : (ts.take d).length = d := List.length_take_of_le (by omega)
  rw [putTens]
  rcases Nat.lt_or_ge k (d + xs.length) with hk | hk
  · rw [List.getElem?_append_left (by rw [List.length_append, hlen]; exact hk)]
    rcases Nat.lt_or_ge k d with hd | hd
    · rw [List.getElem?_append_left (by rw [hlen]; exact hd), List.getElem?_take_of_lt hd, if_neg (by omega)]
    · rw [List.getElem?_append_right (by rw [hlen]; exact hd), hlen, if_pos ⟨hd, hk⟩]
  · rw [List.getElem?_append_right (by rw [List.length_append, hlen]; exact hk), List.length_append, hlen, List.getElem?_drop,
      if_neg (by omega), Nat.add_sub_cancel' hk]

theorem applyRun_bits {ts xs : List Nat} {n a d : Nat} (hd : d + n ≤ 10 * ts.length) (i c : Nat) :
    valueBit (applyRun ts (some xs) (.bits n i a d)) c = if d ≤ c ∧ c < d + n then valueBit xs (a + (c - d)) else valueBit ts c :=
  (valueBit_copyBits hd c).1

theorem applyRun_block {ts xs : List Nat} {n a d : Nat} (hd : d + n ≤ ts.length) (ha : a + n ≤ xs.length) (i k : Nat) :
    (applyRun ts (some xs) (.block n i a d))[k]? = if d ≤ k ∧ k < d + n then xs[a + (k - d)]? else ts[k]? := by
  have hlen : ((xs.drop a).take n).length = n := List.length_take_of_le (by rw [List.length_drop]; omega)
  rw [applyRun, getElem?_putTens (by rw [hlen]; exact hd), hlen]
  by_cases hk : d ≤ k ∧ k < d + n
  · rw [if_pos hk, if_pos hk, List.getElem?_take_of_lt (by omega), List.getElem?_drop]
  · rw [if_neg hk, if_neg hk]

theorem applyRun_fill {ts : List Nat} {n d : Nat} (hd : d + n ≤ ts.length) (v k : Nat) :
    (applyRun ts none (.fill n v d))[k]? = if d ≤ k ∧ k < d + n then some v else ts[k]? := by
  have hlen : (List.replicate n v).length = n := List.length_replicate
  rw [applyRun, getElem?_putTens (by rw [hlen]; exact hd), hlen]
  by_cases hk : d ≤ k ∧ k < d + n
  · rw [if_pos hk, if_pos hk, List.getElem?_replicate_of_lt (by omega)]
  · rw [if_neg hk, if_neg hk]

/-! ## Deadlines and lost slabs (R97, R98) -/

section
variable {s : State} {port win lap t slab : Nat} {w : Window}

theorem exec_exchangeDeadline_none (hw : (s.windowsIn port lap)[win]? = none) : exec (.exchangeDeadline port win lap) s = .next s := by
  rw [exec_exchangeDeadline, execExchangeDeadline, hw]

theorem exec_exchangeDeadline_early (hw : (s.windowsIn port lap)[win]? = some w)
    (ht : (s.time.gun : Int) < (s.windowTimes port lap w).2.2) : exec (.exchangeDeadline port win lap) s = .next s := by
  rw [exec_exchangeDeadline, execExchangeDeadline, hw]
  exact if_pos (by rw [decide_eq_true ht, Bool.or_true])

/-- At the deadline of a window of a lap near the current one, each tenant that has a set and for which the lap is active loses what the
window expects and does not have. -/
theorem exec_exchangeDeadline_due (hw : (s.windowsIn port lap)[win]? = some w)
    (ht : (s.windowTimes port lap w).2.2 ≤ (s.time.gun : Int))
    (hlap : lap = s.time.lap ∨ lap = lapAdd s.time.lap 1 ∨ lap = lapSub s.time.lap 1) :
    exec (.exchangeDeadline port win lap) s = .next (State.noteReady ((sortBy id
      (((s.relay.sets.map Prod.fst ++ s.relay.staged.map Prod.fst ++ s.relay.former.map Prod.fst).dedup).filter
        (fun t => s.activeLap t lap))).foldl (fun z t =>
          ((z.relaySetFor t lap).expected port win).foldl (fun z k => z.inputLost t k lap port) z) s)) := by
  rw [exec_exchangeDeadline, execExchangeDeadline, hw]
  dsimp only
  refine if_neg ?_
  simp only [Bool.or_eq_true, Bool.not_eq_true', Bool.or_eq_false_iff, beq_eq_false_iff_ne, decide_eq_true_eq, not_or, not_lt]
  exact ⟨fun ⟨⟨h1, h2⟩, h3⟩ => hlap.elim h1 (·.elim h2 h3), ht⟩

/-- Where one tenant alone has a set, it is the one that loses them. -/
theorem exec_exchangeDeadline_one (hw : (s.windowsIn port lap)[win]? = some w)
    (ht : (s.windowTimes port lap w).2.2 ≤ (s.time.gun : Int))
    (hlap : lap = s.time.lap ∨ lap = lapAdd s.time.lap 1 ∨ lap = lapSub s.time.lap 1) (hsets : s.relay.sets.map Prod.fst = [t])
    (hstaged : s.relay.staged = []) (hformer : s.relay.former = []) (ha : s.activeLap t lap = true) :
    exec (.exchangeDeadline port win lap) s =
      .next (((s.relaySetFor t lap).expected port win).foldl (fun (z : State) q => z.inputLost t q lap port) s).noteReady := by
  have hts : ((s.relay.sets.map Prod.fst ++ s.relay.staged.map Prod.fst ++ s.relay.former.map Prod.fst).dedup).filter
      (fun t => s.activeLap t lap) = [t] := by
    rw [hsets, hstaged, hformer]
    exact List.filter_cons_of_pos ha
  rw [exec_exchangeDeadline_due hw ht hlap, hts, show sortBy id [t] = [t] from rfl, List.foldl_cons, List.foldl_nil]

/-- An input marked lost (R97). -/
def State.markLost (s : State) (t slab n : Nat) : State :=
  s.setInput t slab n { s.input t slab n with st := .lost, fid := 0, baton := 0, wasLost := true }

theorem inputLost_come (ha : (s.input t slab lap).st ≠ .absent) (hr : (s.input t slab lap).st ≠ .arriving) :
    s.inputLost t slab lap port = s := if_pos (by simp only [Bool.and_eq_true, bne_iff_ne]; exact ⟨ha, hr⟩)

/-- An input that has not come holds no baton to drop. -/
theorem inputLost_absent (ha : (s.input t slab lap).st = .absent) (hb : (s.input t slab lap).baton = 0) :
    s.inputLost t slab lap port = if (!s.replay t) = true then (s.markLost t slab lap).inputMissing t slab lap port
      else
        let v := (s.markLost t slab lap).notice t slab lap port
        if (lap == v.time.lap || lapFuture v lap) = true then v else v.inputMissing t slab lap port := by
  unfold State.inputLost State.dropHold
  dsimp only
  rw [if_neg (by rw [ha]; decide), if_pos hb]
  rfl

theorem notice_time (v : State) (t slab n port : Nat) : (v.notice t slab n port).time = v.time := by
  unfold State.notice
  dsimp only
  split
  · rfl
  · rw [State.count_time, queueCtl_time]
    rfl

theorem inputLost_strict (ha : (s.input t slab lap).st = .absent) (hb : (s.input t slab lap).baton = 0) (hr : s.replay t = false) :
    s.inputLost t slab lap port = (s.markLost t slab lap).inputMissing t slab lap port :=
  (inputLost_absent ha hb).trans (if_pos (by rw [hr]; rfl))

theorem inputLost_replay (ha : (s.input t slab lap).st = .absent) (hb : (s.input t slab lap).baton = 0) (hr : s.replay t = true)
    (hlap : lap = s.time.lap) : s.inputLost t slab lap port = (s.markLost t slab lap).notice t slab lap port := by
  rw [inputLost_absent ha hb, if_neg (by rw [hr]; exact Bool.noConfusion)]
  exact if_pos (by rw [notice_time, hlap]; exact Bool.or_eq_true_iff.2 (.inl (beq_self_eq_true s.time.lap)))

end

/-! ## The statement -/

/-- Settles O42: what a written set, a shell, a build, a run and a deadline of a window do. -/
theorem relayResults : Obligations.RelayResults := by
  intro s p i t lap lane k u port win slab b r h vs x start ts xs n a d bit v
  refine ⟨fun ha => ?written, fun hok e he => relaySetOk_slab hok he, fun hok y hy => relaySetOk_signal hok hy, exec_shellIssue_past,
    fun hs hh => ⟨exec_shellIssue_due hs hh, exec_shellIssue_other hs hh⟩, fun c z ha => issueShell_enters ha, unitBusy_iff,
    exec_buildStart_busy, exec_buildStart_none, exec_buildStart_takes, buildCycles_eq, fun hg => leastBy_eq_some hg,
    exec_buildComplete_none, exec_buildComplete_gone, exec_buildComplete_head, tensOf_packTens, fun hd => applyRun_bits hd i bit,
    fun hd ha => applyRun_block hd ha i bit, fun hd => applyRun_fill hd v bit, ⟨rfl, rfl⟩, exec_exchangeDeadline_none,
    fun w hw ht => exec_exchangeDeadline_early hw ht, fun w hw ht hlap => exec_exchangeDeadline_one hw ht hlap, inputLost_come,
    inputLost_strict, inputLost_replay⟩
  case written =>
    have hc := exec_relaySetPending p i b s
    refine ⟨fun hb => writesBlob_refused ha hc (applyRelaySetPending_none hb) (by decide), fun hb hok => ?_, fun hb hok hs => ?_,
      fun hb hok hs hf => ?_, fun hb hok hs hf => ?_⟩
    · exact writesBlob_refused ha hc ((applyRelaySetPending_some hb).trans (if_pos hok)) (by decide)
    · exact writesBlob_refused ha hc ((applyRelaySetPending_some hb).trans ((if_neg (by simp [hok])).trans (if_pos hs))) (by decide)
    · exact writesBlob_refused ha hc ((applyRelaySetPending_some hb).trans ((if_neg (by simp [hok])).trans
        ((if_neg (not_not.2 hs)).trans (if_pos hf)))) (by decide)
    · have hfits : (s.freeRelay i).setFits i r = true := hf
      exact writesBlob_ok ha hc rfl ((applyRelaySetPending_some hb).trans ((if_neg (by simp [hok])).trans
        ((if_neg (not_not.2 hs)).trans (if_neg (by simp [hfits])))))

end Sys2Proof.Machine
end

section
/-! PROOFS. What the ends of frames and copies, the waves and the captures leave of a port's link (R109, R115, R121, R278, R287, R313, R348). -/

namespace Sys2Proof.Machine

/-- What decides over a port's link: its state, and its run of uncorrectable codewords. -/
def State.links (s : State) (p : Nat) : PortState × Nat := ((s.port p).st, (s.port p).uncRun)

section
variable (s : State)

theorem modPort_links (p : Nat) {f : Port → Port} (h : ∀ x, ((f x).st, (f x).uncRun) = (x.st, x.uncRun)) :
    (s.modPort p f).links = s.links := by
  funext q
  by_cases hq : q = p
  · subst hq
    rw [State.links, State.port_modPort_same]
    exact h _
  · rw [State.links, State.port_modPort_other s f hq]
    rfl

/-- What either branch leaves alone, a choice between them leaves alone. -/
theorem links_ite {c : Prop} [Decidable c] {a b : State} {x : Nat → PortState × Nat} (ha : a.links = x) (hb : b.links = x) :
    (if c then a else b).links = x := by
  split
  · exact ha
  · exact hb

theorem links_of_ports {t : State} (h : t.ports = s.ports) : t.links = s.links := by
  funext p
  rw [State.links, State.links, State.port, State.port, h]

@[simp] theorem modFrame_links (fid : Nat) (f : Frame → Frame) : (s.modFrame fid f).links = s.links := rfl
@[simp] theorem setCfg_links (o i v : Nat) : (s.setCfg o i v).links = s.links := rfl
@[simp] theorem emit_links (e : Emission) : (s.emit e).links = s.links := rfl
@[simp] theorem modTenant_links (t : Nat) (f : Tenant → Tenant) : (s.modTenant t f).links = s.links := rfl
@[simp] theorem modChannel_links (c : Nat) (f : Channel → Channel) : (s.modChannel c f).links = s.links := rfl
@[simp] theorem setSlot_links (t k : Nat) (x : SnapSlot) : (s.setSlot t k x).links = s.links := rfl

/-! ## The record of events, and waves -/

@[simp] theorem count_links (o i : Nat) : (s.count o i).links = s.links := rfl

@[simp] theorem post_links (q tenant what : Nat) : (s.post q tenant what).links = s.links := by
  unfold State.post
  dsimp only
  split
  · split <;> rfl
  · rfl

@[simp] theorem logError_links (source severity att : Nat) (tenant : Option Nat) (o i detail : Nat) :
    (s.logError source severity att tenant o i detail).links = s.links := by
  have hraise : ∀ u : State, (if att = 0 then u else u.raise att tenant o i).links = u.links := fun u => by split <;> rfl
  unfold State.logError
  dsimp only
  rw [hraise]
  split
  · rfl
  · rw [post_links]
    split <;> rfl

@[simp] theorem queueCtl_links (p : Nat) (f : CtlFlit) : (s.queueCtl p f).links = s.links := by
  unfold State.queueCtl
  split
  · exact modPort_links s p fun _ => rfl
  · rfl

@[simp] theorem waveUp_links (t op wave value : Nat) : (s.waveUp t op wave value).links = s.links := by
  unfold State.waveUp
  split
  · exact queueCtl_links s _ _
  · exact queueCtl_links s _ _
  · rfl

@[simp] theorem waveDown_links (t op wave value : Nat) : (s.waveDown t op wave value).links = s.links :=
  foldl_keeps (g := State.links) (fun u _ _ => queueCtl_links u _ _) s

@[simp] theorem waveFabric_links (t op wave value : Nat) : (s.waveFabric t op wave value).links = s.links :=
  foldl_keeps (g := State.links) (fun u _ _ => queueCtl_links u _ _) s

/-! ## Batons and copies (R265 to R267, R277) -/

@[simp] theorem refuseBaton_links (b : Nat) : (s.refuseBaton b).links = s.links := by
  have hraise : ∀ (quiet : Bool) (u : State),
      (if quiet then u else { u with buf.pool.lastRaise := some u.time.gun }).links = u.links := fun quiet u => by cases quiet <;> rfl
  unfold State.refuseBaton
  dsimp only
  rw [logError_links]
  exact hraise _ _

@[simp] theorem pushCell_links (c : Nat) : (s.pushCell c).links = s.links := by
  unfold State.pushCell
  dsimp only
  split
  · rfl
  · split <;> rfl

@[simp] theorem release_links (b : Nat) : (s.release b).links = s.links := by
  unfold State.release State.decRef
  split
  · exact refuseBaton_links s b
  · dsimp only
    split
    · exact refuseBaton_links s b
    · split
      · exact foldl_keeps (g := State.links) (fun u c _ => pushCell_links u c) _
      · rfl

@[simp] theorem forget_links (fid : Nat) : (s.forget fid).links = s.links := by
  unfold State.forget
  split <;> rfl

@[simp] theorem releaseCopy_links (c : Copy) : (s.releaseCopy c).links = s.links := by
  rw [State.releaseCopy, forget_links, release_links]

@[simp] theorem exchangeCells_links (b : Nat) : (s.exchangeCells b).2.links = s.links := by
  unfold State.exchangeCells
  dsimp only
  split
  · rfl
  · refine foldl_keeps (g := State.links) (fun u c _ => ?_) s
    split
    case h_1 => rfl
    case h_2 r w hw =>
      rw [popCell_pool hw]
      rfl

@[simp] theorem retain_links (p : Nat) (c : Copy) : (s.retain p c).links = s.links := by
  unfold State.retain
  split
  · exact releaseCopy_links s c
  · split
    · exact releaseCopy_links s c
    · split
      · exact releaseCopy_links s c
      · dsimp only
        split
        · exact exchangeCells_links s c.baton
        · exact (releaseCopy_links _ c).trans (exchangeCells_links s c.baton)

@[simp] theorem takeOut_links (q : Nat) (f : Copy → Bool) : (s.takeOut q f).2.links = s.links := by
  unfold State.takeOut
  dsimp only
  split <;> rfl

@[simp] theorem flush_links (q obj : Nat) (f : Copy → Bool) : (s.flush q obj f).links = s.links :=
  (foldl_keeps (g := State.links) (fun u c _ => releaseCopy_links (u.count obj q) c) _).trans (takeOut_links s q f)

@[simp] theorem missLaunch_links (q : Nat) (c : Copy) : (s.missLaunch q c).links = s.links := by
  have hcount := retain_links (s.count Obj.MISSED_LAUNCHES (s.qPort q)) ((s.count Obj.MISSED_LAUNCHES (s.qPort q)).qPort q) c
  unfold State.missLaunch
  dsimp only
  split
  · exact hcount
  · exact hcount

/-! ## Copies on the wire, and condemned frames (R278, R287) -/

@[simp] theorem offWire_links (p sub : Nat) (w : OnWire) : (s.offWire p sub w).links = s.links :=
  modPort_links (s.modQueue w.q _) p fun _ => rfl

@[simp] theorem cutOff_links (p sub : Nat) : (s.cutOff p sub).links = s.links := by
  unfold State.cutOff
  split
  · rfl
  · exact (releaseCopy_links _ _).trans (offWire_links s p sub _)

@[simp] theorem stomp_links (p sub reason : Nat) (keep : Bool) : (s.stomp p sub reason keep).links = s.links := by
  unfold State.stomp
  split
  · rfl
  case h_2 w _ =>
    have hwire : ∀ (u : State) (t : Nat), (if isPsiot p then u.modPort p (fun x => { x with wireFree := t }) else u).links = u.links := by
      intro u t
      split
      · exact modPort_links u p fun _ => rfl
      · rfl
    dsimp only
    split
    · exact (retain_links _ p w.copy).trans ((hwire _ _).trans (offWire_links s p sub w))
    · exact (releaseCopy_links _ w.copy).trans ((hwire _ _).trans (offWire_links s p sub w))

@[simp] theorem takeOutFrame_links (fid : Nat) : (s.takeOutFrame fid).links = s.links :=
  foldl_keeps (g := State.links) (fun u q _ =>
    (foldl_keeps (g := State.links) (fun y c _ => releaseCopy_links y c) _).trans (takeOut_links u q _)) s

@[simp] theorem condemn_links (fid reason : Nat) : (s.condemn fid reason).links = s.links := by
  refine (foldl_keeps (g := State.links) (fun u p _ => foldl_keeps (g := State.links) (fun y sub _ => ?_) u) _).trans (takeOutFrame_links s fid)
  split
  · split
    · exact stomp_links y p sub reason false
    · rfl
  · rfl

/-! ## Captures (R320, R348) -/

@[simp] theorem sectorWrite_links (x a len : Nat) : (s.sectorWrite x a len).links = s.links := by
  unfold State.sectorWrite
  exact links_ite rfl (links_ite (links_ite rfl (links_ite rfl rfl)) rfl)

@[simp] theorem dramPut_links (a : Nat) (b : Blob) : (s.dramPut a b).links = s.links :=
  (links_of_ports _ (show (s.dramPut a b).ports = _ from rfl)).trans
    (foldl_keeps (g := State.links) (fun u x _ => sectorWrite_links u x a b.length) s)

@[simp] theorem takeTokens_links (r : DramLevel) (n : Nat) : (s.takeTokens r n).links = s.links := by
  unfold State.takeTokens
  cases s.reservation r
  rfl

@[simp] theorem openRows_links (a len : Nat) : (s.openRows a len).links = s.links := by
  refine foldl_keeps (g := State.links) (fun u e _ => ?_) s
  cases u.dramMap e.1
  exact modChannel_links u _ _

@[simp] theorem queueWrite_links (a len : Nat) : (s.queueWrite a len).links = s.links :=
  foldl_keeps (g := State.links) (fun u _ _ => modChannel_links u _ _) s

@[simp] theorem dramWrite_links (r : DramLevel) (a : Nat) (b : Blob) : (s.dramWrite r a b).links = s.links := by
  rw [State.dramWrite, dramPut_links, queueWrite_links, openRows_links, takeTokens_links]

@[simp] theorem slotPut_links (t k : Nat) (r : Blob) : (s.slotPut t k r).links = s.links := by
  unfold State.slotPut
  dsimp only
  refine links_ite rfl ((setSlot_links _ _ _ _).trans ((dramWrite_links _ _ _ _).trans (links_ite rfl ?_)))
  exact dramWrite_links _ _ _ _

@[simp] theorem capture_links (t typ age : Nat) (head body : Blob) : (s.capture t typ age head body).links = s.links := by
  unfold State.capture
  split
  · rfl
  · exact foldl_keeps (g := State.links) (fun u _ _ => slotPut_links u _ _ _) s

/-! ## Slabs (R65, R86, R97) -/

@[simp] theorem flowCheck_links (p : Nat) : (s.flowCheck p).links = s.links := by
  unfold State.flowCheck
  split
  · rfl
  · refine foldl_keeps (g := State.links) (fun u q _ => ?_) s
    exact links_ite ((emit_links _ _).trans (modPort_links u p fun _ => rfl))
      (links_ite ((emit_links _ _).trans (modPort_links u p fun _ => rfl)) rfl)

@[simp] theorem uncharge_links (fid : Nat) : (s.uncharge fid).links = s.links := by
  unfold State.uncharge
  split
  · rfl
  · split
    · rfl
    · refine (flowCheck_links _ _).trans ?_
      unfold State.freeFlits
      split
      · exact modPort_links _ _ fun _ => rfl
      · rfl

@[simp] theorem dropArrival_links (fid : Nat) : (s.dropArrival fid).links = s.links := by
  unfold State.dropArrival
  split
  · rfl
  · refine (forget_links _ fid).trans ((uncharge_links _ fid).trans ?_)
    split
    · rfl
    · exact release_links s _

@[simp] theorem judgeSlab_links (fid : Nat) : (s.judgeSlab fid).links = s.links := by
  unfold State.judgeSlab
  split
  · rfl
  · split
    · rfl
    · dsimp only
      split
      case h_5 => exact dropArrival_links _ fid
      all_goals rfl

@[simp] theorem notice_links (t slab n port : Nat) : (s.notice t slab n port).links = s.links := by
  unfold State.notice
  dsimp only
  split
  · rfl
  · exact queueCtl_links _ _ _

@[simp] theorem dropHold_links (x : Input) : (s.dropHold x).links = s.links := by
  unfold State.dropHold
  split
  · rfl
  · exact release_links s _

@[simp] theorem endSlab_links (fid : Nat) (good mayNotice : Bool) : (s.endSlab fid good mayNotice).links = s.links := by
  unfold State.endSlab
  split
  · rfl
  · split
    · rfl
    · dsimp only
      split
      · rfl
      · split
        · change State.links (if _ then State.count _ _ _ else _) = _
          exact links_ite (links_ite rfl rfl) (links_ite rfl rfl)
        · exact links_ite ((notice_links _ _ _ _ _).trans (dropHold_links s _)) (dropHold_links s _)

@[simp] theorem endSlabCapture_links (fid : Nat) (good mayNotice : Bool) : (s.endSlabCapture fid good mayNotice).links = s.links := by
  unfold State.endSlabCapture State.captureSlab
  split
  · rfl
  · dsimp only
    split
    · exact endSlab_links s fid good mayNotice
    · split
      · split
        · exact endSlab_links s fid good mayNotice
        · exact (capture_links _ _ _ _ _ _).trans (endSlab_links s fid good mayNotice)
      · exact endSlab_links s fid good mayNotice

/-! ## The end of a frame (R109, R127, R287) -/

@[simp] theorem captureEngine_links (f : Frame) : (s.captureEngine f).links = s.links := by
  unfold State.captureEngine
  dsimp only
  split
  · split
    · exact capture_links s _ _ _ _ _
    · rfl
  · rfl

@[simp] theorem lateConflict_links (fid : Nat) (f : Frame) : (s.lateConflict fid f).links = s.links := by
  unfold State.lateConflict
  split
  · have hcount : ∀ (c : Bool) (u : State) (o : Nat), (if c then u else u.count o f.inst).links = u.links := fun c u o => links_ite rfl rfl
    rw [condemn_links, modFrame_links, hcount, hcount]
  · rfl

theorem goodEnd_links (p fid : Nat) : (s.goodEnd p fid).links = s.links := by
  have hjudged : (((s.count Obj.FRAMES_RX p).modFrame fid (fun f => { f with ended := .good })).judgeSlab fid).links = s.links :=
    judgeSlab_links _ fid
  unfold State.goodEnd
  dsimp only
  split
  · exact hjudged
  · rw [lateConflict_links, captureEngine_links, endSlabCapture_links, hjudged]

theorem badEnd_links (p fid : Nat) (f : Frame) (k : EndKind) (obj : Option Nat) (reason : Nat) :
    (s.badEnd p fid f k obj reason).links = s.links := by
  have hheader : ∀ u : State,
      (if isPsiot p && !headerOk f.bytes && obj != some Obj.HEADER_ERRORS then u.count Obj.HEADER_ERRORS p else u).links = u.links :=
    fun u => links_ite rfl rfl
  unfold State.badEnd
  dsimp only
  rw [condemn_links, endSlabCapture_links, modFrame_links, hheader]
  split <;> rfl

/-- The end of a frame on the way in leaves every port's link alone. -/
@[simp] theorem endFrame_links (p sub : Nat) (k : EndKind) : (s.endFrame p sub k).links = s.links := by
  unfold State.endFrame
  split
  · rfl
  case h_2 fid _ =>
    dsimp only
    split
    · rfl
    case h_2 f _ =>
      have hend : ∀ u : State, (match u.verdict f k with
          | none => u.goodEnd p fid
          | some (obj, reason) => u.badEnd p fid f k obj reason).links = u.links := by
        intro u
        split
        · exact goodEnd_links u p fid
        · exact badEnd_links u p fid f k _ _
      split
      · exact links_ite ((forget_links _ fid).trans (hend _)) (hend _)
      · exact hend _

/-! ## Lost children (R313) -/

@[simp] theorem barrierStep_links (t : Nat) : (s.barrierStep t).links = s.links := by
  unfold State.barrierStep
  dsimp only
  split
  · rfl
  · split
    · exact waveFabric_links _ _ _ _ _
    · exact waveUp_links _ _ _ _ _

@[simp] theorem dropReporter_links (p : Nat) : (s.dropReporter p).links = s.links := by
  refine foldl_keeps (g := State.links) (fun u e _ => ?_) s
  dsimp only
  rw [barrierStep_links]
  split <;> rfl

@[simp] theorem photoEnd_links (t : Nat) (ph : Photo) (short : Bool) : (s.photoEnd t ph short).links = s.links := by
  have hrelease : (s.photoRelease ph).links = s.links := foldl_keeps (g := State.links) (fun u e _ => by
    split
    · rw [forget_links, release_links]
    · rfl) s
  unfold State.photoEnd
  dsimp only
  rw [modTenant_links]
  refine links_ite ?_ ?_ <;> simp only [setCfg_links, setSlot_links, hrelease]

@[simp] theorem photoStep_links (t : Nat) : (s.photoStep t).links = s.links := by
  unfold State.photoStep
  split
  · rfl
  · split
    · rfl
    · dsimp only
      split
      · rw [photoEnd_links, waveDown_links]
      · exact waveUp_links _ _ _ _ _

@[simp] theorem photoLose_links (t p : Nat) : (s.photoLose t p).links = s.links := by
  unfold State.photoLose
  split
  · rfl
  · exact links_ite rfl (photoStep_links _ t)

@[simp] theorem dropChild_links (p : Nat) : (s.dropChild p).links = s.links := by
  unfold State.dropChild
  split
  · rfl
  · exact (foldl_keeps (g := State.links) (fun u e _ => photoLose_links u e.1 p) _).trans (dropReporter_links _ p)

end
end Sys2Proof.Machine
end

section
/-! PROOFS. The moves of a port between its states (R115, R116, R119, R121). -/

namespace Sys2Proof.Machine

section
variable {s : State} {port : Nat}

/-! ## What a move to a state changes (R119) -/

theorem endBurst_links (s : State) (p : Nat) : (s.endBurst p).links = s.links :=
  links_ite rfl ((logError_links _ _ _ _ _ _ _ _).trans (modPort_links s p fun _ => rfl))

theorem enterService_links (s : State) (p c : Nat) : (s.enterService p c).links = s.links := modPort_links s p fun _ => rfl

/-- A port that leaves service for a class ends what comes in and goes out of it, and what waits of C0 and C1. -/
theorem leaveService_links (s : State) (p c : Nat) : (s.leaveService p c).links = s.links := by
  unfold State.leaveService
  dsimp only
  generalize hu : List.foldl _ s (List.range 8) = u
  have hcut : u.links = s.links := by
    rw [← hu]
    refine foldl_keeps (g := State.links) (fun v sub _ => ?_) s
    split
    · exact links_ite ((cutOff_links _ p sub).trans (links_ite (endFrame_links v p sub .cut) rfl))
        (links_ite (endFrame_links v p sub .cut) rfl)
    · exact links_ite (endFrame_links v p sub .cut) rfl
  generalize hv : State.modPort (State.modPort u p _) p _ = v
  have hleft : v.links = s.links := by
    rw [← hv, modPort_links _ _ fun _ => by rfl, modPort_links _ _ fun _ => by rfl, hcut]
  refine links_ite ?_ (links_ite ?_ hleft)
  · refine (foldl_keeps (g := State.links) (fun w q _ => ?_) v).trans hleft
    exact (foldl_keeps (g := State.links) (fun y x _ => missLaunch_links y q x) _).trans (takeOut_links w q _)
  · exact (foldl_keeps (g := State.links) (fun w q _ => flush_links w q _ _) v).trans hleft

theorem leftUp_links (s : State) (p : Nat) : (s.leftUp p).links = s.links := by
  rw [State.leftUp, dropChild_links, logError_links, count_links]

theorem enterUp_links (s : State) (p : Nat) : (s.enterUp p).links = s.links := by
  have hlog := logError_links (s.count Obj.LINK_UPS p) 0x0B 0 1 none Obj.LINK_UPS p (p + 256)
  unfold State.enterUp
  exact links_ite ((queueCtl_links _ _ _).trans hlog) hlog

/-- A port that moves to another state is in that state, and no other link is touched. -/
theorem setPortState_links {st : PortState} (h : (s.port port).st ≠ st) :
    (s.setPortState port st).links = (s.modPort port (fun x => { x with st := st })).links := by
  have henter : ∀ (c : Bool) (u : State), (if c then u.enterUp port else u).links = u.links := fun c u => links_ite (enterUp_links u port) rfl
  have hleft : ∀ (c : Bool) (u : State), (if c then u.leftUp port else u).links = u.links := fun c u => links_ite (leftUp_links u port) rfl
  have hquiet : ∀ (c : Bool) (u : State) (n : Nat), (if c then u else ((u.countN Obj.SLEEP_TIME port n).modPort port (fun x => { x with
      ctl := [], sleep := .awake, cwseq := none, subDown := [] })).endBurst port).links = u.links := fun c u n =>
    links_ite rfl ((endBurst_links _ port).trans (modPort_links _ port fun _ => rfl))
  have hserve : ∀ (is was : List Nat) (b : Bool) (u : State), ((List.range 8).foldl (fun (u : State) c =>
      if is.contains c then u.enterService port c else if was.contains c || b then u.leaveService port c else u) u).links = u.links :=
    fun is was b => foldl_keeps (g := State.links) fun u c _ =>
      links_ite (enterService_links u port c) (links_ite (leaveService_links u port c) rfl)
  rw [State.setPortState, if_neg h]
  exact (henter _ _).trans ((hquiet _ _ _).trans ((hleft _ _).trans (hserve _ _ _ _)))

theorem setPortState_same {st : PortState} (h : (s.port port).st = st) : s.setPortState port st = s := if_pos h

theorem setPortState_st (s : State) (port : Nat) (st : PortState) : ((s.setPortState port st).port port).st = st := by
  by_cases h : (s.port port).st = st
  · rw [setPortState_same h, h]
  · have hl := congrArg Prod.fst (congrFun (setPortState_links h) port)
    simpa only [State.links, State.port_modPort_same] using hl

theorem setPortState_st_other (s : State) {port r : Nat} (st : PortState) (hr : r ≠ port) :
    ((s.setPortState port st).port r).st = (s.port r).st := by
  by_cases h : (s.port port).st = st
  · rw [setPortState_same h]
  · have hl := congrArg Prod.fst (congrFun (setPortState_links h) r)
    simpa only [State.links, State.port_modPort_other s _ hr] using hl

theorem linkDown_eq (h : (s.port port).st ≠ .disabled) : s.linkDown port = s.setPortState port .down := by
  unfold State.linkDown
  split
  case h_1 hd => exact absurd hd h
  case h_2 => rfl

/-- An uncorrectable codeword is counted, and so is the burst that it begins (R115). -/
def State.countBad (s : State) (port : Nat) : State :=
  let u := s.count Obj.FEC_UNCORRECTABLE port
  if (u.port port).burst = 0 then u.count Obj.FEC_BURSTS port else u

theorem countBad_links (s : State) (port : Nat) : (s.countBad port).links = s.links := links_ite rfl rfl

/-- A port with one more uncorrectable codeword in its run. -/
def Port.addBad (x : Port) : Port := { x with burst := x.burst + 1, uncRun := x.uncRun + 1 }

theorem badCodeword_eq (s : State) (port : Nat) : s.badCodeword port =
    let w := ((s.countBad port).modPort port Port.addBad).endFrame port 0 .fec
    if 64 ≤ (w.port port).uncRun then w.linkDown port else w := rfl

/-- The 64th uncorrectable codeword in a row takes the link down (R116). -/
theorem badCodeword_down (hst : (s.port port).st ≠ .disabled) (hrun : 63 ≤ (s.port port).uncRun) :
    ((s.badCodeword port).port port).st = .down := by
  obtain ⟨hcst, hcrun⟩ := Prod.mk.inj (congrFun (countBad_links s port) port)
  obtain ⟨hest, herun⟩ := Prod.mk.inj (congrFun (endFrame_links ((s.countBad port).modPort port Port.addBad) port 0 .fec) port)
  rw [State.port_modPort_same, Port.addBad] at hest herun
  rw [badCodeword_eq]
  dsimp only at hest herun ⊢
  rw [if_pos (by omega), linkDown_eq (by rwa [hest, hcst]), setPortState_st]

end
end Sys2Proof.Machine
end

section
/-! PROOFS. The port states (R104, R115 to R119, R123, R132, Table 4.9). -/

namespace Sys2Proof.Machine

section
variable {s : State} {port : Nat}

theorem isHost_iff : isHost port = true ↔ port = 14 ∨ port = 15 := by
  simp only [isHost, Bool.or_eq_true, beq_iff_eq]

theorem isPsiot_iff : isPsiot port = true ↔ port < 14 := decide_eq_true_iff

/-! ## Signal and training (R117, R123) -/

/-- All lanes of a port: 8 of a host port, 16 of any other (R132). -/
def allLanes (port : Nat) : Nat := if port = 14 ∨ port = 15 then 0xFF else 0xFFFF

theorem fullLanes_eq (port : Nat) : fullLanes port = allLanes port := by simp only [fullLanes, allLanes, isHost_iff]

theorem allLanes_psiot (h : port < 14) : allLanes port = 0xFFFF := if_neg (by omega)

/-- Some half of a port's lanes has signal. -/
def halfSignal (port : Nat) (lanes : BitVec 16) : Prop :=
  (lanes.toNat &&& allLanes port) % 256 = 255 ∨ (lanes.toNat &&& allLanes port) / 256 = 255

/-- A port as it enters TRAIN on the lanes that have signal. -/
def Port.detected (x : Port) (now lanes full breakout : Nat) : Port := { x with
  trainAt := now, rxLanes := lanes, txLanes := full, breakout := breakout, cwseq := none, uncRun := 0, slips := []
  polarity := 0, reversed := false, fellBack := false }

theorem exec_signalDetect_trains {lanes : BitVec 16} (hst : (s.port port).st = .down) (hp : port < 16) (hh : halfSignal port lanes)
    (hsds : port / 4 ∉ s.rel.sdsLost) : exec (.signalDetect port lanes) s =
      .next ((s.modPort port (fun y => y.detected s.time.ticks (lanes.toNat &&& allLanes port) (allLanes port)
        (if port = 14 ∨ port = 15 then s.cfg Obj.BREAKOUT port else 0))).setPortState port .train) := by
  unfold halfSignal at hh
  simp only [exec_signalDetect, execSignalDetect, isHost_iff, fullLanes_eq]
  exact if_pos (by simp [hst, hp, hh, hsds])

theorem exec_signalDetect_other {lanes : BitVec 16} (h : (s.port port).st ≠ .down ∨ ¬ halfSignal port lanes) :
    exec (.signalDetect port lanes) s = .next s := by
  unfold halfSignal at h
  refine if_neg fun hc => ?_
  simp only [fullLanes_eq, Bool.and_eq_true, Bool.or_eq_true, beq_iff_eq, decide_eq_true_eq] at hc
  obtain ⟨⟨⟨hst, -⟩, hh⟩, -⟩ := hc
  exact h.elim (· hst) (· hh)

theorem exec_trainComplete_eq (pol : BitVec 16) (rev : Bool) : exec (.trainComplete port pol rev) s =
    .next (if (s.port port).st = .train then
      (s.modPort port (fun y => { y with polarity := pol.toNat, reversed := rev })).setPortState port .align else s) := by
  simp only [exec_trainComplete, execTrainComplete, beq_iff_eq]
  split <;> rfl

/-! ## Fallback to half the lanes (R118) -/

/-- A port that has fallen back counts it and raises attention. -/
def State.noteFallback (s : State) (port : Nat) : State := (s.count Obj.FALLBACKS port).raise 2 none Obj.FALLBACKS port

theorem fallBack_none (s : State) (port : Nat) (tx : Bool) : s.fallBack port tx 0 = some s := if_pos rfl

/-- A host port does not fall back, nor one that may not (2007h). -/
theorem fallBack_refused {fail : Nat} (hf : fail ≠ 0) (h : ¬ port < 14 ∨ s.cfg Obj.FALLBACK port = 0) (tx : Bool) :
    s.fallBack port tx fail = none := by
  rw [State.fallBack, if_neg hf, if_pos]
  simpa only [Bool.or_eq_true, Bool.not_eq_true', ← Bool.not_eq_true, isPsiot_iff, decide_eq_true_eq] using h

theorem fallBack_half {fail h : Nat} (hf : fail ≠ 0) (hp : port < 14) (hcfg : s.cfg Obj.FALLBACK port ≠ 0)
    (hh : cleanHalf fail = some h) (tx : Bool) : s.fallBack port tx fail =
      some (State.noteFallback (s.modPort port (fun x =>
        if tx then { x with txLanes := h } else { x with rxLanes := h, fellBack := true })) port) := by
  have hmay : ¬ (!isPsiot port || decide (s.cfg Obj.FALLBACK port = 0)) = true := by simp [isPsiot_iff.2 hp, hcfg]
  rw [State.fallBack, if_neg hf, if_neg hmay, hh]
  rfl

theorem exec_trainTimeout_due (hst : (s.port port).st = .train) (ht : (s.port port).trainAt + 200000000 ≤ s.time.ticks) :
    exec (.trainTimeout port) s = match (if allLanes port - (s.port port).rxLanes = 0 then none
        else s.fallBack port false (allLanes port - (s.port port).rxLanes)) with
      | some u => .next (u.setPortState port .align)
      | none => .next (s.setPortState port .down) := by
  rw [exec_trainTimeout, execTrainTimeout, fullLanes_eq]
  exact if_pos (by simp [hst, ht])

/-- Every lane had signal, so the port returns to DOWN. -/
theorem exec_trainTimeout_down (hst : (s.port port).st = .train) (ht : (s.port port).trainAt + 200000000 ≤ s.time.ticks)
    (hrx : (s.port port).rxLanes = allLanes port) : exec (.trainTimeout port) s = .next (s.setPortState port .down) := by
  rw [exec_trainTimeout_due hst ht, if_pos (by omega)]

/-- Only lanes 0 to 7 had: the port falls back to them. -/
theorem exec_trainTimeout_falls (hst : (s.port port).st = .train) (ht : (s.port port).trainAt + 200000000 ≤ s.time.ticks) (hp : port < 14)
    (hcfg : s.cfg Obj.FALLBACK port ≠ 0) (hrx : (s.port port).rxLanes = 0x00FF) : exec (.trainTimeout port) s =
      .next (((s.modPort port (fun y => { y with rxLanes := 0x00FF, fellBack := true })).noteFallback port).setPortState port .align) := by
  have hhalf := fallBack_half (fail := 0xFFFF - 0x00FF) (by decide) hp hcfg (show cleanHalf (0xFFFF - 0x00FF) = some 0x00FF from rfl) false
  rw [exec_trainTimeout_due hst ht, hrx, allLanes_psiot hp, if_neg (by decide), hhalf]
  rfl

theorem exec_trainTimeout_other (h : (s.port port).st ≠ .train ∨ s.time.ticks < (s.port port).trainAt + 200000000) :
    exec (.trainTimeout port) s = .next s := by
  refine if_neg fun hc => ?_
  simp only [Bool.and_eq_true, beq_iff_eq, decide_eq_true_eq] at hc
  exact h.elim (· hc.1) (Nat.not_lt.2 hc.2)

/-! ## Alignment and EXCHANGE (R117 to R119) -/

/-- The capability of a port leaves three times as it enters EXCHANGE. -/
theorem enterExchange_eq (s : State) (port : Nat) : s.enterExchange port =
    let w := s.setPortState port .exchange
    { w with out := w.out ++ List.replicate 3 (.capability port ⟨if port < 8 then 0 else 1, w.rel.boot.bib, w.cfg Obj.DEVICE_ID,
      if (w.port port).txLanes = 0xFFFF ∧ (w.port port).rxLanes = 0xFFFF then 16 else 8, w.cfg Obj.FEC_REQUEST port,
      (List.range 6).map (fun k => w.cfg Obj.CREDIT_INIT (8 * port + k + 2))⟩) } := by
  have hemit : ∀ w : State, (List.range 3).foldl (fun (u : State) _ => u.emit (.capability port (u.ownCapability port))) w =
      { w with out := w.out ++ List.replicate 3 (.capability port (w.ownCapability port)) } :=
    foldl_emit (g := fun u _ => .capability port (u.ownCapability port)) (fun _ _ _ => rfl) (List.range 3)
  refine (hemit _).trans ?_
  simp only [State.ownCapability, Bool.and_eq_true, decide_eq_true_eq]

theorem exec_alignComplete_other {failRx failTx : BitVec 16} (h : (s.port port).st ≠ .align) :
    exec (.alignComplete port failRx failTx) s = .next s := if_pos (bne_iff_ne.2 h)

theorem exec_alignComplete_host {failRx failTx : BitVec 16} (hst : (s.port port).st = .align) (hh : port = 14 ∨ port = 15) :
    exec (.alignComplete port failRx failTx) s = .next (s.setPortState port (if failRx = 0 ∧ failTx = 0 then .up else .down)) := by
  rw [exec_alignComplete, execAlignComplete, if_neg (by simp [hst]), if_pos (isHost_iff.2 hh)]
  simp only [Bool.and_eq_true, decide_eq_true_eq]

/-- The lanes that fail in the receive direction: those in use where the port has fallen back, else also those that failed TRAIN. -/
def Port.failedRx (x : Port) (failRx : BitVec 16) : Nat :=
  if x.fellBack = true then failRx.toNat &&& x.rxLanes else failRx.toNat ||| (0xFFFF - x.rxLanes)

theorem exec_alignComplete_psiot {failRx failTx : BitVec 16} (hst : (s.port port).st = .align) (hh : ¬ (port = 14 ∨ port = 15)) :
    exec (.alignComplete port failRx failTx) s =
      match (if (s.port port).fellBack && (s.port port).failedRx failRx != 0 then none
        else s.fallBack port false ((s.port port).failedRx failRx)) with
      | none => .next (s.setPortState port .down)
      | some u => match u.fallBack port true failTx.toNat with
        | none => .next (u.setPortState port .down)
        | some w => .next (w.enterExchange port) := by
  rw [exec_alignComplete, execAlignComplete, if_neg (by simp [hst])]
  exact if_neg (mt isHost_iff.1 hh)

theorem exec_alignComplete_clean {failRx failTx : BitVec 16} (hst : (s.port port).st = .align) (hh : ¬ (port = 14 ∨ port = 15))
    (hr : (s.port port).failedRx failRx = 0) (ht : failTx = 0) : exec (.alignComplete port failRx failTx) s = .next (s.enterExchange port) := by
  rw [exec_alignComplete_psiot hst hh, hr, ht]
  simp [fallBack_none]

theorem exec_alignComplete_down {failRx failTx : BitVec 16} (hst : (s.port port).st = .align) (hh : ¬ (port = 14 ∨ port = 15))
    (hr : (s.port port).failedRx failRx ≠ 0) (hno : (s.port port).fellBack = true ∨ s.cfg Obj.FALLBACK port = 0) :
    exec (.alignComplete port failRx failTx) s = .next (s.setPortState port .down) := by
  have hnone : (if (s.port port).fellBack && (s.port port).failedRx failRx != 0 then none
      else s.fallBack port false ((s.port port).failedRx failRx)) = none := by
    split
    · rfl
    case isFalse hfell => exact fallBack_refused hr (.inr (hno.resolve_left fun hb => hfell (by simp [hb, hr]))) false
  rw [exec_alignComplete_psiot hst hh, hnone]

theorem exec_alignComplete_falls {failRx failTx : BitVec 16} (hst : (s.port port).st = .align) (hp : port < 14)
    (hr : (s.port port).failedRx failRx ≠ 0) (hb : (s.port port).fellBack = false) (ht : failTx = 0) (hcfg : s.cfg Obj.FALLBACK port ≠ 0)
    {h : Nat} (hh : cleanHalf ((s.port port).failedRx failRx) = some h) : exec (.alignComplete port failRx failTx) s =
      .next (((s.modPort port (fun y => { y with rxLanes := h, fellBack := true })).noteFallback port).enterExchange port) := by
  rw [exec_alignComplete_psiot hst (by omega), hb, fallBack_half hr hp hcfg hh, ht]
  simp [fallBack_none]

theorem cleanHalf_eq {fail h : Nat} (hh : (h = 0x00FF ∧ fail % 256 = 0) ∨ (h = 0xFF00 ∧ fail % 256 ≠ 0 ∧ fail / 256 % 256 = 0)) :
    cleanHalf fail = some h := by
  rcases hh with ⟨rfl, h0⟩ | ⟨rfl, h0, h1⟩
  · exact if_pos h0
  · exact (if_neg h0).trans (if_pos h1)

/-- The causes of R119. -/
theorem isolates_iff (s : State) (port : Nat) (c : Capability) : s.isolates port c = true ↔
    (s.cfg Obj.EXPECTED_BIB port ≠ 0 ∧ s.cfg Obj.EXPECTED_BIB port ≠ c.bib) ∨ (c.device ≠ 0 ∧ c.device = s.cfg Obj.DEVICE_ID) ∨
      c.profile ≠ (if port < 8 then 0 else 1) := by
  simp only [State.isolates, Bool.or_eq_true, Bool.and_eq_true, bne_iff_ne, beq_iff_eq, or_assoc]

/-- A port that takes its neighbour's capability: the credits and the codewords start anew, in the FEC mode that both ends ask for. -/
def Port.exchanged (x : Port) (c : Capability) (low : Prop) [Decidable low] (init : Tab Nat) : Port := { x with
  nb := some c, fec := if low then 1 else 0, limit := [], sent := [], freed := [], initial := init, rx := [], cwseq := none, uncRun := 0 }

theorem exec_capabilityExchange_takes (c : Capability) (hst : (s.port port).st = .exchange) : exec (.capabilityExchange port c) s =
    .next ((s.modPort port (fun y => y.exchanged c (c.fec = 1 ∧ s.cfg Obj.FEC_REQUEST port = 1)
      ((List.range 6).map (fun k => (k + 2, s.cfg Obj.CREDIT_INIT (8 * port + k + 2)))))).setPortState port
        (if (s.cfg Obj.EXPECTED_BIB port ≠ 0 ∧ s.cfg Obj.EXPECTED_BIB port ≠ c.bib) ∨ (c.device ≠ 0 ∧ c.device = s.cfg Obj.DEVICE_ID) ∨
          c.profile ≠ (if port < 8 then 0 else 1) then .isolated else .up)) := by
  have hcfg : ∀ (f : Port → Port) o i, (s.modPort port f).cfg o i = s.cfg o i := fun _ _ _ => rfl
  rw [exec_capabilityExchange, execCapabilityExchange, if_pos (by simp [hst])]
  simp only [isolates_iff, hcfg, nat01, Bool.and_eq_true, beq_iff_eq]
  rfl

theorem exec_capabilityExchange_other (c : Capability) (hst : (s.port port).st ≠ .exchange) :
    exec (.capabilityExchange port c) s = .next s := if_neg (by simp [hst])

/-! ## Host ports and port P (R123, R129, R132) -/

theorem exec_autoNegotiationComplete_up (hh : port = 14 ∨ port = 15)
    (hst : (s.port port).st = .down ∨ (s.port port).st = .train ∨ (s.port port).st = .align) (hsds : 3 ∉ s.rel.sdsLost) :
    exec (.autoNegotiationComplete port) s = .next ((s.modPort port (fun y => { y with
      breakout := s.cfg Obj.BREAKOUT port, trainAt := if (s.port port).st = .down then s.time.ticks else y.trainAt
      rxLanes := 0x00FF, txLanes := 0x00FF })).setPortState port .up) := by
  have hmay : (isHost port && ((s.port port).st == .down || (s.port port).st == .train || (s.port port).st == .align) &&
      !s.rel.sdsLost.contains 3) = true := by
    rw [isHost_iff.2 hh]
    rcases hst with h | h | h <;> simp [h, hsds]
  simp only [exec_autoNegotiationComplete, execAutoNegotiationComplete, if_pos hmay, beq_iff_eq]

/-- The sub-ports that had lost a lane are back. -/
theorem exec_autoNegotiationComplete_back (hh : port = 14 ∨ port = 15) (hst : (s.port port).st = .up) :
    exec (.autoNegotiationComplete port) s = .next (s.modPort port (fun y => { y with subDown := [] })) := by
  rw [exec_autoNegotiationComplete, execAutoNegotiationComplete, if_neg (by simp [hst]), if_pos (by simp [isHost_iff.2 hh, hst])]

theorem exec_dlActiveChange_moves {active : Bool} {rate width : Nat} (hst : (s.port 16).st ≠ .disabled) :
    exec (.dlActiveChange active rate width) s = .next (({ s with
      pcie.rate := if active = true then rate else 0, pcie.width := if active = true then width else 0,
      pcie.flitMode := active && rate == 64 } : State).setPortState 16 (if active then .up else .down)) :=
  if_neg (by simp [hst])

/-! ## Hold times (R121) -/

theorem exec_holdTimeExpiry_none {q : Nat} (h : tabGet? (s.port port).holdFrom q = none) : exec (.holdTimeExpiry port q) s = .next s := by
  rw [exec_holdTimeExpiry, execHoldTimeExpiry, h]

theorem exec_holdTimeExpiry_held {q : Nat} {t : Time} (h : tabGet? (s.port port).holdFrom q = some t) :
    exec (.holdTimeExpiry port q) s = .next (if s.time.gun < t + s.cfg Obj.DOWN_HOLD port * 65536 then s
      else (s.busyQueues.filter (fun n => decide (s.qPort n = port ∧ s.qClass n = q ∧ 2 ≤ q))).foldl
        (fun (y : State) n => y.flush n Obj.DOWN_DROPS (fun _ => true))
        (s.modPort port (fun y => { y with held := q :: y.held, holdFrom := tabDel y.holdFrom q }))) := by
  have hqs : (s.busyQueues.filter (fun n => s.qPort n == port && s.qClass n == q && decide (q ≥ 2))) =
      s.busyQueues.filter (fun n => decide (s.qPort n = port ∧ s.qClass n = q ∧ 2 ≤ q)) :=
    List.filter_congr fun n _ => by rw [Bool.eq_iff_iff]; simp [and_assoc]
  rw [exec_holdTimeExpiry, execHoldTimeExpiry, h, ← hqs]
  dsimp only
  split <;> rfl

/-! ## Writes of 2000h and 2005h (R117, R119) -/

theorem port_writeNum (s : State) (o i v p : Nat) : (s.writeNum o i v).port p = s.port p := by
  rcases writeNum_cases s o i v with h | h <;> rw [h] <;> rfl

theorem firmware_writeNum (s : State) (o i v : Nat) : (s.writeNum o i v).rel.boot.firmware = s.rel.boot.firmware := by
  rcases writeNum_cases s o i v with h | h <;> rw [h] <;> rfl

theorem halted_writeNum (s : State) (o i v : Nat) : (s.writeNum o i v).rel.boot.halted = s.rel.boot.halted := by
  rcases writeNum_cases s o i v with h | h <;> rw [h] <;> rfl

theorem applyPortEnable_eq (s : State) (i v : Nat) : applyPortEnable i v s =
    if 1 < v then (s, .range)
    else if v = 0 then ((s.writeNum Obj.PORT_ENABLE i v).setPortState i .disabled, .ok)
    else if (s.port i).st = .disabled ∧ s.rel.boot.firmware = true ∧ s.rel.boot.halted = false then
      ((s.writeNum Obj.PORT_ENABLE i v).setPortState i .down, .ok)
    else (s.writeNum Obj.PORT_ENABLE i v, .ok) := by
  simp only [applyPortEnable, port_writeNum, firmware_writeNum, halted_writeNum, Bool.and_eq_true, beq_iff_eq, Bool.not_eq_true', and_assoc]

/-- Only a port in ISOLATED or UP is judged by its neighbour. -/
theorem judgeNeighbour_other (hi : (s.port port).st ≠ .isolated) (hu : (s.port port).st ≠ .up) (back : Bool) :
    s.judgeNeighbour back port = s := by
  unfold State.judgeNeighbour
  split
  case h_1 h _ => exact absurd h hi
  case h_2 h _ => exact absurd h hu
  case h_3 => rfl

theorem judgeNeighbour_up {n : Capability} (hst : (s.port port).st = .up) (hnb : (s.port port).nb = some n) (hp : port < 14) (back : Bool) :
    s.judgeNeighbour back port = if s.isolates port n = true then s.setPortState port .isolated else s := by
  simp only [State.judgeNeighbour, hst, hnb, isPsiot_iff.2 hp, Bool.true_and]

theorem judgeNeighbour_back {n : Capability} (hst : (s.port port).st = .isolated) (hnb : (s.port port).nb = some n) :
    s.judgeNeighbour true port = if s.isolates port n = true then s else s.setPortState port .up := by
  simp only [State.judgeNeighbour, hst, hnb, Bool.true_and, Bool.not_eq_true', ← Bool.not_eq_true, ite_not]

/-! ## Loss (R116, R123) -/

/-- A port receives, and is outside the span that a SLEEP announced. -/
def State.hearsLink (s : State) (port : Nat) : Prop :=
  port < 16 ∧ (s.port port).st ≠ .disabled ∧ (s.port port).st ≠ .down ∧ (s.port port).rxSleepUntil ≤ s.time.gun

theorem listening_iff : s.listening port = true ↔ s.hearsLink port := by
  simp only [State.listening, State.hearsLink, Bool.and_eq_true, bne_iff_ne, decide_eq_true_eq, and_assoc]

theorem exec_lossOfSignal_unheard {lane : Nat} (h : ¬ s.hearsLink port ∨ (s.port port).rxLanes.testBit lane = false) :
    exec (.lossOfSignal port lane) s = .next s := by
  refine if_pos ?_
  rw [Bool.not_eq_true', Bool.and_eq_false_iff]
  exact h.imp_left fun hn => Bool.eq_false_iff.2 (mt listening_iff.1 hn)

theorem exec_lossOfSignal_heard {lane : Nat} (h : s.hearsLink port) (hl : (s.port port).rxLanes.testBit lane = true) :
    exec (.lossOfSignal port lane) s = .next (if (port = 14 ∨ port = 15) ∧ (s.port port).st = .up then
      s.subportDown port (lane * 2 ^ (s.port port).breakout / 8) else s.setPortState port .down) := by
  rw [exec_lossOfSignal, execLossOfSignal, if_neg (by simp [listening_iff.2 h, bit, hl]), linkDown_eq h.2.1]
  simp only [Bool.and_eq_true, isHost_iff, beq_iff_eq]
  split <;> rfl

/-- A host sub-port goes down alone while another is left. -/
theorem subportDown_eq (hh : port = 14 ∨ port = 15) (hst : (s.port port).st = .up) (sub : Nat) : s.subportDown port sub =
    let lost := if sub ∈ (s.port port).subDown then (s.port port).subDown else sub :: (s.port port).subDown
    if 2 ^ (s.port port).breakout ≤ lost.length then s.setPortState port .down
    else ((s.endFrame port sub .cut).cutOff port sub).modPort port (fun y => { y with subDown := lost, sel := tabDel y.sel sub }) := by
  have hsub : s.subports port = 2 ^ (s.port port).breakout := if_pos (isHost_iff.2 hh)
  simp only [State.subportDown, hsub, linkDown_eq (s := s) (port := port) (by simp [hst]), List.contains_iff_mem]

theorem exec_noValidUnitTimeout_down (h : s.hearsLink port) (hp : port < 14) (hpass : (s.port port).passes = true) :
    exec (.noValidUnitTimeout port) s = .next (s.setPortState port .down) := by
  rw [exec_noValidUnitTimeout, execNoValidUnitTimeout, if_pos (by simp [listening_iff.2 h, isPsiot_iff.2 hp, hpass]), linkDown_eq h.2.1]

/-! ## Codewords (R104, R115, R116) -/

/-- What CWSEQ counts modulo (R104). -/
def Port.cwModulus (x : Port) : Nat := if x.fec = 1 then 4 else 16

/-- The symbols that a codeword's FEC corrects (R115). -/
def Port.corrects (x : Port) : Nat := if x.fec = 1 then 7 else 15

theorem cwModulus_eq (x : Port) : Machine.cwModulus (decide (x.fec = 1)) = x.cwModulus := by
  simp only [Machine.cwModulus, Port.cwModulus, decide_eq_true_eq]

theorem cwCorrects_eq (x : Port) : cwCorrects (decide (x.fec = 1)) = x.corrects := by
  unfold cwCorrects cwSymbols cwMessage Port.corrects
  by_cases h : x.fec = 1 <;> simp [h]

/-- A port receives codewords (Table 4.9). -/
def State.receives (s : State) (port : Nat) : Prop :=
  port < 14 ∧ ((s.port port).st = .exchange ∨ (s.port port).st = .up ∨ (s.port port).st = .isolated)

theorem receives_iff : (!isPsiot port || !((s.port port).st == .exchange || (s.port port).st == .up || (s.port port).st == .isolated)) = true ↔
    ¬ s.receives port := by
  simp only [State.receives, Bool.or_eq_true, Bool.not_eq_true', ← Bool.not_eq_true, isPsiot_iff, beq_iff_eq, not_and_or, or_assoc]

/-- What a change makes of a port is all that counts of it. -/
theorem modPort_congr {f g : Port → Port} (h : f (s.port port) = g (s.port port)) : s.modPort port f = s.modPort port g := by
  have hupd : tabUpd s.ports port .reset f = tabUpd s.ports port .reset g := congrArg (tabSet s.ports port) h
  rw [State.modPort, State.modPort, hupd]

variable {header errs : Nat}

theorem exec_codewordReceive_deaf (h : ¬ s.receives port) : exec (.codewordReceive port header errs) s = .next s :=
  if_pos (receives_iff.2 h)

/-- The port with the CWSEQ of a codeword that was read. -/
def State.sequenced (s : State) (port header : Nat) : State :=
  s.modPort port (fun y => { y with cwseq := some (header % (s.port port).cwModulus) })

/-- More symbols in error than FEC corrects: the codeword's header is not read. -/
theorem exec_codewordReceive_bad (h : s.receives port) (he : (s.port port).corrects < errs) : exec (.codewordReceive port header errs) s =
    .next ((s.modPort port (fun y => { y with
      cwseq := (s.port port).cwseq.map (fun r => (r + 1) % (s.port port).cwModulus) })).badCodeword port) := by
  rw [exec_codewordReceive, execCodewordReceive, if_neg (mt receives_iff.1 (not_not.2 h))]
  simp only [cwCorrects_eq, cwModulus_eq, he, decide_true, Bool.not_true, Bool.false_and, if_true]
  refine Eq.trans ?_ (congrArg (fun u : State => Host.Outcome.next (u.badCodeword port)) (modPort_congr
    (f := fun y => { y with cwseq := y.cwseq.map (fun r => (r + 1) % (s.port port).cwModulus) }) rfl))
  cases (s.port port).cwseq <;> rfl

/-- The codeword that CWSEQ leads to expect ends a run of uncorrectable ones. -/
theorem exec_codewordReceive_next (h : s.receives port) (he : errs ≤ (s.port port).corrects)
    (hseq : ∀ r, (s.port port).cwseq = some r → (r + 1) % (s.port port).cwModulus = header % (s.port port).cwModulus) :
    exec (.codewordReceive port header errs) s = .next ((State.modPort (if errs ≠ 0 then (s.sequenced port header).count Obj.FEC_CORRECTED port
      else s.sequenced port header) port (fun y => { y with uncRun := 0 })).endBurst port) := by
  have hok : decide ((s.port port).corrects < errs) = false := decide_eq_false (Nat.not_lt.2 he)
  rw [exec_codewordReceive, execCodewordReceive, if_neg (mt receives_iff.1 (not_not.2 h))]
  simp only [cwCorrects_eq, cwModulus_eq, headerSeq, hok, Bool.not_false, Bool.true_and, Bool.false_eq_true, if_false, bne_iff_ne]
  cases hc : (s.port port).cwseq with
  | none => rfl
  | some r => simp only [hseq r hc, bne_self_eq_false, Bool.false_eq_true, if_false]; rfl

/-- A slip is an uncorrectable codeword, and the third within 1.0 ms takes the link down. -/
theorem exec_codewordReceive_slip (h : s.receives port) (he : errs ≤ (s.port port).corrects) {r : Nat} (hc : (s.port port).cwseq = some r)
    (hseq : (r + 1) % (s.port port).cwModulus ≠ header % (s.port port).cwModulus) : exec (.codewordReceive port header errs) s =
      let w := ((s.sequenced port header).modPort port (fun y => { y with
        slips := s.time.gun :: (s.port port).slips.filter (fun t => s.time.gun ≤ t + 1000000 * 65536) })).badCodeword port
      .next (if 3 ≤ (w.port port).slips.length then w.linkDown port else w) := by
  have hok : decide ((s.port port).corrects < errs) = false := decide_eq_false (Nat.not_lt.2 he)
  rw [exec_codewordReceive, execCodewordReceive, if_neg (mt receives_iff.1 (not_not.2 h))]
  simp only [cwCorrects_eq, cwModulus_eq, headerSeq, hok, hc, Bool.not_false, Bool.true_and, Bool.false_eq_true, if_false, bne_iff_ne, ne_eq,
    hseq, not_false_eq_true, if_true]
  have hslips : (s.sequenced port header).modPort port (fun y => { y with
      slips := s.time.gun :: y.slips.filter (fun t => s.time.gun ≤ t + 1000000 * 65536) }) =
      (s.sequenced port header).modPort port (fun y => { y with
        slips := s.time.gun :: (s.port port).slips.filter (fun t => s.time.gun ≤ t + 1000000 * 65536) }) :=
    modPort_congr (by rw [State.sequenced, State.port_modPort_same])
  rw [← hslips]
  rfl

end

/-! ## The statement -/

/-- Settles O31: how each event moves a port between the states of Table 4.9, and what a codeword makes of its link. -/
theorem portStateResults : Obligations.PortStateResults := by
  intro s port lane v q errs rate width lanes failRx failTx pol rev c active p st
  refine ⟨fun _ => ⟨setPortState_st s port st, fun _ => setPortState_st_other s st⟩,
    fun hst hp hh hsds => exec_signalDetect_trains hst hp hh hsds, exec_signalDetect_other, exec_trainComplete_eq pol rev,
    exec_trainTimeout_down, exec_trainTimeout_falls, exec_trainTimeout_other,
    exec_alignComplete_other, exec_alignComplete_host, ?clean, ?down, ?falls, exec_capabilityExchange_takes c, exec_capabilityExchange_other c,
    exec_autoNegotiationComplete_up, exec_autoNegotiationComplete_back, exec_dlActiveChange_moves, fun t => exec_holdTimeExpiry_held,
    exec_holdTimeExpiry_none, fun ha => ?enable, fun ha => ?expected, ?signal, ?subport, exec_lossOfSignal_unheard,
    exec_noValidUnitTimeout_down, exec_codewordReceive_deaf, exec_codewordReceive_bad, fun h he hseq => ?next,
    fun h he r hc hseq => exec_codewordReceive_slip h he hc hseq, ?run⟩
  case clean => exact fun hst hh hr ht => (exec_alignComplete_clean hst hh hr ht).trans (congrArg _ (enterExchange_eq s port))
  case down =>
    exact fun hst hh h => exec_alignComplete_down hst hh (h.elim And.left And.left) (h.imp And.right And.right)
  case falls =>
    exact fun hst hp hr hb ht hcfg h hh =>
      (exec_alignComplete_falls hst hp hr hb ht hcfg (cleanHalf_eq hh)).trans (congrArg _ (enterExchange_eq _ port))
  case enable =>
    have hw : ∀ {t r}, applyPortEnable port v s = (t, r) → r ≠ .busy → Writes (.portEnable p port v) s r t :=
      writes_num ha (exec_portEnable p port v s) rfl
    have he := applyPortEnable_eq s port v
    refine ⟨fun hv => hw ?_ (by decide), fun hv hst hf hh => hw ?_ (by decide), fun hv hst => hw ?_ (by decide),
      fun hv => hw (he.trans (if_pos hv)) (by decide)⟩
    · exact he.trans ((if_neg (by omega)).trans (if_pos hv))
    · exact he.trans ((if_neg (by omega)).trans ((if_neg (by omega)).trans (if_pos ⟨hst, hf, hh⟩)))
    · exact he.trans ((if_neg (by omega)).trans ((if_neg (by omega)).trans (if_neg fun h => hst h.1)))
  case expected =>
    have hw : ∀ {t}, (s.writeNum Obj.EXPECTED_BIB port v).judgeNeighbour true port = t → Writes (.expectedBib p port v) s .ok t := fun ht =>
      writes_num ha (exec_expectedBib p port v s) rfl (congrArg (·, Result.ok) ht) (by decide)
    have hport : (s.writeNum Obj.EXPECTED_BIB port v).port port = s.port port := port_writeNum s _ _ _ _
    refine ⟨fun hi hu => hw (judgeNeighbour_other ?_ ?_ true), fun n hst hp hnb => hw (judgeNeighbour_up ?_ ?_ hp true),
      fun n hst hnb => hw (judgeNeighbour_back ?_ ?_)⟩ <;> rw [hport] <;> assumption
  case signal =>
    exact fun h hl hno => (exec_lossOfSignal_heard h hl).trans
      (congrArg _ (if_neg fun hsub => hno.elim (fun hn => hn hsub.1) (fun hn => hn hsub.2)))
  case subport =>
    exact fun h hl hh hst => (exec_lossOfSignal_heard h hl).trans (congrArg _ ((if_pos ⟨hh, hst⟩).trans (subportDown_eq hh hst _)))
  case next =>
    have hx := exec_codewordReceive_next h he hseq
    exact ⟨fun h0 => hx.trans (by rw [if_neg (not_not.2 h0)]; rfl), fun h0 => hx.trans (by rw [if_pos (by omega)]; rfl)⟩
  case run =>
    rintro ⟨-, hst⟩ hrun
    refine badCodeword_down ?_ hrun
    rcases hst with hst | hst | hst <;> rw [hst] <;> decide

end Sys2Proof.Machine
end

section
/-! PROOFS. Control flits, credits and flow control (R106, R110 to R113, R116 to R118, R125, R321). -/

namespace Sys2Proof.Machine

/-! ## Control flits as bytes (R110, Table 4.6) -/

theorem crcStep_lt (reg : Nat) : crcStep 16 0x1021 reg < 2 ^ 16 := by
  have hlt : reg * 2 % 2 ^ 16 < 2 ^ 16 := Nat.mod_lt _ (by decide)
  unfold crcStep
  split
  · exact Nat.xor_lt_two_pow hlt (by decide)
  · exact hlt

/-- A CRC-16 register stays within its 16 bits. -/
theorem crc16Run_lt {reg : Nat} (h : reg < 2 ^ 16) (b : Blob) : crc16Run reg b < 2 ^ 16 := by
  induction b generalizing reg with
  | nil => exact h
  | cons x b ih => exact ih (crcStep_lt _)

theorem beAt_append_left {x : Blob} (y : Blob) {i n : Nat} (h : i + n ≤ x.length) : beAt (x ++ y) i n = beAt x i n := by
  rw [beAt, beAt, List.drop_append_of_le_length (by omega), List.take_append_of_le_length (by rw [List.length_drop]; omega)]

theorem beAt_append_right (x y : Blob) (n : Nat) : beAt (x ++ y) x.length n = beAt y 0 n := by
  rw [beAt, beAt, List.drop_left, List.drop_zero]

/-- What the CCRC of a control flit covers: TYPE, VC and the body. -/
def flitHead (ty vc : Nat) (body : Blob) : Blob := beBytes 1 ty ++ beBytes 1 (vc * 32) ++ (body ++ List.replicate 36 0).take 36

theorem length_flitHead (ty vc : Nat) (body : Blob) : (flitHead ty vc body).length = 38 := by
  simp [flitHead, length_beBytes]

theorem flitBytes_eq (ty vc : Nat) (body : Blob) :
    flitBytes ty vc body = flitHead ty vc body ++ beBytes 2 (crc16Run 0xFFFF (flitHead ty vc body)) := rfl

theorem length_flitBytes (ty vc : Nat) (body : Blob) : (flitBytes ty vc body).length = 40 := by
  rw [flitBytes_eq, List.length_append, length_flitHead, length_beBytes]

theorem flitType_flitBytes (ty vc : Nat) (body : Blob) : flitType (flitBytes ty vc body) = ty % 256 := by
  have h1 : 0 + 1 ≤ (beBytes 1 ty).length := (length_beBytes 1 ty).ge
  rw [flitType, flitBytes_eq, beAt_append_left _ (by rw [length_flitHead]; decide), flitHead, List.append_assoc, beAt_append_left _ h1,
    beAt_beBytes, Nat.pow_one]

theorem take_flitBytes (ty vc : Nat) (body : Blob) : (flitBytes ty vc body).take 38 = flitHead ty vc body := by
  rw [flitBytes_eq]
  exact List.take_left' (length_flitHead ty vc body)

/-- The CCRC is the CRC-16 of what stands before it. -/
theorem ccrc_flitBytes (ty vc : Nat) (body : Blob) : beAt (flitBytes ty vc body) 38 2 = crc16Run 0xFFFF (flitHead ty vc body) := by
  have h := beAt_append_right (flitHead ty vc body) (beBytes 2 (crc16Run 0xFFFF (flitHead ty vc body))) 2
  rw [length_flitHead] at h
  rw [flitBytes_eq, h, beAt_beBytes]
  exact Nat.mod_eq_of_lt (crc16Run_lt (by decide) _)

theorem flitOk_flitBytes (ty vc : Nat) (body : Blob) : flitOk (flitBytes ty vc body) = decide (ty % 256 ≤ 10) := by
  have hty : beAt (flitBytes ty vc body) 0 1 = ty % 256 := flitType_flitBytes ty vc body
  simp [flitOk, length_flitBytes, take_flitBytes, ccrc_flitBytes, hty]

/-! ## Control flits that come in (R106, R112, R113, R116 to R118) -/

section
variable {s u : State} {port : Nat} {flit : Blob}

/-- Each flit whose check fails, or whose TYPE is reserved, is only counted. -/
theorem exec_badFlit (hp : port < 14) (hpass : (s.port port).passes = true) (hbad : flitOk flit = false) {c : Instr}
    (hc : c ∈ [Instr.idle port flit, .credit port flit, .lapMarker port flit, .missedSlab port flit, .sleep port flit, .abort port flit,
      .linkRetrainRequest port flit, .linkFallbackRequest port flit]) :
    exec c s = .next ((s.endFrame port 0 .cut).count Obj.CONTROL_ERRORS port) := by
  have hdisc : ∀ ty g, s.ctlIn port ty flit g = .next ((s.endFrame port 0 .cut).count Obj.CONTROL_ERRORS port) :=
    ctlIn_discards (decide_eq_true hp) hpass hbad
  simp only [List.mem_cons, List.not_mem_nil, or_false] at hc
  rcases hc with rfl | rfl | rfl | rfl | rfl | rfl | rfl | rfl
  · exact (exec_idle port flit s).trans (hdisc _ _)
  · exact (exec_credit port flit s).trans (hdisc _ _)
  · exact (exec_lapMarker port flit s).trans (hdisc _ _)
  · exact (exec_missedSlab port flit s).trans (hdisc _ _)
  · exact (exec_sleep port flit s).trans (hdisc _ _)
  · exact (exec_abort port flit s).trans (hdisc _ _)
  · exact (exec_linkRetrainRequest port flit s).trans (hdisc _ _)
  · exact (exec_linkFallbackRequest port flit s).trans (hdisc _ _)

/-- An ABORT acts before a frame in reception has ended. -/
theorem abort_in (h : FlitIn s port 9 flit u) : u = s := by
  obtain ⟨-, -, -, -, hu⟩ := h
  exact hu

/-- An ABORT ends the frame in reception as stomped. -/
theorem exec_abort_ends (h : FlitIn s port 9 flit u) (hf : tabGet? s.ingress (8 * port) ≠ none) :
    exec (.abort port flit) s = .next (s.endFrame port 0 (.abort (beAt flit 2 1))) := by
  obtain rfl := abort_in h
  rw [Nat.mul_comm] at hf
  rw [exec_abort, execAbort, ctlIn_acts h]
  exact congrArg _ (if_pos (Option.isSome_iff_ne_none.2 hf))

/-- One that meets no frame is a control error. -/
theorem exec_abort_stray (h : FlitIn s port 9 flit u) (hf : tabGet? s.ingress (8 * port) = none) :
    exec (.abort port flit) s = .next (s.count Obj.CONTROL_ERRORS port) := by
  obtain rfl := abort_in h
  rw [Nat.mul_comm] at hf
  rw [exec_abort, execAbort, ctlIn_acts h]
  exact congrArg _ (if_neg (by simp [ingressKey, hf]))

/-- The half of a link without lane k. -/
theorem cleanHalf_lane {k : Nat} (hk : k < 16) : cleanHalf (2 ^ k) = some (if k < 8 then 0xFF00 else 0x00FF) := by
  interval_cases k <;> rfl

theorem exec_linkFallbackRequest_eq (h : FlitIn s port 10 flit u) : exec (.linkFallbackRequest port flit) s =
    .next (if beAt flit 2 1 = 2 ∧ (u.port port).txLanes = 0xFFFF then (u.fallBack port true (2 ^ (beAt flit 3 1 % 16))).getD u else u) := by
  rw [exec_linkFallbackRequest, execLinkFallbackRequest, ctlIn_acts h]
  simp only [Bool.and_eq_true, decide_eq_true_eq]

/-- The transmit direction falls back to the half without the failed lane. -/
theorem exec_linkFallbackRequest_falls (h : FlitIn s port 10 flit u) (hop : beAt flit 2 1 = 2) (htx : (u.port port).txLanes = 0xFFFF)
    (hcfg : u.cfg Obj.FALLBACK port ≠ 0) : exec (.linkFallbackRequest port flit) s =
      .next ((u.modPort port (fun y => { y with txLanes := if beAt flit 3 1 % 16 < 8 then 0xFF00 else 0x00FF })).noteFallback port) := by
  have hlane : cleanHalf (2 ^ (beAt flit 3 1 % 16)) = some (if beAt flit 3 1 % 16 < 8 then 0xFF00 else 0x00FF) :=
    cleanHalf_lane (Nat.mod_lt _ (by decide))
  rw [exec_linkFallbackRequest_eq h, if_pos ⟨hop, htx⟩, fallBack_half (Nat.two_pow_pos _).ne' (isPsiot_iff.1 h.1) hcfg hlane]
  rfl

/-- Any other, or one that may not, changes nothing. -/
theorem exec_linkFallbackRequest_other (h : FlitIn s port 10 flit u)
    (hno : beAt flit 2 1 ≠ 2 ∨ (u.port port).txLanes ≠ 0xFFFF ∨ u.cfg Obj.FALLBACK port = 0) :
    exec (.linkFallbackRequest port flit) s = .next u := by
  rw [exec_linkFallbackRequest_eq h]
  split
  case isFalse => rfl
  case isTrue hreq =>
    have hcfg : u.cfg Obj.FALLBACK port = 0 := (hno.resolve_left (not_not.2 hreq.1)).resolve_left (not_not.2 hreq.2)
    rw [fallBack_refused (Nat.two_pow_pos _).ne' (.inr hcfg), Option.getD_none]

/-! ## Lap markers (R321) -/

theorem tabGet_map {α : Type} (t : Tab α) (n : Nat) (d : α) (g : α → α) :
    tabGet (t.map (fun e => (e.1, g e.2))) n (g d) = g (tabGet t n d) := by
  rw [tabGet, tabGet, tabGet?_map, Option.getD_map]

/-- A tenant whose Photo finish of a lap has noted that lap's marker, if it is the first of its port and class. -/
def Tenant.noteMarker (x : Tenant) (lap key now : Nat) : Tenant := { x with photo := x.photo.map (fun ph =>
  if ph.lap == lap && (tabGet? ph.markers key).isNone then { ph with markers := tabSet ph.markers key now } else ph) }

/-- The state in which a lap's marker has been noted, for the Photo finishes under way and for those to come. -/
def State.noteMarker (u : State) (lap key now : Nat) : State := { u with
  ten.marks := (lap, key, now) :: u.ten.marks.filter (fun (e : Nat × Nat × Nat) => e.1 == u.time.lap || lapFuture u e.1)
  ten.tenants := u.ten.tenants.map (fun (e : Nat × Tenant) => (e.1, e.2.noteMarker lap key now)) }

theorem tenant_noteMarker (u : State) (lap key now k : Nat) : (u.noteMarker lap key now).tenant k = (u.tenant k).noteMarker lap key now :=
  tabGet_map u.ten.tenants k .reset (fun x => x.noteMarker lap key now)

theorem noteMarker_first {x : Tenant} {ph : Photo} {lap key : Nat} (now : Nat) (hp : x.photo = some ph) (hl : ph.lap = lap)
    (hk : tabGet? ph.markers key = none) : (x.noteMarker lap key now).photo = some { ph with markers := tabSet ph.markers key now } := by
  rw [Tenant.noteMarker, hp]
  exact congrArg some (if_pos (by simp [hl, hk]))

theorem exec_lapMarker_notes (h : FlitIn s port 5 flit u) : exec (.lapMarker port flit) s =
    .next (u.noteMarker (beAt flit 2 6) (port * 8 + beAt flit 1 1 / 32) ((u.time.gun : Int) - u.timePath (8 * port + 4)).toNat) :=
  (exec_lapMarker port flit s).trans (ctlIn_acts h _)

end

/-! ## Control flits that leave (R106, R112, R113) -/

section
variable {s : State} {port : Nat}

theorem insertBy_perm {α : Type} (f : α → Nat) (x : α) (l : List α) : List.Perm (insertBy f x l) (x :: l) := by
  induction l with
  | nil => exact .refl _
  | cons y ys ih =>
    rw [insertBy]
    split
    · exact .refl _
    · exact (ih.cons y).trans (.swap x y ys)

theorem insertBy_pairwise {α : Type} {f : α → Nat} (x : α) {l : List α} (h : l.Pairwise (fun a b => f a ≤ f b)) :
    (insertBy f x l).Pairwise (fun a b => f a ≤ f b) := by
  induction l with
  | nil => exact List.pairwise_singleton _ _
  | cons y ys ih =>
    obtain ⟨hy, hys⟩ := List.pairwise_cons.1 h
    rw [insertBy]
    split
    case isTrue hlt =>
      refine List.pairwise_cons.2 ⟨fun z hz => ?_, h⟩
      rcases List.mem_cons.1 hz with rfl | hz
      · exact hlt.le
      · exact hlt.le.trans (hy z hz)
    case isFalse hge =>
      refine List.pairwise_cons.2 ⟨fun z hz => ?_, ih hys⟩
      rcases List.mem_cons.1 ((insertBy_perm f x ys).mem_iff.1 hz) with rfl | hz
      · exact Nat.le_of_not_lt hge
      · exact hy z hz

/-- A sorted list holds what the list held, in the order of the measure. -/
theorem sortBy_sorts {α : Type} (f : α → Nat) (l : List α) :
    (sortBy f l).Pairwise (fun a b => f a ≤ f b) ∧ List.Perm (sortBy f l) l := by
  suffices hfold : ∀ a : List α, a.Pairwise (fun a b => f a ≤ f b) →
      (l.foldl (fun a x => insertBy f x a) a).Pairwise (fun a b => f a ≤ f b) ∧ List.Perm (l.foldl (fun a x => insertBy f x a) a) (a ++ l) by
    exact hfold [] .nil
  induction l with
  | nil => exact fun a ha => ⟨ha, by rw [List.append_nil]; exact .refl a⟩
  | cons x l ih =>
    intro a ha
    obtain ⟨hsorted, hperm⟩ := ih (insertBy f x a) (insertBy_pairwise x ha)
    exact ⟨hsorted, hperm.trans (((insertBy_perm f x a).append_right l).trans List.perm_middle.symm)⟩

/-- At a boundary of a port that passes flits and is free, what is due leaves: all of it, or at most two before a frame that is ready. -/
theorem exec_controlFlitSend_sends (hp : port < 14) (hpass : (s.port port).passes = true) (hsl : (s.port port).sleep = .awake)
    (htx : (s.port port).tx = []) : exec (.controlFlitSend port) s =
      let due := sortBy CtlFlit.rank (s.port port).ctl
      let now := if s.selHolds port 0 then due.take (2 - (s.port port).ctlRun) else due
      .next ((if now.isEmpty && !s.selHolds port 0 then [.idle] else now).foldl (fun (y : State) f => y.sendCtl port f)
        (s.modPort port (fun y => { y with ctl := due.drop now.length, ctlRun := if s.selHolds port 0 then y.ctlRun + now.length else 0 }))) :=
  if_neg (by simp [isPsiot, hp, hpass, hsl, htx])

/-- No frame is ready: all that is due leaves, or an IDLE. -/
theorem exec_controlFlitSend_all (hp : port < 14) (hpass : (s.port port).passes = true) (hsl : (s.port port).sleep = .awake)
    (htx : (s.port port).tx = []) (hsel : s.selHolds port 0 = false) : exec (.controlFlitSend port) s =
      let due := sortBy CtlFlit.rank (s.port port).ctl
      .next ((if due = [] then [.idle] else due).foldl (fun (y : State) f => y.sendCtl port f)
        (s.modPort port (fun y => { y with ctl := [], ctlRun := 0 }))) := by
  rw [exec_controlFlitSend_sends hp hpass hsl htx]
  simp only [hsel, Bool.false_eq_true, if_false, List.drop_length, Bool.not_false, Bool.and_true, List.isEmpty_iff]

/-- A frame is ready: at most two leave before it. -/
theorem exec_controlFlitSend_two (hp : port < 14) (hpass : (s.port port).passes = true) (hsl : (s.port port).sleep = .awake)
    (htx : (s.port port).tx = []) (hsel : s.selHolds port 0 = true) : exec (.controlFlitSend port) s =
      let due := sortBy CtlFlit.rank (s.port port).ctl
      let n := min due.length (2 - (s.port port).ctlRun)
      .next ((due.take n).foldl (fun (y : State) f => y.sendCtl port f)
        (s.modPort port (fun y => { y with ctl := due.drop n, ctlRun := (s.port port).ctlRun + n }))) := by
  rw [exec_controlFlitSend_sends hp hpass hsl htx]
  simp only [hsel, if_true, Bool.not_true, Bool.and_false, Bool.false_eq_true, if_false, List.length_take]
  rw [List.take_eq_take_min, Nat.min_comm]
  rfl

theorem exec_controlFlitSend_waits (h : (s.port port).passes = false ∨ (s.port port).sleep ≠ .awake ∨ (s.port port).tx ≠ []) :
    exec (.controlFlitSend port) s = .next s := by
  refine if_pos ?_
  rcases h with h | h | h <;> simp [h]

/-- A flit that leaves is noted in the exchange of its port where it takes part in one (R111), and holds the wire for its 40 bytes. -/
theorem sendCtl_eq (s : State) (port : Nat) (f : CtlFlit) : ∃ x, s.sendCtl port f =
    (({ s with time.exch := x } : State).emit (.ctl port (f.bytes (s.txTime port)) (s.txTime port))).modPort port
      (fun y => { y with wireFree := s.txTime port + s.wireTime port 40 }) := by
  cases f with
  | sync seq prev t4 => exact ⟨_, rfl⟩
  | reply seq t2 =>
    simp only [State.sendCtl]
    split
    · exact ⟨_, rfl⟩
    · exact ⟨s.time.exch, rfl⟩
  | _ => exact ⟨s.time.exch, rfl⟩

theorem sendCtl_leaves (s : State) (port : Nat) (f : CtlFlit) :
    (s.sendCtl port f).out = s.out ++ [.ctl port (f.bytes (s.txTime port)) (s.txTime port)] ∧
      ((s.sendCtl port f).port port).wireFree = s.txTime port + s.wireTime port 40 := by
  obtain ⟨x, hx⟩ := sendCtl_eq s port f
  rw [hx, State.port_modPort_same]
  exact ⟨rfl, rfl⟩

theorem exec_creditTick_due (hp : port < 14) : exec (.creditTick port) s = .next (s.queueCtl port (.credit ((List.range 6).map (fun k =>
    (tabGet (s.port port).freed (k + 2) 0 + tabGet (s.port port).initial (k + 2) 0) % 2 ^ 32)))) :=
  if_pos (decide_eq_true hp)

end

/-! ## Pauses (R125) -/

section
variable {s : State} {port : Nat}

theorem exec_pfcReceive_acts (hh : port = 14 ∨ port = 15) (hst : (s.port port).st = .up) (hcfg : s.cfg Obj.FLOW_CONTROL port = 1)
    (mask : BitVec 8) (durations : List Nat) : exec (.pfcReceive port mask durations) s =
      .next (((List.range 8).filter (fun q => mask.getLsbD q && (s.cfg Obj.PFC_CONFIG port).testBit q)).foldl (fun (y : State) q =>
        y.pause port q (durations.getD q 0)) s) :=
  if_pos (by simp [isHost_iff.2 hh, hst, hcfg])

theorem exec_pfcReceive_off (hcfg : s.cfg Obj.FLOW_CONTROL port ≠ 1) (mask : BitVec 8) (durations : List Nat) :
    exec (.pfcReceive port mask durations) s = .next s :=
  if_neg (by simp [hcfg])

theorem exec_pauseReceive_acts (hh : port = 14 ∨ port = 15) (hst : (s.port port).st = .up) (hcfg : s.cfg Obj.FLOW_CONTROL port = 2)
    (dur : Nat) : exec (.pauseReceive port dur) s = .next ((List.range 8).foldl (fun (y : State) q => y.pause port q dur) s) :=
  if_pos (by simp [isHost_iff.2 hh, hst, hcfg])

theorem exec_pauseReceive_off (hcfg : s.cfg Obj.FLOW_CONTROL port ≠ 2) (dur : Nat) : exec (.pauseReceive port dur) s = .next s :=
  if_neg (by simp [hcfg])

/-- When a pause that begins now ends: its length is in units of 512 bit times. -/
def State.pauseEnd (s : State) (port dur : Nat) : Time := s.time.gun + dur * 512 * 65536 / max 1 (s.rateIn port)

theorem pauseEnd_pause (s : State) (port q dur d : Nat) : (s.pause port q dur).pauseEnd port d = s.pauseEnd port d := by
  have hrate : (s.pause port q dur).rateIn port = s.rateIn port := by
    simp only [State.rateIn, State.pause, State.port_modPort_same]
  rw [State.pauseEnd, State.pauseEnd, hrate]
  rfl

theorem paused_pause_same (s : State) (port q : Nat) {dur : Nat} (hd : dur ≠ 0) :
    tabGet? ((s.pause port q dur).port port).paused q = some (s.pauseEnd port dur) := by
  simp only [State.pause, State.port_modPort_same, if_neg hd, tabGet?_set_same]
  rfl

theorem paused_pause_other (s : State) (port dur : Nat) {q r : Nat} (h : r ≠ q) :
    tabGet? ((s.pause port q dur).port port).paused r = tabGet? (s.port port).paused r := by
  simp only [State.pause, State.port_modPort_same]
  split
  · exact tabGet?_del_other _ h
  · exact tabGet?_set_other _ _ h

/-- Pauses of other priorities leave a priority's alone. -/
theorem paused_foldl_other (d : Nat → Nat) {l : List Nat} {q : Nat} (h : q ∉ l) (s : State) :
    tabGet? ((l.foldl (fun (y : State) r => y.pause port r (d r)) s).port port).paused q = tabGet? (s.port port).paused q :=
  foldl_keeps (g := fun y : State => tabGet? (y.port port).paused q)
    (fun y r hr => paused_pause_other y port (d r) fun hqr => h (hqr ▸ hr)) s

/-- The pause of a priority among several, each once. -/
theorem paused_foldl_of_mem (d : Nat → Nat) {l : List Nat} (hl : l.Nodup) {q : Nat} (h : q ∈ l) (hd : d q ≠ 0) (s : State) :
    tabGet? ((l.foldl (fun (y : State) r => y.pause port r (d r)) s).port port).paused q = some (s.pauseEnd port (d q)) := by
  induction l generalizing s with
  | nil => cases h
  | cons r l ih =>
    obtain ⟨hr, hl⟩ := List.nodup_cons.1 hl
    rw [List.foldl_cons]
    rcases List.mem_cons.1 h with rfl | h
    · rw [paused_foldl_other d hr, paused_pause_same s port _ hd]
    · rw [ih hl h, pauseEnd_pause]

theorem exec_pauseExpiry_lapses {prio : Nat} {e : Time} (h : tabGet? (s.port port).paused prio = some e) : exec (.pauseExpiry port prio) s =
    if e ≤ s.time.gun then .next (s.modPort port (fun y => { y with paused := tabDel y.paused prio })) else .next s := by
  rw [exec_pauseExpiry, execPauseExpiry, h]

end

/-! ## Initial credits (R113) -/

/-- The flits of a port's initial credits with a new one among them. -/
def State.initialFlits (s : State) (i v : Nat) : Nat :=
  ((List.range 6).map (fun k => if k + 2 = i % 8 then v else s.cfg Obj.CREDIT_INIT (8 * (i / 8) + k + 2))).sum

theorem applyCreditInit_eq (s : State) (i v : Nat) : applyCreditInit i v s =
    if s.initialFlits i v ≤ 10000 ∧ (2 * v + 6) / 7 ≤ s.classReserve (i / 8) (i % 8) + s.sharedRegion (partOf (i % 8)) then
      (s.writeNum Obj.CREDIT_INIT i v, .ok)
    else (s, .overcommit) := by
  have hover : (decide (s.initialFlits i v > 10000) ||
      decide ((2 * v + 6) / 7 - s.classReserve (i / 8) (i % 8) > s.sharedRegion (partOf (i % 8)))) = true ↔
      ¬ (s.initialFlits i v ≤ 10000 ∧ (2 * v + 6) / 7 ≤ s.classReserve (i / 8) (i % 8) + s.sharedRegion (partOf (i % 8))) := by
    simp only [Bool.or_eq_true, decide_eq_true_eq]
    omega
  unfold State.initialFlits at hover ⊢
  simp only [applyCreditInit, beq_iff_eq, hover, ite_not]

/-! ## The statement -/

/-- Settles O32: what the control flits do as they come in and leave, and how long a pause holds. -/
theorem controlFlitResults : Obligations.ControlFlitResults := by
  intro s u port dur prio i v flit durations mask p
  refine ⟨fun ty vc body at_ => ⟨flitOk_flitBytes ty vc body, length_flitBytes ty vc body, flitType_flitBytes ty vc body, fun _ => rfl⟩,
    fun hp hpass hbad c hc => exec_badFlit hp hpass hbad hc, fun h => (exec_idle port flit s).trans (ctlIn_acts h _),
    fun h => (exec_credit port flit s).trans (ctlIn_acts h _), fun h => (exec_sleep port flit s).trans (ctlIn_acts h _),
    fun h => (exec_missedSlab port flit s).trans (ctlIn_acts h _), exec_abort_ends, exec_abort_stray,
    fun h => (exec_linkRetrainRequest port flit s).trans (ctlIn_acts h _), exec_linkFallbackRequest_other,
    exec_linkFallbackRequest_falls, fun h => ⟨_, exec_lapMarker_notes h, List.mem_cons_self .., rfl, fun k ph hph hl hk => ?marker⟩,
    exec_creditTick_due, ?sendAll, ?sendTwo, exec_controlFlitSend_waits, fun f => ⟨_, rfl, sendCtl_leaves s port f⟩,
    (sortBy_sorts _ _).1, (sortBy_sorts _ _).2, ?pfc, ?pause, fun h => exec_pfcReceive_off h mask durations,
    fun h => exec_pauseReceive_off h dur, fun e h he => (exec_pauseExpiry_lapses h).trans (if_pos he),
    fun e h he => (exec_pauseExpiry_lapses h).trans (if_neg (Nat.not_le.2 he)), fun ha => ?credits⟩
  case marker => rw [tenant_noteMarker, noteMarker_first _ hph hl hk]
  case sendAll =>
    rintro ⟨hp, hpass, hsl, htx⟩ hsel
    exact exec_controlFlitSend_all hp hpass hsl htx hsel
  case sendTwo =>
    rintro ⟨hp, hpass, hsl, htx⟩ hsel
    exact exec_controlFlitSend_two hp hpass hsl htx hsel
  case pfc =>
    refine fun hh hst hcfg => ⟨_, exec_pfcReceive_acts hh hst hcfg mask durations, fun q hq hm hon hd => ?_, fun q hq hoff => ?_⟩
    · have hmem : q ∈ (List.range 8).filter (fun q => mask.getLsbD q && (s.cfg Obj.PFC_CONFIG port).testBit q) := by simp [hq, hm, hon]
      exact ⟨_, paused_foldl_of_mem (fun q => durations.getD q 0) (List.nodup_range.filter _) hmem hd s, rfl, hq⟩
    · refine paused_foldl_other (fun q => durations.getD q 0) (fun hmem => ?_) s
      simp only [List.mem_filter, Bool.and_eq_true] at hmem
      rcases hoff with h | h <;> simp [h] at hmem
  case pause =>
    exact fun hh hst hcfg hd => ⟨_, exec_pauseReceive_acts hh hst hcfg dur, fun q hq =>
      ⟨_, paused_foldl_of_mem (fun _ => dur) List.nodup_range (List.mem_range.2 hq) hd s, rfl, hq⟩⟩
  case credits =>
    have hw : ∀ {t r}, applyCreditInit i v s = (t, r) → r ≠ .busy → Writes (.creditInit p i v) s r t :=
      writes_num ha (exec_creditInit p i v s) rfl
    exact ⟨fun hf => hw ((applyCreditInit_eq s i v).trans (if_pos hf)) (by decide),
      fun hf => hw ((applyCreditInit_eq s i v).trans (if_neg hf)) (by decide)⟩

end Sys2Proof.Machine
end

section
/-! PROOFS. Lookups of route tries and of the learn table, and the LKP commands (R167 to R170, R176, R252). -/

namespace Sys2Proof.Machine

/-! ## The longest of the prefixes that cover a key -/

/-- Where all of one kind of a list measure less than all of another, the least of both kinds is the least of the first, if there
is one. -/
theorem leastBy_filter_or {α : Type} {f : α → Nat} {p q : α → Bool} {l : List α}
    (h : ∀ x ∈ l, ∀ y ∈ l, p x = true → q y = true → f x < f y) :
    leastBy f (l.filter (fun x => p x || q x)) = (leastBy f (l.filter p)).or (leastBy f (l.filter q)) := by
  induction l with
  | nil => rfl
  | cons x l ih =>
    have hx := fun y hy => h y (List.mem_cons_of_mem _ hy) x (List.mem_cons_self ..)
    have hy := fun y hy => h x (List.mem_cons_self ..) y (List.mem_cons_of_mem _ hy)
    specialize ih fun a ha b hb => h a (List.mem_cons_of_mem _ ha) b (List.mem_cons_of_mem _ hb)
    have hself := h x (List.mem_cons_self ..) x (List.mem_cons_self ..)
    have below : ∀ {r : α → Bool} {z : α}, leastBy f (l.filter r) = some z → z ∈ l ∧ r z = true := fun hz =>
      List.mem_filter.1 (leastBy_eq_some hz).1
    cases hp : p x <;> cases hq : q x
    case false.false => simpa [hp, hq] using ih
    case true.true => exact absurd (hself hp hq) (Nat.lt_irrefl _)
    case true.false =>
      simp only [hp, hq, List.filter_cons_of_pos, List.filter_cons_of_neg, Bool.or_false, Bool.false_eq_true, not_false_eq_true, leastBy, ih]
      cases hl : leastBy f (l.filter p) with
      | some z => simp only [Option.some_or]; split <;> rfl
      | none =>
        cases hr : leastBy f (l.filter q) with
        | none => rfl
        | some z => simp [Nat.le_of_lt (hy z (below hr).1 hp (below hr).2)]
    case false.true =>
      simp only [hp, hq, List.filter_cons_of_pos, List.filter_cons_of_neg, Bool.or_true, Bool.false_eq_true, not_false_eq_true, leastBy, ih]
      cases hl : leastBy f (l.filter p) with
      | none => rfl
      | some z => simp [Nat.not_le.2 (hx z (below hl).1 (below hl).2 hq)]

section
variable {t : Trie} {key d : Nat}

/-- What the lookup of a key is to answer of the prefixes held at level d or below it: the longest that covers the key. -/
def Trie.longestFrom (t : Trie) (key d : Nat) : Option TriePrefix :=
  longest (t.prefixes.filter (fun p => decide (d ≤ t.levelOf p.plen) && covers t.width p key))

/-- The same of the prefixes held at level d. -/
def Trie.longestAt (t : Trie) (key d : Nat) : Option TriePrefix :=
  longest (t.prefixes.filter (fun p => t.levelOf p.plen == d && covers t.width p key))

theorem Trie.width_le (t : Trie) : t.width ≤ 128 := by unfold Trie.width; split <;> decide

theorem Trie.before_succ (h : d < t.strides.length) : t.before (d + 1) = t.before d + t.strides.getD d 0 := by
  rw [Trie.before, List.take_add_one, List.sum_append, List.getD_eq_getElem?_getD, List.getElem?_eq_getElem h]
  simp [Trie.before]

theorem Trie.before_length (t : Trie) : t.before t.strides.length = t.strides.sum := by rw [Trie.before, List.take_length]

theorem Trie.before_mono (t : Trie) {a b : Nat} (h : a ≤ b) : t.before a ≤ t.before b :=
  ((List.take_prefix_take_left h).sublist).sum_le_sum fun _ _ => Nat.zero_le _

theorem Trie.before_le_sum (t : Trie) (d : Nat) : t.before d ≤ t.strides.sum :=
  (List.take_sublist d t.strides).sum_le_sum fun _ _ => Nat.zero_le _

/-- R170: a prefix is held at level d or above where its length is within the bits that the levels to d consume. -/
theorem Trie.levelOf_le_iff {n : Nat} (h : d < t.strides.length) : t.levelOf n ≤ d ↔ n ≤ t.before (d + 1) := by
  unfold Trie.levelOf
  cases hf : (List.range t.strides.length).find? (fun d => decide (n ≤ t.before (d + 1))) with
  | none =>
    have hd := List.find?_eq_none.1 hf d (List.mem_range.2 h)
    simp only [decide_eq_true_eq] at hd
    exact iff_of_false (Nat.not_le.2 h) hd
  | some k =>
    obtain ⟨hk, -, hfirst⟩ := List.find?_range_eq_some.1 hf
    simp only [decide_eq_true_eq] at hk
    refine ⟨fun hkd => hk.trans (t.before_mono (Nat.succ_le_succ hkd)), fun hn => Nat.not_lt.1 fun hdk => ?_⟩
    simpa [hn] using hfirst d hdk

theorem Trie.levelOf_lt_length {n : Nat} (hs : t.strides ≠ []) (hn : n ≤ t.strides.sum) : t.levelOf n < t.strides.length := by
  have hpos := List.length_pos_iff.2 hs
  have hlast := (Trie.levelOf_le_iff (t := t) (n := n) (Nat.sub_one_lt_of_lt hpos)).2
  rw [Nat.sub_add_cancel hpos, Trie.before_length] at hlast
  exact Nat.lt_of_le_pred hpos (hlast hn)

/-! ## The bits of a key, and what a prefix covers -/

theorem topBits_div {w m n : Nat} (v : Nat) (hm : m ≤ n) (hn : n ≤ w) : topBits w n v / 2 ^ (n - m) = topBits w m v := by
  rw [topBits, topBits, Nat.div_div_eq_div_mul, ← Nat.pow_add]
  congr 2
  omega

theorem covers_iff {w key : Nat} {p : TriePrefix} : covers w p key = true ↔ p.bits / 2 ^ (w - p.plen) = key / 2 ^ (w - p.plen) := beq_iff_eq

/-- A prefix that covers a key agrees with it in every shorter run of leading bits. -/
theorem topBits_eq_of_covers {w n : Nat} {p : TriePrefix} (h : covers w p key = true) (hn : n ≤ p.plen) (hp : p.plen ≤ w) :
    topBits w n p.bits = topBits w n key := by
  rw [← topBits_div _ hn hp, ← topBits_div _ hn hp, topBits, covers_iff.1 h, topBits]

/-! ## Entries (Table 6.3) -/

/-- A trie whose plan and prefixes keep to R167 and R170, and whose nodes have places that lie apart in their stages. -/
structure Trie.Stands (t : Trie) : Prop where
  plan : t.strides ≠ []
  levels : t.strides.length ≤ 12
  sum_le : t.strides.sum ≤ t.width
  plen_le : ∀ p ∈ t.prefixes, p.plen ≤ t.strides.sum
  value_lt : ∀ p ∈ t.prefixes, p.value < 2 ^ 32
  place : ∀ x ∈ t.nodes, ∃ a, tabGet? t.places (nodeKey x) = some a ∧ a < 2 ^ 22
  apart : ∀ x ∈ t.places, ∀ y ∈ t.places, x.1 % 16 = y.1 % 16 → x ≠ y →
    x.2 + 2 ^ (t.strides.getD (x.1 % 16) 0) ≤ y.2 ∨ y.2 + 2 ^ (t.strides.getD (y.1 % 16) 0) ≤ x.2

/-- The node of level d on the path of a key. -/
def Trie.nodeOn (t : Trie) (key d : Nat) : Nat × Nat := (d, topBits t.width (t.before d) key)

/-- The index of a key in its node of level d: the bits that the level consumes. -/
def Trie.indexIn (t : Trie) (key d : Nat) : Nat := topBits t.width (t.before (d + 1)) key % 2 ^ (t.strides.getD d 0)

/-- The entry of a key in its node of level d. -/
def Trie.entryFor (t : Trie) (key d : Nat) : Nat := t.entryOf d (t.nodeOn key d).2 (t.indexIn key d)

/-- Whether some prefix held below level d begins with the bits of a key that the levels to d consume. -/
def Trie.goesOn (t : Trie) (key d : Nat) : Bool :=
  t.prefixes.any (fun p => decide (t.before (d + 1) < p.plen) && (topBits t.width (t.before (d + 1)) p.bits == (t.nodeOn key (d + 1)).2))

theorem Trie.Stands.before_le (hs : t.Stands) (d : Nat) : t.before d ≤ t.width := (t.before_le_sum d).trans hs.sum_le

/-- The path of a node and the index in it are the leading bits of the key to the level after. -/
theorem Trie.Stands.path_index (hs : t.Stands) (hd : d < t.strides.length) :
    (t.nodeOn key d).2 * 2 ^ (t.strides.getD d 0) + t.indexIn key d = (t.nodeOn key (d + 1)).2 := by
  have hpath := topBits_div key (t.before_mono (Nat.le_succ d)) (hs.before_le (d + 1))
  rw [Nat.succ_eq_add_one, t.before_succ hd, Nat.add_sub_cancel_left, ← t.before_succ hd] at hpath
  rw [Trie.nodeOn, Trie.indexIn, Trie.nodeOn, ← hpath, Nat.mul_comm]
  exact Nat.div_add_mod _ _

/-- R170: the prefixes of level d that cover an entry of a key's path are those that cover the key. -/
theorem Trie.Stands.covers_entry (hs : t.Stands) (hd : d < t.strides.length) {p : TriePrefix} :
    (t.levelOf p.plen == d && topBits t.width p.plen p.bits == (t.nodeOn key (d + 1)).2 / 2 ^ (t.before (d + 1) - p.plen)) =
      (t.levelOf p.plen == d && covers t.width p key) := by
  cases hl : t.levelOf p.plen == d with
  | false => rfl
  | true =>
    have hn := (Trie.levelOf_le_iff hd).1 (beq_iff_eq.1 hl).le
    rw [Trie.nodeOn, topBits_div key hn (hs.before_le _), covers]

/-- The fields of a key's entry of level d. -/
theorem Trie.Stands.entryFor_eq (hs : t.Stands) (hd : d < t.strides.length) (key : Nat) : t.entryFor key d =
    packFields [(1, nat01 (t.goesOn key d)), (1, nat01 (t.longestAt key d).isSome), (8, ((t.longestAt key d).map TriePrefix.plen).getD 0),
      (22, if t.goesOn key d then tabGet t.places (nodeKey (t.nodeOn key (d + 1))) 0 else 0),
      (32, ((t.longestAt key d).map TriePrefix.value).getD 0)] := by
  rw [Trie.entryFor, Trie.entryOf]
  simp only [hs.path_index hd, hs.covers_entry hd]
  unfold Trie.longestAt
  cases longest (t.prefixes.filter fun p => t.levelOf p.plen == d && covers t.width p key) <;> exact congrArg packFields rfl

/-- Each field of an entry reads as it was packed. -/
theorem packFields_entry {c r : Bool} {l n v e : Nat} (hl : l < 2 ^ 8) (hn : n < 2 ^ 22) (hv : v < 2 ^ 32)
    (he : e = packFields [(1, nat01 c), (1, nat01 r), (8, l), (22, n), (32, v)]) :
    bit e 63 = c ∧ bit e 62 = r ∧ bits e 61 54 = l ∧ bits e 53 32 = n ∧ bits e 31 0 = v := by
  have hbit : ∀ b : Bool, nat01 b < 2 ∧ b = decide (nat01 b = 1) := by decide
  obtain ⟨hc, hc1⟩ := hbit c
  obtain ⟨hr, hr1⟩ := hbit r
  have hsum : e = nat01 c * 2 ^ 63 + nat01 r * 2 ^ 62 + l * 2 ^ 54 + n * 2 ^ 32 + v := by
    simp only [he, packFields, List.foldl_cons, List.foldl_nil]
    omega
  refine ⟨?_, ?_, ?_, ?_, ?_⟩
  · rw [bit, Nat.testBit_eq_decide_div_mod_eq, hc1]
    congr 2
    omega
  · rw [bit, Nat.testBit_eq_decide_div_mod_eq, hr1]
    congr 2
    omega
  all_goals
    rw [bits]
    omega

theorem Trie.mem_of_longestAt {p : TriePrefix} (h : t.longestAt key d = some p) : p ∈ t.prefixes :=
  List.mem_of_mem_filter (leastBy_eq_some h).1

theorem Trie.Stands.plen_le_width (hs : t.Stands) {p : TriePrefix} (h : p ∈ t.prefixes) : p.plen ≤ t.width := (hs.plen_le p h).trans hs.sum_le

/-- Where some prefix is held below level d on the path of a key, the key has a node of the level after. -/
theorem Trie.Stands.nodeOn_mem (hs : t.Stands) (h : t.goesOn key d = true) : t.nodeOn key (d + 1) ∈ t.nodes := by
  obtain ⟨p, hp, hc⟩ := List.any_eq_true.1 h
  simp only [Bool.and_eq_true, decide_eq_true_eq, beq_iff_eq] at hc
  obtain ⟨hlen, htop⟩ := hc
  have hd : d + 1 < t.strides.length := by
    refine Nat.lt_of_not_le fun hle => ?_
    have hall : t.before (d + 1) = t.strides.sum := by rw [Trie.before, List.take_of_length_le hle]
    exact Nat.not_lt.2 (hs.plen_le p hp) (hall ▸ hlen)
  refine List.mem_flatMap.2 ⟨d + 1, List.mem_range.2 hd, ?_⟩
  rw [if_neg (Nat.succ_ne_zero d), List.mem_eraseDups, List.mem_map]
  exact ⟨p, List.mem_filter.2 ⟨hp, decide_eq_true hlen⟩, by rw [htop, Trie.nodeOn]⟩

/-- What a lookup reads in a key's entry of level d: whether it goes on, at which node, and the result, if there is one. -/
theorem Trie.Stands.entryFor_reads (hs : t.Stands) (hd : d < t.strides.length) (key : Nat) :
    bit (t.entryFor key d) 63 = t.goesOn key d ∧
    (t.goesOn key d = true → tabGet? t.places (nodeKey (t.nodeOn key (d + 1))) = some (bits (t.entryFor key d) 53 32)) ∧
    (if bit (t.entryFor key d) 62 then some (bits (t.entryFor key d) 61 54, bits (t.entryFor key d) 31 0) else none) =
      (t.longestAt key d).map (fun p => (p.plen, p.value)) := by
  set n := if t.goesOn key d then tabGet t.places (nodeKey (t.nodeOn key (d + 1))) 0 else 0 with hn
  have hplace : t.goesOn key d = true → tabGet? t.places (nodeKey (t.nodeOn key (d + 1))) = some n ∧ n < 2 ^ 22 := by
    intro hg
    obtain ⟨a, ha, hlt⟩ := hs.place _ (hs.nodeOn_mem hg)
    rw [hn, if_pos hg, tabGet, ha]
    exact ⟨rfl, hlt⟩
  have hnlt : n < 2 ^ 22 := by
    cases hg : t.goesOn key d with
    | true => exact (hplace hg).2
    | false => simp [hn, hg]
  have hl : ((t.longestAt key d).map TriePrefix.plen).getD 0 < 2 ^ 8 ∧ ((t.longestAt key d).map TriePrefix.value).getD 0 < 2 ^ 32 := by
    cases hb : t.longestAt key d with
    | none => decide
    | some p =>
      have hp := Trie.mem_of_longestAt hb
      exact ⟨((hs.plen_le_width hp).trans t.width_le).trans_lt (by decide), hs.value_lt p hp⟩
  obtain ⟨hchild, hresult, hplen, hnext, hvalue⟩ := packFields_entry hl.1 hnlt hl.2 (hs.entryFor_eq hd key)
  rw [hchild, hresult, hplen, hnext, hvalue]
  refine ⟨rfl, fun hg => (hplace hg).1, ?_⟩
  cases t.longestAt key d <;> rfl

/-! ## What a lookup reads (R169) -/

theorem mem_of_tabGet? {α : Type} {m : Tab α} {n : Nat} {v : α} (h : tabGet? m n = some v) : (n, v) ∈ m := by
  induction m with
  | nil => cases h
  | cons e m ih =>
    obtain ⟨k, w⟩ := e
    rw [tabGet?] at h
    split at h
    case isTrue hk => cases h; exact hk ▸ List.mem_cons_self ..
    case isFalse => exact List.mem_cons_of_mem _ (ih h)

/-- The entry at index i of a node stands i entries after the node's place. -/
theorem Trie.Stands.entryAt_node (hs : t.Stands) (hd : d < t.strides.length) {path a i : Nat}
    (ha : tabGet? t.places (nodeKey (d, path)) = some a) (hi : i < 2 ^ (t.strides.getD d 0)) : t.entryAt d (a + i) = t.entryOf d path i := by
  have hmod : nodeKey (d, path) % 16 = d ∧ nodeKey (d, path) / 16 = path := by
    have := hs.levels
    simp only [nodeKey]
    omega
  obtain ⟨hlevel, hpath⟩ := hmod
  have hfind : t.places.find? (fun e => e.1 % 16 == d && decide (e.2 ≤ a + i) && decide (a + i < e.2 + 2 ^ (t.strides.getD d 0))) =
      some (nodeKey (d, path), a) := by
    have hmem := mem_of_tabGet? ha
    cases hf : t.places.find? (fun e => e.1 % 16 == d && decide (e.2 ≤ a + i) && decide (a + i < e.2 + 2 ^ (t.strides.getD d 0))) with
    | none => exact absurd hi (by simpa [hlevel] using List.find?_eq_none.1 hf _ hmem)
    | some e =>
      have he := List.find?_some hf
      simp only [Bool.and_eq_true, beq_iff_eq, decide_eq_true_eq] at he
      obtain ⟨⟨hstage, hle⟩, hlt⟩ := he
      by_contra hne
      have := hs.apart e (List.mem_of_find?_eq_some hf) _ hmem (hstage.trans hlevel.symm) (fun h => hne (congrArg some h))
      rw [hstage, hlevel] at this
      omega
  rw [Trie.entryAt, hfind]
  simp only [hpath, Nat.add_sub_cancel_left]

/-- The result of the last of some entries read that carries one. -/
def lastResult (es : List (Nat × Nat × Nat)) : Option (Nat × Nat) :=
  (es.reverse.find? (fun e => bit e.2.2 62)).map (fun e => (bits e.2.2 61 54, bits e.2.2 31 0))

theorem Trie.lookup_eq (t : Trie) (key : Nat) : t.lookup key = lastResult (t.reads key t.strides.length 0 t.root) := rfl

theorem lastResult_cons (e : Nat × Nat × Nat) (es : List (Nat × Nat × Nat)) :
    lastResult (e :: es) = (lastResult es).or (if bit e.2.2 62 then some (bits e.2.2 61 54, bits e.2.2 31 0) else none) := by
  simp only [lastResult, List.reverse_cons, List.find?_append, Option.map_or]
  cases h : bit e.2.2 62 <;> simp [h]

/-- A lookup's reads from the key's node of level d on: its entry there, and those after it where the entry has a child. -/
theorem Trie.Stands.reads_node (hs : t.Stands) (hd : d < t.strides.length) {node : Nat}
    (hn : tabGet? t.places (nodeKey (t.nodeOn key d)) = some node) (fuel : Nat) :
    t.reads key (fuel + 1) d node = (d, node + t.indexIn key d, t.entryFor key d) ::
      if t.goesOn key d then t.reads key fuel (d + 1) (bits (t.entryFor key d) 53 32) else [] := by
  have hentry : t.entryAt d (node + t.indexIn key d) = t.entryFor key d := hs.entryAt_node hd hn (Nat.mod_lt _ (Nat.two_pow_pos _))
  obtain ⟨hchild, -, -⟩ := hs.entryFor_reads hd key
  rw [← hchild, ← hentry]
  rfl

/-! ## A lookup answers the longest prefix -/

/-- The longest prefix from level d on is the longest from the level after on, or where none covers the key, that of level d. -/
theorem Trie.Stands.longestFrom_step (hs : t.Stands) (hd : d < t.strides.length) (key : Nat) :
    t.longestFrom key d = (t.longestFrom key (d + 1)).or (t.longestAt key d) := by
  unfold Trie.longestFrom Trie.longestAt longest
  rw [← leastBy_filter_or]
  · congr 2
    funext p
    rw [← Bool.and_or_distrib_right]
    congr 1
    rw [Bool.eq_iff_iff]
    simp only [decide_eq_true_eq, Bool.or_eq_true, beq_iff_eq]
    omega
  · intro x hx y hy hxl hyl
    simp only [Bool.and_eq_true, decide_eq_true_eq, beq_iff_eq] at hxl hyl
    have hxn := mt (Trie.levelOf_le_iff hd).2 (Nat.not_le.2 hxl.1)
    have hyn := (Trie.levelOf_le_iff hd).1 hyl.1.le
    have := (hs.plen_le_width hx).trans t.width_le
    omega

/-- No prefix below level d covers a key whose entry there has no child. -/
theorem Trie.Stands.longestFrom_leaf (hs : t.Stands) (hd : d < t.strides.length) (h : t.goesOn key d = false) : t.longestFrom key (d + 1) = none := by
  refine leastBy_eq_none_iff.2 (List.filter_eq_nil_iff.2 fun p hp hc => ?_)
  simp only [Bool.and_eq_true, decide_eq_true_eq] at hc
  obtain ⟨hlevel, hcov⟩ := hc
  have hlen := Nat.not_le.1 (mt (Trie.levelOf_le_iff hd).2 (Nat.not_le.2 hlevel))
  refine List.any_eq_false.1 h p hp ?_
  rw [Bool.and_eq_true, decide_eq_true_eq, beq_iff_eq]
  exact ⟨hlen, topBits_eq_of_covers hcov hlen.le (hs.plen_le_width hp)⟩

theorem Trie.Stands.longestFrom_length (hs : t.Stands) (key : Nat) : t.longestFrom key t.strides.length = none := by
  refine leastBy_eq_none_iff.2 (List.filter_eq_nil_iff.2 fun p hp hc => ?_)
  simp only [Bool.and_eq_true, decide_eq_true_eq] at hc
  exact Nat.not_le.2 (Trie.levelOf_lt_length hs.plan (hs.plen_le p hp)) hc.1

/-- From a key's node of level d on, a lookup answers the longest prefix of that level or below it. -/
theorem Trie.Stands.lastResult_reads (hs : t.Stands) (key fuel : Nat) {node : Nat} (hf : d + fuel = t.strides.length)
    (hn : d < t.strides.length → tabGet? t.places (nodeKey (t.nodeOn key d)) = some node) :
    lastResult (t.reads key fuel d node) = (t.longestFrom key d).map (fun p => (p.plen, p.value)) := by
  induction fuel generalizing d node with
  | zero => rw [show d = t.strides.length from hf, hs.longestFrom_length]; rfl
  | succ fuel ih =>
    have hd : d < t.strides.length := by omega
    obtain ⟨-, hnext, hresult⟩ := hs.entryFor_reads hd key
    rw [hs.reads_node hd (hn hd), lastResult_cons, hresult, hs.longestFrom_step hd, Option.map_or]
    congr 1
    cases hg : t.goesOn key d with
    | true => rw [if_pos rfl, ih (by omega) fun _ => hnext hg]
    | false => rw [if_neg (by decide), hs.longestFrom_leaf hd hg]; rfl

/-- The root is the node of level 0 of every key. -/
theorem Trie.Stands.root_place (hs : t.Stands) (hk : key < 2 ^ t.width) : tabGet? t.places (nodeKey (t.nodeOn key 0)) = some t.root := by
  have hpath : t.nodeOn key 0 = (0, 0) := congrArg (Prod.mk 0) (Nat.div_eq_of_lt hk)
  have hroot : (0, 0) ∈ t.nodes :=
    List.mem_flatMap.2 ⟨0, List.mem_range.2 (List.length_pos_iff.2 hs.plan), List.mem_singleton.2 rfl⟩
  obtain ⟨a, ha, -⟩ := hs.place _ hroot
  rw [hpath, ha, Trie.root, tabGet, show tabGet? t.places 0 = some a from ha, Option.getD_some]

/-- R169, R170: a lookup answers the longest prefix that covers the key. -/
theorem Trie.Stands.lookup_longest (hs : t.Stands) (hk : key < 2 ^ t.width) :
    t.lookup key = (longest (t.prefixes.filter (fun p => covers t.width p key))).map (fun p => (p.plen, p.value)) := by
  rw [t.lookup_eq, hs.lastResult_reads key _ (Nat.zero_add _) fun _ => hs.root_place hk]
  simp [Trie.longestFrom]

theorem Trie.Stands.lookup_eq_none (hs : t.Stands) (hk : key < 2 ^ t.width) :
    t.lookup key = none ↔ ∀ p ∈ t.prefixes, ¬ covers t.width p key = true := by
  rw [hs.lookup_longest hk, Option.map_eq_none_iff, longest, leastBy_eq_none_iff, List.filter_eq_nil_iff]

theorem Trie.Stands.lookup_eq_some (hs : t.Stands) (hk : key < 2 ^ t.width) {l v : Nat} (h : t.lookup key = some (l, v)) :
    (∃ p ∈ t.prefixes, covers t.width p key = true ∧ p.plen = l ∧ p.value = v) ∧
      ∀ q ∈ t.prefixes, covers t.width q key = true → q.plen ≤ l := by
  rw [hs.lookup_longest hk, Option.map_eq_some_iff] at h
  obtain ⟨p, hp, hpl⟩ := h
  cases hpl
  obtain ⟨hmem, hleast⟩ := leastBy_eq_some hp
  obtain ⟨hmem, hcov⟩ := List.mem_filter.1 hmem
  refine ⟨⟨p, hmem, hcov, rfl, rfl⟩, fun q hq hqc => ?_⟩
  have := hleast q (List.mem_filter.2 ⟨hq, hqc⟩)
  have := (hs.plen_le_width hq).trans t.width_le
  omega

end

/-! ## The learn table (R175, R176) -/

section
variable {s : State} {k : LearnKey}

/-- Entry n of the two halves, where it is the key's. -/
def State.wayHit (s : State) (k : LearnKey) (n : Nat) : Option (LearnPlace × LearnEntry) :=
  (s.learnAt n).bind (fun e => if e.key = k then some (.bucket n, e) else none)

/-- A stash entry, where it is the key's. -/
def stashHit (k : LearnKey) (x : Nat × LearnEntry) : Option (LearnPlace × LearnEntry) := if x.2.key = k then some (.stash x.1, x.2) else none

/-- The entries of the two buckets of a key. -/
def State.ways (s : State) (k : LearnKey) : List Nat :=
  (List.range 4).map (4 * (s.learnBuckets k).1 + ·) ++ (List.range 4).map (4 * (s.learnBuckets k).2 + ·)

theorem mem_ways {n : Nat} : n ∈ s.ways k ↔ n / 4 = (s.learnBuckets k).1 ∨ n / 4 = (s.learnBuckets k).2 := by
  have hway : ∀ c, n ∈ (List.range 4).map (4 * c + ·) ↔ n / 4 = c := by
    intro c
    simp only [List.mem_map, List.mem_range]
    exact ⟨fun ⟨i, hi, he⟩ => by omega, fun h => ⟨n % 4, by omega, by omega⟩⟩
  rw [State.ways, List.mem_append, hway, hway]

/-- R176: a lookup reads both buckets and the stash. -/
theorem findLearn_eq (s : State) (k : LearnKey) :
    s.findLearn k = ((s.ways k).findSome? (s.wayHit k)).or (s.tables.stash.findSome? (stashHit k)) := by
  have hway : (fun n => match s.learnAt n with | some e => if e.key = k then some (LearnPlace.bucket n, e) else none | none => none) =
      s.wayHit k := by
    funext n
    rw [State.wayHit]
    cases s.learnAt n <;> rfl
  rw [← hway]
  unfold State.findLearn State.ways
  obtain ⟨a, b⟩ := s.learnBuckets k
  dsimp only
  split
  case h_1 x hx => exact hx.symm ▸ rfl
  case h_2 hx => exact hx.symm ▸ rfl

theorem wayHit_eq_some {n : Nat} {x : LearnPlace} {e : LearnEntry} :
    s.wayHit k n = some (x, e) ↔ s.learnAt n = some e ∧ e.key = k ∧ x = .bucket n := by
  simp only [State.wayHit, Option.bind_eq_some_iff, Option.ite_none_right_eq_some, Option.some.injEq, Prod.mk.injEq]
  exact ⟨fun ⟨y, hy, hk, hx, he⟩ => ⟨he ▸ hy, he ▸ hk, hx.symm⟩, fun ⟨hy, hk, hx⟩ => ⟨e, hy, hk, hx.symm, rfl⟩⟩

/-- A learn lookup answers an entry of the key only, and one that the table holds. -/
theorem findLearn_eq_some {x : LearnPlace} {e : LearnEntry} (h : s.findLearn k = some (x, e)) : e.key = k ∧ (x, e) ∈ s.learnEntries := by
  rw [findLearn_eq, Option.or_eq_some_iff] at h
  rcases h with hway | ⟨-, hstash⟩
  · obtain ⟨n, -, hn⟩ := List.exists_of_findSome?_eq_some hway
    obtain ⟨hat, hk, rfl⟩ := wayHit_eq_some.1 hn
    exact ⟨hk, List.mem_append_left _ (List.mem_map.2 ⟨(n, e), mem_of_tabGet? hat, rfl⟩)⟩
  · obtain ⟨y, hy, hfound⟩ := List.exists_of_findSome?_eq_some hstash
    obtain ⟨hk, he⟩ := Option.ite_none_right_eq_some.1 hfound
    cases he
    exact ⟨hk, List.mem_append_right _ (List.mem_map_of_mem hy)⟩

/-- A learn lookup finds a key that lies in a bucket of it. -/
theorem findLearn_ne_none_of_bucket {n : Nat} {e : LearnEntry} (hat : s.learnAt n = some e) (hk : e.key = k)
    (hn : n / 4 = (s.learnBuckets k).1 ∨ n / 4 = (s.learnBuckets k).2) : s.findLearn k ≠ none := by
  intro h
  rw [findLearn_eq, Option.or_eq_none_iff, List.findSome?_eq_none_iff] at h
  have hmiss := h.1 n (mem_ways.2 hn)
  rw [wayHit_eq_some.2 ⟨hat, hk, rfl⟩] at hmiss
  cases hmiss

/-- A learn lookup finds a key that lies in the stash. -/
theorem findLearn_ne_none_of_stash {x : Nat × LearnEntry} (hx : x ∈ s.tables.stash) (hk : x.2.key = k) : s.findLearn k ≠ none := by
  intro h
  rw [findLearn_eq, Option.or_eq_none_iff, List.findSome?_eq_none_iff (p := stashHit k)] at h
  have hmiss := h.2 x hx
  rw [stashHit, if_pos hk] at hmiss
  cases hmiss

end

/-! ## The LKP commands (R252, Table 8.20) -/

section
variable {s u : State} {h : Hdr} {x : HArgs}

/-- The operands that a command reads are those of its registers. -/
theorem op_hregs (u : State) (h : Hdr) (x : HArgs) (k : Nat) :
    op ((hregs x.hb.toNat x.nop.toNat).map (fun n => ((u.sees h).rh n).toNat)) k = u.opnd h x k := by
  by_cases hk : k < x.nop.toNat <;> simp [op, hregs, State.opnd, Ctx.rh, hk]

/-- The key that LEARN and LEARN_LOOKUP name by their operands (Table 8.20), for a frame of tenant `ten`. -/
def operandKey (o : Nat → Nat) (ten : Nat) : LearnKey where
  ktype := o 0 / 2 ^ 36 % 16
  tenant := if ten = 0 then o 0 / 2 ^ 28 % 256 else ten
  fid := o 0 / 2 ^ 16 % 4096
  address := o 0 % 2 ^ 16 * 2 ^ 32 + o 1 % 2 ^ 32

/-- The key of a wide lookup, first operand first. -/
def wideKey (o : Nat → Nat) : Nat := o 0 % 2 ^ 32 * 2 ^ 96 + o 1 % 2 ^ 32 * 2 ^ 64 + o 2 % 2 ^ 32 * 2 ^ 32 + o 3 % 2 ^ 32

theorem learnKeyOf_hregs (w : State) : w.learnKeyOf h.core ((hregs x.hb.toNat x.nop.toNat).map (fun n => ((u.sees h).rh n).toNat)) =
    operandKey (u.opnd h x) (w.lkpTenant h.core) := by
  simp [State.learnKeyOf, operandKey, op_hregs, bits]

/-- TRIE with one operand is a lookup of a narrow key, with four of a wide one. -/
theorem exec_opLkpTrie_commands {e : Ecc} {narrow : Bool} (hc : Commands s u h x 0 [1, 4] [2]) (hn : (x.nop.toNat == 1) = narrow) :
    let r := (u.countIssue h.core).lkpTrie ((u.countIssue h.core).lkpTenant h.core) (u.opnd h x 0 / 2 ^ 32 % 64)
      (if narrow then u.opnd h x 0 % 2 ^ 32 else wideKey (u.opnd h x)) narrow e
    exec (.opLkpTrie h x e) s = .next (u.commands h x 0 r.2 r.1) := by
  refine (exec_opLkpTrie h x e s).trans (helper_commands hc ?_)
  simp [hn, op_hregs, bits, wideKey]

theorem exec_opLkpLearnLookup_commands {e : Ecc} (hc : Commands s u h x 0 [2] [1]) :
    let r := (u.countIssue h.core).lkpLookup (operandKey (u.opnd h x) ((u.countIssue h.core).lkpTenant h.core)) e
    exec (.opLkpLearnLookup h x e) s = .next (u.commands h x 0 r.2 [r.1]) := by
  refine (exec_opLkpLearnLookup h x e s).trans (helper_commands hc ?_)
  rw [learnKeyOf_hregs]

theorem exec_opLkpLearn_commands {e : Ecc} (hc : Commands s u h x 0 [3] [0, 1]) :
    let r := (u.countIssue h.core).lkpLearn (operandKey (u.opnd h x) ((u.countIssue h.core).lkpTenant h.core))
      (u.opnd h x 2 / 2 ^ 16 % 256) (u.opnd h x 2 % 2 ^ 16) e
    exec (.opLkpLearn h x e) s = .next (u.commands h x 0 r.2 [r.1]) := by
  refine (exec_opLkpLearn h x e s).trans (helper_commands hc ?_)
  simp [learnKeyOf_hregs, op_hregs, bits]

/-- GROUP of a run with a frame selects over the frame's flow key. -/
theorem exec_opLkpGroup_frame (hc : Commands s u h x 0 [1] [1]) {f : Nat} {fr : Frame} {c : Card} (hf : (u.countIssue h.core).runFid h.core = some f)
    (hfr : (u.countIssue h.core).frame? f = some fr) (hcard : fr.card = some c) :
    let w := u.countIssue h.core
    let r := w.lkpGroup (some f) (u.opnd h x 0 % 4096) (w.lkpTenant h.core) (w.frameKey fr c)
    exec (.opLkpGroup h x) s = .next (u.commands h x 0 r.2 [r.1]) := by
  have hc' : (u.countIssue h.core).cardOf? f = some c := by rw [State.cardOf?, hfr, Option.bind_some, hcard]
  refine (exec_opLkpGroup h x s).trans (helper_commands hc ?_)
  simp [hf, hfr, hc', op_hregs, bits]

theorem lkpTenant_drawBytes (s : State) (r : CoreRef) : s.drawBytes.2.lkpTenant r = s.lkpTenant r := by cases r <;> rfl

/-- GROUP of a run without a frame selects over a free value. -/
theorem exec_opLkpGroup_noFrame (hc : Commands s u h x 0 [1] [1]) (hf : (u.countIssue h.core).runFid h.core = none) :
    let w := (u.countIssue h.core).drawBytes
    let r := w.2.lkpGroup none (u.opnd h x 0 % 4096) ((u.countIssue h.core).lkpTenant h.core) w.1
    exec (.opLkpGroup h x) s = .next (u.commands h x 0 r.2 [r.1]) := by
  refine (exec_opLkpGroup h x s).trans (helper_commands hc ?_)
  simp [hf, op_hregs, bits, lkpTenant_drawBytes]

theorem exec_opLkpFragRead_none (hc : Commands s u h x 0 [0] [2]) (hf : (u.countIssue h.core).cardFrag h.core = none) :
    exec (.opLkpFragRead h x) s = .next (u.commands h x 0 (u.countIssue h.core) [0, 0]) := by
  refine (exec_opLkpFragRead h x s).trans (helper_commands hc ?_)
  rw [hf]

/-- The code of an entry's state in the result of FRAG_READ (Table 8.20). -/
def FragState.code : FragState → Nat
  | .pending => 0
  | .decided => 1
  | .dropped => 2

theorem exec_opLkpFragRead_some (hc : Commands s u h x 0 [0] [2]) {n : Nat} {g : FragEntry}
    (hf : (u.countIssue h.core).cardFrag h.core = some (n, g)) :
    exec (.opLkpFragRead h x) s = .next (u.commands h x 0 (u.countIssue h.core)
      [2 ^ 39 + g.st.code * 2 ^ 37, g.verdict.toNat]) := by
  refine (exec_opLkpFragRead h x s).trans (helper_commands hc ?_)
  rw [hf]
  rfl

/-- Whether FRAG_WRITE takes effect on an entry: it is PENDING, and the thread runs its first fragment and has not released it. -/
def State.mayDecide (w : State) (tid : Nat) (g : FragEntry) : Prop :=
  g.st = .pending ∧ w.runFid (.strider tid) = some g.first ∧ (w.thread tid).released = false

theorem exec_opLkpFragWrite_decides (hc : Commands s u h x 0 [1] [0, 1]) {tid n : Nat} {g : FragEntry} (ht : h.core = .strider tid)
    (hf : (u.countIssue h.core).cardFrag h.core = some (n, g)) (hm : (u.countIssue h.core).mayDecide tid g) :
    exec (.opLkpFragWrite h x) s =
      .next (u.commands h x 0 ((u.countIssue h.core).setFrag n { g with verdict := BitVec.ofNat 40 (u.opnd h x 0) }) [2 ^ 39]) := by
  obtain ⟨hst, hfirst, hrel⟩ := hm
  refine (exec_opLkpFragWrite h x s).trans (helper_commands hc ?_)
  rw [ht] at hf hrel hfirst ⊢
  simp only [hf]
  rw [if_pos (by simp [hst, hfirst, hrel]), ← ht, op_hregs]

theorem exec_opLkpFragWrite_leaves (hc : Commands s u h x 0 [1] [0, 1]) {tid : Nat} (ht : h.core = .strider tid)
    (hm : ∀ n g, (u.countIssue h.core).cardFrag h.core = some (n, g) → ¬ (u.countIssue h.core).mayDecide tid g) :
    exec (.opLkpFragWrite h x) s = .next (u.commands h x 0 (u.countIssue h.core) [0]) := by
  refine (exec_opLkpFragWrite h x s).trans (helper_commands hc ?_)
  rw [ht] at hm ⊢
  cases hf : (u.countIssue (.strider tid)).cardFrag (.strider tid) with
  | none => rfl
  | some e =>
    obtain ⟨n, g⟩ := e
    have hno := hm n g hf
    refine if_neg ?_
    simpa [State.mayDecide, and_assoc] using hno

theorem released_countIssue (u : State) (r : CoreRef) (tid : Nat) : ((u.countIssue r).thread tid).released = (u.thread tid).released := by
  cases r with
  | starter k => rfl
  | strider y =>
    change ((u.modThread y (fun t => { t with ctx := { t.ctx with issued := t.ctx.issued + 1 } })).thread tid).released = _
    by_cases hy : tid = y
    · rw [hy, State.thread_modThread_same]
    · rw [State.thread_modThread_other _ _ hy]

end

/-! ## The statement -/

/-- Settles O16: which key, trie, group or entry the LKP commands name, and what a lookup of a trie and of the learn table answers. -/
theorem lookupResults : Obligations.LookupResults := by
  refine ⟨fun s u h x e => ⟨fun hc hn => ?narrow, fun hc hn => ?wide, exec_opLkpLearnLookup_commands, exec_opLkpLearn_commands,
    fun hc f fr c => exec_opLkpGroup_frame hc, fun hc hf => ⟨_, exec_opLkpGroup_noFrame hc hf⟩,
    fun hc => ⟨exec_opLkpFragRead_none hc, fun n g => exec_opLkpFragRead_some hc⟩,
    fun hc tid ht => ⟨fun n g hf hst hrun hrel => ?decides, fun hno => ?leaves⟩⟩,
    fun s t key k => ⟨fun hplan hlev hsum hk hplaced hpre => ?trie, fun x e => findLearn_eq_some, fun n e hk hat hn => findLearn_ne_none_of_bucket hat hk hn,
      fun n e hk hx => findLearn_ne_none_of_stash hx hk⟩⟩
  case narrow => exact exec_opLkpTrie_commands (narrow := true) hc (by rw [hn]; rfl)
  case wide => exact exec_opLkpTrie_commands (narrow := false) hc (by rw [hn]; rfl)
  case decides => exact exec_opLkpFragWrite_decides hc ht hf ⟨hst, ht ▸ hrun, (released_countIssue ..).trans hrel⟩
  case leaves =>
    refine exec_opLkpFragWrite_leaves hc ht fun n g hf ⟨hst, hrun, hrel⟩ => ?_
    rcases hno n g hf with hdecided | hlater | hreleased
    · exact hdecided hst
    · exact hlater (ht.symm ▸ hrun)
    · rw [released_countIssue, hreleased] at hrel
      cases hrel
  case trie =>
    obtain ⟨hplace, -, hapart⟩ := hplaced
    have hs : t.Stands := ⟨hplan, hlev, hsum, fun p hp => (hpre p hp).1, fun p hp => (hpre p hp).2.2, hplace, hapart⟩
    simp only [← covers_iff]
    exact ⟨hs.lookup_eq_none hk, fun l v h => hs.lookup_eq_some hk h⟩

end Sys2Proof.Machine
end

section
/-! PROOFS. What an instruction leaves unchanged (R215, R225, R239 to R241, R245, R370). -/

namespace Sys2Proof.Machine

/-! ## What the end of an instruction leaves of the registers (R233, R234, R240) -/

/-- Two contexts agree but in the destinations named, the loop counts, the pc, the slot with what it may undo, the writes under way and the
fetch buffer. -/
structure Ctx.SameBut (dests : List Dest) (c d : Ctx) : Prop where
  h : d.h = c.h
  pendH : d.pendH = c.pendH
  link : d.link = c.link
  reserved : d.reserved = c.reserved
  trapFill : d.trapFill = c.trapFill
  issued : d.issued = c.issued
  results : d.results = c.results
  w : ∀ k, Dest.w k ∉ dests → d.rw k = c.rw k
  a : ∀ k, Dest.a k ∉ dests → tabGet d.a k 0 = tabGet c.a k 0
  m : ∀ k, Dest.m k ∉ dests → tabGet d.m k 0 = tabGet c.m k 0
  ls : ∀ k, Dest.ls k ∉ dests → tabGet d.ls k 0 = tabGet c.ls k 0
  le : ∀ k, Dest.le k ∉ dests → tabGet d.le k 0 = tabGet c.le k 0
  flags : Dest.flags ∉ dests → d.flags = c.flags
  lsmem : Dest.lsmem ∉ dests → d.lsmem = c.lsmem

section
variable {dests : List Dest} {c d e : Ctx}

/-- Contexts that differ in the loop counts, the pc, the slot, the writes and the fetch buffer only. -/
theorem Ctx.SameBut.of_eq (hd : { d with lc := c.lc, pc := c.pc, slot := c.slot, undo := c.undo, writes := c.writes, fetched := c.fetched } = c) :
    Ctx.SameBut dests c d := by
  rw [← hd]
  constructor <;> intros <;> rfl

theorem Ctx.SameBut.trans (hcd : Ctx.SameBut dests c d) (hde : Ctx.SameBut dests d e) : Ctx.SameBut dests c e where
  h := hde.h.trans hcd.h
  pendH := hde.pendH.trans hcd.pendH
  link := hde.link.trans hcd.link
  reserved := hde.reserved.trans hcd.reserved
  trapFill := hde.trapFill.trans hcd.trapFill
  issued := hde.issued.trans hcd.issued
  results := hde.results.trans hcd.results
  w k hk := (hde.w k hk).trans (hcd.w k hk)
  a k hk := (hde.a k hk).trans (hcd.a k hk)
  m k hk := (hde.m k hk).trans (hcd.m k hk)
  ls k hk := (hde.ls k hk).trans (hcd.ls k hk)
  le k hk := (hde.le k hk).trans (hcd.le k hk)
  flags hk := (hde.flags hk).trans (hcd.flags hk)
  lsmem hk := (hde.lsmem hk).trans (hcd.lsmem hk)

theorem setW_eq (c : Ctx) (n : Nat) (v : W40) : c.setW n v = { c with w := (c.setW n v).w } := by
  unfold Ctx.setW
  split <;> rfl

theorem Ctx.SameBut.undo (hcd : Ctx.SameBut dests c d) (x : Option Undo) : Ctx.SameBut dests c { d with undo := x } :=
  hcd.trans (.of_eq rfl)

theorem rw_setW_other {n k : Nat} (v : W40) (hk : k ≠ n) : (c.setW n v).rw k = c.rw k := by
  by_cases hn : n = 0
  · rw [Ctx.setW, if_pos hn]
  · rw [Ctx.setW, if_neg hn, Ctx.rw, Ctx.rw, tabGet_put_other _ _ _ _ hk]

/-- A destination that takes its value changes nothing else. -/
theorem Ctx.take_sameBut {dst : Dest} (hdst : dst ∈ dests) (v : W40) : Ctx.SameBut dests c (c.take dst v) := by
  have hother : ∀ {f : Nat → Dest} {n k : Nat}, f n ∈ dests → f k ∉ dests → k ≠ n := fun hn hk hkn => hk (hkn ▸ hn)
  cases dst with
  | w n =>
    have hs : c.take (.w n) v = { c with w := (c.setW n v).w } := setW_eq c n v
    have hw : ∀ k, Dest.w k ∉ dests → (c.take (.w n) v).rw k = c.rw k := fun k hk => rw_setW_other v (hother hdst hk)
    rw [hs] at hw ⊢
    constructor
    case w => exact hw
    all_goals intros; rfl
  | a n =>
    constructor
    case a => exact fun k hk => tabGet_put_other _ _ _ _ (hother hdst hk)
    all_goals intros; rfl
  | m n =>
    constructor
    case m => exact fun k hk => tabGet_put_other _ _ _ _ (hother hdst hk)
    all_goals intros; rfl
  | ls n =>
    constructor
    case ls => exact fun k hk => tabGet_put_other _ _ _ _ (hother hdst hk)
    all_goals intros; rfl
  | le n =>
    constructor
    case le => exact fun k hk => tabGet_put_other _ _ _ _ (hother hdst hk)
    all_goals intros; rfl
  | lc n => exact .of_eq rfl
  | flags =>
    constructor
    case flags => exact fun hk => absurd hdst hk
    all_goals intros; rfl
  | lsmem =>
    constructor
    case lsmem => exact fun hk => absurd hdst hk
    all_goals intros; rfl

theorem Ctx.takes_sameBut (ps : List PendWrite) (hps : ∀ p ∈ ps, p.dst ∈ dests) (hcd : Ctx.SameBut dests c d) :
    Ctx.SameBut dests c (ps.foldl (fun c p => c.take p.dst p.value) d) := by
  induction ps generalizing d with
  | nil => exact hcd
  | cons p ps ih =>
    exact ih (fun q hq => hps q (List.mem_cons_of_mem p hq)) (hcd.trans (Ctx.take_sameBut (hps p List.mem_cons_self) p.value))

/-- The boundary after an instruction takes the writes that are due, of those under way. -/
theorem Ctx.land_sameBut (n : Nat) (hw : ∀ p ∈ d.writes, p.dst ∈ dests) (hcd : Ctx.SameBut dests c d) : Ctx.SameBut dests c (d.land n) :=
  Ctx.takes_sameBut _ (fun p hp => hw p (List.mem_of_mem_filter hp)) (hcd.trans (.of_eq rfl))

theorem Ctx.loopTest_go_sameBut (pc next : Addr) (levels : List Nat) (hcd : Ctx.SameBut dests c d) :
    Ctx.SameBut dests c (Ctx.loopTest.go pc next levels d).1 := by
  induction levels generalizing d with
  | nil => exact hcd
  | cons lv levels ih =>
    simp only [Ctx.loopTest.go]
    split
    · split
      · exact hcd.trans (.of_eq rfl)
      · exact ih (hcd.trans (.of_eq rfl))
    · exact ih hcd

/-- The loop test changes the loop counts alone. -/
theorem Ctx.loopTest_sameBut (pc next : Addr) (hcd : Ctx.SameBut dests c d) : Ctx.SameBut dests c (d.loopTest pc next).1 :=
  Ctx.loopTest_go_sameBut pc next _ hcd

/-- An instruction that has issued leaves every register but the destinations of its writes and of those under way. -/
theorem finish_sameBut (c : Ctx) (n size : Nat) (lock : Bool) (ws : List (Dest × W40 × Nat)) (opens : Option Slot) :
    Ctx.SameBut (c.writes.map PendWrite.dst ++ ws.map Prod.fst) c (finish c n size lock ws opens) := by
  have hdst : ∀ p ∈ (c.addWrites n lock ws).writes, p.dst ∈ c.writes.map PendWrite.dst ++ ws.map Prod.fst := by
    intro p hp
    rcases List.mem_append.1 hp with hold | hnew
    · exact List.mem_append_left _ (List.mem_map_of_mem hold)
    · obtain ⟨w, hw, rfl⟩ := List.mem_map.1 hnew
      exact List.mem_append_right _ (List.mem_map_of_mem hw)
  have hland := Ctx.land_sameBut (c := c) n hdst (.of_eq rfl)
  have hbuf : ∀ f, Ctx.SameBut _ c { (c.addWrites n lock ws).land n with fetched := f } := fun f => hland.trans (.of_eq rfl)
  unfold finish
  cases opens with
  | some sl => exact (hbuf _).trans (.of_eq rfl)
  | none =>
    dsimp only
    split
    · exact (hbuf 0).trans (.of_eq rfl)
    · exact (Ctx.loopTest_sameBut _ _ (hbuf _)).trans (.of_eq rfl)
    · exact (Ctx.loopTest_sameBut _ _ (hbuf _)).trans (.of_eq rfl)
    · exact (Ctx.loopTest_sameBut _ _ (hbuf _)).trans (.of_eq rfl)
    · exact (Ctx.loopTest_sameBut _ _ (hbuf _)).trans (.of_eq rfl)

end

/-! ## What the context of one thread or core leaves of the state -/

section
variable {v : State} {r : CoreRef} {c : Ctx}

theorem setCtx_rest : { v.setCtx r c with strider.threads := v.strider.threads, starter.cores := v.starter.cores } = v := by
  cases r <;> rfl

theorem thread_setCtx (x : Nat) : { (v.setCtx r c).thread x with ctx := (v.thread x).ctx } = v.thread x := by
  cases r with
  | starter k => rfl
  | strider y =>
    unfold State.setCtx
    by_cases hx : x = y
    · rw [hx, State.thread_modThread_same]
    · rw [State.thread_modThread_other _ _ hx]

theorem core_setCtx (k : Nat) : { (v.setCtx r c).core k with ctx := (v.core k).ctx } = v.core k := by
  cases r with
  | strider y => rfl
  | starter j =>
    unfold State.setCtx
    by_cases hk : k = j
    · rw [hk, State.core_modCore_same]
    · rw [State.core_modCore_other _ _ hk]

theorem ctx_setCtx_other {q : CoreRef} (hq : q ≠ r) : (v.setCtx r c).ctx q = v.ctx q := by
  cases r with
  | strider y => cases q with
    | starter k => rfl
    | strider x => exact congrArg Thread.ctx (State.thread_modThread_other _ _ (fun hx => hq (hx ▸ rfl)))
  | starter j => cases q with
    | strider x => rfl
    | starter k => exact congrArg Core.ctx (State.core_modCore_other _ _ (fun hk => hq (hk ▸ rfl)))

end

/-! ## What counting an issued instruction changes (R215, R225, R370) -/

section
variable {u : State} {r : CoreRef}

theorem countIssue_rest : { u.countIssue r with
    strider.threads := u.strider.threads, strider.squads := u.strider.squads, starter.cores := u.starter.cores } = u := by
  cases r <;> rfl

theorem thread_countIssue_strider (x y : Nat) : (u.countIssue (.strider y)).thread x =
    (u.modThread y (fun t => { t with ctx := { t.ctx with issued := t.ctx.issued + 1 } })).thread x := rfl

theorem ctx_countIssue_same : (u.countIssue r).ctx r = { u.ctx r with issued := (u.ctx r).issued + 1 } := by
  cases r with
  | strider x =>
    refine (congrArg Thread.ctx (thread_countIssue_strider x x)).trans ?_
    rw [State.thread_modThread_same]
    rfl
  | starter k => exact congrArg Core.ctx (State.core_modCore_same u k _)

theorem ctx_countIssue_other {q : CoreRef} (hq : q ≠ r) : (u.countIssue r).ctx q = u.ctx q := by
  cases r with
  | strider y => cases q with
    | starter k => rfl
    | strider x =>
      have hxy : x ≠ y := fun hx => hq (hx ▸ rfl)
      refine (congrArg Thread.ctx (thread_countIssue_strider x y)).trans ?_
      rw [State.thread_modThread_other _ _ hxy]
      rfl
  | starter j => cases q with
    | strider x => rfl
    | starter k => exact congrArg Core.ctx (State.core_modCore_other _ _ (fun hk => hq (hk ▸ rfl)))

theorem thread_countIssue (x : Nat) : { (u.countIssue r).thread x with ctx := (u.thread x).ctx } = u.thread x := by
  cases r with
  | starter k => rfl
  | strider y =>
    rw [thread_countIssue_strider]
    by_cases hx : x = y
    · rw [hx, State.thread_modThread_same]
    · rw [State.thread_modThread_other _ _ hx]

theorem core_countIssue (k : Nat) :
    { (u.countIssue r).core k with ctx := (u.core k).ctx, userCount := (u.core k).userCount } = u.core k := by
  cases r with
  | strider y => rfl
  | starter j =>
    unfold State.countIssue
    by_cases hk : k = j
    · rw [hk, State.core_modCore_same]
    · rw [State.core_modCore_other _ _ hk]

/-- The squad of a thread that issues counts the slot. -/
theorem squad_countIssue_own (x : Nat) : (u.countIssue (.strider x)).squad (squadOf x) =
    { u.squad (squadOf x) with slots := addSlot u.time.gun (u.squad (squadOf x)).slots } := State.squad_modSquad_same _ _ _

theorem squad_countIssue_other {k : Nat} (hk : ∀ x, r = .strider x → squadOf x ≠ k) : (u.countIssue r).squad k = u.squad k := by
  cases r with
  | starter j => rfl
  | strider x => exact State.squad_modSquad_other _ _ (fun h => hk x rfl h.symm)

theorem squad_countIssue_slots (k : Nat) : { (u.countIssue r).squad k with slots := (u.squad k).slots } = u.squad k := by
  by_cases hk : ∃ x, r = .strider x ∧ squadOf x = k
  · obtain ⟨x, rfl, rfl⟩ := hk
    rw [squad_countIssue_own]
  · rw [squad_countIssue_other fun x hx hxk => hk ⟨x, hx, hxk⟩]

end

/-! ## The statement -/

/-- What an instruction leaves is the state that its body made, with registers of its own thread or core that differ in the destinations of
its writes and of those under way. -/
theorem instruction_leaves {u v t : State} {h : Hdr} {ws : List (Dest × W40 × Nat)}
    (ht : t = u.leaves h v ws ∨ (∃ taken a, ws = [] ∧ t = u.transfers h v taken a) ∨ (v = u.countIssue h.core ∧ ∃ skip, t = u.loops h ws skip)) :
    ∃ d, t = v.setCtx h.core d ∧ Ctx.SameBut ((v.ctx h.core).writes.map PendWrite.dst ++ ws.map Prod.fst) (v.ctx h.core) d := by
  rcases ht with rfl | ⟨taken, a, rfl, rfl⟩ | ⟨rfl, skip, rfl⟩
  · exact ⟨_, rfl, finish_sameBut ..⟩
  · exact ⟨_, rfl, (finish_sameBut ..).undo _⟩
  · exact ⟨_, rfl, (finish_sameBut ..).undo _⟩

/-- Settles O8: an instruction's end replaces the context of who executes, and that context differs in its destinations. -/
theorem instructionFrames : Obligations.InstructionFrames := by
  refine ⟨fun u v t h ws ht => ?_, fun u r => ?_⟩
  · obtain ⟨d, rfl, hd⟩ := instruction_leaves ht
    simp only [State.ctx_setCtx_same]
    exact ⟨setCtx_rest, fun r hr => ctx_setCtx_other hr, thread_setCtx, core_setCtx, hd.h, hd.pendH, hd.link, hd.reserved, hd.trapFill,
      hd.issued, hd.results, hd.w, hd.a, hd.m, hd.ls, hd.le, hd.flags, hd.lsmem⟩
  · refine ⟨ctx_countIssue_same, fun q hq => ctx_countIssue_other hq, countIssue_rest, thread_countIssue, squad_countIssue_slots,
      fun k hk => squad_countIssue_other hk, fun x hx hslots => ?_, fun x n l hx hslots => ?_, core_countIssue⟩
    · rw [hx, squad_countIssue_own, hslots]
      rfl
    · rw [hx, squad_countIssue_own, hslots]
      exact if_pos rfl

end Sys2Proof.Machine
end

section
/-! PROOFS. Time, waits, priority, control registers and end (R200 to R203, R247, R354): where the statement fails. -/

namespace Sys2Proof.Machine

/-- A core in user mode that executes swait faults PRIVILEGED, whatever the time (R357). -/
theorem exec_opSwait_user {s u : State} {h : Hdr} {k : Nat} (hi : Issues s h .plain u) (hk : h.core = .starter k)
    (hu : ((u.countIssue h.core).core k).u = true) (ra : BitVec 5) :
    exec (.opSwait h ra) s = .next ((u.countIssue h.core).faultAt h.core 2 0 h.frame) := by
  refine (exec_opSwait h ra s).trans (runInstr_fault hi ?_)
  rw [hk] at hu ⊢
  simp only [State.readTime]
  exact if_pos hu

/-- Core 0 of the Starter in user mode, at an address of the extension module; no time has passed. -/
def userCore : State :=
  { State.reset with starter.cores := [(0, { Core.reset with st := .running, u := true, ctx := { Ctx.reset with pc := 0x4BC000 } })] }

/-- The header of an instruction of core 0. -/
def coreHdr : Hdr := ⟨.starter 0, false, .ok, .clean, .clean⟩

theorem userCore_issues : Issues userCore coreHdr .plain userCore := ⟨rfl, by decide, by decide⟩

/-- The exception of that fault takes the core out of user mode (R359). -/
theorem userCore_fault_leaves_user : (((userCore.countIssue coreHdr.core).faultAt coreHdr.core 2 0 coreHdr.frame).core 0).u = false := by
  decide +kernel

/-- Refutes O14: the clause of swait asks for a core out of user mode only where that core is the one named k, and leaves k free. With k = 1 it
says that core 0 in user mode goes on, where R357 has it fault PRIVILEGED, which takes it out of user mode. -/
theorem not_threadInstructionResults : ¬ Obligations.ThreadInstructionResults := by
  unfold Obligations.ThreadInstructionResults
  intro h
  obtain ⟨-, -, -, ⟨hgo, -⟩, -⟩ := (h userCore userCore coreHdr 0 0 0 0 0 1).1 userCore_issues
  have hgoes := hgo (by decide) (by simp [coreHdr])
  rw [exec_opSwait_user userCore_issues rfl (by decide)] at hgoes
  have hstate := congrArg (fun t => (t.core 0).u) (Host.Outcome.next.inj hgoes)
  rw [userCore_fault_leaves_user] at hstate
  exact absurd hstate (by decide)

end Sys2Proof.Machine
end

section
/-! PROOFS. Runs of threads (R216, R217, R304): where the statement fails. -/

namespace Sys2Proof.Machine

/-- A thread past the last, of a squad so far past the last that the count of its faults stands where the count of abandoned locks stands. -/
def farThread : Nat := 128 * ((Obj.LOCK_ABANDONS - Obj.THREAD_FAULTS) * 2 ^ 20)

theorem farThread_shares_key : objKey Obj.THREAD_FAULTS (squadOf farThread) = objKey Obj.LOCK_ABANDONS 0 := by decide

/-- That thread holds lock 0, and nothing has been counted. -/
def lockHeld : State := { State.reset with ten.locks := [(0, { Lock.reset with holder := some (midThread farThread) })] }

/-- The fault of the thread counts itself and the abandoned lock in one counter. -/
theorem lockHeld_fault_counts_twice :
    (lockHeld.stopThread farThread 1 0).cfg Obj.THREAD_FAULTS (squadOf farThread) = 2 := by decide +kernel

/-- A card with every field zero. -/
def zeroCard : Card :=
  ⟨0, 0, 0, 0, 0, 0, 0, 0, 0, 0, ⟨false, false, false, false, false, false, false, false, false, false, false⟩, 0, 0, 0, 0, 0, [], [], []⟩

/-- Refutes O39: nothing bounds the thread by 1535, so its squad may be any number, and the counter of faults (400Ch) of this one shares the key of
the counter of abandoned locks (6203h). The fault of a thread that holds a lock (R304) then counts twice where the last clause says once. -/
theorem not_threadResults : ¬ Obligations.ThreadResults := by
  unfold Obligations.ThreadResults
  intro h
  obtain ⟨-, -, -, -, -, -, -, -, -, -, -, -, -, -, -, -, -, -, -, hfault⟩ :=
    h lockHeld farThread 0 0 0 0 0 0 0 1 0 zeroCard .host ⟨0, 0, 0, [], false, 0⟩ .clean
  obtain ⟨-, -, -, -, hdone⟩ := hfault
  obtain ⟨-, -, hcount⟩ := hdone (by decide)
  have hone := hcount (by decide)
  rw [lockHeld_fault_counts_twice] at hone
  exact absurd hone (by decide)

end Sys2Proof.Machine
end

section
/-! PROOFS. Loads and stores (R219, R233, R236, R246, R336, Table 8.14). -/

namespace Sys2Proof.Machine

/-! ## Big-endian numbers and their values as signed words (R5, R236) -/

theorem beNat_append_one (b : Blob) (x : Byte) : beNat (b ++ [x]) = beNat b * 256 + x.toNat := by
  simp [beNat]

theorem beNat_lt (b : Blob) : beNat b < 256 ^ b.length := by
  induction b using List.reverseRecOn with
  | nil => decide
  | append_singleton b x ih =>
    have hx : x.toNat < 256 := x.isLt
    rw [beNat_append_one, List.length_append, List.length_singleton, Nat.pow_succ]
    omega

/-- A number of 40 bits read as a signed word. -/
theorem toInt_ofNat_word {v : Nat} (hv : v < 2 ^ 40) : (BitVec.ofNat 40 v).toInt = signed 40 v := by
  rw [BitVec.toInt_eq_toNat_cond, BitVec.toNat_ofNat, Nat.mod_eq_of_lt hv, signed]
  split <;> split <;> omega

/-- A number of fewer bits than a word is not negative as a word. -/
theorem toInt_ofNat_short {v : Nat} (hv : v < 2 ^ 39) : (BitVec.ofNat 40 v).toInt = v := by
  rw [toInt_ofNat_word (by omega), signed, if_pos hv]

theorem toInt_signFrom {w v : Nat} (hw : 1 ≤ w) (hw' : w ≤ 40) (hv : v < 2 ^ w) : (signFrom w v).toInt = signed w v := by
  have hpow : (2 : Nat) ^ w = 2 * 2 ^ (w - 1) := by rw [← Nat.pow_succ', Nat.succ_eq_add_one, Nat.sub_add_cancel hw]
  have hle : (2 : Nat) ^ (w - 1) ≤ 2 ^ 39 := Nat.pow_le_pow_right (by decide) (by omega)
  have hcast : (2 : Int) ^ w = ((2 ^ w : Nat) : Int) := by push_cast; rfl
  unfold signFrom
  rw [Nat.mod_eq_of_lt hv]
  change (BitVec.ofInt 40 (signed w v)).toInt = signed w v
  rw [BitVec.toInt_ofInt]
  refine Int.bmod_eq_of_le ?_ ?_ <;> unfold signed <;> split <;> omega

/-! ## What a load answers -/

section
variable {s u v : State} {h : Hdr} {r : CoreRef} {a : Addr} {n : Nat} {b : Blob}

/-- The places of `n` bytes from an address on, as a thread or core reaches them. -/
def byteAddrs (a : Addr) (n : Nat) : List Nat := (List.range n).map (fun i => (a + BitVec.ofNat 32 i).toNat)

/-- One more byte of a core's load. -/
def coreReadNext (k : Nat) (x : Blob × State) (p : Option Place) : Blob × State :=
  match p with
  | some p => (x.1 ++ [(x.2.coreRead k p).1], (x.2.coreRead k p).2)
  | none => x

/-- A core's load reads byte after byte. -/
theorem load_core (s : State) (k : Nat) (a : Addr) (n : Nat) : s.load (.starter k) a n =
    (let ps := (byteAddrs a n).map ((s.core k).place .load)
     if n = 5 && crosses8 a.toNat 5 then .fault
     else if ps.any Option.isNone then .fault
     else if ps.contains (some .device) then .device a.toNat
     else .ok (ps.foldl (coreReadNext k) ([], s)).1 (ps.foldl (coreReadNext k) ([], s)).2) := rfl

/-- The byte that a thread's load finds at a place. -/
def State.byteAt (s : State) : Option SPlace → Byte
  | some (.pinned a) => memRead s.strider.pinned a
  | some (.lstore a) => memRead s.strider.lstore a
  | some (.window a) => memRead s.strider.windows a
  | none => 0

/-- A thread's load reads every byte where Table 7.2 has it. -/
theorem load_thread (s : State) (x : Nat) (a : Addr) (n : Nat) : s.load (.strider x) a n =
    (let ps := (byteAddrs a n).map (striderPlace x (s.thread x).released .load)
     if n = 5 && crosses8 a.toNat 5 then .fault
     else if ps.any Option.isNone then .fault
     else .ok (ps.map s.byteAt) (s.takePort x ps)) := rfl

theorem coreReads_length (k : Nat) (ps : List (Option Place)) (hps : ps.any Option.isNone = false) (x : Blob × State) :
    (ps.foldl (coreReadNext k) x).1.length = x.1.length + ps.length := by
  induction ps generalizing x with
  | nil => rfl
  | cons p ps ih =>
    rw [List.any_cons, Bool.or_eq_false_iff] at hps
    obtain ⟨q, rfl⟩ := Option.isSome_iff_exists.1 (by simpa using hps.1 : p.isSome)
    rw [List.foldl_cons, ih hps.2, coreReadNext, List.length_append, List.length_cons, List.length_cons, List.length_nil]
    omega

/-- A load that is accepted answers as many bytes as it asked for. -/
theorem load_length (hl : s.load r a n = .ok b v) : b.length = n := by
  cases r with
  | strider x =>
    rw [load_thread] at hl
    dsimp only at hl
    split at hl
    · cases hl
    · split at hl
      · cases hl
      · injection hl with hb
        rw [← hb, List.length_map, List.length_map, byteAddrs, List.length_map, List.length_range]
  | starter k =>
    rw [load_core] at hl
    dsimp only at hl
    split at hl
    · cases hl
    · split at hl
      · cases hl
      · rename_i hsome
        split at hl
        · cases hl
        · injection hl with hb
          rw [← hb, coreReads_length k _ (Bool.eq_false_iff.2 hsome), List.length_map, byteAddrs, List.length_map, List.length_range]
          exact Nat.zero_add n

/-- What a load of `n` bytes comes to, by what its access answers; `f` makes a register of the bytes. -/
theorem loadInstr_issues (hi : Issues s h .plain u) (rd : BitVec 5) (m : AMode) (e : Ecc) (n : Nat) (f : Blob → W40) :
    let a := ((u.sees h).address m).1
    let w := u.countIssue h.core
    s.loadInstr h rd m e n f = match w.load h.core a n with
      | .fault => .next (w.faultAt h.core 3 a.toNat h.frame)
      | .device d => .fault (.starterDevice d)
      | .ok b v =>
        if w.readPoisoned h.core .load a.toNat n then .next (w.faultAt h.core 0x0C a.toNat h.frame)
        else if e == .uncorrectable then .next ((v.sramEvent (sramUnit h.core) a.toNat e).faultAt h.core 0x0C a.toNat h.frame)
        else .next (u.leaves h (v.sramEvent (sramUnit h.core) a.toNat e) (((u.sees h).address m).2 ++ [wr rd (f b) 3])) := by
  refine (runInstr_issues hi).trans ?_
  dsimp only
  generalize (u.countIssue h.core).load h.core ((u.sees h).address m).1 n = access
  cases access with
  | fault => rfl
  | device d => rfl
  | ok b v =>
    dsimp only
    cases (u.countIssue h.core).readPoisoned h.core .load ((u.sees h).address m).1.toNat n with
    | true => rfl
    | false => cases e == .uncorrectable <;> rfl

/-- The same outcome by outcome, where the register that `f` makes of the bytes has the value `value`. -/
theorem loadInstr_answers (hi : Issues s h .plain u) (rd : BitVec 5) (m : AMode) (e : Ecc) {n : Nat} {f : Blob → W40} {value : Int}
    (hf : b.length = n → (f b).toInt = value) :
    let a := ((u.sees h).address m).1
    let w := u.countIssue h.core
    (w.load h.core a n = .ok b v → w.readPoisoned h.core .load a.toNat n = true →
      s.loadInstr h rd m e n f = .next (w.faultAt h.core 0x0C a.toNat h.frame)) ∧
    (w.load h.core a n = .ok b v → w.readPoisoned h.core .load a.toNat n = false →
      (e ≠ .uncorrectable → ∃ x : W40, x.toInt = value ∧ s.loadInstr h rd m e n f =
        .next (u.leaves h (v.sramEvent (sramUnit h.core) a.toNat e) (((u.sees h).address m).2 ++ [wr rd x 3]))) ∧
      (e = .uncorrectable →
        s.loadInstr h rd m e n f = .next ((v.sramEvent (sramUnit h.core) a.toNat e).faultAt h.core 0x0C a.toNat h.frame))) ∧
    (w.load h.core a n = .fault → s.loadInstr h rd m e n f = .next (w.faultAt h.core 3 a.toNat h.frame)) ∧
    (∀ d, w.load h.core a n = .device d → s.loadInstr h rd m e n f = .fault (.starterDevice d)) := by
  have hout := loadInstr_issues hi rd m e n f
  dsimp only at hout ⊢
  refine ⟨fun hl hp => ?_, fun hl hp => ⟨fun he => ⟨f b, hf (load_length hl), ?_⟩, fun he => ?_⟩, fun hl => ?_, fun d hl => ?_⟩
  · rw [hout, hl]
    exact if_pos hp
  · rw [hout, hl]
    simp only [hp, Bool.false_eq_true, if_false, beq_iff_eq, he]
  · rw [hout, hl]
    simp only [hp, Bool.false_eq_true, if_false, he, beq_self_eq_true, if_true]
  · rw [hout, hl]
  · rw [hout, hl]

/-! ## What a store answers -/

/-- The low bytes of a number, most significant first. -/
theorem beBytes_eq_map (n v : Nat) : beBytes n v = (List.range n).map (fun i => BitVec.ofNat 8 (v / 256 ^ (n - 1 - i))) := by
  induction n with
  | zero => rfl
  | succ n ih =>
    rw [beBytes, ih, List.range_succ_eq_map, List.map_cons, List.map_map]
    congr 1
    refine List.map_congr_left fun i hi => ?_
    have hexp : n + 1 - 1 - (i + 1) = n - 1 - i := by omega
    simp only [Function.comp, Nat.succ_eq_add_one, hexp]

/-- What a store of `n` bytes comes to, by what its access answers. -/
theorem storeInstr_issues (hi : Issues s h .plain u) (rs : BitVec 5) (m : AMode) (n : Nat) :
    let a := ((u.sees h).address m).1
    let w := u.countIssue h.core
    s.storeInstr h rs m n = match w.store h.core a (beBytes n ((u.sees h).r rs).toNat) with
      | .fault => .next (w.faultAt h.core 3 a.toNat h.frame)
      | .device d => .fault (.starterDevice d)
      | .ok _ v => .next (u.leaves h v ((u.sees h).address m).2) := by
  refine (runInstr_issues hi).trans ?_
  dsimp only
  generalize (u.countIssue h.core).store h.core ((u.sees h).address m).1 (beBytes n ((u.sees h).r rs).toNat) = access
  cases access <;> rfl

/-- The same outcome by outcome, the bytes written out. -/
theorem storeInstr_answers (hi : Issues s h .plain u) (rs : BitVec 5) (m : AMode) (n : Nat) :
    let a := ((u.sees h).address m).1
    let w := u.countIssue h.core
    let low := (List.range n).map (fun i => BitVec.ofNat 8 (((u.sees h).r rs).toNat / 256 ^ (n - 1 - i)))
    (w.store h.core a low = .ok b v → s.storeInstr h rs m n = .next (u.leaves h v ((u.sees h).address m).2)) ∧
    (w.store h.core a low = .fault → s.storeInstr h rs m n = .next (w.faultAt h.core 3 a.toNat h.frame)) ∧
    (∀ d, w.store h.core a low = .device d → s.storeInstr h rs m n = .fault (.starterDevice d)) := by
  have hout := storeInstr_issues hi rs m n
  dsimp only at hout ⊢
  rw [← beBytes_eq_map]
  exact ⟨fun hs => by rw [hout, hs], fun hs => by rw [hout, hs], fun d hs => by rw [hout, hs]⟩

end

/-- Settles O12: each load and store is its access with its bytes, and its register is the number they spell. -/
theorem loadStoreResults : Obligations.LoadStoreResults := by
  refine ⟨fun s u v h rd m e b hi => ?_, fun s u v h rs m o hi => ?_⟩
  · have hbytes : ∀ {n}, b.length = n → beNat b < 256 ^ n := fun hb => hb ▸ beNat_lt b
    have hzero : ∀ {n}, n ≤ 4 → b.length = n → (BitVec.ofNat 40 (beNat b)).toInt = beNat b := fun hn hb =>
      toInt_ofNat_short (lt_of_lt_of_le (hbytes hb) ((Nat.pow_le_pow_right (by decide) hn).trans (by decide)))
    exact ⟨loadInstr_answers hi rd m e (hzero (by decide)), loadInstr_answers hi rd m e (hzero (by decide)),
      loadInstr_answers hi rd m e (hzero (by decide)),
      loadInstr_answers hi rd m e fun hb => toInt_signFrom (by decide) (by decide) (hbytes hb),
      loadInstr_answers hi rd m e fun hb => toInt_signFrom (by decide) (by decide) (hbytes hb),
      loadInstr_answers hi rd m e fun hb => toInt_signFrom (by decide) (by decide) (hbytes hb),
      loadInstr_answers hi rd m e fun hb => toInt_ofNat_word (hbytes hb)⟩
  · exact ⟨storeInstr_answers hi rs m 1, storeInstr_answers hi rs m 2, storeInstr_answers hi rs m 4, storeInstr_answers hi rs m 5⟩

end Sys2Proof.Machine
end

section
/-! PROOFS. What a thread's loads and stores reach (R193, R195, R196, R236, Table 7.2). -/

namespace Sys2Proof.Machine

/-! ## Table 7.2 -/

/-- The address at which thread x has a place. -/
def SPlace.addrIn (x : Nat) : SPlace → Nat
  | .pinned p => p
  | .lstore p => p - x / 8 * 65536
  | .window p => p - windowBase x + 0x10000

theorem addrIn_of_striderPlace {x a : Nat} {released : Bool} {kind : Acc} {q : SPlace} (h : striderPlace x released kind a = some q) :
    q.addrIn x = a := by
  unfold striderPlace at h
  split at h
  · split at h
    · cases h
    · injection h with hq
      rw [← hq, SPlace.addrIn]
  split at h
  · injection h with hq
    rw [← hq, SPlace.addrIn, Nat.add_sub_cancel_left]
  split at h
  · split at h
    · cases h
    · injection h with hq
      rw [← hq, SPlace.addrIn, Nat.add_sub_cancel_left]
      omega
  split at h
  · split at h
    · injection h with hq
      rw [← hq, SPlace.addrIn, Nat.add_sub_cancel_left]
      omega
    · cases h
  · cases h

/-- Two addresses of one thread never lead to one place. -/
theorem striderPlace_inj {x a a' : Nat} {released : Bool} {kind : Acc} {q : SPlace}
    (h : striderPlace x released kind a = some q) (h' : striderPlace x released kind a' = some q) : a = a' :=
  (addrIn_of_striderPlace h).symm.trans (addrIn_of_striderPlace h')

/-- No store reaches the pinned program. -/
theorem striderPlace_store_ne_pinned (x a p : Nat) (released : Bool) : striderPlace x released .store a ≠ some (.pinned p) := by
  unfold striderPlace
  repeat' split
  all_goals simp_all

/-- The table row by row. -/
theorem striderPlace_rows (x a : Nat) (released : Bool) (kind : Acc) :
    (a < 0x2000 → striderPlace x released kind a = if kind = .store then none else some (.pinned a)) ∧
    (0x2000 ≤ a → a < 0x10000 → striderPlace x released kind a = some (.lstore (x / 8 * 65536 + a))) ∧
    (0x10000 ≤ a → a < 0x10100 → striderPlace x released kind a =
      if kind = .load ∨ (kind = .store ∧ released = false) then some (.window (320 * x + (a - 0x10000))) else none) ∧
    (0x10100 ≤ a → a < 0x10140 → striderPlace x released kind a =
      if kind = .load then some (.window (320 * x + (a - 0x10000))) else none) ∧
    (0x10140 ≤ a → striderPlace x released kind a = none) := by
  unfold striderPlace
  refine ⟨fun h => ?_, fun h h' => ?_, fun h h' => ?_, fun h h' => ?_, fun h => ?_⟩
  · rw [if_pos h]
    cases kind <;> rfl
  · rw [if_neg (by omega), if_pos h']
  · rw [if_neg (by omega), if_neg (by omega), if_pos h']
    cases kind <;> cases released <;> rfl
  · rw [if_neg (by omega), if_neg (by omega), if_neg (by omega), if_pos h']
    cases kind <;> rfl
  · rw [if_neg (by omega), if_neg (by omega), if_neg (by omega), if_neg (by omega)]

/-! ## Which accesses are refused (R193) -/

section
variable {s : State} {x n : Nat} {a : Addr} {b : Blob} {kind : Acc}

/-- Where byte i of an access at `a` lies. -/
def State.placeOf (s : State) (x : Nat) (a : Addr) (kind : Acc) (i : Nat) : Option SPlace :=
  striderPlace x (s.thread x).released kind (a + BitVec.ofNat 32 i).toNat

/-- An access of k bytes crosses an 8-byte boundary in the one width that may not, or has a byte outside its ranges. -/
def State.accessRefused (s : State) (x : Nat) (a : Addr) (kind : Acc) (k : Nat) : Prop :=
  (k = 5 ∧ 8 < a.toNat % 8 + 5) ∨ ∃ i < k, s.placeOf x a kind i = none

theorem crosses_iff : (decide (n = 5) && crosses8 a.toNat 5) = true ↔ n = 5 ∧ 8 < a.toNat % 8 + 5 := by
  simp [crosses8]

theorem anyNone_iff (f : Nat → Option SPlace) :
    ((byteAddrs a n).map f).any Option.isNone = true ↔ ∃ i < n, f (a + BitVec.ofNat 32 i).toNat = none := by
  simp only [byteAddrs, List.map_map, List.any_map, List.any_eq_true, List.mem_range, Function.comp, Option.isNone_iff_eq_none]

theorem load_thread_refused (h : s.accessRefused x a .load n) : s.load (.strider x) a n = .fault := by
  rw [load_thread]
  rcases h with hcross | hout
  · exact if_pos (crosses_iff.2 hcross)
  · dsimp only
    rw [if_pos ((anyNone_iff _).2 hout), ite_self]

theorem load_thread_reads (h : ¬ s.accessRefused x a .load n) : s.load (.strider x) a n =
    .ok ((List.range n).map (fun i => s.byteAt (s.placeOf x a .load i)))
      (s.takePort x ((byteAddrs a n).map (striderPlace x (s.thread x).released .load))) := by
  obtain ⟨hcross, hout⟩ := not_or.1 h
  rw [load_thread]
  dsimp only
  rw [if_neg (mt crosses_iff.1 hcross), if_neg (mt (anyNone_iff _).1 hout)]
  simp only [byteAddrs, List.map_map]
  rfl

/-- Taking the port of the local store is all that an access does beside its bytes. -/
theorem takePort_eq (s : State) (x : Nat) (ps : List (Option SPlace)) : ∃ l, s.takePort x ps = { s with strider.portBusy := l } := by
  unfold State.takePort
  dsimp only
  split
  · exact ⟨_, rfl⟩
  · exact ⟨_, rfl⟩

end

/-! ## What a store writes (R193, R196) -/

section
variable {s t : State} {x n : Nat} {a : Addr} {b : Blob} {q : SPlace}

/-- One byte of a thread's store. -/
def State.storeByte (s : State) (x : Nat) (v : Byte) : Option SPlace → State
  | some (.lstore p) => { s with strider.lstore := memWrite s.strider.lstore p v }
  | some (.window p) => State.modThread { s with strider.windows := memWrite s.strider.windows p v } x (fun t =>
      let k := (p - windowBase x) / 32
      { t with storedBlocks := if t.storedBlocks.contains k then t.storedBlocks else t.storedBlocks ++ [k] })
  | _ => s

/-- The first n bytes of a store, byte i to place `place i`. -/
def State.storeBytes (s : State) (x : Nat) (b : Blob) (place : Nat → Option SPlace) (n : Nat) : State :=
  (List.range n).foldl (fun s i => s.storeByte x (b.getD i 0) (place i)) s

theorem storeBytes_succ (place : Nat → Option SPlace) :
    s.storeBytes x b place (n + 1) = (s.storeBytes x b place n).storeByte x (b.getD n 0) (place n) := by
  rw [State.storeBytes, List.range_succ, List.foldl_append]
  rfl

/-- A thread's store writes its bytes where Table 7.2 has them. -/
theorem store_thread (s : State) (x : Nat) (a : Addr) (b : Blob) : s.store (.strider x) a b =
    (let ps := (byteAddrs a b.length).map (striderPlace x (s.thread x).released .store)
     if b.length = 5 && crosses8 a.toNat 5 then .fault
     else if ps.any Option.isNone then .fault
     else .ok [] ((s.takePort x ps).storeBytes x b (fun i => ps.getD i none) b.length)) := rfl

theorem store_thread_refused (h : s.accessRefused x a .store b.length) : s.store (.strider x) a b = .fault := by
  rw [store_thread]
  rcases h with hcross | hout
  · exact if_pos (crosses_iff.2 hcross)
  · dsimp only
    rw [if_pos ((anyNone_iff _).2 hout), ite_self]

theorem storeBytes_congr {place place' : Nat → Option SPlace} (h : ∀ i < n, place i = place' i) :
    s.storeBytes x b place n = s.storeBytes x b place' n := by
  induction n with
  | zero => rfl
  | succ n ih => rw [storeBytes_succ, storeBytes_succ, ih fun i hi => h i (by omega), h n (by omega)]

theorem store_thread_writes (h : ¬ s.accessRefused x a .store b.length) : s.store (.strider x) a b =
    .ok [] ((s.takePort x ((byteAddrs a b.length).map (striderPlace x (s.thread x).released .store))).storeBytes x b
      (s.placeOf x a .store) b.length) := by
  obtain ⟨hcross, hout⟩ := not_or.1 h
  rw [store_thread]
  dsimp only
  rw [if_neg (mt crosses_iff.1 hcross), if_neg (mt (anyNone_iff _).1 hout)]
  congr 1
  refine storeBytes_congr fun i hi => ?_
  simp [byteAddrs, State.placeOf, hi]

theorem storeByte_same {v : Byte} (hq : ∀ p, q ≠ .pinned p) : (s.storeByte x v (some q)).byteAt (some q) = v := by
  cases q with
  | pinned p => exact absurd rfl (hq p)
  | lstore p => exact memRead_write_same _ p v
  | window p => exact memRead_write_same _ p v

theorem storeByte_other {v : Byte} {o : Option SPlace} (ho : o ≠ some q) : (s.storeByte x v o).byteAt (some q) = s.byteAt (some q) := by
  match o, q with
  | none, _ => rfl
  | some (.pinned _), _ => rfl
  | some (.lstore p), .pinned _ | some (.lstore p), .window _ | some (.window p), .pinned _ | some (.window p), .lstore _ => rfl
  | some (.lstore p), .lstore p' => exact memRead_write_other _ v fun hp => ho (by rw [hp])
  | some (.window p), .window p' => exact memRead_write_other _ v fun hp => ho (by rw [hp])

/-- A place that no byte of a store goes to reads as before. -/
theorem storeBytes_other {place : Nat → Option SPlace} (h : ∀ i < n, place i ≠ some q) :
    (s.storeBytes x b place n).byteAt (some q) = s.byteAt (some q) := by
  induction n with
  | zero => rfl
  | succ n ih => rw [storeBytes_succ, storeByte_other (h n (by omega)), ih fun i hi => h i (by omega)]

/-- Where no two bytes of a store go to one place, each reads back. -/
theorem storeBytes_same {place : Nat → Option SPlace} {i : Nat} (hi : i < n) (hplace : place i = some q) (hq : ∀ p, q ≠ .pinned p)
    (hinj : ∀ j < n, place j = some q → j = i) : (s.storeBytes x b place n).byteAt (some q) = b.getD i 0 := by
  induction n with
  | zero => omega
  | succ n ih =>
    rw [storeBytes_succ]
    by_cases hn : i = n
    · subst hn
      rw [hplace, storeByte_same hq]
    · rw [storeByte_other fun h => hn (hinj n (by omega) h).symm, ih (by omega) fun j hj h => hinj j (by omega) h]

theorem storeByte_rest (v : Byte) (o : Option SPlace) : { s.storeByte x v o with
    strider.lstore := s.strider.lstore, strider.windows := s.strider.windows, strider.threads := s.strider.threads } = s := by
  match o with
  | none | some (.pinned _) | some (.lstore _) | some (.window _) => rfl

theorem storeByte_ctx (v : Byte) (o : Option SPlace) (y : Nat) : ((s.storeByte x v o).thread y).ctx = (s.thread y).ctx := by
  match o with
  | none | some (.pinned _) | some (.lstore _) => rfl
  | some (.window p) =>
    by_cases hy : y = x
    · rw [hy, State.storeByte, State.thread_modThread_same]
      rfl
    · rw [State.storeByte, State.thread_modThread_other _ _ hy]
      rfl

theorem storeBytes_rest (place : Nat → Option SPlace) : { s.storeBytes x b place n with
    strider.lstore := s.strider.lstore, strider.windows := s.strider.windows, strider.threads := s.strider.threads } = s := by
  induction n with
  | zero => rfl
  | succ n ih =>
    rw [storeBytes_succ]
    have hlast := storeByte_rest (s := s.storeBytes x b place n) (x := x) (b.getD n 0) (place n)
    exact (congrArg (fun t : State => { t with
      strider.lstore := s.strider.lstore, strider.windows := s.strider.windows, strider.threads := s.strider.threads }) hlast).trans ih

theorem storeBytes_ctx (place : Nat → Option SPlace) (y : Nat) : ((s.storeBytes x b place n).thread y).ctx = (s.thread y).ctx := by
  induction n with
  | zero => rfl
  | succ n ih => rw [storeBytes_succ, storeByte_ctx, ih]

/-- The bytes of an access of at most five go to places of their own. -/
theorem placeOf_inj {kind : Acc} {i j : Nat} (hi : i < 5) (hj : j < 5) (h : s.placeOf x a kind i = some q) (h' : s.placeOf x a kind j = some q) :
    j = i := by
  have haddr := striderPlace_inj h h'
  simp only [BitVec.toNat_add, BitVec.toNat_ofNat] at haddr
  omega

end

/-! ## The statement -/

/-- A store that is accepted: its bytes read back from their places, and every other place, and all else, stays. -/
theorem store_thread_effect {s : State} {x : Nat} {a : Addr} {b : Blob} (hlen : b.length ≤ 5) (h : ¬ s.accessRefused x a .store b.length) :
    ∃ t, s.store (.strider x) a b = .ok [] t ∧
      (∀ i < b.length, ∀ q, s.placeOf x a .store i = some q → some (t.byteAt (some q)) = b[i]?) ∧
      (∀ q, (∀ i < b.length, s.placeOf x a .store i ≠ some q) → t.byteAt (some q) = s.byteAt (some q)) ∧
      { t with
        strider.lstore := s.strider.lstore, strider.windows := s.strider.windows, strider.threads := s.strider.threads,
        strider.portBusy := s.strider.portBusy } = s ∧
      (∀ y, (t.thread y).ctx = (s.thread y).ctx) := by
  have hstore := store_thread_writes h
  obtain ⟨l, hport⟩ := takePort_eq s x ((byteAddrs a b.length).map (striderPlace x (s.thread x).released .store))
  rw [hport] at hstore
  refine ⟨_, hstore, fun i hi q hq => ?_, fun q hq => ?_, ?_, fun y => ?_⟩
  · rw [storeBytes_same hi hq (fun p hp => striderPlace_store_ne_pinned _ _ _ _ (hp ▸ hq))
      (fun j hj hj' => placeOf_inj (by omega) (by omega) hq hj'), List.getD_eq_getElem _ _ hi, List.getElem?_eq_getElem hi]
  · rw [storeBytes_other hq]
    cases q <;> rfl
  · exact congrArg (fun t : State => { t with strider.portBusy := s.strider.portBusy }) (storeBytes_rest _)
  · rw [storeBytes_ctx]
    rfl

/-- Settles O13: an access of a thread is its bytes, each at the place that Table 7.2 gives its address. -/
theorem threadMemory : Obligations.ThreadMemory := by
  refine ⟨fun s x a n b => ⟨load_thread_refused, fun h => ?_, store_thread_refused, fun hlen h => ?_⟩, striderPlace_rows⟩
  · obtain ⟨l, hport⟩ := takePort_eq s x ((byteAddrs a n).map (striderPlace x (s.thread x).released .load))
    have hread : ∀ i < n, ∀ q, s.placeOf x a .load i = some q →
        ((List.range n).map (fun i => s.byteAt (s.placeOf x a .load i)))[i]? = some (s.byteAt (some q)) := by
      intro i hi q hq
      simp [hi, hq]
    exact ⟨_, _, load_thread_reads h, by rw [hport], by simp,
      fun i hi => ⟨fun p => hread i hi (.pinned p), fun p => hread i hi (.lstore p), fun p => hread i hi (.window p)⟩⟩
  · obtain ⟨t, hstore, hsame, hother, hrest, hctx⟩ := store_thread_effect hlen h
    exact ⟨t, hstore, fun i hi => ⟨fun p => hsame i hi (.lstore p), fun p => hsame i hi (.window p)⟩,
      fun p => hother (.lstore p), fun p => hother (.window p), hrest, hctx⟩

end Sys2Proof.Machine
end

section
/-! PROOFS. Helper registers, the scoreboard and where a helper command stops (R200, R204, R205, R214, R246, R250, R251). -/

namespace Sys2Proof.Machine

/-! ## mth, mfh and hwait (R200, R246) -/

section
variable {s u : State} {h : Hdr}

theorem pendingIn_iff (c : Ctx) (b n : Nat) : c.pendingIn b n = true ↔ ∃ k < n, b + k ∈ c.pendH := by
  simp [Ctx.pendingIn]

theorem pendingIn_one (c : Ctx) (b : Nat) : c.pendingIn b 1 = true ↔ b ∈ c.pendH := by
  simp [Ctx.pendingIn]

theorem exec_opMth_moves (hi : Issues s h .plain u) {hn : BitVec 4} (hp : hn.toNat ∉ (u.sees h).pendH) (ra : BitVec 5) :
    exec (.opMth h hn ra) s = .next (u.leaves h ((u.countIssue h.core).setCtx h.core
      { u.sees h with h := tabPut (u.sees h).h hn.toNat 0 ((u.sees h).r ra) }) []) :=
  (exec_opMth h hn ra s).trans (runInstr_ok hi (if_neg (mt (pendingIn_one _ _).1 hp)))

theorem exec_opMth_stalls (hi : Issues s h .plain u) {hn : BitVec 4} (hp : hn.toNat ∈ (u.sees h).pendH) (ra : BitVec 5) :
    exec (.opMth h hn ra) s = .next (u.stall h.core (.regs [hn.toNat])) :=
  (exec_opMth h hn ra s).trans (runInstr_wait hi (if_pos ((pendingIn_one _ _).2 hp)))

theorem exec_opMfh_moves (hi : Issues s h .plain u) {hn : BitVec 4} (hp : hn.toNat ∉ (u.sees h).pendH) (rd : BitVec 5) :
    exec (.opMfh h rd hn) s = .next (u.computes h [wr rd (tabGet (u.sees h).h hn.toNat 0)]) :=
  (exec_opMfh h rd hn s).trans (runInstr_ok hi (if_neg (mt (pendingIn_one _ _).1 hp)))

theorem exec_opMfh_stalls (hi : Issues s h .plain u) {hn : BitVec 4} (hp : hn.toNat ∈ (u.sees h).pendH) (rd : BitVec 5) :
    exec (.opMfh h rd hn) s = .next (u.stall h.core (.regs [hn.toNat])) :=
  (exec_opMfh h rd hn s).trans (runInstr_wait hi (if_pos ((pendingIn_one _ _).2 hp)))

theorem exec_opHwait_goes (hi : Issues s h .plain u) {hb : BitVec 4} {n : BitVec 3} (hn : hb.toNat + n.toNat ≤ 16)
    (hp : ∀ k < n.toNat, hb.toNat + k ∉ (u.sees h).pendH) : exec (.opHwait h hb n) s = .next (u.computes h []) := by
  refine (exec_opHwait h hb n s).trans (runInstr_ok hi ?_)
  rw [if_neg (by omega)]
  exact if_neg fun hpend => let ⟨k, hk, hin⟩ := (pendingIn_iff _ _ _).1 hpend; hp k hk hin

theorem exec_opHwait_stalls (hi : Issues s h .plain u) {hb : BitVec 4} {n : BitVec 3} (hn : hb.toNat + n.toNat ≤ 16)
    (hp : ∃ k < n.toNat, hb.toNat + k ∈ (u.sees h).pendH) :
    exec (.opHwait h hb n) s = .next (u.stall h.core (.regs ((List.range n.toNat).map (hb.toNat + ·)))) := by
  refine (exec_opHwait h hb n s).trans (runInstr_wait hi ?_)
  rw [if_neg (by omega)]
  exact if_pos ((pendingIn_iff _ _ _).2 hp)

theorem exec_opHwait_illegal (hi : Issues s h .plain u) {hb : BitVec 4} {n : BitVec 3} (hn : 16 < hb.toNat + n.toNat) :
    exec (.opHwait h hb n) s = .next ((u.countIssue h.core).faultAt h.core 1 0 h.frame) :=
  (exec_opHwait h hb n s).trans (runInstr_fault hi (if_pos hn))

end

/-! ## The scoreboard (R204, R205, R251) -/

section
variable {s : State} {c : Ctx} {core : CoreRef} {r : InFlight}

theorem mem_hregs {b n m : Nat} : m ∈ hregs b n ↔ ∃ k < n, m = b + k := by
  simp [hregs, eq_comm]

/-- A command with result registers marks them pending, and its result is due. -/
theorem expect_marks {nr : Nat} (hnr : 0 < nr) (c : Ctx) (helper hd : Nat) (vs : List Nat) (token : Bool) (now : Time) :
    let d := c.expect helper hd nr vs token now
    (∀ k < nr, hd + k ∈ d.pendH) ∧ (∀ n ∈ c.pendH, n ∈ d.pendH) ∧ d.h = c.h ∧
    ∃ r, d.results = c.results ++ [r] ∧ r.tag = hd ∧ r.since = now ∧ r.values.length = nr ∧
      ∀ k < nr, r.values[k]? = some (BitVec.ofNat 40 (vs.getD k 0)) := by
  have hd' : c.expect helper hd nr vs token now = { c with
      pendH := c.pendH ++ hregs hd nr
      results := c.results ++ [⟨hd, helper, hd, (List.range nr).map (fun k => BitVec.ofNat 40 (vs.getD k 0)), token, now⟩] } :=
    if_neg (by omega)
  dsimp only
  rw [hd']
  exact ⟨fun k hk => List.mem_append_right _ (mem_hregs.2 ⟨k, hk, rfl⟩), fun n hn => List.mem_append_left _ hn, rfl,
    _, rfl, rfl, rfl, by simp, fun k hk => by simp [hk]⟩

/-- Writes a row of helper registers. -/
def Ctx.setRow (c : Ctx) (b : Nat) (vs : List W40) (n : Nat) : Ctx := (List.range n).foldl (fun c k => c.setH (b + k) (vs.getD k 0)) c

theorem setRow_succ (b : Nat) (vs : List W40) (n : Nat) : c.setRow b vs (n + 1) = (c.setRow b vs n).setH (b + n) (vs.getD n 0) := by
  rw [Ctx.setRow, List.range_succ, List.foldl_append]
  rfl

theorem setRow_rest (b : Nat) (vs : List W40) (n : Nat) : { c.setRow b vs n with h := c.h } = c := by
  induction n with
  | zero => rfl
  | succ n ih =>
    rw [setRow_succ]
    exact ih

theorem setRow_other {b n m : Nat} (vs : List W40) (hm : ∀ k < n, m ≠ b + k) : tabGet (c.setRow b vs n).h m 0 = tabGet c.h m 0 := by
  induction n with
  | zero => rfl
  | succ n ih =>
    rw [setRow_succ, Ctx.setH, tabGet_put_other _ _ _ _ (hm n (by omega)), ih fun k hk => hm k (by omega)]

theorem setRow_same {b n k : Nat} (vs : List W40) (hk : k < n) : tabGet (c.setRow b vs n).h (b + k) 0 = vs.getD k 0 := by
  induction n with
  | zero => omega
  | succ n ih =>
    rw [setRow_succ, Ctx.setH]
    by_cases hkn : k = n
    · rw [hkn, tabGet_put_same]
    · rw [tabGet_put_other _ _ _ _ (by omega), ih (by omega)]

/-- A result that returns fills its registers in a row. -/
theorem fill_eq (c : Ctx) (r : InFlight) : c.fill r = Ctx.setRow { c with
    pendH := c.pendH.filter (fun n => !(hregs r.hd r.values.length).contains n), results := c.results.erase r } r.hd r.values r.values.length := rfl

theorem fill_pendH : (c.fill r).pendH = c.pendH.filter (fun n => !(hregs r.hd r.values.length).contains n) := by
  rw [fill_eq]
  exact congrArg Ctx.pendH (setRow_rest ..)

theorem mem_fill_pendH {n : Nat} : n ∈ (c.fill r).pendH ↔ n ∈ c.pendH ∧ ∀ k < r.values.length, n ≠ r.hd + k := by
  rw [fill_pendH, List.mem_filter]
  simp [mem_hregs]

theorem fill_results : (c.fill r).results = c.results.erase r := by
  rw [fill_eq]
  exact congrArg Ctx.results (setRow_rest ..)

/-- A thread that becomes READY keeps its registers. -/
theorem ctx_stampReady (s : State) (x : Nat) (core : CoreRef) : (s.stampReady x).ctx core = s.ctx core := by
  cases core with
  | starter k => rfl
  | strider y =>
    unfold State.stampReady
    by_cases hy : y = x
    · rw [hy]
      exact (congrArg Thread.ctx (State.thread_modThread_same _ x _)).trans rfl
    · exact congrArg Thread.ctx (State.thread_modThread_other _ _ hy)

theorem ctx_wakeHelpers (s : State) (x helper : Nat) (core : CoreRef) : (s.wakeHelpers x helper).ctx core = s.ctx core := by
  refine foldl_keeps (g := fun t : State => t.ctx core) (fun t y _ => ?_) s
  split
  · split
    · exact ctx_stampReady ..
    · rfl
  · split
    · exact ctx_stampReady ..
    · rfl
  · rfl

theorem ctx_giveResult (s : State) (core : CoreRef) (r : InFlight) : (s.giveResult core r).ctx core =
    if s.discards core then { s.ctx core with results := (s.ctx core).results.erase r } else (s.ctx core).fill r := by
  unfold State.giveResult
  dsimp only
  split
  · rw [ctx_wakeHelpers, State.ctx_setCtx_same]
  · rw [State.ctx_setCtx_same]

theorem exec_helperResult_returns {tag : Nat} (hr : (s.ctx core).results.find? (fun q => q.tag == tag) = some r)
    (hdue : r.token = true → s.tokenDue core = true) : exec (.helperResult core tag) s = .next (s.giveResult core r) := by
  rw [exec_helperResult, execHelperResult, hr]
  refine congrArg _ (if_neg ?_)
  cases ht : r.token with
  | false => simp
  | true => simp [hdue ht]

end

/-! ## Where a helper command stops (R200, R250) -/

section
variable {s u : State} {h : Hdr} {x : HArgs} {helper : Nat} {nops nrs : List Nat}

theorem helperInstr_stalls {cmd : State → List Nat → Option (List Nat × State)} {token : Bool}
    (hi : Issues s { h with enc := s.helperEnc h x helper nops nrs } .plain u)
    (hp : ∃ n, (n ∈ hregs x.hb.toNat x.nop.toNat ∨ n ∈ hregs x.hd.toNat x.nr.toNat) ∧ n ∈ (u.sees h).pendH) :
    s.helperInstr h x helper nops nrs cmd token =
      .next (u.stall h.core (.regs (hregs x.hb.toNat x.nop.toNat ++ hregs x.hd.toNat x.nr.toNat))) := by
  obtain ⟨n, hreg, hpend⟩ := hp
  refine runInstr_wait hi (if_pos ?_)
  exact List.any_eq_true.2 ⟨n, List.mem_append.2 hreg, List.contains_iff_mem.2 hpend⟩

theorem helperEnc_illegal (henc : h.enc = .ok) (hx : 16 < x.hb.toNat + x.nop.toNat ∨ 16 < x.hd.toNat + x.nr.toNat) :
    s.helperEnc h x helper nops nrs = .illegal := by
  simp [State.helperEnc, henc, hx]

theorem helperEnc_helper (henc : h.enc = .ok) (hb : x.hb.toNat + x.nop.toNat ≤ 16) (hd : x.hd.toNat + x.nr.toNat ≤ 16)
    (hu : s.inUser h.core = false) (hx : x.nop.toNat ∉ nops ∨ x.nr.toNat ∉ nrs ∨ s.helperReach helper h.core = false) :
    s.helperEnc h x helper nops nrs = .helper := by
  have hin : ¬ (16 < x.hb.toNat + x.nop.toNat ∨ 16 < x.hd.toNat + x.nr.toNat) := by omega
  simp [State.helperEnc, henc, hin, hu, or_assoc, hx]

end

/-- Settles O15: a helper register that is pending stops who names it; a result that returns fills its registers, and the rest stays. -/
theorem helperCommands : Obligations.HelperCommands := by
  refine ⟨fun s u h rd ra hn hb n hi => ?_, ⟨fun c helper hd nr vs token now hnr => expect_marks hnr c helper hd vs token now,
    fun s core tag r hr hdue => ⟨_, exec_helperResult_returns hr hdue, fun hgo => ?fills, fun hgone => ?gone, ?result⟩⟩,
    fun s u h x helper nops nrs cmd token => ⟨helperInstr_stalls, helperEnc_illegal, helperEnc_helper⟩⟩
  · exact ⟨fun hp => ⟨exec_opMth_moves hi hp ra, exec_opMfh_moves hi hp rd⟩, fun hp => ⟨exec_opMth_stalls hi hp ra, exec_opMfh_stalls hi hp rd⟩,
      exec_opHwait_goes hi, exec_opHwait_stalls hi, exec_opHwait_illegal hi⟩
  case fills =>
    rw [ctx_giveResult, hgo, if_neg Bool.false_ne_true]
    exact ⟨fun k hk => setRow_same _ hk, fun n hn => ⟨setRow_other _ hn, mem_fill_pendH.trans (and_iff_left hn)⟩,
      fun k hk hin => (mem_fill_pendH.1 hin).2 k hk rfl⟩
  case gone => rw [ctx_giveResult, hgone]; rfl
  case result =>
    rw [ctx_giveResult]
    split
    · rfl
    · exact fill_results

end Sys2Proof.Machine
end

section
/-! PROOFS. Handover, pacers, open halves and marshals (R213, R263, R276, R277, R282, R289). -/

namespace Sys2Proof.Machine

/-! ## Handover (R213, R276, R277) -/

section
variable {s : State} {n fid : Nat} {r : Release} {f : Frame} {c : Card}

theorem exec_handover_waits (h : tabGet? (s.od n).frames (s.od n).hand = none ∨ tabGet? (s.od n).posted (s.od n).hand = none) :
    exec (.handover n) s = .next s := by
  rw [exec_handover, execHandover]
  rcases h with hframe | hpost
  · rw [hframe]
  · rw [hpost]
    cases tabGet? (s.od n).frames (s.od n).hand <;> rfl

/-- The order domain after its next frame has been handed over. -/
def State.handedOver (s : State) (n : Nat) : State :=
  s.setOd n { s.od n with
    hand := (s.od n).hand + 1, frames := tabDel (s.od n).frames (s.od n).hand, posted := tabDel (s.od n).posted (s.od n).hand }

theorem exec_handover_hands (hframe : tabGet? (s.od n).frames (s.od n).hand = some fid)
    (hpost : tabGet? (s.od n).posted (s.od n).hand = some r) (hf : (s.handedOver n).frame? fid = some f)
    (hc : (s.handedOver n).cardOf? fid = some c) :
    let h := (s.handedOver n).handFrame fid f c r
    exec (.handover n) s = .next (State.starterFlush (if c.flags.fragFirst then h.2.decideFrag fid h.1 else h.2)) := by
  unfold State.handedOver at hf hc
  rw [exec_handover, execHandover, hframe, hpost]
  dsimp only
  rw [hf, hc]
  rfl

theorem handFrame_dropped {w : State} {qs : List Nat} {e : Nat} {set : Bool} (h : c.flags.drop = true ∨ f.condemned = true) :
    w.handFrame fid f c (.toQueues qs e set) = (true, (w.uncharge fid).dropAtRelease fid f) :=
  if_pos (by simpa using h)

end

/-! ## Pacers (R289) -/

/-- A refill gains RATE × T up to the burst; a pacer whose rate was zero starts full. -/
theorem refill_spec (T : Nat) (y : Pacer) :
    (y.refill T).pend = none ∧ ((y.refill T).rate, (y.refill T).burst) = y.pend.getD (y.rate, y.burst) ∧
    (y.refill T).tokens = if y.rate = 0 ∧ (y.refill T).rate ≠ 0 then 8000 * ((y.refill T).burst : Int)
      else min (8000 * ((y.refill T).burst : Int)) (y.tokens + (y.refill T).rate * T) := by
  unfold Pacer.refill
  obtain ⟨rate, burst⟩ := y.pend.getD (y.rate, y.burst)
  refine ⟨rfl, rfl, ?_⟩
  simp

/-! ## Open halves (R263) -/

section
variable {s : State} {part grp a : Nat} {t : Time}

theorem exec_openHalfExpiry_open (h : tabGet? s.buf.pool.openHalf (part * 64 + grp) = some (a, t)) :
    exec (.openHalfExpiry part grp) s = .next (if t + 1000 * 65536 ≤ s.time.gun then
      ({ s with buf.pool.openHalf := tabDel s.buf.pool.openHalf (part * 64 + grp) } : State).release (batonOf a 1 true 1 (s.cell a).gen) else s) := by
  rw [exec_openHalfExpiry, execOpenHalfExpiry]
  dsimp only
  rw [h]
  exact (apply_ite Host.Outcome.next _ _ _).symm

theorem exec_openHalfExpiry_none (h : tabGet? s.buf.pool.openHalf (part * 64 + grp) = none) : exec (.openHalfExpiry part grp) s = .next s := by
  rw [exec_openHalfExpiry, execOpenHalfExpiry]
  dsimp only
  rw [h]

end

/-! ## Marshals (R282) -/

/-- The two buckets of a marshal after the time since it was last drawn on, at most full. -/
def State.bucketsNow (s : State) (m : Nat) : Nat × Nat :=
  let cfg := s.marshalCfg m
  let dt := s.time.gun - (s.marshal m).last
  (min (cfg.2.2.1 * bucketByte) ((s.marshal m).tc + cfg.1 * dt), min (cfg.2.2.2.1 * bucketByte) ((s.marshal m).tp + cfg.2.1 * dt))

/-- The colour of n units by two buckets, and what is left in them. -/
def colourBy (aware : Bool) (pre n tc tp : Nat) : Nat × Nat × Nat :=
  if (aware && pre ≥ 2) || tp < n then (2, tc, tp)
  else if (aware && pre == 1) || tc < n then (1, tc, tp - n)
  else (0, tc - n, tp - n)

theorem meter_eq (s : State) (m bytes pre : Nat) : s.meter m bytes pre =
    (let x := colourBy (bit (s.marshalCfg m).2.2.2.2 0) pre (bytes * bucketByte) (s.bucketsNow m).1 (s.bucketsNow m).2
     (x.1, State.count { s with buf.marshals := tabSet s.buf.marshals m ⟨x.2.1, x.2.2, s.time.gun⟩ }
      (if x.1 == 0 then Obj.MARSHAL_GREEN else if x.1 == 1 then Obj.MARSHAL_YELLOW else Obj.MARSHAL_RED) m)) := rfl

theorem colourBy_spec (aware : Bool) (pre n tc tp : Nat) :
    ((colourBy aware pre n tc tp).1 = if (aware = true ∧ 2 ≤ pre) ∨ tp < n then 2 else if (aware = true ∧ pre = 1) ∨ tc < n then 1 else 0) ∧
    (colourBy aware pre n tc tp).2 = match (colourBy aware pre n tc tp).1 with
      | 0 => (tc - n, tp - n)
      | 1 => (tc, tp - n)
      | _ => (tc, tp) := by
  by_cases hred : (aware = true ∧ 2 ≤ pre) ∨ tp < n
  · have h : colourBy aware pre n tc tp = (2, tc, tp) := if_pos (by simpa using hred)
    rw [h, if_pos hred]
    exact ⟨rfl, rfl⟩
  · have hnred : ¬ ((aware && pre ≥ 2) || tp < n) = true := by simpa using hred
    by_cases hyellow : (aware = true ∧ pre = 1) ∨ tc < n
    · have h : colourBy aware pre n tc tp = (1, tc, tp - n) := (if_neg hnred).trans (if_pos (by simpa using hyellow))
      rw [h, if_neg hred, if_pos hyellow]
      exact ⟨rfl, rfl⟩
    · have h : colourBy aware pre n tc tp = (0, tc - n, tp - n) := (if_neg hnred).trans (if_neg (by simpa using hyellow))
      rw [h, if_neg hred, if_neg hyellow]
      exact ⟨rfl, rfl⟩

theorem meter_spec (s : State) (m bytes pre : Nat) :
    let tc := (s.bucketsNow m).1
    let tp := (s.bucketsNow m).2
    let aware := (s.marshalCfg m).2.2.2.2.testBit 0
    let n := bytes * bucketByte
    ((s.meter m bytes pre).1 = if (aware = true ∧ 2 ≤ pre) ∨ tp < n then 2 else if (aware = true ∧ pre = 1) ∨ tc < n then 1 else 0) ∧
    tabGet? (s.meter m bytes pre).2.buf.marshals m = some (match (s.meter m bytes pre).1 with
      | 0 => ⟨tc - n, tp - n, s.time.gun⟩
      | 1 => ⟨tc, tp - n, s.time.gun⟩
      | _ => ⟨tc, tp, s.time.gun⟩) := by
  obtain ⟨hcolour, hleft⟩ := colourBy_spec (bit (s.marshalCfg m).2.2.2.2 0) pre (bytes * bucketByte) (s.bucketsNow m).1 (s.bucketsNow m).2
  rw [meter_eq]
  dsimp only
  refine ⟨hcolour, ?_⟩
  rw [State.count_buf, tabGet?_set_same, hleft]
  split <;> rfl

/-- Settles O36: each event is the model's own, its buckets and tokens written out. -/
theorem queueEvents : Obligations.QueueEvents := by
  intro s n part grp fid m bytes pre r f c a t
  exact ⟨exec_handover_waits, exec_handover_hands, fun qs e set hr hdrop => hr ▸ handFrame_dropped hdrop, fun hr => hr ▸ rfl,
    ⟨_, exec_pacerRefill s, rfl, fun q y hy => ⟨_, (tabGet?_map ..).trans (congrArg _ hy), refill_spec _ y⟩⟩,
    exec_openHalfExpiry_open, exec_openHalfExpiry_none, meter_spec s m bytes pre⟩

end Sys2Proof.Machine
end

section
/-! PROOFS. Privilege and svc (R216, R232, R355, R356, R358, R359, R370). -/

namespace Sys2Proof.Machine

/-! ## Instructions that are not defined where they are executed (R232, R355, R356) -/

section
variable {s u : State} {h : Hdr}

/-- A thread, or a core in user mode, executes: no privileged extension is defined there. -/
def State.unprivileged (s : State) (r : CoreRef) : Prop := (∃ x, r = .strider x) ∨ ∃ k, r = .starter k ∧ (s.core k).u = true

theorem privHdr_unprivileged (henc : h.enc = .ok) (hr : s.unprivileged h.core) : s.privHdr h = { h with enc := .privileged } := by
  unfold State.privHdr
  rcases hr with ⟨x, hx⟩ | ⟨k, hk, hu⟩
  · rw [hx]
    simp [henc]
  · rw [hk]
    simp [henc, hu]

/-- The instruction is fetched, and its word is good. -/
def Fetches (s : State) (h : Hdr) (u : State) : Prop :=
  s.fetched h = some u ∧ h.fetch ≠ .uncorrectable ∧ u.readPoisoned h.core .fetch (u.ctx h.core).pc.toNat (hdrSize h) = false ∧
  u.fetchOk h.core (u.ctx h.core).pc (hdrSize h) = true

/-- A privilege violation is found as the instruction issues, so it counts; fields that are undefined are the lower cause (R215, R216). -/
theorem faultEarly_privileged (hword : h.fetch ≠ .uncorrectable) (bad : Bool) :
    u.faultEarly h 2 bad 0 = (u.countIssue h.core).faultAt h.core (if bad then 1 else 2) 0 h.frame := by
  have hgood : (h.fetch == .uncorrectable) = false := by simpa using hword
  unfold State.faultEarly
  rw [hgood]
  cases bad <;> rfl

/-- An instruction whose encoding is privileged raises PRIVILEGED, or ILLEGAL by its fields, and does nothing. -/
theorem runInstr_privileged (hf : Fetches s h u) {kind : Kind} (hslot : kind = .control → (u.ctx h.core).slot = .none)
    (body : State → Ctx → Did) :
    State.runInstr s { h with enc := .privileged } kind body = .next ((u.countIssue h.core).faultAt h.core
      (if (body (u.countIssue h.core) (u.sees h)).illegal then 1 else 2) 0 h.frame) := by
  obtain ⟨hfetch, hword, hpoison, hok⟩ := hf
  have hpre : u.preFault { h with enc := .privileged } kind (u.ctx h.core) = some 2 := by
    unfold hdrSize at hpoison
    cases kind with
    | plain => simp [State.preFault, hword, hpoison]
    | control => simp [State.preFault, hword, hpoison, hslot rfl]
  unfold hdrSize at hok
  unfold State.runInstr
  rw [show s.fetched { h with enc := .privileged } = s.fetched h from rfl, hfetch]
  simp only [hok, Bool.not_true, Bool.false_eq_true, if_false, hpre]
  exact congrArg Host.Outcome.next (faultEarly_privileged (h := { h with enc := .privileged }) hword _)

/-- A privileged instruction outside privileged mode: only a Starter core decodes its fields. -/
theorem priv_unprivileged (henc : h.enc = .ok) (hr : s.unprivileged h.core) (hf : Fetches s h u) {kind : Kind}
    (hslot : kind = .control → (u.ctx h.core).slot = .none) {body : Nat → State → Ctx → Did} {bad : Bool}
    (hbad : ∀ k, (body k (u.countIssue h.core) (u.sees h)).illegal = bad) :
    s.priv h kind body = .next ((u.countIssue h.core).faultAt h.core
      (match h.core with | .starter _ => if bad then 1 else 2 | .strider _ => 2) 0 h.frame) := by
  refine (congrArg (fun g => s.runInstr g kind _) (privHdr_unprivileged henc hr)).trans ((runInstr_privileged hf hslot _).trans ?_)
  cases hcore : h.core with
  | strider x => rfl
  | starter k =>
    rw [hcore] at hbad
    simp only [hbad]

/-- The same where the fields are in order whatever they are. -/
theorem priv_raises (henc : h.enc = .ok) (hr : s.unprivileged h.core) (hf : Fetches s h u) {kind : Kind}
    (hslot : kind = .control → (u.ctx h.core).slot = .none) {body : Nat → State → Ctx → Did}
    (hgood : ∀ k w c, (body k w c).illegal = false) : s.priv h kind body = .next ((u.countIssue h.core).faultAt h.core 2 0 h.frame) := by
  refine (priv_unprivileged henc hr hf hslot fun k => hgood k _ _).trans ?_
  cases h.core <;> rfl

theorem readPr_none_iff (w : State) (k n : Nat) : w.readPr k n = none ↔ 15 < n := by
  by_cases hn : n < 16
  · interval_cases n <;> simp [State.readPr]
  · obtain ⟨m, rfl⟩ := Nat.exists_eq_add_of_le' (not_lt.1 hn)
    exact iff_of_true rfl (by omega)

theorem writePr_none_iff (w : State) (k n : Nat) (v : W40) : w.writePr k n v = none ↔ 15 < n := by
  by_cases hn : n < 16
  · interval_cases n <;> simp [State.writePr]
  · obtain ⟨m, rfl⟩ := Nat.exists_eq_add_of_le' (not_lt.1 hn)
    exact iff_of_true rfl (by omega)

/-- rdpr of an undefined number is ILLEGAL on a core, whose decoder knows the numbers (R216). -/
theorem exec_opRdpr_unprivileged (henc : h.enc = .ok) (hr : s.unprivileged h.core) (hf : Fetches s h u) (rd n : BitVec 5) :
    exec (.opRdpr h rd n) s = .next ((u.countIssue h.core).faultAt h.core
      (match h.core with | .starter _ => if 15 < n.toNat then 1 else 2 | .strider _ => 2) 0 h.frame) := by
  refine (exec_opRdpr h rd n s).trans ((priv_unprivileged henc hr hf (by nofun) (bad := decide (15 < n.toNat)) fun k => ?_).trans ?_)
  · cases hpr : (u.countIssue h.core).readPr k n.toNat with
    | none => exact (decide_eq_true ((readPr_none_iff ..).1 hpr)).symm
    | some p => exact (decide_eq_false fun hn => nomatch ((readPr_none_iff ..).2 hn).symm.trans hpr).symm
  · cases h.core with
    | strider x => rfl
    | starter k => simp only [decide_eq_true_eq]

theorem exec_opWrpr_unprivileged (henc : h.enc = .ok) (hr : s.unprivileged h.core) (hf : Fetches s h u) (n ra : BitVec 5) :
    exec (.opWrpr h n ra) s = .next ((u.countIssue h.core).faultAt h.core
      (match h.core with | .starter _ => if 15 < n.toNat then 1 else 2 | .strider _ => 2) 0 h.frame) := by
  refine (exec_opWrpr h n ra s).trans ((priv_unprivileged henc hr hf (by nofun) (bad := decide (15 < n.toNat)) fun k => ?_).trans ?_)
  · cases hpr : (u.countIssue h.core).writePr k n.toNat ((u.sees h).r ra) with
    | none => exact (decide_eq_true ((writePr_none_iff ..).1 hpr)).symm
    | some p => exact (decide_eq_false fun hn => nomatch ((writePr_none_iff ..).2 hn).symm.trans hpr).symm
  · cases h.core with
    | strider x => rfl
    | starter k => simp only [decide_eq_true_eq]

theorem exec_opWdkick_unprivileged (henc : h.enc = .ok) (hr : s.unprivileged h.core) (hf : Fetches s h u) (ra : BitVec 5) :
    exec (.opWdkick h ra) s = .next ((u.countIssue h.core).faultAt h.core 2 0 h.frame) := by
  rw [exec_opWdkick, execOpWdkick]
  exact priv_raises henc hr hf (by nofun) fun _ _ _ => rfl

theorem exec_opPeerrst_unprivileged (henc : h.enc = .ok) (hr : s.unprivileged h.core) (hf : Fetches s h u) (ra : BitVec 5) :
    exec (.opPeerrst h ra) s = .next ((u.countIssue h.core).faultAt h.core 2 0 h.frame) := by
  rw [exec_opPeerrst, execOpPeerrst]
  exact priv_raises henc hr hf (by nofun) fun _ _ _ => rfl

theorem exec_opWqtake_unprivileged (henc : h.enc = .ok) (hr : s.unprivileged h.core) (hf : Fetches s h u) (rd : BitVec 5) :
    exec (.opWqtake h rd) s = .next ((u.countIssue h.core).faultAt h.core 2 0 h.frame) := by
  rw [exec_opWqtake, execOpWqtake]
  refine priv_raises henc hr hf (by nofun) fun k w c => ?_
  cases w.takeWork k <;> rfl

theorem exec_opWqdone_unprivileged (henc : h.enc = .ok) (hr : s.unprivileged h.core) (hf : Fetches s h u) (ra : BitVec 5) :
    exec (.opWqdone h ra) s = .next ((u.countIssue h.core).faultAt h.core 2 0 h.frame) := by
  rw [exec_opWqdone, execOpWqdone]
  exact priv_raises henc hr hf (by nofun) fun _ _ _ => rfl

theorem exec_opTstart_unprivileged (henc : h.enc = .ok) (hr : s.unprivileged h.core) (hf : Fetches s h u) (rd ra rb : BitVec 5) :
    exec (.opTstart h rd ra rb) s = .next ((u.countIssue h.core).faultAt h.core 2 0 h.frame) := by
  rw [exec_opTstart, execOpTstart]
  refine priv_raises henc hr hf (by nofun) fun k w c => ?_
  dsimp only
  split
  · split <;> rfl
  · rfl

/-- cinv, cwb and ilock share their form: whatever the range, the fields are in order. -/
theorem exec_lines_unprivileged (henc : h.enc = .ok) (hr : s.unprivileged h.core) (hf : Fetches s h u) (ra rb : BitVec 5) :
    ∀ i ∈ [Instr.opCinv h ra rb, .opCwb h ra rb, .opIlock h ra rb],
    exec i s = .next ((u.countIssue h.core).faultAt h.core 2 0 h.frame) := by
  simp only [List.forall_mem_cons, List.not_mem_nil, false_imp_iff, implies_true, and_true]
  rw [exec_opCinv, exec_opCwb, exec_opIlock, execOpCinv, execOpCwb, execOpIlock]
  exact ⟨priv_raises henc hr hf (by nofun) fun _ _ _ => rfl, priv_raises henc hr hf (by nofun) fun _ _ _ => rfl,
    priv_raises henc hr hf (by nofun) fun _ _ _ => rfl⟩

theorem exec_opRfe_unprivileged (henc : h.enc = .ok) (hr : s.unprivileged h.core) (hf : Fetches s h u) (hslot : (u.ctx h.core).slot = .none) :
    exec (.opRfe h) s = .next ((u.countIssue h.core).faultAt h.core 2 0 h.frame) := by
  rw [exec_opRfe, execOpRfe]
  refine priv_raises henc hr hf (fun _ => hslot) fun k w c => ?_
  cases w.load h.core (addrOf (c.rw 31)) 64 with
  | ok f t => dsimp only; split <;> rfl
  | fault => rfl
  | device a => rfl

/-- Every privileged instruction but rdpr, wrpr and rfe. -/
theorem extensions_unprivileged (henc : h.enc = .ok) (hr : s.unprivileged h.core) (hf : Fetches s h u) (rd ra rb : BitVec 5) :
    ∀ i ∈ [Instr.opWdkick h ra, .opPeerrst h ra, .opWqtake h rd, .opWqdone h ra, .opTstart h rd ra rb,
      .opCinv h ra rb, .opCwb h ra rb, .opIlock h ra rb],
    exec i s = .next ((u.countIssue h.core).faultAt h.core 2 0 h.frame) := by
  iterate 5 rw [List.forall_mem_cons]
  exact ⟨exec_opWdkick_unprivileged henc hr hf ra, exec_opPeerrst_unprivileged henc hr hf ra, exec_opWqtake_unprivileged henc hr hf rd,
    exec_opWqdone_unprivileged henc hr hf ra, exec_opTstart_unprivileged henc hr hf rd ra rb, exec_lines_unprivileged henc hr hf ra rb⟩

end

/-! ## svc (R358, R359, R370) -/

section
variable {s u : State} {h : Hdr} {k : Nat} {n : BitVec 14}

/-- The exception of svc on core k: through vector 9, the address of the next instruction stacked (R358). -/
def State.svcTaken (u : State) (h : Hdr) (k : Nat) : State :=
  let next := finish (u.sees h) (u.sees h).issued 4 true [] none
  let w := (u.countIssue h.core).setCtx h.core next
  ({ w with free := w.free + 1 } : State).takeException k 9 (Config.freeNat w.free % 256) next.pc.toNat none none h.frame

/-- A call of the extension module: user mode of core 3 while the Starter runs. -/
def State.serves (u : State) (k : Nat) : Bool := k == 3 && (u.core k).u && u.starter.running

theorem starter_running_countIssue (r : CoreRef) : (u.countIssue r).starter.running = u.starter.running := by
  cases r <;> rfl

theorem core_u_countIssue (r : CoreRef) (k : Nat) : ((u.countIssue r).core k).u = (u.core k).u :=
  (congrArg Core.u (core_countIssue k) :)

theorem core_ksp_countIssue (r : CoreRef) (k : Nat) : ((u.countIssue r).core k).ksp = (u.core k).ksp :=
  (congrArg Core.ksp (core_countIssue k) :)

theorem serves_countIssue (r : CoreRef) : (u.countIssue r).serves k = u.serves k := by
  unfold State.serves
  rw [starter_running_countIssue, core_u_countIssue]

/-- What svc comes to on a core: a call of the extension module is served once its exception stands. -/
theorem exec_opSvc_core (hi : Issues s h .plain u) (hk : h.core = .starter k) :
    exec (.opSvc h n) s = .next (if u.serves k && ((u.svcTaken h k).core k).st == .running && ((u.svcTaken h k).core k).cause / 256 == 9
      then (u.svcTaken h k).service n.toNat (u.core k).ksp else u.svcTaken h k) := by
  rw [exec_opSvc, execOpSvc]
  split
  · exact absurd (hk.symm.trans ‹_›) (by nofun)
  · next j hj =>
    obtain rfl : k = j := CoreRef.starter.inj (hk.symm.trans hj)
    refine runInstr_whole hi ?_
    rw [← serves_countIssue h.core, ← core_ksp_countIssue (u := u) h.core]
    rfl

/-- svc on a Strider is a privileged instruction like the others. -/
theorem exec_opSvc_strider {x : Nat} (hx : h.core = .strider x) (henc : h.enc = .ok) (hf : Fetches s h u) :
    exec (.opSvc h n) s = .next ((u.countIssue h.core).faultAt h.core 2 0 h.frame) := by
  rw [exec_opSvc, execOpSvc]
  split
  · rw [privHdr_unprivileged henc (.inl ⟨x, hx⟩)]
    exact runInstr_privileged hf (by nofun) _
  · exact absurd (hx.symm.trans ‹_›) (by nofun)

end

/-- Settles O20: outside privileged mode the encoding of a privileged extension is refused before its body is looked at, but for the fields
that a core's decoder finds undefined; svc on a core is the exception of vector 9, and the service only follows it. -/
theorem privilegeAndSvc : Obligations.PrivilegeAndSvc := by
  refine ⟨fun s u h rd ra rb n5 henc hr hfetch hword hpoison hok => ?_, fun s u h n => ⟨fun k hk _ hi => ⟨fun hno => ?_, fun hs hrun hcause => ?_⟩,
    fun x hx henc hfetch hword hok => ?_⟩⟩
  · have hf : Fetches s h u := ⟨hfetch, hword, hpoison, hok⟩
    refine ⟨extensions_unprivileged henc hr hf rd ra rb, ?_, exec_opRfe_unprivileged henc hr hf⟩
    simp only [List.forall_mem_cons, List.not_mem_nil, false_imp_iff, implies_true, and_true]
    exact ⟨exec_opRdpr_unprivileged henc hr hf rd n5, exec_opWrpr_unprivileged henc hr hf n5 ra⟩
  · have hserves : u.serves k = false := by simpa [State.serves, and_assoc] using hno
    refine (exec_opSvc_core hi hk).trans ?_
    rw [hserves]
    rfl
  · have hserves : u.serves k = true := by simpa [State.serves, and_assoc] using hs
    have hst : ((u.svcTaken h k).core k).st = .running := hrun
    have hvector : ((u.svcTaken h k).core k).cause / 256 = 9 := hcause
    refine (exec_opSvc_core hi hk).trans ?_
    rw [hserves, hst, hvector]
    rfl
  · exact exec_opSvc_strider hx henc ⟨hfetch, hword, by rw [hx]; rfl, hok⟩

end Sys2Proof.Machine
end

section
/-! PROOFS. ORD, CRC, ATM and SQD commands (R212, R214, R255 to R259, Tables 8.23 to 8.26). -/

namespace Sys2Proof.Machine

/-! ## What a command comes to that issues (R204, R251) -/

section
variable {s u : State} {h : Hdr} {x : HArgs} {helper : Nat} {nops nrs : List Nat}

/-- The operands after the first. -/
theorem drop_hregs (u : State) (h : Hdr) (x : HArgs) : ((hregs x.hb.toNat x.nop.toNat).map (fun n => ((u.sees h).rh n).toNat)).drop 1 =
    (List.range (x.nop.toNat - 1)).map (fun k => u.opnd h x (k + 1)) := by
  refine List.ext_getElem (by simp [hregs]) fun k hk _ => ?_
  have hlt : 1 + k < x.nop.toNat := by simp [hregs] at hk; omega
  simp [hregs, State.opnd, Ctx.rh, Nat.add_comm k 1, hlt]

theorem opnd_lt (u : State) (h : Hdr) (x : HArgs) (k : Nat) : u.opnd h x k < 2 ^ 40 := by
  unfold State.opnd
  split
  · exact BitVec.isLt _
  · exact Nat.two_pow_pos 40

/-- Nothing keeps a command back that issues. -/
theorem issueCmd_commands (hc : Commands s u h x helper nops nrs) (cmd : State → List Nat → Did) :
    (u.countIssue h.core).issueCmd h x helper (u.sees h) cmd =
      cmd (u.countIssue h.core) ((hregs x.hb.toNat x.nop.toNat).map (fun n => ((u.sees h).rh n).toNat)) := by
  obtain ⟨-, hpend, hroom⟩ := hc
  have hfree : (hregs x.hb.toNat x.nop.toNat ++ hregs x.hd.toNat x.nr.toNat).any (u.sees h).pendH.contains = false := by
    rw [List.any_eq_false]
    intro n hn
    simpa using hpend n (List.mem_append.1 hn)
  unfold State.issueCmd
  dsimp only
  rw [hfree, hroom]
  rfl

theorem runInstr_faultIn {k : Kind} {body : State → Ctx → Did} {y : Nat} {v : State} {cause operand : Nat} (hi : Issues s h k u)
    (hb : body (u.countIssue h.core) (u.sees h) = .faultIn v cause operand) :
    s.runInstr h k body y = .next (v.faultAt h.core cause operand h.frame) := by
  rw [runInstr_issues hi, hb]

/-- A command of a run that has released its frame before faults RELEASE_TWICE (R212). -/
theorem helper_releasedTwice {cmd : State → List Nat → Option (List Nat × State)} {token : Bool} (hc : Commands s u h x helper nops nrs)
    (hr : cmd (u.countIssue h.core) ((hregs x.hb.toNat x.nop.toNat).map (fun n => ((u.sees h).rh n).toNat)) = none) :
    s.helperInstr h x helper nops nrs cmd token = .next ((u.countIssue h.core).faultAt h.core 8 0 h.frame) := by
  refine runInstr_fault hc.1 ((issueCmd_commands hc _).trans ?_)
  rw [hr]

end

/-! ## ORD (R255, Table 8.23) -/

section
variable {s u : State} {h : Hdr} {x : HArgs} {tid : Nat}

/-- The run's window is written back, and the run has released its frame. -/
def State.gone (w : State) (tid : Nat) : State := (w.writeBack tid).modThread tid (fun t => { t with released := true })

/-- The release is posted in the frame's order domain. -/
def State.posted (w : State) (tid : Nat) (r : Release) : State :=
  match ((w.gone tid).thread tid).fid with
  | some f => (w.gone tid).postRelease f r
  | none => w.gone tid

theorem releaseRun_first {w : State} {c : CoreRef} (hx : c = .strider tid) (hfirst : (w.thread tid).released = false) (r : Release) :
    w.releaseRun c r = some (w.posted tid r) := by
  rw [hx]
  refine (if_neg (by rw [hfirst]; nofun)).trans ?_
  change (match ((w.gone tid).thread tid).fid with
    | some f => some ((w.gone tid).postRelease f r)
    | none => some (w.gone tid)) = _
  unfold State.posted
  cases ((w.gone tid).thread tid).fid <;> rfl

theorem releaseRun_twice {w : State} {c : CoreRef} (hx : c = .strider tid) (htwice : (w.thread tid).released = true) (r : Release) :
    w.releaseRun c r = none := by
  rw [hx]
  exact if_pos htwice

theorem exec_opOrdRelease_first (hc : Commands s u h x 3 [2, 3, 4, 5, 6, 7] [0]) (hx : h.core = .strider tid)
    (hfirst : (u.thread tid).released = false) : exec (.opOrdRelease h x) s = .next (u.commands h x 3 ((u.countIssue h.core).posted tid
      (.toQueues ((List.range (x.nop.toNat - 1)).map (fun k => u.opnd h x (k + 1) % 2 ^ 14)) (u.opnd h x 0 / 2 ^ 27 % 2 ^ 12)
        ((u.opnd h x 0).testBit 39))) []) := by
  refine (exec_opOrdRelease h x s).trans (helper_commands hc ?_)
  rw [drop_hregs, op_hregs]
  rw [releaseRun_first hx ((released_countIssue ..).trans hfirst)]
  simp [bits, bit, Function.comp_def]

theorem exec_opOrdRelease_twice (hc : Commands s u h x 3 [2, 3, 4, 5, 6, 7] [0]) (hx : h.core = .strider tid)
    (htwice : (u.thread tid).released = true) :
    exec (.opOrdRelease h x) s = .next ((u.countIssue h.core).faultAt h.core 8 0 h.frame) := by
  refine (exec_opOrdRelease h x s).trans (helper_releasedTwice hc ?_)
  rw [releaseRun_twice hx ((released_countIssue ..).trans htwice)]
  rfl

theorem exec_opOrdDrop_first (hc : Commands s u h x 3 [0] [0]) (hx : h.core = .strider tid) (hfirst : (u.thread tid).released = false) :
    exec (.opOrdDrop h x) s =
      .next (u.commands h x 3 (((u.countIssue h.core).posted tid .drop).count Obj.PROGRAM_DROPS (squadOf tid)) []) := by
  refine (exec_opOrdDrop h x s).trans (helper_commands hc ?_)
  rw [releaseRun_first hx ((released_countIssue ..).trans hfirst), Option.map_some]
  rw [hx]

theorem exec_opOrdDrop_twice (hc : Commands s u h x 3 [0] [0]) (hx : h.core = .strider tid) (htwice : (u.thread tid).released = true) :
    exec (.opOrdDrop h x) s = .next ((u.countIssue h.core).faultAt h.core 8 0 h.frame) := by
  refine (exec_opOrdDrop h x s).trans (helper_releasedTwice hc ?_)
  rw [releaseRun_twice hx ((released_countIssue ..).trans htwice)]
  rfl

end

/-! ## CRC (R256, Table 8.24) -/

section
variable {s u : State} {h : Hdr} {x : HArgs} {tid : Nat} {e : Ecc}

/-- CRC WIN of a thread, by its operands: what Table 8.24 refuses, an uncorrectable word of the window (R219), or the running value. -/
def State.crcWin (w : State) (h : Hdr) (x : HArgs) (tid : Nat) (e : Ecc) (range seed : Nat) : Did :=
  let kind := range / 2 ^ 38 % 4
  let off := range % 256
  let len := range / 256 % 512
  let v := w.sramEvent (squadOf tid) (0x10000 + off) e
  if kind = 3 ∨ 256 < off + len then w.awaits h x 4 [2 ^ 39]
  else if e = .uncorrectable then .faultIn v 0x0C (0x10000 + off)
  else v.awaits h x 4 [checkRun kind (range.testBit 37) (seed % 2 ^ 32) (memReadN w.strider.windows (320 * tid + off) len)]

theorem exec_opCrcWin_strider (hx : h.core = .strider tid) : exec (.opCrcWin h x e) s = State.runInstr s
    { h with enc := s.helperEnc h x 4 [2] [1] } .plain
    (fun w c => w.issueCmd h x 4 c (fun w ops => w.crcWin h x tid e (op ops 0) (op ops 1))) 4 := by
  have hoff : ∀ n, bits n 7 0 = n % 256 := fun n => by simp [bits]
  have hlen : ∀ n, bits n 16 8 = n / 256 % 512 := fun n => rfl
  have hkind : ∀ n, bits n 39 38 = n / 2 ^ 38 % 4 := fun n => rfl
  have hseed : ∀ n, bits n 31 0 = n % 2 ^ 32 := fun n => by simp [bits]
  obtain ⟨core, short, enc, fetch, frame⟩ := h
  obtain rfl : core = .strider tid := hx
  rw [exec_opCrcWin, execOpCrcWin]
  unfold State.crcWin
  simp only [hoff, hlen, hkind, hseed, Bool.or_eq_true, decide_eq_true_eq, beq_iff_eq]
  rfl

theorem exec_opCrcWin_answers (hc : Commands s u h x 4 [2] [1]) (hx : h.core = .strider tid) {v : State} {vs : List Nat}
    (hd : (u.countIssue h.core).crcWin h x tid e (u.opnd h x 0) (u.opnd h x 1) = v.awaits h x 4 vs) :
    exec (.opCrcWin h x e) s = .next (u.commands h x 4 v vs) := by
  refine (exec_opCrcWin_strider hx).trans (runInstr_ok hc.1 ((issueCmd_commands hc _).trans ?_))
  rw [op_hregs, op_hregs]
  exact hd

theorem exec_opCrcWin_faults (hc : Commands s u h x 4 [2] [1]) (hx : h.core = .strider tid) {v : State} {cause operand : Nat}
    (hd : (u.countIssue h.core).crcWin h x tid e (u.opnd h x 0) (u.opnd h x 1) = .faultIn v cause operand) :
    exec (.opCrcWin h x e) s = .next (v.faultAt h.core cause operand h.frame) := by
  refine (exec_opCrcWin_strider hx).trans (runInstr_faultIn hc.1 ((issueCmd_commands hc _).trans ?_))
  rw [op_hregs, op_hregs]
  exact hd

theorem exec_opCrcReg_commands (hc : Commands s u h x 4 [2, 3, 4, 5, 6, 7] [1]) :
    let o := u.opnd h x
    let kind := o 0 / 2 ^ 38 % 4
    let count := o 0 / 2 ^ 32 % 32
    exec (.opCrcReg h x) s = .next (u.commands h x 4 (u.countIssue h.core)
      [if kind = 3 ∨ count = 0 ∨ 5 * (x.nop.toNat - 1) < count then 2 ^ 39 else checkRun kind ((o 0).testBit 37) (o 0 % 2 ^ 32)
        (((List.range (x.nop.toNat - 1)).flatMap (fun k => beBytes 5 (o (k + 1)))).take count)]) := by
  have hkind : bits (u.opnd h x 0) 39 38 = u.opnd h x 0 / 2 ^ 38 % 4 := rfl
  have hcount : bits (u.opnd h x 0) 36 32 = u.opnd h x 0 / 2 ^ 32 % 32 := rfl
  refine (exec_opCrcReg h x s).trans (helper_commands hc ?_)
  rw [drop_hregs, op_hregs, List.flatMap_map]
  dsimp only
  by_cases hbad : u.opnd h x 0 / 2 ^ 38 % 4 = 3 ∨ u.opnd h x 0 / 2 ^ 32 % 32 = 0 ∨ 5 * (x.nop.toNat - 1) < u.opnd h x 0 / 2 ^ 32 % 32
  · rw [if_pos hbad, if_pos (by simpa only [Bool.or_eq_true, decide_eq_true_eq, or_assoc, hkind, hcount] using hbad)]
  · rw [if_neg hbad, if_neg (by simpa only [Bool.or_eq_true, decide_eq_true_eq, or_assoc, hkind, hcount] using hbad)]
    simp [bits, bit]

end

/-! ## ATM (R257, R259, Table 8.25) -/

section
variable {s u : State} {h : Hdr} {x : HArgs} {w : State} {i j : Nat} {f : Nat → Option Nat}

theorem exec_opAtmUnlock_commands (hc : Commands s u h x 5 [1] [0, 1]) :
    let r := (u.countIssue h.core).unlockBy (midOf h.core) (u.opnd h x 0 % 64)
    exec (.opAtmUnlock h x) s = .next (u.commands h x 5 r.2 [nat01 r.1 * 2 ^ 39]) := by
  refine (exec_opAtmUnlock h x s).trans (helper_commands hc ?_)
  simp [op_hregs, bits]

theorem exec_opAtmLock_commands (hc : Commands s u h x 5 [1] [1]) {may : Bool} (hmay : (match h.core with
      | .strider _ => (u.countIssue h.core).mayLockThread ((u.countIssue h.core).runTenant h.core) (u.opnd h x 0 % 64)
      | .starter _ => (u.countIssue h.core).mayLock (midOf h.core) (u.opnd h x 0 % 64)) = may) :
    let r := (u.countIssue h.core).attempt (midOf h.core) (u.opnd h x 0 % 64) may
    exec (.opAtmLock h x) s = .next (u.commands h x 5 r.2.2 [nat01 r.1 * 2 ^ 39 + nat01 r.2.1 * 2 ^ 38]) := by
  have hbits : bits (u.opnd h x 0) 5 0 = u.opnd h x 0 % 64 := by simp [bits]
  refine (exec_opAtmLock h x s).trans (helper_commands hc ?_)
  rewrite [op_hregs, hbits, ← hmay]
  cases h.core <;> rfl

/-- An operation on a word of the tenant's block. -/
theorem atomic_within {r : CoreRef} (hw : w.atomIndex (w.runTenant r) i = some j) (f : Nat → Option Nat) :
    w.atomic r i f = ([w.atom j], (f (w.atom j)).elim w (w.setAtom j)) := by
  unfold State.atomic
  rw [hw]
  dsimp only
  cases f (w.atom j) <;> rfl

/-- An operation outside the tenant's block is counted, and answers 0 (R306). -/
theorem atomic_outside {r : CoreRef} (hw : w.atomIndex (w.runTenant r) i = none) (f : Nat → Option Nat) :
    w.atomic r i f = ([0], w.count Obj.ATOMIC_RANGE_ERRORS) := by
  unfold State.atomic
  rw [hw]

theorem setAtom_word {v : Nat} (hv : v < 2 ^ 40) : w.setAtom i v = { w with ten.atoms := tabPut w.ten.atoms i 0 v } := by
  unfold State.setAtom
  rw [Nat.mod_eq_of_lt hv]

theorem exec_opAtmAdd_commands (hc : Commands s u h x 5 [2] [1]) : 
    let r := (u.countIssue h.core).atomic h.core (u.opnd h x 0 % 2 ^ 16) (fun o => some (o + u.opnd h x 1))
    exec (.opAtmAdd h x) s = .next (u.commands h x 5 r.2 r.1) := by
  refine (exec_opAtmAdd h x s).trans (helper_commands hc ?_)
  simp [op_hregs, bits]

theorem exec_opAtmSwap_commands (hc : Commands s u h x 5 [2] [1]) :
    let r := (u.countIssue h.core).atomic h.core (u.opnd h x 0 % 2 ^ 16) (fun _ => some (u.opnd h x 1))
    exec (.opAtmSwap h x) s = .next (u.commands h x 5 r.2 r.1) := by
  refine (exec_opAtmSwap h x s).trans (helper_commands hc ?_)
  simp [op_hregs, bits]

theorem exec_opAtmCas_commands (hc : Commands s u h x 5 [3] [1]) :
    let r := (u.countIssue h.core).atomic h.core (u.opnd h x 0 % 2 ^ 16) (fun o => if o = u.opnd h x 1 then some (u.opnd h x 2) else none)
    exec (.opAtmCas h x) s = .next (u.commands h x 5 r.2 r.1) := by
  refine (exec_opAtmCas h x s).trans (helper_commands hc ?_)
  simp [op_hregs, bits]

end

/-! ## SQD (R197, R258, Table 8.26) -/

section
variable {v : State} {h : Hdr} {w tid : Nat} {atomic : Bool} {e : Ecc} {f : Nat → Option Nat}

theorem post_strider (s : State) (q tenant what : Nat) : (s.post q tenant what).strider = s.strider := by
  simp only [State.post]
  split
  · split <;> rfl
  · rfl

theorem logError_strider (s : State) (source severity att : Nat) (tenant : Option Nat) (o i detail : Nat) :
    (s.logError source severity att tenant o i detail).strider = s.strider := by
  have hraise : ∀ u : State, (if att = 0 then u else u.raise att tenant o i).strider = u.strider := fun u => by split <;> rfl
  simp only [State.logError, hraise]
  split
  · rfl
  · rw [post_strider]
    split <;> rfl

theorem sramEvent_strider (s : State) (unit addr : Nat) (e : Ecc) : (s.sramEvent unit addr e).strider = s.strider := by
  cases e with
  | clean => rfl
  | corrected => exact logError_strider ..
  | uncorrectable => exact logError_strider ..

theorem memReadN_eq_map (m : Mem) (a n : Nat) : memReadN m a n = (List.range n).map (fun k => memRead m (a + k)) := by
  induction n generalizing a with
  | zero => rfl
  | succ n ih => simp [memReadN, ih, List.range_succ_eq_map, Function.comp_def, Nat.add_assoc, Nat.add_comm 1]

/-- A read that ends in the store draws no free value. -/
theorem sqdRead_within {sq a n : Nat} (ha : a + n ≤ 2 ^ 21) : v.sqdRead sq a n = (memReadN v.strider.sstore (sq * 2 ^ 21 + a) n, v) := by
  unfold State.sqdRead
  rw [if_pos ha, memReadN_eq_map]
  refine Prod.ext (List.map_congr_left fun k hk => ?_) rfl
  exact if_pos (by have := List.mem_range.1 hk; omega)

theorem sqdWrite_within {sq a : Nat} {b : Blob} (ha : a + b.length ≤ 2 ^ 21) :
    v.sqdWrite sq a b = { v with strider.sstore := memWriteN v.strider.sstore (sq * 2 ^ 21 + a) b } := by
  unfold State.sqdWrite
  rw [List.take_of_length_le (by omega)]

/-- The operand of an SQD command that its row refuses with RANGE. -/
def SqdBad (w : Nat) (atomic : Bool) : Prop :=
  w / 2 ^ 21 % 2 ^ 17 ≠ 0 ∨ (w / 2 ^ 38 % 4 = 3 ∧ 8 < w % 2 ^ 21 % 8 + 5) ∨ (atomic = true ∧ w / 2 ^ 38 % 4 < 2)

theorem sqdSize_eq_five : ∀ c < 4, sqdSize c = 5 ↔ c = 3 := by decide

/-- The model's test of the operand is that of the table. -/
theorem sqdBad_iff : (bits w 37 21 != 0 || (sqdSize (bits w 39 38) = 5 && crosses8 (bits w 20 0) 5) || (atomic && bits w 39 38 < 2)) = true ↔
    SqdBad w atomic := by
  have hfive : decide (sqdSize (bits w 39 38) = 5) = decide (w / 2 ^ 38 % 4 = 3) :=
    decide_eq_decide.2 (sqdSize_eq_five _ (Nat.mod_lt _ (by decide)))
  rw [hfive]
  simp [SqdBad, bits, crosses8, or_assoc]

theorem sqd_bad (hbad : SqdBad w atomic) : v.sqd h w atomic e f = ([0, 2 ^ 38], v) := if_pos (sqdBad_iff.2 hbad)

/-- What is written of the word at an address, if anything. -/
def State.sqdPut (v : State) (a n : Nat) : Option Nat → State
  | some y => { v with strider.sstore := memWriteN v.strider.sstore a (beBytes n y) }
  | none => v

theorem sqd_good (hx : h.core = .strider tid) (hgood : ¬ SqdBad w atomic) (he : e ≠ .uncorrectable)
    (hend : w % 2 ^ 21 + sqdSize (w / 2 ^ 38 % 4) ≤ 2 ^ 21) :
    let base := squadOf tid * 2 ^ 21 + w % 2 ^ 21
    let n := sqdSize (w / 2 ^ 38 % 4)
    let old := beNat (memReadN v.strider.sstore base n)
    v.sqd h w atomic e f = ([old, 0], (v.sramEvent (12 + squadOf tid) (w % 2 ^ 21) e).sqdPut base n (f old)) := by
  have haddr : bits w 20 0 = w % 2 ^ 21 := by simp [bits]
  have hsize : bits w 39 38 = w / 2 ^ 38 % 4 := rfl
  have hstore := sramEvent_strider v (12 + squadOf tid) (w % 2 ^ 21) e
  unfold State.sqd
  rw [hx, haddr]
  refine (if_neg (haddr ▸ sqdBad_iff.not.2 hgood)).trans ?_
  rw [if_neg (by simpa using he), hsize]
  dsimp only
  rw [sqdRead_within hend]
  dsimp only
  rw [hstore]
  cases f _ with
  | none => rfl
  | some y => exact congrArg (Prod.mk _) (sqdWrite_within (by rw [length_beBytes]; exact hend))

end

section
variable {s u : State} {h : Hdr} {x : HArgs} {e : Ecc}

theorem exec_opSqdLd_commands (hc : Commands s u h x 6 [1] [1, 2]) :
    let r := (u.countIssue h.core).sqd h (u.opnd h x 0) false e (fun _ => none)
    exec (.opSqdLd h x e) s = .next (u.commands h x 6 r.2 r.1) := by
  refine (exec_opSqdLd h x e s).trans (helper_commands hc ?_)
  rw [op_hregs]

theorem exec_opSqdSt_commands (hc : Commands s u h x 6 [2] [0, 1]) :
    let r := (u.countIssue h.core).sqd h (u.opnd h x 0) false e (fun _ => some (u.opnd h x 1))
    exec (.opSqdSt h x e) s = .next (u.commands h x 6 r.2 (r.1.drop 1)) := by
  refine (exec_opSqdSt h x e s).trans (helper_commands hc ?_)
  rw [op_hregs, op_hregs]

theorem exec_opSqdAdd_commands (hc : Commands s u h x 6 [2] [1, 2]) :
    let r := (u.countIssue h.core).sqd h (u.opnd h x 0) true e (fun old => some (old + u.opnd h x 1))
    exec (.opSqdAdd h x e) s = .next (u.commands h x 6 r.2 r.1) := by
  refine (exec_opSqdAdd h x e s).trans (helper_commands hc ?_)
  rw [op_hregs, op_hregs]

/-- CAS compares in the operation's width. -/
theorem exec_opSqdCas_commands (hc : Commands s u h x 6 [3] [1, 2]) :
    let r := (u.countIssue h.core).sqd h (u.opnd h x 0) true e
      (fun old => if old = u.opnd h x 1 % 256 ^ sqdSize (u.opnd h x 0 / 2 ^ 38 % 4) then some (u.opnd h x 2) else none)
    exec (.opSqdCas h x e) s = .next (u.commands h x 6 r.2 r.1) := by
  have hsize : bits (u.opnd h x 0) 39 38 = u.opnd h x 0 / 2 ^ 38 % 4 := rfl
  refine (exec_opSqdCas h x e s).trans (helper_commands hc ?_)
  simp only [op_hregs, hsize]

end

/-- Settles O18: each command's result follows from its operands by what its helper does; within the squad store an SQD access takes no
free value, and an ECC event leaves the store alone. -/
theorem ordCrcAtmSqdResults : Obligations.OrdCrcAtmSqdResults := by
  intro s u h x e
  refine ⟨fun tid hx => ⟨fun hc => ⟨fun hfirst => exec_opOrdRelease_first hc hx hfirst, fun htwice => exec_opOrdRelease_twice hc hx htwice⟩,
      fun hc => ⟨fun hfirst => exec_opOrdDrop_first hc hx hfirst, fun htwice => exec_opOrdDrop_twice hc hx htwice⟩⟩,
    fun hc => (exec_opOrdToken h x s).trans (helper_commands hc rfl),
    fun tid hx hc => ⟨fun hbad => exec_opCrcWin_answers hc hx (if_pos hbad), fun hkind hrange he => ?crcGood, fun hkind hrange he => ?crcFaults⟩,
    fun hc => exec_opCrcReg_commands hc, fun hc => exec_opAtmLock_commands hc rfl, fun hc => exec_opAtmUnlock_commands hc,
    fun i hi => ⟨fun hc => ⟨?add, ?swap⟩, fun hc => ?cas⟩, fun hnone hc => ⟨?addOut, ?swapOut⟩, fun tid hx => ?sqd⟩
  case crcGood =>
    refine exec_opCrcWin_answers hc hx ((if_neg ?_).trans (if_neg he))
    exact not_or.2 ⟨hkind, not_lt.2 hrange⟩
  case crcFaults =>
    refine exec_opCrcWin_faults hc hx ((if_neg ?_).trans (if_pos he))
    exact not_or.2 ⟨hkind, not_lt.2 hrange⟩
  case add =>
    refine (exec_opAtmAdd_commands hc).trans ?_
    rw [atomic_within hi]
    rfl
  case swap =>
    refine (exec_opAtmSwap_commands hc).trans ?_
    rw [atomic_within hi, Option.elim_some, setAtom_word (opnd_lt ..)]
  case cas =>
    refine (exec_opAtmCas_commands hc).trans ?_
    rw [atomic_within hi]
    dsimp only
    split
    · rw [Option.elim_some, setAtom_word (opnd_lt ..)]
    · rfl
  case addOut =>
    refine (exec_opAtmAdd_commands hc).trans ?_
    rw [atomic_outside hnone]
  case swapOut =>
    refine (exec_opAtmSwap_commands hc).trans ?_
    rw [atomic_outside hnone]
  case sqd =>
    refine ⟨fun hc hbad => ?_, fun hc hbad => ?_, fun hc hbad => ?_, fun hc hbad => ?_, fun he hend =>
      ⟨fun hc hgood => ?_, fun hc hgood => ?_, fun hc hgood => ?_, fun hc hgood => ?_⟩⟩
    · refine (exec_opSqdLd_commands hc).trans ?_
      rw [sqd_bad hbad]
    · refine (exec_opSqdSt_commands hc).trans ?_
      rw [sqd_bad hbad]
      rfl
    · refine (exec_opSqdAdd_commands hc).trans ?_
      rw [sqd_bad hbad]
    · refine (exec_opSqdCas_commands hc).trans ?_
      rw [sqd_bad hbad]
    · refine (exec_opSqdLd_commands hc).trans ?_
      rw [sqd_good hx hgood he hend]
      rfl
    · refine (exec_opSqdSt_commands hc).trans ?_
      rw [sqd_good hx hgood he hend]
      rfl
    · refine (exec_opSqdAdd_commands hc).trans ?_
      rw [sqd_good hx hgood he hend]
      rfl
    · refine (exec_opSqdCas_commands hc).trans ?_
      rw [sqd_good hx hgood he hend]
      dsimp only
      split
      · next hsame => exact congrArg (fun v => Host.Outcome.next (u.commands h x 6 v _)) (if_pos hsame).symm
      · next hother => exact congrArg (fun v => Host.Outcome.next (u.commands h x 6 v _)) (if_neg hother).symm

end Sys2Proof.Machine
end

section
/-! PROOFS. Sums, differences, moves, logic, products, extremes and bit counts (R233, R245, R246, Tables 8.8 and 8.10). -/

namespace Sys2Proof.Machine

/-! ## Sums and differences (R245) -/

/-- A sum overflows where its operands have one sign and it has the other. -/
theorem sum_overflows (a b : W40) {n : Nat} (hn : n ≤ 1) : (a.msb == b.msb && (a + b + BitVec.ofNat 40 n).msb != a.msb) =
    decide (a.toInt + b.toInt + n < -2 ^ 39 ∨ 2 ^ 39 ≤ a.toInt + b.toInt + n) := by
  have hsum : (a + b + BitVec.ofNat 40 n).toNat = (a.toNat + b.toNat + n) % 2 ^ 40 := by simp
  have ha := a.isLt
  have hb := b.isLt
  rw [BitVec.toInt_eq_toNat_cond, BitVec.toInt_eq_toNat_cond, Bool.eq_iff_iff]
  simp only [BitVec.msb_eq_decide, hsum, Bool.and_eq_true, beq_iff_eq, bne_iff_ne, ne_eq, decide_eq_decide, decide_eq_true_eq]
  split <;> split <;> omega

/-- A difference overflows where its operands have different signs and it has not that of the first. -/
theorem difference_overflows (a b : W40) {n : Nat} (hn : n ≤ 1) : (a.msb != b.msb && (a - b - BitVec.ofNat 40 n).msb != a.msb) =
    decide (a.toInt - b.toInt - n < -2 ^ 39 ∨ 2 ^ 39 ≤ a.toInt - b.toInt - n) := by
  have hdiff : (a - b - BitVec.ofNat 40 n).toNat = (2 * 2 ^ 40 + a.toNat - b.toNat - n) % 2 ^ 40 := by
    have hb := b.isLt
    simp only [BitVec.toNat_sub, BitVec.toNat_ofNat]
    omega
  have ha := a.isLt
  have hb := b.isLt
  rw [BitVec.toInt_eq_toNat_cond, BitVec.toInt_eq_toNat_cond, Bool.eq_iff_iff]
  simp only [BitVec.msb_eq_decide, hdiff, Bool.and_eq_true, bne_iff_ne, ne_eq, decide_eq_decide, decide_eq_true_eq]
  split <;> split <;> omega

theorem addFlags_eq (a b : W40) (c : Bool) : addFlags a b c = (a + b + BitVec.ofNat 40 (nat01 c), sumFlags a b (nat01 c)) := by
  unfold sumFlags
  dsimp only
  rw [← sum_overflows a b (by cases c <;> decide)]
  cases c <;> rfl

theorem subFlags_eq (a b : W40) (c : Bool) : subFlags a b c = (a - b - BitVec.ofNat 40 (nat01 !c), diffFlags a b (nat01 !c)) := by
  unfold diffFlags
  dsimp only
  rw [← difference_overflows a b (by cases c <;> decide)]
  cases c <;> rfl

theorem addFlags_false (a b : W40) : addFlags a b false = (a + b, sumFlags a b 0) :=
  (addFlags_eq a b false).trans (congrArg (·, sumFlags a b 0) (BitVec.add_zero _))

theorem subFlags_true (a b : W40) : subFlags a b true = (a - b, diffFlags a b 0) :=
  (subFlags_eq a b true).trans (congrArg (·, diffFlags a b 0) (BitVec.sub_zero _))

/-- Settles O1: each form is the sum or difference with its carry, and overflow is read off the signs. -/
theorem addSubResults : Obligations.AddSubResults := by
  intro s u h rd ra rb imm hi
  refine ⟨(exec_opAdd h rd ra rb s).trans ((alu_issues hi _).trans ?_), (exec_opAddi h rd ra imm s).trans ((alu_issues hi _).trans ?_),
    (exec_opAddc h rd ra rb s).trans ((alu_issues hi _).trans ?_), (exec_opSub h rd ra rb s).trans ((alu_issues hi _).trans ?_),
    (exec_opSubb h rd ra rb s).trans ((alu_issues hi _).trans ?_), (exec_opCmp h ra rb s).trans ((alu_issues hi _).trans ?_),
    (exec_opCmpi h ra imm s).trans ((alu_issues hi _).trans ?_)⟩
  · rw [addFlags_false]; rfl
  · rw [addFlags_false]; rfl
  · rw [addFlags_eq]; rfl
  · rw [subFlags_true]; rfl
  · rw [subFlags_eq]; rfl
  · rw [subFlags_true]; rfl
  · rw [subFlags_true]; rfl

end Sys2Proof.Machine
end

section
/-! PROOFS. Moves, logic, products, extremes and bit counts (R233, R246, Tables 8.8 and 8.10). -/

namespace Sys2Proof.Machine

/-! ## Products, extremes and bit counts -/

/-- movu keeps bits [20:0] and takes the others from its immediate. -/
theorem movu_parts (a : W40) (i : BitVec 19) :
    (deposit a (i.setWidth 40) 21 19).extractLsb' 21 19 = i ∧ (deposit a (i.setWidth 40) 21 19).extractLsb' 0 21 = a.extractLsb' 0 21 := by
  constructor
  · refine BitVec.eq_of_getLsbD_eq fun j hj => ?_
    rw [BitVec.getLsbD_extractLsb', getLsbD_deposit _ _ _ _ _ (by omega), if_pos (by omega), BitVec.getLsbD_setWidth,
      Nat.add_sub_cancel_left, decide_eq_true hj, decide_eq_true (by omega), Bool.true_and, Bool.true_and]
  · refine BitVec.eq_of_getLsbD_eq fun j hj => ?_
    rw [BitVec.getLsbD_extractLsb', BitVec.getLsbD_extractLsb', getLsbD_deposit _ _ _ _ _ (by omega), if_neg (by omega)]

/-- mul and mulhu are the two halves of the product. -/
theorem product_halves (a b : W40) :
    a.toNat * b.toNat = (BitVec.ofNat 40 (a.toNat * b.toNat / 2 ^ 40)).toNat * 2 ^ 40 + (a * b).toNat := by
  have hlt : a.toNat * b.toNat < 2 ^ 40 * 2 ^ 40 := Nat.mul_lt_mul'' a.isLt b.isLt
  rw [BitVec.toNat_mul, BitVec.toNat_ofNat, Nat.mod_eq_of_lt (Nat.div_lt_of_lt_mul hlt), Nat.div_add_mod']

theorem toInt_signedMin (a b : W40) : (if a.slt b then a else b).toInt = min a.toInt b.toInt := by
  simp only [BitVec.slt, decide_eq_true_eq, apply_ite BitVec.toInt]
  split <;> omega

theorem toInt_signedMax (a b : W40) : (if a.slt b then b else a).toInt = max a.toInt b.toInt := by
  simp only [BitVec.slt, decide_eq_true_eq, apply_ite BitVec.toInt]
  split <;> omega

theorem toNat_unsignedMin (a b : W40) : (if a.ult b then a else b).toNat = min a.toNat b.toNat := by
  simp only [BitVec.ult, decide_eq_true_eq, apply_ite BitVec.toNat]
  split <;> omega

theorem toNat_unsignedMax (a b : W40) : (if a.ult b then b else a).toNat = max a.toNat b.toNat := by
  simp only [BitVec.ult, decide_eq_true_eq, apply_ite BitVec.toNat]
  split <;> omega

/-- A count of at most 40 in a register reads back. -/
theorem toNat_ofNat_count {n : Nat} (hn : n ≤ 40) : (BitVec.ofNat 40 n).toNat = n := by
  rw [BitVec.toNat_ofNat, Nat.mod_eq_of_lt (by omega)]

theorem popCount_le (a : W40) : popCount a ≤ 40 := (List.length_filter_le _ _).trans List.length_range.le

theorem leadingZeros_eq (a : W40) : leadingZeros a = (List.range 40).findIdx (fun k => a.getLsbD (39 - k)) := by
  have hle := List.findIdx_le_length (p := fun k => a.getLsbD (39 - k)) (xs := List.range 40)
  simp only [leadingZeros, List.takeWhile_eq_take_findIdx_not, Bool.not_not, List.length_take]
  omega

theorem leadingZeros_le (a : W40) : leadingZeros a ≤ 40 := by
  rw [leadingZeros_eq]
  exact List.findIdx_le_length.trans List.length_range.le

theorem getLsbD_leading {a : W40} {k : Nat} (hk : 40 - leadingZeros a ≤ k) : a.getLsbD k = false := by
  rcases Nat.lt_or_ge k 40 with hlt | hge
  · rw [leadingZeros_eq] at hk
    have hzero := List.not_of_lt_findIdx (p := fun k => a.getLsbD (39 - k)) (xs := List.range 40) (i := 39 - k) (by omega)
    simpa only [List.getElem_range, Nat.sub_sub_self (Nat.le_of_lt_succ hlt)] using hzero
  · exact BitVec.getLsbD_of_ge a k hge

theorem getLsbD_first {a : W40} (hlt : leadingZeros a < 40) : a.getLsbD (39 - leadingZeros a) = true := by
  rw [leadingZeros_eq] at hlt ⊢
  have hone := List.findIdx_getElem (p := fun k => a.getLsbD (39 - k)) (xs := List.range 40) (w := by rw [List.length_range]; exact hlt)
  simpa only [List.getElem_range] using hone

/-- Settles O2: each result is its instruction's operation; the products are halves of one number, and the counts read back. -/
theorem logicAndProductResults : Obligations.LogicAndProductResults := by
  intro s u h rd ra rb i14 i19 imm hi c a b
  refine ⟨(exec_opMov h rd ra s).trans (alu_issues hi _), (exec_opMovi h rd imm s).trans (alu_issues hi _),
    ⟨_, (exec_opMovu h rd i19 s).trans (alu_issues hi _), movu_parts _ i19⟩,
    (exec_opAnd h rd ra rb s).trans (alu_issues hi _), (exec_opAndi h rd ra i14 s).trans (alu_issues hi _),
    (exec_opOr h rd ra rb s).trans (alu_issues hi _), (exec_opOri h rd ra i14 s).trans (alu_issues hi _),
    (exec_opXor h rd ra rb s).trans (alu_issues hi _), (exec_opXori h rd ra i14 s).trans (alu_issues hi _),
    (exec_opAndn h rd ra rb s).trans (alu_issues hi _),
    ⟨a * b, _, product_halves a b, (exec_opMul h rd ra rb s).trans (alu_issues hi _), (exec_opMulhu h rd ra rb s).trans (alu_issues hi _)⟩,
    ⟨_, _, toInt_signedMin a b, toInt_signedMax a b,
      (exec_opMin h rd ra rb s).trans (alu_issues hi _), (exec_opMax h rd ra rb s).trans (alu_issues hi _)⟩,
    ⟨_, _, toNat_unsignedMin a b, toNat_unsignedMax a b,
      (exec_opMinu h rd ra rb s).trans (alu_issues hi _), (exec_opMaxu h rd ra rb s).trans (alu_issues hi _)⟩,
    ⟨_, toNat_ofNat_count (popCount_le a), (exec_opPopc h rd ra s).trans (alu_issues hi _)⟩,
    ⟨BitVec.ofNat 40 (leadingZeros a), ?_⟩⟩
  rw [toNat_ofNat_count (leadingZeros_le a)]
  exact ⟨leadingZeros_le a, fun k hk => getLsbD_leading hk, fun hlt => getLsbD_first hlt,
    (exec_opClz h rd ra s).trans (alu_issues hi _)⟩

end Sys2Proof.Machine
end

section
/-! PROOFS. Shifts, rotates and the funnel shift (R232, R245, R246, Table 8.10). -/

namespace Sys2Proof.Machine

/-- Copies of bit 39 come in from the left: the signed value is divided, rounding down. -/
theorem sshiftRight_eq_ofInt (a : W40) (n : Nat) : a.sshiftRight n = BitVec.ofInt 40 (a.toInt / 2 ^ n) := by
  rw [BitVec.sshiftRight, Int.shiftRight_eq_div_pow, Nat.cast_pow, Nat.cast_ofNat]

theorem rotateLeft_eq_or (a : W40) (n : Nat) : a.rotateLeft (n % 40) = (a <<< (n % 40)) ||| (a >>> (40 - n % 40)) := by
  rw [BitVec.rotateLeft, BitVec.rotateLeftAux, Nat.mod_mod]

/-- fsh takes its low n bits from the top of the second source, the others from the bottom of the first. -/
theorem getLsbD_funnel (a b : W40) {n k : Nat} (hn : n ≤ 40) (hk : k < 40) :
    (funnel a b n).getLsbD k = if k < n then b.getLsbD (40 - n + k) else a.getLsbD (k - n) := by
  rw [funnel, BitVec.getLsbD_ofNat, decide_eq_true hk, Bool.true_and, Nat.testBit_div_two_pow, Nat.mul_comm, Nat.testBit_two_pow_mul_add _ b.isLt]
  by_cases hlow : k < n
  · rw [if_pos hlow, if_pos (by omega), Nat.add_comm, BitVec.getLsbD]
  · rw [if_neg hlow, if_neg (by omega), BitVec.getLsbD]
    congr 1
    omega

/-- A shift by a count of at most 40 issues as its body says; one by any other count faults ILLEGAL (R232). -/
theorem countedShift_issues {s u : State} {h : Hdr} (hi : Issues s h .plain u) {n : BitVec 6} {ws : Ctx → List (Dest × W40 × Nat)} :
    s.runInstr h .plain (fun s c => if 40 < n.toNat then .fault 1 0 else .ok s (ws c)) =
      if n.toNat ≤ 40 then .next (u.computes h (ws (u.sees h))) else .next ((u.countIssue h.core).faultAt h.core 1 0 h.frame) := by
  by_cases hn : n.toNat ≤ 40
  · rw [if_pos hn]
    exact runInstr_ok hi (if_neg (not_lt.2 hn))
  · rw [if_neg hn]
    exact runInstr_fault hi (if_pos (not_le.1 hn))

theorem result_sar (rd : BitVec 5) (a : W40) (k : Nat) : result rd (sarFlags a k) =
    let r := BitVec.ofInt 40 (a.toInt / 2 ^ k)
    [wr rd r, fl (shiftFlags r k (if k ≤ 40 then a.getLsbD (k - 1) else a.msb))] := by
  rw [← sshiftRight_eq_ofInt]
  rfl

theorem result_rol (rd : BitVec 5) (a : W40) (k : Nat) : result rd (rolFlags a k) =
    let r := (a <<< (k % 40)) ||| (a >>> (40 - k % 40))
    [wr rd r, flZN r] := by
  rw [← rotateLeft_eq_or]
  rfl

/-- Settles O3: a shift by a register and one by a count are one function of the count. -/
theorem shiftResults : Obligations.ShiftResults := by
  intro s u h rd ra rb n hi
  refine ⟨(exec_opShl h rd ra rb s).trans (alu_issues hi _), (exec_opShr h rd ra rb s).trans (alu_issues hi _),
    (exec_opSar h rd ra rb s).trans ((alu_issues hi _).trans ?_), (exec_opRol h rd ra rb s).trans ((alu_issues hi _).trans ?_),
    (exec_opShli h rd ra n s).trans (countedShift_issues hi), (exec_opShri h rd ra n s).trans (countedShift_issues hi),
    (exec_opSari h rd ra n s).trans ((countedShift_issues hi).trans ?_), (exec_opRoli h rd ra n s).trans ((countedShift_issues hi).trans ?_),
    fun hn => ⟨_, (exec_opFsh h rd ra rb n s).trans ((countedShift_issues hi).trans (if_pos hn)), fun k hk => getLsbD_funnel _ _ hn hk⟩,
    fun hn => (exec_opFsh h rd ra rb n s).trans ((countedShift_issues hi).trans (if_neg (not_le.2 hn)))⟩
  · rw [result_sar]
  · rw [result_rol]
  · rw [result_sar]
  · rw [result_rol]

end Sys2Proof.Machine
end

section
/-! PROOFS. Four-state digits (R6, R246, R248, Tables 8.16 and 8.17). -/

namespace Sys2Proof.Machine

theorem digit_lt (a : W40) (k : Nat) : digit a k < 4 := Nat.mod_lt _ (by decide)

/-- A register given by its digits has those digits. -/
theorem digit_ofDigits {f : Nat → Nat} (hf : ∀ k, f k < 4) {k : Nat} (hk : k < 20) : digit (ofDigits f) k = f k := by
  have hdigit : digit (ofDigits f) k = (ofDigits f).toNat / 2 ^ (2 * k) % 2 ^ 2 := by rw [Nat.pow_mul]; rfl
  refine Nat.eq_of_testBit_eq fun j => ?_
  rw [hdigit, Nat.testBit_mod_two_pow, Nat.testBit_div_two_pow]
  rcases Nat.lt_or_ge j 2 with hj | hj
  · have hbit := getLsbD_ofDigits f hf 20 (j + 2 * k) (by omega)
    rw [BitVec.getLsbD] at hbit
    rw [hbit, decide_eq_true hj, decide_eq_true (by omega), Bool.true_and, Bool.true_and, show (j + 2 * k) / 2 = k by omega,
      show (j + 2 * k) % 2 = j by omega]
  · have hlt : f k < 2 ^ j := (hf k).trans_le (Nat.pow_le_pow_right Nat.two_pos hj)
    rw [decide_eq_false (not_lt.2 hj), Bool.false_and, Nat.testBit_lt_two_pow hlt]

/-! ## The tables of digits -/

theorem digitAnd_eq (x y : Nat) : digitAnd x y = if x = 0 ∨ y = 0 then 0 else if x = 1 ∧ y = 1 then 1 else 3 := by
  simp only [digitAnd, Bool.or_eq_true, Bool.and_eq_true, decide_eq_true_eq]

theorem digitOr_eq (x y : Nat) : digitOr x y = if x = 1 ∨ y = 1 then 1 else if x = 0 ∧ y = 0 then 0 else 3 := by
  simp only [digitOr, Bool.or_eq_true, Bool.and_eq_true, decide_eq_true_eq]

theorem digitXor_eq (x y : Nat) : digitXor x y = if 2 ≤ x ∨ 2 ≤ y then 3 else if x = y then 0 else 1 := by
  simp only [digitXor, Bool.or_eq_true, decide_eq_true_eq, ge_iff_le]
  split
  · rfl
  · split <;> omega

theorem digitAnd_lt (x y : Nat) : digitAnd x y < 4 := by
  rw [digitAnd_eq]
  split_ifs <;> decide

theorem digitOr_lt (x y : Nat) : digitOr x y < 4 := by
  rw [digitOr_eq]
  split_ifs <;> decide

theorem digitXor_lt (x y : Nat) : digitXor x y < 4 := by
  rw [digitXor_eq]
  split_ifs <;> decide

theorem digitNot_lt (x : Nat) : digitNot x < 4 := by
  unfold digitNot
  split_ifs <;> decide

theorem digitRes_lt {x y : Nat} (hx : x < 4) (hy : y < 4) : digitRes x y < 4 := by
  unfold digitRes
  split_ifs <;> omega

/-! ## The statement -/

theorem xcnt_toNat (a : W40) : (xcntFlags a).1.toNat = ((List.range 20).filter (fun k => 2 ≤ digit a k)).length := by
  have hle := (List.length_filter_le (fun k => decide (digit a k ≥ 2)) (List.range 20)).trans List.length_range.le
  exact toNat_ofNat_count (hle.trans (by decide))

/-- dadj takes X where a source digit is X or Z, else bit 0 of the destination's digit (R248). -/
theorem digit_dadj (d a b : W40) {k : Nat} (hk : k < 20) :
    digit (dadjFlags d a b).1 k = if 2 ≤ digit a k ∨ 2 ≤ digit b k then 3 else digit d k % 2 := by
  have hlt : ∀ k, (if digit a k ≥ 2 || digit b k ≥ 2 then 3 else digit d k % 2) < 4 := fun k => by split <;> omega
  refine (digit_ofDigits hlt hk).trans ?_
  simp only [Bool.or_eq_true, decide_eq_true_eq, ge_iff_le]

/-- Settles O5: the digits of each result are what Table 8.16 makes of the digits of the sources. -/
theorem fourStateResults : Obligations.FourStateResults := by
  intro s u h rd ra rb hi
  refine ⟨⟨_, (exec_opDand h rd ra rb s).trans (alu_issues hi _), fun k hk => ?_⟩,
    ⟨_, (exec_opDor h rd ra rb s).trans (alu_issues hi _), fun k hk => ?_⟩,
    ⟨_, (exec_opDxor h rd ra rb s).trans (alu_issues hi _), fun k hk => ?_⟩,
    ⟨_, (exec_opDres h rd ra rb s).trans (alu_issues hi _), fun k hk => ?_⟩,
    ⟨_, (exec_opDnot h rd ra s).trans (alu_issues hi _), fun k hk => ?_⟩,
    ⟨_, (exec_opXcnt h rd ra s).trans (alu_issues hi _), xcnt_toNat _⟩,
    ⟨_, (exec_opDadj h rd ra rb s).trans (alu_issues hi _), fun k hk => digit_dadj _ _ _ hk⟩⟩
  · exact (digit_ofDigits (fun _ => digitAnd_lt _ _) hk).trans (digitAnd_eq _ _)
  · exact (digit_ofDigits (fun _ => digitOr_lt _ _) hk).trans (digitOr_eq _ _)
  · exact (digit_ofDigits (fun _ => digitXor_lt _ _) hk).trans (digitXor_eq _ _)
  · exact digit_ofDigits (fun k => digitRes_lt (digit_lt _ k) (digit_lt _ k)) hk
  · exact digit_ofDigits (fun _ => digitNot_lt _) hk

end Sys2Proof.Machine
end

section
/-! PROOFS. Address and loop registers and the addressing modes (R233, R237, R238, R246, Tables 8.9 and 8.15). -/

namespace Sys2Proof.Machine

theorem wordOf_eq (a : Addr) : wordOf a = BitVec.ofNat 40 a.toNat := (BitVec.ofNat_toNat 40 a).symm

/-! ## Moves of address and loop registers -/

/-- Levels 0 to 2 have loop registers, level 3 has none. -/
theorem level_lt_iff (l : BitVec 2) : l.toNat < 3 ↔ l ≠ 3 := by
  rw [ne_eq, ← BitVec.toNat_inj, show (3 : BitVec 2).toNat = 3 from rfl]
  omega

/-- mtl and mfl move a loop register that exists, and fault ILLEGAL for one of level 3. -/
theorem loopRegister_moves {s u : State} {h : Hdr} (hi : Issues s h .plain u) {r : LReg} {l : BitVec 2} {d : Dest} {v : W40}
    (hd : lregDest r = if l.toNat < 3 then some d else none) (hv : (u.sees h).loopReg r = v) (rd ra : BitVec 5) :
    let illegal := Host.Outcome.next ((u.countIssue h.core).faultAt h.core 1 0 h.frame)
    (l ≠ 3 → exec (.opMtl h r ra) s = .next (u.computes h [(d, (u.sees h).r ra, 2)]) ∧
      exec (.opMfl h rd r) s = .next (u.computes h [wr rd v])) ∧
    (l = 3 → exec (.opMtl h r ra) s = illegal ∧ exec (.opMfl h rd r) s = illegal) := by
  rw [exec_opMtl, exec_opMfl, execOpMtl, execOpMfl]
  refine ⟨fun hl => ?_, fun hl => ?_⟩
  · rw [if_pos ((level_lt_iff l).2 hl)] at hd
    exact ⟨runInstr_ok hi (by rw [hd]), runInstr_ok hi (by rw [hd, hv]; rfl)⟩
  · rw [if_neg fun hlt => (level_lt_iff l).1 hlt hl] at hd
    exact ⟨runInstr_fault hi (by rw [hd]), runInstr_fault hi (by rw [hd])⟩

/-! ## The ring rule (R238) -/

/-- The block of a ring of l bytes is the smallest power of two not below l. -/
theorem ringBits_eq {l k : Nat} (hlt : l < 2 ^ 17) (hle : l ≤ 2 ^ k) (hmin : ∀ j < k, 2 ^ j < l) : ringBits l = k := by
  unfold ringBits
  rcases Nat.lt_or_ge k 17 with hk | hk
  · rw [List.find?_range_eq_some.2 ⟨decide_eq_true hle, List.mem_range.2 hk, fun j hj => by simpa using hmin j hj⟩]
    rfl
  · obtain rfl : k = 17 := le_antisymm (not_lt.1 fun h => absurd (hmin 17 h) (not_lt.2 hlt.le)) hk
    rw [List.find?_range_eq_none.2 fun j hj => by simpa using hmin j hj]
    rfl

/-- Without a ring the step is added. -/
theorem postMod_noRing {m : Addr} (hm : m.toNat % 2 ^ 17 = 0) (a step : Addr) : postMod a m step = a + step := if_pos hm

/-- In a ring of l bytes the offset moves modulo l within its block. -/
theorem postMod_ring {m : Addr} {l k : Nat} (hl : l = m.toNat % 2 ^ 17) (hpos : 0 < l) (hle : l ≤ 2 ^ k) (hmin : ∀ j < k, 2 ^ j < l)
    (hbr : m.toNat < 2 ^ 31) (a step : Addr) : (postMod a m step).toNat =
      a.toNat / 2 ^ k * 2 ^ k + (((a.toNat % 2 ^ k : Nat) + step.toInt) % (l : Int)).toNat := by
  have hlt : l < 2 ^ 17 := hl ▸ Nat.mod_lt _ (by decide)
  have hk : k ≤ 32 := by
    by_contra hk
    exact absurd (hmin 17 (by omega)) (not_lt.2 hlt.le)
  have hoff : (((a.toNat % 2 ^ k : Nat) + step.toInt) % (l : Int)).toNat < 2 ^ k := by
    have hmod := Int.emod_lt_of_pos ((a.toNat % 2 ^ k : Nat) + step.toInt) (Int.natCast_pos.2 hpos)
    omega
  have hblock : a.toNat / 2 ^ k * 2 ^ k + 2 ^ k ≤ 2 ^ 32 := by
    have hpow : 2 ^ k * 2 ^ (32 - k) = 2 ^ 32 := by rw [← Nat.pow_add, Nat.add_sub_cancel' hk]
    have hquot : a.toNat / 2 ^ k < 2 ^ (32 - k) := Nat.div_lt_of_lt_mul (hpow ▸ a.isLt)
    calc a.toNat / 2 ^ k * 2 ^ k + 2 ^ k = 2 ^ k * (a.toNat / 2 ^ k + 1) := by ring
      _ ≤ 2 ^ k * 2 ^ (32 - k) := Nat.mul_le_mul_left _ hquot
      _ = 2 ^ 32 := hpow
  have hnz : ¬ m.toNat % 2 ^ 17 = 0 := by omega
  unfold postMod
  dsimp only
  rw [if_neg hnz, ← hl, ringBits_eq hlt hle hmin, if_pos (Nat.div_eq_of_lt hbr), BitVec.toNat_ofNat, Nat.mod_eq_of_lt (by omega)]

/-- Settles O6: the moves name their register or fault, and a post-modification follows the ring rule. -/
theorem addressRegisters : Obligations.AddressRegisters := by
  refine ⟨fun s u h rd ra n r hi => ⟨(exec_opMova h n ra s).trans (alu_issues hi _), (exec_opMovm h n ra s).trans (alu_issues hi _),
      (exec_opAdda h n ra s).trans ((alu_issues hi _).trans ?_), (exec_opRda h rd n s).trans ((alu_issues hi _).trans ?_),
      (exec_opRdm h rd n s).trans ((alu_issues hi _).trans ?_), ?_⟩,
    fun c an wi d step => ⟨rfl, ?_, rfl, ?_, fun hm => postMod_noRing hm _ _,
      fun l k hl hpos hle hmin hbr => postMod_ring hl hpos hle hmin hbr _ _⟩⟩
  · rw [wordOf_eq]; rfl
  · rw [wordOf_eq]; rfl
  · rw [wordOf_eq]; rfl
  · cases r with
    | ls l => exact loopRegister_moves (r := .ls l) hi rfl (wordOf_eq _) rd ra
    | le l => exact loopRegister_moves (r := .le l) hi rfl (wordOf_eq _) rd ra
    | lc l => exact loopRegister_moves hi rfl rfl rd ra
  · dsimp only
    rw [← wordOf_eq]
    rfl
  · dsimp only
    rw [← wordOf_eq]
    rfl

end Sys2Proof.Machine
end

section
/-! PROOFS. When a write reaches its register or the flags (R227, R233, R234, R245, Table 8.8). -/

namespace Sys2Proof.Machine

/-! ## What the end of an instruction leaves of the boundary before it -/

/-- What an instruction's end finds at its boundary: the writes under way and its own, those that are due taken. -/
def Ctx.atBoundary (c : Ctx) (n : Nat) (lock : Bool) (ws : List (Dest × W40 × Nat)) : Ctx := (c.addWrites n lock ws).land n

theorem loopTest_go_rest (pc next : Addr) (levels : List Nat) (c : Ctx) : { (Ctx.loopTest.go pc next levels c).1 with lc := c.lc } = c := by
  induction levels generalizing c with
  | nil => rfl
  | cons lv levels ih =>
    simp only [Ctx.loopTest.go]
    split
    · split
      · rfl
      · exact congrArg (fun d : Ctx => { d with lc := c.lc }) (ih { c with lc := tabPut c.lc lv 0 0 })
    · exact ih c

/-- After its boundary an instruction changes the loop counts, the pc, the slot with what it may undo and the fetch buffer alone. -/
theorem finish_rest (c : Ctx) (n size : Nat) (lock : Bool) (ws : List (Dest × W40 × Nat)) (opens : Option Slot) :
    let e := c.atBoundary n lock ws
    { finish c n size lock ws opens with lc := e.lc, pc := e.pc, slot := e.slot, undo := e.undo, fetched := e.fetched } = e := by
  intro e
  have htest : ∀ f pc next, { (Ctx.loopTest { e with fetched := f } pc next).1 with
      pc := e.pc, slot := e.slot, undo := e.undo, fetched := e.fetched, lc := e.lc } = e := fun f pc next =>
    congrArg (fun d : Ctx => { d with pc := e.pc, slot := e.slot, undo := e.undo, fetched := e.fetched })
      (loopTest_go_rest pc next [2, 1, 0] { e with fetched := f })
  unfold finish
  cases opens with
  | some sl => rfl
  | none =>
    dsimp only
    split
    · rfl
    · exact htest _ _ _
    · exact htest _ _ _
    · exact htest _ _ _
    · exact htest _ _ _

/-! ## Writes that are taken in issue order (R234) -/

/-- A destination that takes its value leaves the writes under way, the pc and the slot. -/
theorem take_kept (c : Ctx) (d : Dest) (v : W40) :
    ((c.take d v).writes, (c.take d v).pc, (c.take d v).slot) = (c.writes, c.pc, c.slot) := by
  cases d with
  | w n => rw [Ctx.take, setW_eq]
  | _ => rfl

theorem atBoundary_kept (c : Ctx) (n : Nat) (lock : Bool) (ws : List (Dest × W40 × Nat)) :
    ((c.atBoundary n lock ws).writes, (c.atBoundary n lock ws).pc, (c.atBoundary n lock ws).slot) =
      ((c.addWrites n lock ws).writes.filter (fun p => decide (n + 1 < p.due)), c.pc, c.slot) :=
  foldl_keeps (g := fun d : Ctx => (d.writes, d.pc, d.slot)) (fun d p _ => take_kept d p.dst p.value) _

/-- What is read of a context that takes writes one after another, where one destination alone sets it: the last write to that destination
stands. -/
theorem takes_last {β : Type} {g : Ctx → β} {x : Dest} {f : W40 → β} (hset : ∀ (c : Ctx) v, g (c.take x v) = f v)
    (hother : ∀ (c : Ctx) y v, y ≠ x → g (c.take y v) = g c) (ps : List PendWrite) (c : Ctx) :
    g (ps.foldl (fun c p => c.take p.dst p.value) c) =
      (((ps.filter (fun p => decide (p.dst = x))).getLast?.map PendWrite.value).map f).getD (g c) := by
  induction ps using List.reverseRecOn with
  | nil => rfl
  | append_singleton ps p ih =>
    rw [List.foldl_append, List.foldl_cons, List.foldl_nil, List.filter_append]
    by_cases hp : p.dst = x
    · rw [hp, hset, List.filter_singleton, decide_eq_true hp, cond_true, List.getLast?_concat]
      rfl
    · rw [hother _ _ _ hp, List.filter_singleton, decide_eq_false hp, cond_false, List.append_nil, ih]

/-- The flags take the named bits of each write to them in turn. -/
theorem takes_flags (ps : List PendWrite) (c : Ctx) : (ps.foldl (fun c p => c.take p.dst p.value) c).flags =
    ((ps.filter (fun p => decide (p.dst = .flags))).map PendWrite.value).foldl Flags.apply c.flags := by
  induction ps generalizing c with
  | nil => rfl
  | cons p ps ih =>
    rw [List.foldl_cons, ih, List.filter_cons]
    by_cases hp : p.dst = .flags
    · rw [decide_eq_true hp, hp]
      rfl
    · have hkept := (Ctx.take_sameBut (dests := [p.dst]) (c := c) List.mem_cons_self p.value).flags (by simpa using Ne.symm hp)
      rw [hkept, decide_eq_false hp]
      rfl

theorem rw_setW_same {n : Nat} (hn : n ≠ 0) (c : Ctx) (v : W40) : (c.setW n v).rw n = v := by
  rw [Ctx.setW, if_neg hn, Ctx.rw, if_neg hn, tabGet_put_same]

/-! ## Flag writes (R245) -/

/-- The bits of a flag write, from bit 0 on: the values, three bits that are 0, and which flags are named. -/
def FlagSet.bitsOf (f : FlagSet) : List Bool :=
  let flags := [f.z, f.n, f.c, f.v, f.x]
  flags.map (· == some true) ++ [false, false, false] ++ flags.map Option.isSome

/-- What one flag adds to the code of a flag write. -/
def flagCode (o : Option Bool) (k : Nat) : Nat :=
  match o with
  | some b => 2 ^ (8 + k) + FlagSet.code.nat1 b * 2 ^ k
  | none => 0

theorem code_eq (f : FlagSet) :
    f.code = BitVec.ofNat 40 (flagCode f.x 4 + flagCode f.v 3 + flagCode f.c 2 + flagCode f.n 1 + flagCode f.z 0) := rfl

theorem flagCode_eq (o : Option Bool) (k : Nat) : flagCode o k = nat01 (o == some true) * 2 ^ k + nat01 o.isSome * 2 ^ (8 + k) := by
  cases o with
  | none => simp [flagCode, nat01]
  | some b => cases b <;> simp [flagCode, nat01, FlagSet.code.nat1, Nat.add_comm]

theorem code_getLsbD (f : FlagSet) (j : Nat) : f.code.getLsbD j = f.bitsOf.getD j false := by
  have hsum : flagCode f.x 4 + flagCode f.v 3 + flagCode f.c 2 + flagCode f.n 1 + flagCode f.z 0 =
      ((List.range 13).map (fun k => nat01 (f.bitsOf.getD k false) * (2 ^ 1) ^ k)).sum := by
    simp only [flagCode_eq]
    simp [List.range_succ, FlagSet.bitsOf, nat01]
    ring
  have hbit : ∀ b : Bool, (nat01 b).testBit 0 = b := by decide
  have hlt : ∀ b : Bool, nat01 b < 2 ^ 1 := by decide
  rw [code_eq, hsum, BitVec.getLsbD_ofNat, (testBit_digitSum Nat.one_pos _ (fun _ => hlt _) 13).2 j, Nat.div_one, Nat.mod_one, hbit]
  by_cases hj : j < 13
  · rw [decide_eq_true (by omega : j < 40), decide_eq_true (by omega : j < 1 * 13), Bool.true_and, Bool.true_and]
  · rw [decide_eq_false (by omega : ¬ j < 1 * 13), Bool.false_and, Bool.and_false, List.getD_eq_default _ _ (not_lt.1 hj)]

theorem apply_code (g : Flags) (f : FlagSet) :
    g.apply f.code = ⟨f.x.getD g.x, f.v.getD g.v, f.c.getD g.c, f.n.getD g.n, f.z.getD g.z⟩ := by
  have hflag : ∀ (o : Option Bool) (old : Bool), (if o.isSome then o == some true else old) = o.getD old := by decide
  simp only [Flags.apply, code_getLsbD, FlagSet.bitsOf, ← hflag]
  rfl

/-! ## The statement -/

/-- What is read after an instruction of a destination that only its own writes set. -/
theorem finish_last {β : Type} (g : Ctx → β) (x : Dest) (f : W40 → β) (hset : ∀ (c : Ctx) v, g (c.take x v) = f v)
    (hother : ∀ (c : Ctx) y v, y ≠ x → g (c.take y v) = g c)
    (hkeep : ∀ d e : Ctx, g { d with
      lc := e.lc, pc := e.pc, slot := e.slot, undo := e.undo, fetched := e.fetched, writes := e.writes } = g d)
    (c : Ctx) (n size : Nat) (lock : Bool) (ws : List (Dest × W40 × Nat)) (opens : Option Slot) :
    g (finish c n size lock ws opens) =
      ((((c.addWrites n lock ws).writes.filter (fun p => decide (p.dst = x) && decide (p.due ≤ n + 1))).getLast?.map PendWrite.value).map
        f).getD (g c) := by
  have hrest := congrArg (fun d : Ctx => { d with writes := (c.atBoundary n lock ws).writes }) (finish_rest c n size lock ws opens)
  rw [← hkeep _ (c.atBoundary n lock ws), hrest, ← List.filter_filter]
  refine (takes_last hset hother _ _).trans (congrArg _ ?_)
  exact hkeep c { c with writes := (c.addWrites n lock ws).writes.filter (fun p => decide (n + 1 < p.due)) }

/-- Settles O7: the boundary takes the writes that are due in issue order, and the rest of the instruction's end leaves what they set. -/
theorem landingResults : Obligations.LandingResults := by
  refine ⟨?_, apply_code⟩
  intro c n size lock ws all last opens t
  have hrest := finish_rest c n size lock ws opens
  have hother : ∀ {x y : Dest}, y ≠ x → x ∉ [y] := fun hy hin => hy (List.mem_singleton.1 hin).symm
  have hsame : ∀ (d : Ctx) y v, Ctx.SameBut [y] d (d.take y v) := fun d y v => Ctx.take_sameBut List.mem_cons_self v
  refine ⟨rfl, fun k hk => ?_, fun k => ?_, fun k => ?_, fun k => ?_, fun k => ?_, ?_, ?_, ?_⟩
  · refine (finish_last (Ctx.rw · k) (.w k) id (fun d v => rw_setW_same hk d v) (fun d y v hy => (hsame d y v).w k (hother hy))
      (fun _ _ => rfl) ..).trans ?_
    rw [Option.map_id]
    rfl
  · exact finish_last (fun d => tabGet d.a k 0) (.a k) (BitVec.setWidth 32) (fun _ _ => tabGet_put_same ..)
      (fun d y v hy => (hsame d y v).a k (hother hy)) (fun _ _ => rfl) ..
  · exact finish_last (fun d => tabGet d.m k 0) (.m k) (fun v => v.setWidth 32 &&& 0x8001FFFF) (fun _ _ => tabGet_put_same ..)
      (fun d y v hy => (hsame d y v).m k (hother hy)) (fun _ _ => rfl) ..
  · exact finish_last (fun d => tabGet d.ls k 0) (.ls k) (BitVec.setWidth 32) (fun _ _ => tabGet_put_same ..)
      (fun d y v hy => (hsame d y v).ls k (hother hy)) (fun _ _ => rfl) ..
  · exact finish_last (fun d => tabGet d.le k 0) (.le k) (BitVec.setWidth 32) (fun _ _ => tabGet_put_same ..)
      (fun d y v hy => (hsame d y v).le k (hother hy)) (fun _ _ => rfl) ..
  · exact finish_last Ctx.lsmem .lsmem (fun v => v.toNat % 2 ^ 16) (fun _ _ => rfl)
      (fun d y v hy => (hsame d y v).lsmem (hother hy)) (fun _ _ => rfl) ..
  · refine (congrArg Ctx.flags hrest).trans ((takes_flags _ _).trans ?_)
    rw [List.filter_filter]
    rfl
  · exact (congrArg Ctx.writes hrest).trans (congrArg Prod.fst (atBoundary_kept c n lock ws))

end Sys2Proof.Machine
end

section
/-! PROOFS. Where execution goes on after an instruction (R235, R239, R240). -/

namespace Sys2Proof.Machine

/-! ## The loop test (R240) -/

/-- Whether an active loop of a level ends at an address. -/
def Ctx.endsLoop (c : Ctx) (pc : Addr) (lv : Nat) : Bool := decide (tabGet c.lc lv 0 ≠ 0) && decide (tabGet c.le lv 0 = pc)

/-- Whether it goes on for another round. -/
def Ctx.loopsAgain (c : Ctx) (pc : Addr) (lv : Nat) : Bool := c.endsLoop pc lv && decide (1 < tabGet c.lc lv 0)

/-- A loop of the level that ends at the address is over. -/
def Ctx.endLevel (c : Ctx) (pc : Addr) (lv : Nat) : Ctx := { c with lc := if c.endsLoop pc lv then tabPut c.lc lv 0 0 else c.lc }

section
variable {c : Ctx} {pc next : Addr} {lv j : Nat} {levels pre post : List Nat}

theorem lc_endLevel_same (h : c.endsLoop pc lv = true) : tabGet (c.endLevel pc lv).lc lv 0 = 0 := by
  simp only [Ctx.endLevel, h, if_true, tabGet_put_same]

theorem lc_endLevel_other (hj : j ≠ lv) : tabGet (c.endLevel pc lv).lc j 0 = tabGet c.lc j 0 := by
  unfold Ctx.endLevel
  dsimp only
  split
  · exact tabGet_put_other _ _ _ _ hj
  · rfl

theorem endsLoop_endLevel (hj : j ≠ lv) : (c.endLevel pc lv).endsLoop pc j = c.endsLoop pc j := by
  rw [Ctx.endsLoop, lc_endLevel_other hj]
  rfl

theorem loopsAgain_endLevel (hj : j ≠ lv) : (c.endLevel pc lv).loopsAgain pc j = c.loopsAgain pc j := by
  rw [Ctx.loopsAgain, endsLoop_endLevel hj, lc_endLevel_other hj]
  rfl

/-- At a level that goes on the test stops: one round less, and execution goes to the level's start. -/
theorem loopTest_go_again (h : c.loopsAgain pc lv = true) : Ctx.loopTest.go pc next (lv :: levels) c =
    ({ c with lc := tabPut c.lc lv 0 (tabGet c.lc lv 0 - 1) }, tabGet c.ls lv 0) := by
  simp only [Ctx.loopsAgain, Ctx.endsLoop, Bool.and_eq_true, decide_eq_true_eq] at h
  obtain ⟨⟨hcount, hend⟩, hmore⟩ := h
  simp only [Ctx.loopTest.go]
  rw [if_pos (by rw [hend, bne_iff_ne.2 hcount, beq_self_eq_true]; rfl), if_pos hmore]

/-- At any other level the test goes on, and a loop that ends there is over. -/
theorem loopTest_go_next (h : c.loopsAgain pc lv = false) : Ctx.loopTest.go pc next (lv :: levels) c =
    Ctx.loopTest.go pc next levels (c.endLevel pc lv) := by
  have hcond : (tabGet c.lc lv 0 != 0 && tabGet c.le lv 0 == pc) = c.endsLoop pc lv := by
    rw [Ctx.endsLoop, Bool.eq_iff_iff]
    simp
  simp only [Ctx.loopTest.go, hcond]
  cases hends : c.endsLoop pc lv with
  | false => simp only [Ctx.endLevel, hends, Bool.false_eq_true, if_false]
  | true =>
    have hlast : ¬ tabGet c.lc lv 0 > 1 := by simpa [Ctx.loopsAgain, hends] using h
    simp only [Ctx.endLevel, hends, if_true, if_neg hlast]

theorem loopTest_go_lc_other (hj : j ∉ levels) :
    tabGet (Ctx.loopTest.go pc next levels c).1.lc j 0 = tabGet c.lc j 0 := by
  induction levels generalizing c with
  | nil => rfl
  | cons lv levels ih =>
    obtain ⟨hlv, hlevels⟩ := not_or.1 (mt List.mem_cons.2 hj)
    cases h : c.loopsAgain pc lv with
    | true =>
      rw [loopTest_go_again h]
      exact tabGet_put_other _ _ _ _ hlv
    | false => rw [loopTest_go_next h, ih hlevels, lc_endLevel_other hlv]

/-- The first level that goes on takes the test; the loops before it that end are over. -/
theorem loopTest_go_first (hnd : (pre ++ lv :: post).Nodup) (hpre : ∀ j ∈ pre, c.loopsAgain pc j = false) (hlv : c.loopsAgain pc lv = true) :
    let t := Ctx.loopTest.go pc next (pre ++ lv :: post) c
    t.2 = tabGet c.ls lv 0 ∧ tabGet t.1.lc lv 0 = tabGet c.lc lv 0 - 1 ∧ ∀ j ∈ pre, c.endsLoop pc j = true → tabGet t.1.lc j 0 = 0 := by
  induction pre generalizing c with
  | nil =>
    rw [List.nil_append, loopTest_go_again hlv]
    exact ⟨rfl, tabGet_put_same .., nofun⟩
  | cons i pre ih =>
    obtain ⟨hi, hnd⟩ := List.nodup_cons.1 (List.cons_append ▸ hnd)
    have hne : ∀ j ∈ pre ++ lv :: post, j ≠ i := fun j hj hji => hi (hji ▸ hj)
    have hlvi : lv ≠ i := hne lv (by simp)
    obtain ⟨hto, hcount, hover⟩ := ih (c := c.endLevel pc i) hnd
      (fun j hj => (loopsAgain_endLevel (hne j (by simp [hj]))).trans (hpre j (List.mem_cons_of_mem i hj)))
      ((loopsAgain_endLevel hlvi).trans hlv)
    rw [List.cons_append, loopTest_go_next (hpre i List.mem_cons_self)]
    refine ⟨hto, hcount.trans (by rw [lc_endLevel_other hlvi]), fun j hj hends => ?_⟩
    rcases List.mem_cons.1 hj with rfl | hj
    · rw [loopTest_go_lc_other hi, lc_endLevel_same hends]
    · exact hover j hj ((endsLoop_endLevel (hne j (by simp [hj]))).trans hends)

/-- Where no level goes on, execution goes to the next instruction, and the loops that end are over. -/
theorem loopTest_go_none (hnd : levels.Nodup) (hno : ∀ j ∈ levels, c.loopsAgain pc j = false) :
    let t := Ctx.loopTest.go pc next levels c
    t.2 = next ∧ ∀ j ∈ levels, c.endsLoop pc j = true → tabGet t.1.lc j 0 = 0 := by
  induction levels generalizing c with
  | nil => exact ⟨rfl, nofun⟩
  | cons i levels ih =>
    obtain ⟨hi, hnd⟩ := List.nodup_cons.1 hnd
    have hne : ∀ j ∈ levels, j ≠ i := fun j hj hji => hi (hji ▸ hj)
    obtain ⟨hto, hover⟩ := ih (c := c.endLevel pc i) hnd
      (fun j hj => (loopsAgain_endLevel (hne j hj)).trans (hno j (List.mem_cons_of_mem i hj)))
    rw [loopTest_go_next (hno i List.mem_cons_self)]
    refine ⟨hto, fun j hj hends => ?_⟩
    rcases List.mem_cons.1 hj with rfl | hj
    · rw [loopTest_go_lc_other hi, lc_endLevel_same hends]
    · exact hover j hj ((endsLoop_endLevel (hne j hj)).trans hends)

end

/-! ## The end of an instruction (R235, R239) -/

/-- The address at which execution goes on where no loop does: the next instruction, or past the body of a loop whose count is 0. -/
def Slot.goesOn (sl : Slot) (next : Addr) : Addr :=
  match sl with
  | .setup _ (some a) => a
  | _ => next

/-- Where execution goes on by the slot in which an instruction at `pc` stands, and the loop counts that its loop test leaves. -/
def Ctx.leaveSlot (e : Ctx) (pc next : Addr) : Ctx × Addr :=
  match e.slot with
  | .taken t _ => ({ e with fetched := 0 }, t)
  | .none => e.loopTest pc next
  | .notTaken o | .setup o .none => e.loopTest (if e.endsAt o then o else pc) next
  | .setup o (some a) => { e with fetched := 0 }.loopTest (if e.endsAt o then o else pc) a

/-- The next instruction stands in no slot. -/
def resumeAt (t : Ctx × Addr) : Ctx := { t.1 with pc := t.2, slot := .none, undo := none }

theorem finish_none (c : Ctx) (n size : Nat) (lock : Bool) (ws : List (Dest × W40 × Nat)) : finish c n size lock ws none =
    resumeAt (Ctx.leaveSlot { c.atBoundary n lock ws with fetched := c.fetched - size } c.pc (c.pc + BitVec.ofNat 32 size)) := rfl

theorem slot_atBoundary (c : Ctx) (n : Nat) (lock : Bool) (ws : List (Dest × W40 × Nat)) : (c.atBoundary n lock ws).slot = c.slot :=
  congrArg (·.2.2) (atBoundary_kept c n lock ws)

section
variable {e : Ctx} {pc next : Addr}

/-- After the delay slot of a taken transfer execution goes on at the target, with no loop test. -/
theorem leaveSlot_taken {target o : Addr} (hs : e.slot = .taken target o) : e.leaveSlot pc next = ({ e with fetched := 0 }, target) := by
  simp only [Ctx.leaveSlot, hs]

/-- After any other instruction that opens no slot the loop test says where execution goes on. -/
theorem leaveSlot_tests {at_ : Addr} (hat : (e.slot = .none ∧ at_ = pc) ∨
      (∃ o, (e.slot = .notTaken o ∨ ∃ skip, e.slot = .setup o skip) ∧ at_ = if e.endsAt o then o else pc)) :
    ∃ f, e.leaveSlot pc next = Ctx.loopTest { e with fetched := f } at_ (e.slot.goesOn next) := by
  rcases hat with ⟨hs, rfl⟩ | ⟨o, hs | ⟨_ | a, hs⟩, rfl⟩
  · exact ⟨e.fetched, show _ = e.loopTest _ _ by simp only [Ctx.leaveSlot, hs, Slot.goesOn]⟩
  · exact ⟨e.fetched, show _ = e.loopTest _ _ by simp only [Ctx.leaveSlot, hs, Slot.goesOn]⟩
  · exact ⟨e.fetched, show _ = e.loopTest _ _ by simp only [Ctx.leaveSlot, hs, Slot.goesOn]⟩
  · exact ⟨0, by simp only [Ctx.leaveSlot, hs, Slot.goesOn]⟩

end

/-- Settles O11: the slot says whether and for which address the loop test is applied, and the first level that goes on takes it. -/
theorem whereExecutionGoesOn : Obligations.WhereExecutionGoesOn := by
  intro c n size lock ws t e next goesOn
  have hslot : e.slot = c.slot := slot_atBoundary c n lock ws
  have ht : t = resumeAt (Ctx.leaveSlot { e with fetched := c.fetched - size } c.pc next) := finish_none c n size lock ws
  refine ⟨fun target o hs => ?taken, fun at_ hat => ?tests, by rw [ht]; rfl, fun sl => ⟨rfl, rfl⟩⟩
  case taken =>
    rw [ht, leaveSlot_taken (e := { e with fetched := c.fetched - size }) (hslot.trans hs)]
    exact ⟨rfl, rfl⟩
  case tests =>
    obtain ⟨f, htest⟩ := leaveSlot_tests (e := { e with fetched := c.fetched - size }) (next := next) (by rw [← hslot] at hat; exact hat)
    rw [ht, htest, show Slot.goesOn _ next = goesOn from congrArg (Slot.goesOn · next) hslot]
    intro ends again
    have hnot : ∀ {lv}, (!again lv) = true → again lv = false := Bool.not_eq_true' _ |>.mp
    refine ⟨fun h2 => ?_, fun h2 h1 => ?_, fun h2 h1 h0 => ?_, fun h2 h1 h0 => ?_⟩
    · obtain ⟨hto, hcount, -⟩ := loopTest_go_first (c := { e with fetched := f }) (next := goesOn) (pre := []) (post := [1, 0])
        (by decide) nofun h2
      exact ⟨hto, hcount⟩
    · obtain ⟨hto, hcount, hover⟩ := loopTest_go_first (c := { e with fetched := f }) (next := goesOn) (pre := [2]) (post := [0])
        (by decide) (List.forall_mem_singleton.2 (hnot h2)) h1
      exact ⟨hto, hcount, hover 2 (by decide)⟩
    · obtain ⟨hto, hcount, hover⟩ := loopTest_go_first (c := { e with fetched := f }) (next := goesOn) (pre := [2, 1]) (post := [])
        (by decide) (List.forall_mem_cons.2 ⟨hnot h2, List.forall_mem_singleton.2 (hnot h1)⟩) h0
      exact ⟨hto, hcount, hover 1 (by decide), hover 2 (by decide)⟩
    · obtain ⟨hto, hover⟩ := loopTest_go_none (c := { e with fetched := f }) (next := goesOn) (levels := [2, 1, 0])
        (by decide) (List.forall_mem_cons.2 ⟨hnot h2, List.forall_mem_cons.2 ⟨hnot h1, List.forall_mem_singleton.2 (hnot h0)⟩⟩)
      exact ⟨hto, fun lv hlv => hover lv (by simp; omega)⟩

end Sys2Proof.Machine
end

section
/-! PROOFS. Branches, jumps and loops (R231, R232, R235, R239, Tables 8.12 and 8.13). -/

namespace Sys2Proof.Machine

section
variable {s u : State} {h : Hdr}

/-! ## Branches and loops -/

theorem branch_illegal (hi : Issues s h .control u) {d : Addr} {cond : Ctx → Option Bool} (hc : cond (u.sees h) = none) :
    s.branch h d cond = .next ((u.countIssue h.core).faultAt h.core 1 0 h.frame) :=
  runInstr_fault hi (by rw [hc])

theorem not_slt_eq (a b : W40) : (!a.slt b) = decide (b.toInt ≤ a.toInt) := by
  rw [BitVec.slt, ← decide_not, decide_eq_decide, not_lt]

theorem not_ult_eq (a b : W40) : (!a.ult b) = decide (b.toNat ≤ a.toNat) := by
  rw [BitVec.ult, ← decide_not, decide_eq_decide, not_lt]

/-- A branch on a bit goes by it, and faults ILLEGAL for a bit above 39 (R232). -/
theorem branch_bit (hi : Issues s h .control u) {d : Addr} {bit : Nat} {cond : Ctx → Bool} :
    s.branch h d (fun c => if bit < 40 then some (cond c) else none) =
      if bit < 40 then .next (u.transfers h (u.countIssue h.core) (cond (u.sees h)) ((u.sees h).pc + d))
      else .next ((u.countIssue h.core).faultAt h.core 1 0 h.frame) := by
  by_cases hb : bit < 40
  · rw [if_pos hb]
    exact branch_issues hi (if_pos hb)
  · rw [if_neg hb]
    exact branch_illegal hi (if_neg hb)

/-- The conditions of Table 8.13 in their order; the values from 12 on are reserved. -/
theorem condHolds_eq (f : Flags) : ∀ n, condHolds f n =
    [f.z, !f.z, f.c, !f.c, f.n, !f.n, f.v, !f.v, f.n != f.v, f.n == f.v, f.x, !f.x][n]?
  | 0 | 1 | 2 | 3 | 4 | 5 | 6 | 7 | 8 | 9 | 10 | 11 => rfl
  | _ + 12 => rfl

theorem bcc_issues (hi : Issues s h .control u) (cond : BitVec 5) (d : Addr) : exec (.opBcc h cond d) s =
    match condHolds (u.sees h).flags cond.toNat with
    | some t => .next (u.transfers h (u.countIssue h.core) t ((u.sees h).pc + d))
    | none => .next ((u.countIssue h.core).faultAt h.core 1 0 h.frame) := by
  rw [exec_opBcc]
  split
  case h_1 t ht => exact branch_issues hi ht
  case h_2 hn => exact branch_illegal hi hn

theorem level_eq_three (lv : BitVec 2) : lv.toNat = 3 ↔ lv = 3 := by
  rw [← BitVec.toNat_inj]
  rfl

/-- loop and loopi by their body's end and their count. -/
theorem loopTo_issues (hi : Issues s h .control u) (lv : BitVec 2) (last : Nat) (count : Ctx → Nat) :
    let c := u.sees h
    let w := u.countIssue h.core
    let start := w.afterInsn h.core (c.pc + BitVec.ofNat 32 (hdrSize h))
    let stop := c.pc + BitVec.ofNat 32 (2 * last)
    s.loopTo h lv last count = if lv = 3 ∨ stop.toNat < start.toNat then .next (w.faultAt h.core 1 0 h.frame) else
      .next (u.loops h [(.ls lv.toNat, BitVec.ofNat 40 start.toNat, 2), (.le lv.toNat, BitVec.ofNat 40 stop.toNat, 2),
        (.lc lv.toNat, BitVec.ofNat 40 (count c), 2)] (if count c = 0 then some (w.afterInsn h.core stop) else none)) := by
  intro c w start stop
  rw [← wordOf_eq, ← wordOf_eq]
  have hcond : (decide (lv.toNat = 3) || decide (stop.toNat < start.toNat)) = true ↔ lv = 3 ∨ stop.toNat < start.toNat := by
    rw [Bool.or_eq_true, decide_eq_true_eq, decide_eq_true_eq, level_eq_three]
  by_cases hbad : lv = 3 ∨ stop.toNat < start.toNat
  · rw [if_pos hbad]
    exact runInstr_fault hi (if_pos (hcond.2 hbad))
  · rw [if_neg hbad]
    exact runInstr_loop hi (if_neg (mt hcond.1 hbad))

end

/-- Settles O9: each branch goes by its condition, and a loop sets its registers where its level and its end are in order. -/
theorem transferResults : Obligations.TransferResults := by
  refine ⟨fun s u h ra rb bit cond d hi => ⟨?_, ?_, ?_, ?_, ?_, ?_, ?_, ?_, ?_, ?_, ?_, ?_, ?_⟩,
    fun s u h lv rs last n10 last12 hi => ⟨(exec_opLoop h lv rs last s).trans (loopTo_issues hi ..),
      (exec_opLoopi h lv n10 last12 s).trans (loopTo_issues hi ..)⟩⟩
  · exact (exec_opBeq h ra rb d s).trans (branch_issues hi rfl)
  · exact (exec_opBne h ra rb d s).trans (branch_issues hi (congrArg some decide_not.symm))
  · exact (exec_opBlt h ra rb d s).trans (branch_issues hi rfl)
  · exact (exec_opBge h ra rb d s).trans (branch_issues hi (congrArg some (not_slt_eq _ _)))
  · exact (exec_opBltu h ra rb d s).trans (branch_issues hi rfl)
  · exact (exec_opBgeu h ra rb d s).trans (branch_issues hi (congrArg some (not_ult_eq _ _)))
  · exact (exec_opBeqz h ra d s).trans (branch_issues hi rfl)
  · exact (exec_opBnez h ra d s).trans (branch_issues hi (congrArg some decide_not.symm))
  · exact (exec_opBbs h ra bit d s).trans (branch_bit hi)
  · exact (exec_opBbc h ra bit d s).trans (branch_bit hi)
  · rw [← condHolds_eq]
    exact bcc_issues hi cond d
  · exact (exec_opBr h d s).trans (branch_issues hi rfl)
  · exact (exec_opJr h ra s).trans (runInstr_xfer hi rfl)

end Sys2Proof.Machine
end

section
/-! PROOFS. Calls, returns and the link stack (R241 to R244). -/

namespace Sys2Proof.Machine

section
variable {s u : State} {h : Hdr}

theorem runInstr_trap {k : Kind} {body : State → Ctx → Did} {x : Nat} {fill : Bool} (hi : Issues s h k u)
    (hb : body (u.countIssue h.core) (u.sees h) = .trap fill) : s.runInstr h k body x = .next (u.linkTrap h.core fill h.frame) := by
  rw [runInstr_issues hi, hb]

theorem not_inTrap {c : Ctx} (hr : c.reserved = none) : ¬ c.reserved.isSome = true := by
  rw [hr]
  exact Bool.false_ne_true

/-! ## Calls -/

theorem callTo_pushes (hi : Issues s h .control u) (hr : (u.sees h).reserved = none) (hl : (u.sees h).link.length < 8)
    (target : Ctx → Addr) : s.callTo h target = .next (u.transfers h ((u.countIssue h.core).setCtx h.core { u.sees h with
      link := (u.countIssue h.core).afterSlot h.core (u.sees h).pc (hdrSize h) :: (u.sees h).link }) true (target (u.sees h))) :=
  runInstr_xfer hi ((if_neg (not_inTrap hr)).trans (if_neg (not_le.2 hl)))

/-- With eight entries a call takes the spill trap (R242). -/
theorem callTo_spills (hi : Issues s h .control u) (hr : (u.sees h).reserved = none) (hl : 8 ≤ (u.sees h).link.length)
    (target : Ctx → Addr) : s.callTo h target = .next (u.linkTrap h.core false h.frame) :=
  runInstr_trap hi ((if_neg (not_inTrap hr)).trans (if_pos hl))

/-- Inside a trap a call faults LINK_STACK (R244). -/
theorem callTo_inTrap (hi : Issues s h .control u) (hr : (u.sees h).reserved.isSome = true) (target : Ctx → Addr) :
    s.callTo h target = .next ((u.countIssue h.core).faultAt h.core 4 0 h.frame) :=
  runInstr_fault hi (if_pos hr)

/-! ## Returns -/

theorem exec_opRet_pops (hi : Issues s h .control u) (hr : (u.sees h).reserved = none) {a : Addr} {r : List Addr}
    (hl : (u.sees h).link = a :: r) : exec (.opRet h) s =
      .next (u.transfers h ((u.countIssue h.core).setCtx h.core { u.sees h with link := r }) true a) :=
  (exec_opRet h s).trans (runInstr_xfer hi ((if_neg (not_inTrap hr)).trans (by rw [hl])))

/-- With no entry a ret takes the fill trap where LSMEM is not 0, and else has not issued (R243, R244). -/
theorem exec_opRet_empty (hi : Issues s h .control u) (hr : (u.sees h).reserved = none) (hl : (u.sees h).link = []) :
    exec (.opRet h) s = .next (if (u.sees h).lsmem = 0 then u.faultAt h.core 4 0 h.frame else u.linkTrap h.core true h.frame) := by
  rw [exec_opRet, execOpRet]
  by_cases hm : (u.sees h).lsmem = 0
  · rw [if_pos hm]
    exact runInstr_unissued hi ((if_neg (not_inTrap hr)).trans (by rw [hl, hm]; rfl))
  · rw [if_neg hm]
    exact runInstr_trap hi ((if_neg (not_inTrap hr)).trans (by rw [hl]; exact if_pos (bne_iff_ne.2 hm)))

theorem exec_opRet_inTrap (hi : Issues s h .control u) (hr : (u.sees h).reserved.isSome = true) :
    exec (.opRet h) s = .next ((u.countIssue h.core).faultAt h.core 4 0 h.frame) :=
  (exec_opRet h s).trans (runInstr_fault hi (if_pos hr))

theorem exec_opRett_returns (hi : Issues s h .control u) {a : Addr} (hr : (u.sees h).reserved = some a) : exec (.opRett h) s =
    .next (u.transfers h ((u.countIssue h.core).setCtx h.core { u.sees h with reserved := none, trapFill := false }) true a) :=
  (exec_opRett h s).trans (runInstr_xfer hi (by rw [hr]))

theorem exec_opRett_illegal (hi : Issues s h .control u) (hr : (u.sees h).reserved = none) :
    exec (.opRett h) s = .next ((u.countIssue h.core).faultAt h.core 1 0 h.frame) :=
  (exec_opRett h s).trans (runInstr_fault hi (by rw [hr]))

/-! ## The oldest entry -/

theorem exec_opLsbot_takes (hi : Issues s h .plain u) {l : List Addr} {a : Addr} (hl : (u.sees h).link = l ++ [a]) (rd : BitVec 5) :
    exec (.opLsbot h rd) s = .next (u.leaves h ((u.countIssue h.core).setCtx h.core { u.sees h with link := l })
      [wr rd (BitVec.ofNat 40 a.toNat)]) := by
  refine (exec_opLsbot h rd s).trans (runInstr_ok hi ?_)
  rw [hl, List.getLast?_concat, List.dropLast_concat, ← wordOf_eq]
  rfl

theorem exec_opLsbot_empty (hi : Issues s h .plain u) (hl : (u.sees h).link = []) (rd : BitVec 5) :
    exec (.opLsbot h rd) s = .next ((u.countIssue h.core).faultAt h.core 4 0 h.frame) :=
  (exec_opLsbot h rd s).trans (runInstr_fault hi (by rw [hl]; rfl))

theorem exec_opLsins_gives (hi : Issues s h .plain u) (hl : (u.sees h).link.length < 8) (ra : BitVec 5) :
    exec (.opLsins h ra) s = .next (u.leaves h ((u.countIssue h.core).setCtx h.core { u.sees h with
      link := (u.sees h).link ++ [((u.sees h).r ra).setWidth 32] }) []) :=
  (exec_opLsins h ra s).trans (runInstr_ok hi (if_neg (not_le.2 hl)))

theorem exec_opLsins_full (hi : Issues s h .plain u) (hl : 8 ≤ (u.sees h).link.length) (ra : BitVec 5) :
    exec (.opLsins h ra) s = .next ((u.countIssue h.core).faultAt h.core 4 0 h.frame) :=
  (exec_opLsins h ra s).trans (runInstr_fault hi (if_pos hl))

end

/-! ## The traps of a thread (R242, R243) -/

theorem trapHandler_thread {u : State} {x : Nat} (hk : (u.thread x).kind ≠ .relay) (fill : Bool) : u.trapHandler (.strider x) fill =
    ((u.squad (squadOf x)).entry? (if fill then 255 else 254)).map (fun e => (BitVec.ofNat 32 e.1, u)) :=
  if_neg (by rw [beq_iff_eq]; exact hk)

theorem linkTrap_entry {u : State} {x : Nat} (hk : (u.thread x).kind ≠ .relay) {fill : Bool} {a b : Nat}
    (he : (u.squad (squadOf x)).entry? (if fill then 255 else 254) = some (a, b)) (e : Ecc) :
    u.linkTrap (.strider x) fill e = u.setCtx (.strider x) { u.ctx (.strider x) with
      reserved := some (u.ctx (.strider x)).pc, trapFill := fill, pc := BitVec.ofNat 32 a, fetched := 0 } := by
  rw [State.linkTrap, trapHandler_thread hk, he]
  rfl

theorem linkTrap_noEntry {u : State} {x : Nat} (hk : (u.thread x).kind ≠ .relay) {fill : Bool}
    (he : (u.squad (squadOf x)).entry? (if fill then 255 else 254) = none) (e : Ecc) :
    u.linkTrap (.strider x) fill e = u.stopThread x 4 0 := by
  rw [State.linkTrap, trapHandler_thread hk, he]
  rfl

/-- Settles O10: what a call, a return and an access to the oldest entry make of the link stack, and the entry that a trap of a thread goes to. -/
theorem linkResults : Obligations.LinkResults := by
  refine ⟨fun s u h rd ra d => ⟨fun hi => ⟨fun hr hl => ?pushes, fun hr hl => ?spills, fun a r hr => exec_opRet_pops hi hr, exec_opRet_empty hi,
      fun hr => ?inTrap, fun a => exec_opRett_returns hi, exec_opRett_illegal hi⟩,
    fun hi => ⟨fun l a hl => exec_opLsbot_takes hi hl rd, fun hl => exec_opLsbot_empty hi hl rd, fun hl => exec_opLsins_gives hi hl ra,
      fun hl => exec_opLsins_full hi hl ra⟩⟩,
    fun u x fill e' hk => ⟨fun a b he => linkTrap_entry hk he e', fun he => linkTrap_noEntry hk he e'⟩⟩
  case pushes => exact ⟨(exec_opCall h d s).trans (callTo_pushes hi hr hl _), (exec_opCallr h ra s).trans (callTo_pushes hi hr hl _)⟩
  case spills => exact ⟨(exec_opCall h d s).trans (callTo_spills hi hr hl _), (exec_opCallr h ra s).trans (callTo_spills hi hr hl _)⟩
  case inTrap => exact ⟨(exec_opCall h d s).trans (callTo_inTrap hi hr _), (exec_opCallr h ra s).trans (callTo_inTrap hi hr _),
    exec_opRet_inTrap hi hr⟩

end Sys2Proof.Machine
end

section
/-! PROOFS. XCH and BUF commands (R253, R254, R266, R267, R271, Tables 8.21 and 8.22). -/

namespace Sys2Proof.Machine

/-! ## Bytes of a big-endian number (R5) -/

/-- Byte j of a number of bytes, first byte first. -/
theorem beNat_byte {l : Blob} {j : Nat} (hj : j < l.length) : beNat l / 256 ^ (l.length - 1 - j) % 256 = (l.getD j 0).toNat := by
  induction l using List.reverseRecOn with
  | nil => exact absurd hj (Nat.not_lt_zero j)
  | append_singleton l x ih =>
    have hx : x.toNat < 256 := x.isLt
    rw [List.length_append, List.length_singleton] at hj ⊢
    rw [beNat_append_one, Nat.add_sub_cancel]
    rcases Nat.lt_or_ge j l.length with hlt | hge
    · rw [show l.length - j = 1 + (l.length - 1 - j) by omega, Nat.pow_add, Nat.pow_one, ← Nat.div_div_eq_div_mul,
        show (beNat l * 256 + x.toNat) / 256 = beNat l by omega, ih hlt, List.getD_append _ _ _ _ hlt]
    · obtain rfl : j = l.length := by omega
      rw [Nat.sub_self, Nat.pow_zero, Nat.div_one, List.getD_append_right _ _ _ _ le_rfl, Nat.sub_self, List.getD_cons_zero]
      omega

theorem beAt_byte {b : Blob} {i n j : Nat} (hb : i + n ≤ b.length) (hj : j < n) :
    beAt b i n / 256 ^ (n - 1 - j) % 256 = (b.getD (i + j) 0).toNat := by
  have hlen : ((b.drop i).take n).length = n := by rw [List.length_take, List.length_drop]; omega
  have hbyte := beNat_byte (l := (b.drop i).take n) (j := j) (by omega)
  rw [hlen] at hbyte
  rw [beAt, hbyte, List.getD_eq_getElem?_getD, List.getElem?_take_of_lt hj, List.getElem?_drop, ← List.getD_eq_getElem?_getD]

/-! ## What the commands meet -/

/-- No fault comes before an instruction only where its encoding is in order (R232, R250). -/
theorem enc_ok {u : State} {h : Hdr} {k : Kind} {c : Ctx} (hp : u.preFault h k c = none) : h.enc = .ok := by
  have hno : ∀ {p : Bool} {n : Nat} {o : Option Nat}, (if p then some n else o) = none → p = false ∧ o = none := by
    intro p n o h
    cases p with
    | true => cases h
    | false => exact ⟨rfl, h⟩
  obtain ⟨-, hp⟩ := hno hp
  obtain ⟨hillegal, hp⟩ := hno hp
  obtain ⟨hprivileged, hp⟩ := hno hp
  obtain ⟨-, hp⟩ := hno hp
  obtain ⟨hhelper, -⟩ := hno hp
  cases he : h.enc with
  | ok => rfl
  | illegal => rw [he] at hillegal; cases hillegal
  | privileged => rw [he] at hprivileged; cases hprivileged
  | helper => rw [he] at hhelper; cases hhelper

/-- A command that issues has operand and result counts that its row allows (R250). -/
theorem commands_counts {s u : State} {h : Hdr} {x : HArgs} {helper : Nat} {nops nrs : List Nat}
    (hc : Commands s u h x helper nops nrs) : x.nop.toNat ∈ nops ∧ x.nr.toNat ∈ nrs := by
  obtain ⟨⟨-, -, hp⟩, -, -⟩ := hc
  have henc : s.helperEnc h x helper nops nrs = .ok := enc_ok hp
  unfold State.helperEnc at henc
  split_ifs at henc with hdec hregs huser hcounts
  · rw [henc] at hdec
    cases hdec
  · simp only [Bool.or_eq_true, Bool.not_eq_true', not_or, Bool.not_eq_false, List.contains_iff_mem] at hcounts
    exact hcounts.1

theorem logError_free (s : State) (source severity att : Nat) (tenant : Option Nat) (o i detail : Nat) :
    (s.logError source severity att tenant o i detail).free = s.free := by
  have hpost : ∀ (u : State) (q t what : Nat), (u.post q t what).free = u.free := by
    intro u q t what
    unfold State.post
    dsimp only
    split
    · split <;> rfl
    · rfl
  have hraise : ∀ u : State, (if att = 0 then u else u.raise att tenant o i).free = u.free := fun u => by split <;> rfl
  unfold State.logError
  dsimp only
  rw [hraise]
  split
  · rfl
  · rw [hpost]
    split <;> rfl

/-- A refusal of a baton draws no free value. -/
theorem refuseBaton_free (s : State) (b : Nat) : (s.refuseBaton b).free = s.free := by
  have hraise : ∀ (quiet : Bool) (u : State),
      (if quiet then u else { u with buf.pool.lastRaise := some u.time.gun }).free = u.free := fun quiet u => by cases quiet <;> rfl
  unfold State.refuseBaton
  dsimp only
  rw [logError_free]
  exact hraise _ _

theorem cell_setCell_same (s : State) (c : Nat) (x : Cell) : (s.setCell c x).cell c = x := tabGet_set_same _ _ _ _

/-! ## References to a baton (R266) -/

section
variable {w : State} {b n : Nat}

theorem incRef_adds (hgood : w.batonOk b = true) (hn : (w.cell (bCell b)).refs + n ≤ 255) :
    w.incRef b n = (true, w.setCell (bCell b) { w.cell (bCell b) with refs := (w.cell (bCell b)).refs + n }) := by
  rw [State.incRef, hgood]
  exact if_neg (not_lt.2 hn)

theorem incRef_saturates (hgood : w.batonOk b = true) (hn : 255 < (w.cell (bCell b)).refs + n) :
    w.incRef b n = (false, w.count Obj.REF_SATURATIONS) := by
  rw [State.incRef, hgood]
  exact if_pos hn

end

/-! ## XCH -/

section
variable {s u : State} {h : Hdr} {x : HArgs}

theorem exec_opXchQuery_commands (hc : Commands s u h x 1 [0] [1]) :
    let r := (u.countIssue h.core).xchQuery ((u.countIssue h.core).runFid h.core)
    exec (.opXchQuery h x) s = .next (u.commands h x 1 r.2 [r.1]) :=
  (exec_opXchQuery h x s).trans (helper_commands hc rfl)

theorem exec_opXchState_commands (hc : Commands s u h x 1 [1] [1]) :
    let w := u.countIssue h.core
    exec (.opXchState h x) s = .next (u.commands h x 1 w [w.xchState (w.lkpTenant h.core) (u.opnd h x 0)]) :=
  (exec_opXchState h x s).trans (helper_commands hc (by rw [op_hregs]))

/-! ## BUF ALLOC, FREE and REF -/

theorem bits_low (n k : Nat) : bits n k 0 = n % 2 ^ (k + 1) := by
  rw [bits, Nat.pow_zero, Nat.div_one, Nat.sub_zero]

theorem bits_part (n : Nat) : bits n 33 32 = n / 2 ^ 32 % 4 := rfl

theorem bits_count (n : Nat) : bits n 39 32 = n / 2 ^ 32 % 256 := rfl

theorem exec_opBufAlloc_gives (hc : Commands s u h x 2 [1] [1]) {a : Nat} {v : State} (hn : 0 < u.opnd h x 0 % 2 ^ 14)
    (hfits : (u.countIssue h.core).sharedFits (u.opnd h x 0 / 2 ^ 32 % 4) (cellsFor (u.opnd h x 0 % 2 ^ 14)) = true)
    (ha : (u.countIssue h.core).allocCells (u.opnd h x 0 / 2 ^ 32 % 4) (cellsFor (u.opnd h x 0 % 2 ^ 14)) = some (a, v)) :
    exec (.opBufAlloc h x) s = .next (u.commands h x 2 ({ v with
      buf.pool.allocs := tabSet v.buf.pool.allocs (bCell a) (u.opnd h x 0 / 2 ^ 32 % 4, cellsFor (u.opnd h x 0 % 2 ^ 14)) }.modBatons
        h.core (· ++ [a])) [2 ^ 39 + a]) := by
  refine (exec_opBufAlloc h x s).trans (helper_commands hc ?_)
  rw [op_hregs]
  dsimp only
  rw [bits_low, bits_part, if_neg (Nat.pos_iff_ne_zero.1 hn), if_pos hfits, ha]

theorem exec_opBufAlloc_fails (hc : Commands s u h x 2 [1] [1]) (hn : 0 < u.opnd h x 0 % 2 ^ 14)
    (hno : (u.countIssue h.core).sharedFits (u.opnd h x 0 / 2 ^ 32 % 4) (cellsFor (u.opnd h x 0 % 2 ^ 14)) = false ∨
      (u.countIssue h.core).allocCells (u.opnd h x 0 / 2 ^ 32 % 4) (cellsFor (u.opnd h x 0 % 2 ^ 14)) = none) :
    exec (.opBufAlloc h x) s =
      .next (u.commands h x 2 ((u.countIssue h.core).count Obj.ALLOC_FAILS (u.opnd h x 0 / 2 ^ 32 % 4)) [0]) := by
  refine (exec_opBufAlloc h x s).trans (helper_commands hc ?_)
  rw [op_hregs]
  dsimp only
  rw [bits_low, bits_part, if_neg (Nat.pos_iff_ne_zero.1 hn)]
  rcases hno with hfull | hnone
  · rw [hfull]
    rfl
  · rw [hnone, ite_self]

/-- ALLOC of 0 bytes gives no baton. -/
theorem exec_opBufAlloc_zero (hc : Commands s u h x 2 [1] [1]) (hn : u.opnd h x 0 % 2 ^ 14 = 0) :
    exec (.opBufAlloc h x) s = .next (u.commands h x 2 (u.countIssue h.core) [0]) := by
  refine (exec_opBufAlloc h x s).trans (helper_commands hc ?_)
  rw [op_hregs]
  exact if_pos ((bits_low _ _).trans hn)

theorem exec_opBufFree_releases (hc : Commands s u h x 2 [1] [0, 1])
    (hok : ((u.countIssue h.core).decRef (u.opnd h x 0 % 2 ^ 32)).1 = true) : exec (.opBufFree h x) s =
      .next (u.commands h x 2 (((u.countIssue h.core).decRef (u.opnd h x 0 % 2 ^ 32)).2.modBatons h.core
        (fun l => l.erase (u.opnd h x 0 % 2 ^ 32))) [2 ^ 39]) := by
  refine (exec_opBufFree h x s).trans (helper_commands hc ?_)
  rw [op_hregs]
  dsimp only
  rw [bits_low, hok]
  rfl

theorem exec_opBufFree_refused (hc : Commands s u h x 2 [1] [0, 1])
    (hno : ((u.countIssue h.core).decRef (u.opnd h x 0 % 2 ^ 32)).1 = false) :
    exec (.opBufFree h x) s = .next (u.commands h x 2 ((u.countIssue h.core).decRef (u.opnd h x 0 % 2 ^ 32)).2 [0]) := by
  refine (exec_opBufFree h x s).trans (helper_commands hc ?_)
  rw [op_hregs]
  dsimp only
  rw [bits_low, hno]
  rfl

/-- REF of 0 references adds none. -/
theorem exec_opBufRef_zero (hc : Commands s u h x 2 [1] [1]) (hn : u.opnd h x 0 / 2 ^ 32 % 256 = 0) :
    exec (.opBufRef h x) s = .next (u.commands h x 2 (u.countIssue h.core) [0]) := by
  refine (exec_opBufRef h x s).trans (helper_commands hc ?_)
  rw [op_hregs]
  exact if_pos hn

/-- REF of a baton that is in order gives OK or SATURATED, and the count. -/
theorem exec_opBufRef_good (hc : Commands s u h x 2 [1] [1]) (hn : 0 < u.opnd h x 0 / 2 ^ 32 % 256) {v : State} {ok : Bool}
    (hgood : (u.countIssue h.core).batonOk (u.opnd h x 0 % 2 ^ 32) = true)
    (hr : (u.countIssue h.core).incRef (u.opnd h x 0 % 2 ^ 32) (u.opnd h x 0 / 2 ^ 32 % 256) = (ok, v)) :
    exec (.opBufRef h x) s = .next (u.commands h x 2 v
      [nat01 ok * 2 ^ 39 + nat01 (!ok) * 2 ^ 38 + (v.cell (bCell (u.opnd h x 0 % 2 ^ 32))).refs]) := by
  refine (exec_opBufRef h x s).trans (helper_commands hc ?_)
  rw [op_hregs]
  dsimp only
  rw [bits_low, bits_count, if_neg (Nat.pos_iff_ne_zero.1 hn), if_pos hgood, hr]

theorem exec_opBufRef_adds (hc : Commands s u h x 2 [1] [1]) (hn : 0 < u.opnd h x 0 / 2 ^ 32 % 256)
    (hgood : (u.countIssue h.core).batonOk (u.opnd h x 0 % 2 ^ 32) = true)
    (hfit : ((u.countIssue h.core).cell (bCell (u.opnd h x 0 % 2 ^ 32))).refs + u.opnd h x 0 / 2 ^ 32 % 256 ≤ 255) :
    let w := u.countIssue h.core
    let at_ := bCell (u.opnd h x 0 % 2 ^ 32)
    let n := (w.cell at_).refs + u.opnd h x 0 / 2 ^ 32 % 256
    exec (.opBufRef h x) s = .next (u.commands h x 2 (w.setCell at_ { w.cell at_ with refs := n }) [2 ^ 39 + n]) := by
  refine (exec_opBufRef_good hc hn hgood (incRef_adds hgood hfit)).trans ?_
  rw [cell_setCell_same]
  rfl

theorem exec_opBufRef_saturates (hc : Commands s u h x 2 [1] [1]) (hn : 0 < u.opnd h x 0 / 2 ^ 32 % 256)
    (hgood : (u.countIssue h.core).batonOk (u.opnd h x 0 % 2 ^ 32) = true)
    (hover : 255 < ((u.countIssue h.core).cell (bCell (u.opnd h x 0 % 2 ^ 32))).refs + u.opnd h x 0 / 2 ^ 32 % 256) :
    exec (.opBufRef h x) s = .next (u.commands h x 2 ((u.countIssue h.core).count Obj.REF_SATURATIONS)
      [2 ^ 38 + ((u.countIssue h.core).cell (bCell (u.opnd h x 0 % 2 ^ 32))).refs]) := by
  refine (exec_opBufRef_good hc hn hgood (incRef_saturates hgood hover)).trans ?_
  rw [Bool.not_false]
  rfl

theorem exec_opBufRef_refused (hc : Commands s u h x 2 [1] [1]) (hn : 0 < u.opnd h x 0 / 2 ^ 32 % 256)
    (hbad : (u.countIssue h.core).batonOk (u.opnd h x 0 % 2 ^ 32) = false) : exec (.opBufRef h x) s =
      .next (u.commands h x 2 ((u.countIssue h.core).refuseBaton (u.opnd h x 0 % 2 ^ 32)) [0]) := by
  refine (exec_opBufRef h x s).trans (helper_commands hc ?_)
  rw [op_hregs]
  dsimp only
  rw [bits_low, bits_count, if_neg (Nat.pos_iff_ne_zero.1 hn), hbad, if_neg Bool.false_ne_true, State.incRef, hbad]
  rfl

end

/-! ## BUF READ and WRITE -/

/-- The n bytes that BUF READ takes from a baton: those of its chain from an offset on, and zero beyond it. -/
def State.paddedBaton (w : State) (b off n : Nat) : Blob :=
  let got := w.readBaton b off (min n (w.batonSpan b - off))
  got ++ List.replicate (n - got.length) 0

section
variable {w : State} {b off n k : Nat}

theorem length_readBaton (w : State) (b off n : Nat) : (w.readBaton b off n).length = n := by
  rw [State.readBaton, List.length_map, List.length_range]

theorem length_paddedBaton (w : State) (b off n : Nat) : (w.paddedBaton b off n).length = n := by
  rw [State.paddedBaton, List.length_append, List.length_replicate, length_readBaton]
  omega

theorem getD_paddedBaton (hk : k < n) : ((w.paddedBaton b off n).getD k 0).toNat =
    if off + k < w.batonSpan b then (memRead w.buf.pool.data (w.batonAddr b (off + k))).toNat else 0 := by
  unfold State.paddedBaton
  dsimp only
  by_cases hin : off + k < w.batonSpan b
  · have hlt : k < min n (w.batonSpan b - off) := by omega
    rw [if_pos hin, List.getD_append _ _ _ _ (by rw [length_readBaton]; exact hlt), State.readBaton, List.getD_eq_getElem?_getD,
      List.getElem?_map, List.getElem?_range hlt]
    rfl
  · have hle : (w.readBaton b off (min n (w.batonSpan b - off))).length ≤ k := by rw [length_readBaton]; omega
    rw [if_neg hin, List.getD_append_right _ _ _ _ hle, List.getD_replicate _ (by rw [length_readBaton]; omega)]
    rfl

end

section
variable {s u : State} {h : Hdr} {x : HArgs}

theorem exec_opBufRead_good (hc : Commands s u h x 2 [2] [1, 2, 3, 4, 5, 6, 7])
    (hgood : (u.countIssue h.core).batonOk (u.opnd h x 0 % 2 ^ 32) = true) : exec (.opBufRead h x) s =
      .next (u.commands h x 2 (u.countIssue h.core) ((List.range x.nr.toNat).map (fun k => beAt
        ((u.countIssue h.core).paddedBaton (u.opnd h x 0 % 2 ^ 32) (u.opnd h x 1 % 2 ^ 14) (5 * x.nr.toNat)) (5 * k) 5))) := by
  refine (exec_opBufRead h x s).trans (helper_commands hc ?_)
  rw [op_hregs, op_hregs, bits_low, bits_low]
  exact if_pos hgood

/-- A READ that is refused gives free values (R267). -/
theorem exec_opBufRead_refused (hc : Commands s u h x 2 [2] [1, 2, 3, 4, 5, 6, 7])
    (hbad : (u.countIssue h.core).batonOk (u.opnd h x 0 % 2 ^ 32) = false) :
    ∃ vs : List Nat, exec (.opBufRead h x) s = .next (u.commands h x 2
      { (u.countIssue h.core).refuseBaton (u.opnd h x 0 % 2 ^ 32) with free := (u.countIssue h.core).free + 1 } vs) := by
  have hdraw : ((u.countIssue h.core).refuseBaton (u.opnd h x 0 % 2 ^ 32)).drawBytes.2 =
      { (u.countIssue h.core).refuseBaton (u.opnd h x 0 % 2 ^ 32) with free := (u.countIssue h.core).free + 1 } := by
    rw [← refuseBaton_free (u.countIssue h.core) (u.opnd h x 0 % 2 ^ 32)]
    rfl
  rw [← hdraw]
  refine ⟨(List.range x.nr.toNat).map (fun k => beAt ((u.countIssue h.core).refuseBaton (u.opnd h x 0 % 2 ^ 32)).drawBytes.1 (5 * k) 5),
    (exec_opBufRead h x s).trans (helper_commands hc ?_)⟩
  rw [op_hregs, op_hregs, bits_low, bits_low]
  exact if_neg (by rw [hbad]; exact Bool.false_ne_true)

/-- The operands from the third on. -/
theorem drop_two_hregs (u : State) (h : Hdr) (x : HArgs) : ((hregs x.hb.toNat x.nop.toNat).map (fun n => ((u.sees h).rh n).toNat)).drop 2 =
    (List.range (x.nop.toNat - 2)).map (fun k => u.opnd h x (k + 2)) := by
  rw [← List.drop_drop (i := 1) (j := 1), drop_hregs]
  refine List.ext_getElem (by simp; omega) fun k _ _ => ?_
  simp

/-- WRITE of a baton that is in order stores what fits, and gives OK = 0 where some does not. -/
theorem exec_opBufWrite_good (hc : Commands s u h x 2 [3, 4, 5, 6, 7] [0, 1])
    (hgood : (u.countIssue h.core).batonOk (u.opnd h x 0 % 2 ^ 32) = true) :
    let w := u.countIssue h.core
    let b := u.opnd h x 0 % 2 ^ 32
    let off := u.opnd h x 1 % 2 ^ 14
    let bytes := (List.range (x.nop.toNat - 2)).flatMap (fun k => beBytes 5 (u.opnd h x (k + 2)))
    exec (.opBufWrite h x) s = .next (u.commands h x 2 (w.writeBaton b off (bytes.take (w.batonSpan b - off)))
      [nat01 (decide (off + bytes.length ≤ w.batonSpan b)) * 2 ^ 39]) := by
  intro w b off bytes
  have hsome : 0 < bytes.length := by
    have hcount : 3 ≤ x.nop.toNat := by
      have hmem := (commands_counts hc).1
      simp only [List.mem_cons, List.not_mem_nil, or_false] at hmem
      omega
    simp only [bytes, List.length_flatMap, length_beBytes, List.map_const', List.sum_replicate, List.length_range, smul_eq_mul]
    omega
  have hfits : ((bytes.take (w.batonSpan b - off)).length == bytes.length) = decide (off + bytes.length ≤ w.batonSpan b) := by
    rw [List.length_take, Bool.eq_iff_iff, beq_iff_eq, decide_eq_true_eq]
    omega
  refine (exec_opBufWrite h x s).trans (helper_commands hc ?_)
  rw [op_hregs, op_hregs, drop_two_hregs, List.flatMap_map, bits_low, bits_low, ← hfits]
  exact if_pos hgood

theorem exec_opBufWrite_refused (hc : Commands s u h x 2 [3, 4, 5, 6, 7] [0, 1])
    (hbad : (u.countIssue h.core).batonOk (u.opnd h x 0 % 2 ^ 32) = false) : exec (.opBufWrite h x) s =
      .next (u.commands h x 2 ((u.countIssue h.core).refuseBaton (u.opnd h x 0 % 2 ^ 32)) [0]) := by
  refine (exec_opBufWrite h x s).trans (helper_commands hc ?_)
  rw [op_hregs, op_hregs, bits_low, bits_low]
  exact if_neg (by rw [hbad]; exact Bool.false_ne_true)

end

/-- Settles O17: each command answers what its operands name, byte by byte where it reads, and OK = 0 where it cannot. -/
theorem xchBufResults : Obligations.XchBufResults := by
  intro s u h x w o b ok
  refine ⟨exec_opXchQuery_commands, exec_opXchState_commands,
    fun hc => ⟨fun v a => exec_opBufAlloc_gives hc, exec_opBufAlloc_fails hc, exec_opBufAlloc_zero hc⟩,
    fun hc => ⟨exec_opBufFree_releases hc, exec_opBufFree_refused hc⟩,
    fun hc => ⟨exec_opBufRef_zero hc, exec_opBufRef_adds hc, exec_opBufRef_saturates hc, exec_opBufRef_refused hc⟩,
    exec_opBufRead_refused, exec_opBufWrite_refused,
    fun hc hgood => ⟨_, exec_opBufRead_good hc hgood, by rw [List.length_map, List.length_range], fun k hk => ?byte⟩, exec_opBufWrite_good⟩
  case byte =>
    have hrow : k / 5 < x.nr.toNat := by omega
    refine ⟨_, by rw [List.getElem?_map, List.getElem?_range hrow]; rfl, ?_⟩
    rw [show 4 - k % 5 = 5 - 1 - k % 5 from rfl, beAt_byte (by rw [length_paddedBaton]; omega) (Nat.mod_lt k (by decide)), Nat.div_add_mod]
    exact getD_paddedBaton hk

end Sys2Proof.Machine
end

section
/-! PROOFS. Locks and atomic words (R301 to R306, Tables 10.5 and 10.6). -/

namespace Sys2Proof.Machine

/-! ## Attempts and releases (R302) -/

section
variable {s : State} {m l h : Nat}

@[simp] theorem lock_setLock_same (s : State) (l : Nat) (x : Lock) : (s.setLock l x).lock l = x := tabGet_set_same _ _ _ _

theorem lock_setLock_other {k : Nat} (x : Lock) (hk : k ≠ l) : (s.setLock l x).lock k = s.lock k := tabGet_set_other _ _ _ hk

theorem attempt_refused : s.attempt m l false = (false, false, s.count Obj.LOCK_VIOLATIONS) := rfl

theorem attempt_free (hfree : (s.lock l).holder = none) : s.attempt m l true =
    (true, (s.lock l).abandoned, s.setLock l { s.lock l with holder := some m, abandoned := false }) := by
  simp [State.attempt, hfree]

theorem attempt_own (hheld : (s.lock l).holder = some m) : s.attempt m l true =
    (true, (s.lock l).abandoned, s.setLock l { s.lock l with abandoned := false }) := by
  simp [State.attempt, hheld]

/-- A lock that another master holds is not granted; a Starter core is entered as waiting for it, once. -/
theorem attempt_held (hheld : (s.lock l).holder = some h) (hm : h ≠ m) : s.attempt m l true =
    (false, false, if m / 2 ^ 14 = 0 ∧ m ∉ (s.lock l).waiters then s.setLock l { s.lock l with waiters := (s.lock l).waiters ++ [m] } else s) := by
  simp only [State.attempt, hheld, Bool.not_true, Bool.false_eq_true, if_false, if_neg hm, Bool.and_eq_true, decide_eq_true_eq,
    Bool.not_eq_true', List.contains_eq_mem, decide_eq_false_iff_not]
  split <;> rfl

/-- An attempt touches no lock but its own. -/
theorem attempt_lock_other {k : Nat} (may : Bool) (hk : k ≠ l) : (s.attempt m l may).2.2.lock k = s.lock k := by
  cases may with
  | false => rfl
  | true =>
    cases hx : (s.lock l).holder with
    | none => rw [attempt_free hx, lock_setLock_other _ hk]
    | some h =>
      by_cases hm : h = m
      · rw [attempt_own (hm ▸ hx), lock_setLock_other _ hk]
      · rw [attempt_held hx hm]
        dsimp only
        split
        · exact lock_setLock_other _ hk
        · rfl

/-- A held lock stays with its holder, and is granted to no other. -/
theorem attempt_of_held (may : Bool) (hheld : (s.lock l).holder = some h) :
    ((s.attempt m l may).2.2.lock l).holder = some h ∧ ((s.attempt m l may).1 = true ↔ m = h ∧ may = true) := by
  cases may with
  | false => exact ⟨hheld, by simp [attempt_refused]⟩
  | true =>
    by_cases hm : h = m
    · subst hm
      rw [attempt_own hheld, lock_setLock_same]
      exact ⟨hheld, by simp⟩
    · rw [attempt_held hheld hm]
      refine ⟨?_, by simp [Ne.symm hm]⟩
      dsimp only
      split
      · rw [lock_setLock_same]
        exact hheld
      · exact hheld

/-- A free lock goes to the master that may take it. -/
theorem attempt_of_free (may : Bool) (hfree : (s.lock l).holder = none) :
    (s.attempt m l may).1 = may ∧ ((s.attempt m l may).2.2.lock l).holder = if may then some m else none := by
  cases may with
  | false => exact ⟨rfl, hfree⟩
  | true =>
    rw [attempt_free hfree, lock_setLock_same]
    exact ⟨rfl, rfl⟩

/-- A release frees the lock and counts; its waiters' cores are woken, and no other lock is touched (R302, R303). -/
theorem freeLock_ten (s : State) (l : Nat) : (s.freeLock l).ten =
    (s.setLock l { s.lock l with holder := none, releases := ((s.lock l).releases + 1) % 2 ^ 32, waiters := [] }).ten :=
  foldl_keeps (g := State.ten) (fun u k _ => by split <;> rfl) _

theorem lock_freeLock_same (s : State) (l : Nat) : (s.freeLock l).lock l =
    { s.lock l with holder := none, releases := ((s.lock l).releases + 1) % 2 ^ 32, waiters := [] } := by
  rw [State.lock, freeLock_ten]
  exact lock_setLock_same s l _

theorem lock_freeLock_other {k : Nat} (hk : k ≠ l) : (s.freeLock l).lock k = s.lock k := by
  rw [State.lock, freeLock_ten]
  exact lock_setLock_other _ hk

theorem unlockBy_holder (hheld : (s.lock l).holder = some m) : s.unlockBy m l = (true, s.freeLock l) := if_pos hheld

theorem unlockBy_other (hheld : (s.lock l).holder ≠ some m) : s.unlockBy m l = (false, s.count Obj.LOCK_VIOLATIONS) := if_neg hheld

end

/-! ## The host's registers and the objects (R301, R305, R306) -/

section
variable {s : State} {p : Principal} {l i v fn : Nat}

theorem exec_lockRegisterRead_word : exec (.lockRegisterRead fn l) s =
    .next ((s.attempt (2 ^ 14 + fn) l (s.mayLock (2 ^ 14 + fn) l)).2.2.emit (.lockWord (if s.mayLock (2 ^ 14 + fn) l then
      (s.attempt (2 ^ 14 + fn) l (s.mayLock (2 ^ 14 + fn) l)).2.2.lockWord (2 ^ 14 + fn) l |||
        (if (s.attempt (2 ^ 14 + fn) l (s.mayLock (2 ^ 14 + fn) l)).2.1 then 2 ^ 62 else 0) else 0))) := by
  have hbit : ∀ b : Bool, nat01 b * 2 ^ 62 = if b then 2 ^ 62 else 0 := by decide
  rw [exec_lockRegisterRead, ← hbit]
  rfl

theorem writes_lockAttempt (ha : AcceptsNum s p Obj.LOCK l 1) :
    Writes (.lockAttempt p l) s .ok (s.attempt (masterOf p) l (s.mayLock (masterOf p) l)).2.2 :=
  writes_num ha (exec_lockAttempt p l s) rfl rfl (by decide)

theorem writes_lockUnlock (ha : AcceptsNum s p Obj.LOCK l 0) : Writes (.lockUnlock p l) s .ok (s.unlockBy (masterOf p) l).2 :=
  writes_num ha (exec_lockUnlock p l s) rfl rfl (by decide)

theorem writes_lockConfig_held (ha : AcceptsNum s p Obj.LOCK_CONFIG l v) (hheld : (s.lock l).holder ≠ none) :
    Writes (.lockConfig p l v) s .state s :=
  writes_num ha (exec_lockConfig p l v s) rfl (if_pos (Option.isSome_iff_ne_none.mpr hheld)) (by decide)

theorem writes_lockConfig_free (ha : AcceptsNum s p Obj.LOCK_CONFIG l v) (hfree : (s.lock l).holder = none) :
    Writes (.lockConfig p l v) s .ok (s.writeNum Obj.LOCK_CONFIG l (v &&& 0xFF01)) :=
  writes_num ha (exec_lockConfig p l v s) rfl (if_neg (by rw [hfree]; decide)) (by decide)

/-- BASE and COUNT of a written block are in range, and it meets the block of no other tenant (R306). -/
def State.blockFits (s : State) (t v : Nat) : Prop :=
  v % 2 ^ 16 ≤ 32768 ∧ v / 2 ^ 16 % 2 ^ 16 + v % 2 ^ 16 ≤ 65536 ∧
    ∀ k, 1 ≤ k → k ≤ 255 → k ≠ t → blocksMeet (v / 2 ^ 16 % 2 ^ 16, v % 2 ^ 16) (s.atomBlock k) = false

/-- The test of a written block looks at the tenants 1 to 255 in turn. -/
theorem blockFits_iff (s : State) (t v : Nat) : s.blockFits t v ↔
    ¬ (bits v 15 0 > 32768 || bits v 31 16 + bits v 15 0 > 65536 ||
      (List.range 255).any (fun k => k + 1 != t && blocksMeet (bits v 31 16, bits v 15 0) (s.atomBlock (k + 1)))) = true := by
  have hsize : bits v 15 0 = v % 2 ^ 16 := by simp [bits]
  have hbase : bits v 31 16 = v / 2 ^ 16 % 2 ^ 16 := rfl
  have hshift : (∀ k, 1 ≤ k → k ≤ 255 → k ≠ t → blocksMeet (v / 2 ^ 16 % 2 ^ 16, v % 2 ^ 16) (s.atomBlock k) = false) ↔
      ∀ k < 255, k + 1 ≠ t → blocksMeet (v / 2 ^ 16 % 2 ^ 16, v % 2 ^ 16) (s.atomBlock (k + 1)) = false := by
    refine ⟨fun h k hk => h (k + 1) (by omega) (by omega), fun h k hlo hhi hne => ?_⟩
    have hpred := h (k - 1) (by omega)
    rw [Nat.sub_add_cancel hlo] at hpred
    exact hpred hne
  rw [State.blockFits, hshift, hsize, hbase]
  simp [and_assoc]

theorem writes_atomicBlock_misfit (ha : AcceptsNum s p Obj.ATOMIC_BLOCK i v) (hbad : ¬ s.blockFits i v) :
    Writes (.atomicBlock p i v) s .range s := by
  rw [blockFits_iff, not_not] at hbad
  exact writes_num ha (exec_atomicBlock p i v s) rfl (if_pos hbad) (by decide)

theorem writes_atomicBlock_busy (ha : AcceptsNum s p Obj.ATOMIC_BLOCK i v) (hfit : s.blockFits i v) (hst : (s.tenant i).st ≠ .idle) :
    Writes (.atomicBlock p i v) s .state s := by
  rw [blockFits_iff] at hfit
  exact writes_num ha (exec_atomicBlock p i v s) rfl ((if_neg hfit).trans (if_pos (bne_iff_ne.mpr hst))) (by decide)

theorem writes_atomicBlock_ok (ha : AcceptsNum s p Obj.ATOMIC_BLOCK i v) (hfit : s.blockFits i v) (hst : (s.tenant i).st = .idle) :
    Writes (.atomicBlock p i v) s .ok (s.writeNum Obj.ATOMIC_BLOCK i v) := by
  rw [blockFits_iff] at hfit
  exact writes_num ha (exec_atomicBlock p i v s) rfl ((if_neg hfit).trans (if_neg (by simp [hst]))) (by decide)

end

/-- Settles O45: a lock has one holder at a time, its register and its objects act by attempts and releases, and blocks stay apart. -/
theorem lockResults : Obligations.LockResults := by
  intro s p fn l m h i v may
  refine ⟨attempt_of_held may, attempt_of_free may, fun k => attempt_lock_other may, fun hheld hne => unlockBy_other ?other,
    fun hheld => ?release, exec_lockRegisterRead_word, rfl, writes_lockAttempt, writes_lockUnlock,
    fun ha => ⟨writes_lockConfig_held ha, writes_lockConfig_free ha⟩,
    fun ha => ⟨writes_atomicBlock_misfit ha, writes_atomicBlock_busy ha, writes_atomicBlock_ok ha⟩⟩
  case other =>
    rw [hheld]
    exact fun he => hne (Option.some.inj he).symm
  case release =>
    rw [unlockBy_holder hheld]
    exact ⟨by rw [lock_freeLock_same], by rw [lock_freeLock_same], rfl⟩

end Sys2Proof.Machine
end

section
/-! PROOFS. What the ends of frames, copies and records leave of the tenants, their locks and operations, and of the mailboxes (R101, R208, R217, R266,
R340, R345, R348). -/

namespace Sys2Proof.Machine

/-- What both branches keep, a choice between them keeps. -/
theorem ite_keeps {α γ : Type} {g : α → γ} {c : Prop} [Decidable c] {a b : α} {x : γ} (ha : g a = x) (hb : g b = x) :
    g (if c then a else b) = x := by
  split
  · exact ha
  · exact hb

/-- The tenants with their operations and locks, and the mailboxes. -/
def State.apart (s : State) : TenantsSt × Tab Mailbox := (s.ten, s.mgmt.mailboxes)

section
variable (s : State)

theorem ten_of_apart {u : State} (h : u.apart = s.apart) : u.ten = s.ten := (Prod.mk.inj h).1

theorem mailboxes_of_apart {u : State} (h : u.apart = s.apart) : u.mgmt.mailboxes = s.mgmt.mailboxes := (Prod.mk.inj h).2

@[simp] theorem count_apart (o i : Nat) : (s.count o i).apart = s.apart := rfl
@[simp] theorem modFrame_apart (fid : Nat) (f : Frame → Frame) : (s.modFrame fid f).apart = s.apart := rfl
@[simp] theorem modThread_apart (x : Nat) (f : Thread → Thread) : (s.modThread x f).apart = s.apart := rfl
@[simp] theorem modQueue_apart (q : Nat) (f : Queue → Queue) : (s.modQueue q f).apart = s.apart := rfl
@[simp] theorem modRing_apart (t : Nat) (f : Ring → Ring) : (s.modRing t f).apart = s.apart := rfl
@[simp] theorem modChannel_apart (c : Nat) (f : Channel → Channel) : (s.modChannel c f).apart = s.apart := rfl
@[simp] theorem setSlot_apart (t k : Nat) (x : SnapSlot) : (s.setSlot t k x).apart = s.apart := rfl

/-! ## The record of events (R364, R384, R417) -/

@[simp] theorem post_apart (q tenant what : Nat) : (s.post q tenant what).apart = s.apart := by
  unfold State.post
  dsimp only
  split
  · split <;> rfl
  · rfl

@[simp] theorem logError_apart (source severity att : Nat) (tenant : Option Nat) (o i detail : Nat) :
    (s.logError source severity att tenant o i detail).apart = s.apart := by
  have hraise : ∀ u : State, (if att = 0 then u else u.raise att tenant o i).apart = u.apart := fun u => ite_keeps rfl rfl
  unfold State.logError
  dsimp only
  rw [hraise]
  split
  · rfl
  · rw [post_apart]
    exact ite_keeps (g := State.apart) rfl rfl

/-! ## Batons and copies (R265 to R267, R277) -/

@[simp] theorem refuseBaton_apart (b : Nat) : (s.refuseBaton b).apart = s.apart := by
  have hraise : ∀ (quiet : Bool) (u : State),
      (if quiet then u else { u with buf.pool.lastRaise := some u.time.gun }).apart = u.apart := fun quiet u => ite_keeps rfl rfl
  unfold State.refuseBaton
  dsimp only
  rw [logError_apart]
  exact hraise _ _

@[simp] theorem pushCell_apart (c : Nat) : (s.pushCell c).apart = s.apart := by
  unfold State.pushCell
  dsimp only
  split
  · rfl
  · split <;> rfl

@[simp] theorem release_apart (b : Nat) : (s.release b).apart = s.apart := by
  unfold State.release State.decRef
  split
  · exact refuseBaton_apart s b
  · dsimp only
    split
    · exact refuseBaton_apart s b
    · split
      · exact foldl_keeps (g := State.apart) (fun u c _ => pushCell_apart u c) _
      · rfl

@[simp] theorem incRef_apart (b n : Nat) : (s.incRef b n).2.apart = s.apart := by
  unfold State.incRef
  split
  · exact refuseBaton_apart s b
  · dsimp only
    split <;> rfl

@[simp] theorem forget_apart (fid : Nat) : (s.forget fid).apart = s.apart := ite_keeps rfl rfl

@[simp] theorem releaseCopy_apart (c : Copy) : (s.releaseCopy c).apart = s.apart := by
  rw [State.releaseCopy, forget_apart, release_apart]

@[simp] theorem exchangeCells_apart (b : Nat) : (s.exchangeCells b).2.apart = s.apart := by
  unfold State.exchangeCells
  dsimp only
  split
  · rfl
  · refine foldl_keeps (g := State.apart) (fun u c _ => ?_) s
    split
    case h_1 => rfl
    case h_2 r w hw =>
      rw [popCell_pool hw]
      rfl

@[simp] theorem retain_apart (p : Nat) (c : Copy) : (s.retain p c).apart = s.apart := by
  unfold State.retain
  split
  · exact releaseCopy_apart s c
  · split
    · exact releaseCopy_apart s c
    · split
      · exact releaseCopy_apart s c
      · dsimp only
        split
        · exact exchangeCells_apart s c.baton
        · exact (releaseCopy_apart _ c).trans (exchangeCells_apart s c.baton)

@[simp] theorem takeOut_apart (q : Nat) (f : Copy → Bool) : (s.takeOut q f).2.apart = s.apart := ite_keeps rfl rfl

@[simp] theorem flush_apart (q obj : Nat) (f : Copy → Bool) : (s.flush q obj f).apart = s.apart :=
  (foldl_keeps (g := State.apart) (fun u c _ => releaseCopy_apart (u.count obj q) c) _).trans (takeOut_apart s q f)

@[simp] theorem takeOutFrame_apart (fid : Nat) : (s.takeOutFrame fid).apart = s.apart :=
  foldl_keeps (g := State.apart) (fun u q _ =>
    (foldl_keeps (g := State.apart) (fun y c _ => releaseCopy_apart y c) _).trans (takeOut_apart u q _)) s

@[simp] theorem stomp_apart (p sub reason : Nat) (keep : Bool) : (s.stomp p sub reason keep).apart = s.apart := by
  unfold State.stomp
  split
  · rfl
  case h_2 w _ =>
    have hwire : ∀ (u : State) (t : Nat), (if isPsiot p then u.modPort p (fun x => { x with wireFree := t }) else u).apart = u.apart :=
      fun u t => ite_keeps rfl rfl
    dsimp only
    split
    · exact (retain_apart _ p w.copy).trans (hwire _ _)
    · exact (releaseCopy_apart _ w.copy).trans (hwire _ _)

/-! ## Relay traffic at a reset (R101) -/

@[simp] theorem dropHold_apart (x : Input) : (s.dropHold x).apart = s.apart := ite_keeps rfl (release_apart s _)

@[simp] theorem withdrawShell_apart (x : Shell) : (s.withdrawShell x).apart = s.apart := by
  unfold State.withdrawShell
  exact ite_keeps rfl (takeOutFrame_apart _ _)

@[simp] theorem relayReset_apart (t : Nat) : (s.relayReset t).apart = s.apart :=
  (foldl_keeps (g := State.apart) (fun u x _ => withdrawShell_apart u x) _).trans
    ((foldl_keeps (g := State.apart) (fun u r _ => release_apart u r.baton) _).trans
      (foldl_keeps (g := State.apart) (fun _ e _ => dropHold_apart _ e.2) s))

/-! ## Cards and threads (R153, R199, R207, R208, R213, R216, R218) -/

@[simp] theorem takeSeq_apart (fid : Nat) : (s.takeSeq fid).apart = s.apart := by
  unfold State.takeSeq
  split <;> rfl

@[simp] theorem giveThread_apart (fid x : Nat) : (s.giveThread fid x).apart = s.apart := by
  unfold State.giveThread State.fillWindow
  split
  · split <;> rfl
  · rfl

@[simp] theorem tryDispatch_apart (fid : Nat) : (s.tryDispatch fid).2.apart = s.apart := by
  unfold State.tryDispatch
  split
  · rfl
  · dsimp only
    split
    · exact (giveThread_apart _ _ _).trans (takeSeq_apart s fid)
    · split
      · exact takeSeq_apart s fid
      · rfl

@[simp] theorem offerCard_apart (fid : Nat) : (s.offerCard fid).2.apart = s.apart := by
  unfold State.offerCard
  split
  · rfl
  · dsimp only
    split
    · rfl
    · exact tryDispatch_apart s fid

@[simp] theorem dispatch_apart (fid : Nat) : (s.dispatch fid).apart = s.apart := by
  have hoffer := offerCard_apart s fid
  unfold State.dispatch
  split
  case h_1 u hu => rwa [hu] at hoffer
  case h_2 u hu => rwa [hu] at hoffer

@[simp] theorem sendCard_apart (fid : Nat) (c : Card) (countDrop : Bool) : (s.sendCard fid c countDrop).apart = s.apart := by
  rw [State.sendCard, dispatch_apart]
  exact ite_keeps (g := State.apart) rfl rfl

@[simp] theorem unholdFrag_apart (fid : Nat) : (s.unholdFrag fid).apart = s.apart := by
  unfold State.unholdFrag
  split
  · exact ite_keeps (release_apart _ _) rfl
  · rfl

@[simp] theorem dropFrags_apart (t : Nat) : (s.dropFrags t).apart = s.apart := by
  refine foldl_keeps (g := State.apart) (fun u e _ => ?_) s
  split
  · rw [sendCard_apart, unholdFrag_apart]
  · exact unholdFrag_apart u e.1

@[simp] theorem wakeHelpers_apart (x helper : Nat) : (s.wakeHelpers x helper).apart = s.apart := by
  refine foldl_keeps (g := State.apart) (fun u y _ => ?_) s
  split
  · exact ite_keeps rfl rfl
  · exact ite_keeps rfl rfl
  · rfl

@[simp] theorem postRelease_apart (fid : Nat) (r : Release) : (s.postRelease fid r).apart = s.apart := by
  unfold State.postRelease
  split <;> rfl

@[simp] theorem postFaultCard_apart (f : FaultCard) : (s.postFaultCard f).apart = s.apart := by
  unfold State.postFaultCard
  dsimp only
  split
  · split <;> rfl
  · exact post_apart _ _ _ _

@[simp] theorem countFault_apart (q cause : Nat) : (s.countFault q cause).apart = s.apart := by
  have hbudget : ∀ u : State, (if cause = 5 then u.count Obj.BUDGET_FAULTS q else u).apart = u.apart := fun u => ite_keeps rfl rfl
  unfold State.countFault
  split
  · rfl
  · dsimp only
    exact ite_keeps (hbudget _) (hbudget _)

/-! ## DRAM and the rings (R331, R337, R340, R345 to R347) -/

@[simp] theorem sectorWrite_apart (x a len : Nat) : (s.sectorWrite x a len).apart = s.apart := by
  unfold State.sectorWrite
  exact ite_keeps rfl (ite_keeps (ite_keeps rfl (ite_keeps rfl rfl)) rfl)

@[simp] theorem dramPut_apart (a : Nat) (b : Blob) : (s.dramPut a b).apart = s.apart :=
  foldl_keeps (g := State.apart) (fun u x _ => sectorWrite_apart u x a b.length) s

@[simp] theorem takeTokens_apart (r : DramLevel) (n : Nat) : (s.takeTokens r n).apart = s.apart := by
  unfold State.takeTokens
  cases s.reservation r
  rfl

@[simp] theorem openRows_apart (a len : Nat) : (s.openRows a len).apart = s.apart := by
  refine foldl_keeps (g := State.apart) (fun u e _ => ?_) s
  cases u.dramMap e.1
  rfl

@[simp] theorem queueWrite_apart (a len : Nat) : (s.queueWrite a len).apart = s.apart :=
  foldl_keeps (g := State.apart) (fun u _ _ => modChannel_apart u _ _) s

@[simp] theorem dramWrite_apart (r : DramLevel) (a : Nat) (b : Blob) : (s.dramWrite r a b).apart = s.apart := by
  rw [State.dramWrite, dramPut_apart, queueWrite_apart, openRows_apart, takeTokens_apart]

@[simp] theorem recordPut_apart (r : DramLevel) (a : Nat) (b : Blob) : (s.recordPut r a b).apart = s.apart := dramWrite_apart s r _ _

@[simp] theorem ringPut_apart (t : Nat) (r : Blob) : (s.ringPut t r).apart = s.apart := by
  rw [State.ringPut, count_apart, modRing_apart, recordPut_apart]

@[simp] theorem ringPlace_apart (t lap : Nat) (r : Blob) : (s.ringPlace t lap r).apart = s.apart := by
  rw [State.ringPlace, ringPut_apart]
  exact ite_keeps rfl (ringPut_apart s t _)

@[simp] theorem ringGap_apart (t : Nat) : (s.ringGap t).apart = s.apart := by
  unfold State.ringGap
  refine ite_keeps rfl (ite_keeps rfl ?_)
  rw [count_apart, modRing_apart, ringPlace_apart]

@[simp] theorem ringServe_apart (t lap : Nat) (r : Blob) : (s.ringServe t lap r).apart = s.apart := by
  unfold State.ringServe
  exact ite_keeps (ringGap_apart s t) ((ringPlace_apart _ t lap _).trans (ringGap_apart s t))

@[simp] theorem serveWaiting_apart (t level : Nat) : (s.serveWaiting t level).apart = s.apart := by
  refine foldl_keeps (g := State.apart) (fun u e _ => ?_) s
  dsimp only
  split
  · exact ite_keeps (ringServe_apart _ t _ _) rfl
  · rfl

@[simp] theorem ringLeave_apart (t : Nat) : (s.ringLeave t).apart = s.apart := by
  have hstop : (s.ringStop t).apart = s.apart := (ringGap_apart _ t).trans (serveWaiting_apart s t 7)
  exact ite_keeps hstop rfl

/-! ## Control flits and commands sent (R310, R313) -/

@[simp] theorem queueCtl_apart (p : Nat) (f : CtlFlit) : (s.queueCtl p f).apart = s.apart := ite_keeps rfl rfl

@[simp] theorem waveDown_apart (t op wave value : Nat) : (s.waveDown t op wave value).apart = s.apart :=
  foldl_keeps (g := State.apart) (fun u _ _ => queueCtl_apart u _ _) s

@[simp] theorem waveFabric_apart (t op wave value : Nat) : (s.waveFabric t op wave value).apart = s.apart :=
  foldl_keeps (g := State.apart) (fun u _ _ => queueCtl_apart u _ _) s

@[simp] theorem sendCommand_apart (x : Sched) (p : Nat) : (s.sendCommand x p).apart = s.apart := rfl

end
end Sys2Proof.Machine
end

section
/-! PROOFS. Resets of functions and tenants (R296 to R300, R304, R394, R395, R432). -/

namespace Sys2Proof.Machine

/-! ## The locks of a master that is reset (R304) -/

section
variable {s : State} {m l : Nat}

/-- What the reset of a master makes of a lock: one that it holds becomes free and abandoned. -/
def Lock.abandon (x : Lock) (m : Nat) : Lock :=
  if x.holder = some m then { holder := none, abandoned := true, releases := (x.releases + 1) % 2 ^ 32, waiters := [] } else x

theorem Lock.abandon_abandon (x : Lock) (m : Nat) : (x.abandon m).abandon m = x.abandon m := by
  unfold Lock.abandon
  split
  · rfl
  case isFalse => rfl

/-- One lock's part in the reset of a master. -/
def State.abandonLock (s : State) (m l : Nat) : State :=
  if (s.lock l).holder = some m then
    (((s.freeLock l).setLock l { (s.freeLock l).lock l with abandoned := true }).count Obj.LOCK_ABANDONS).logError 9 1 2 none
      Obj.LOCK_ABANDONS 0 (l * 2 ^ 16 + m)
  else s

theorem abandonLocks_eq (s : State) (m : Nat) : s.abandonLocks m = (List.range 64).foldl (fun u l => u.abandonLock m l) s := rfl

theorem abandonLock_ten_of_held (hheld : (s.lock l).holder = some m) :
    (s.abandonLock m l).ten = ((s.freeLock l).setLock l { (s.freeLock l).lock l with abandoned := true }).ten := by
  rw [State.abandonLock, if_pos hheld]
  exact ten_of_apart _ (logError_apart _ _ _ _ _ _ _ _)

theorem abandonLock_of_not_held (hheld : (s.lock l).holder ≠ some m) : s.abandonLock m l = s := if_neg hheld

theorem lock_abandonLock_same : (s.abandonLock m l).lock l = (s.lock l).abandon m := by
  by_cases hheld : (s.lock l).holder = some m
  · rw [State.lock, abandonLock_ten_of_held hheld, Lock.abandon, if_pos hheld]
    exact (lock_setLock_same _ l _).trans (by rw [lock_freeLock_same])
  · rw [abandonLock_of_not_held hheld, Lock.abandon, if_neg hheld]

theorem lock_abandonLock_other {k : Nat} (hk : k ≠ l) : (s.abandonLock m l).lock k = s.lock k := by
  by_cases hheld : (s.lock l).holder = some m
  · rw [State.lock, abandonLock_ten_of_held hheld]
    exact (lock_setLock_other _ hk).trans (lock_freeLock_other hk)
  · rw [abandonLock_of_not_held hheld]

theorem lock_foldl_abandonLock (ls : List Nat) (k : Nat) :
    (ls.foldl (fun u l => u.abandonLock m l) s).lock k = if k ∈ ls then (s.lock k).abandon m else s.lock k := by
  induction ls generalizing s with
  | nil => rfl
  | cons l ls ih =>
    rw [List.foldl_cons, ih]
    by_cases hk : k = l
    · subst hk
      simp [lock_abandonLock_same, Lock.abandon_abandon]
    · simp [lock_abandonLock_other hk, hk]

/-- The reset of a master frees each of the 64 locks that it holds, and abandons it. -/
theorem lock_abandonLocks (hl : l < 64) : (s.abandonLocks m).lock l = (s.lock l).abandon m := by
  rw [abandonLocks_eq, lock_foldl_abandonLock, if_pos (List.mem_range.mpr hl)]

/-- The tenants and the mailboxes: what the reset of a master leaves alone. -/
def State.owners (s : State) : Tab Tenant × Tab Mailbox := (s.ten.tenants, s.mgmt.mailboxes)

theorem owners_of_apart {u : State} (h : u.apart = s.apart) : u.owners = s.owners := by
  rw [State.owners, ten_of_apart s h, mailboxes_of_apart s h]
  rfl

theorem freeLock_mgmt (s : State) (l : Nat) : (s.freeLock l).mgmt = s.mgmt :=
  foldl_keeps (g := State.mgmt) (fun u k _ => by split <;> rfl) _

theorem freeLock_owners (s : State) (l : Nat) : (s.freeLock l).owners = s.owners := by
  rw [State.owners, freeLock_ten, freeLock_mgmt]
  rfl

theorem abandonLocks_owners (s : State) (m : Nat) : (s.abandonLocks m).owners = s.owners := by
  refine foldl_keeps (g := State.owners) (fun u l _ => ?_) s
  split
  · exact (owners_of_apart (logError_apart _ _ _ _ _ _ _ _)).trans (freeLock_owners u l)
  · rfl

end

/-! ## An FLR of a function (R298, R300, R395) -/

section
variable {s : State} {fn l : Nat}

/-- The state in which the rings of a function have stopped: their frames dropped, head and tail at zero (R298). -/
def State.stopRings (s : State) (fn : Nat) : State :=
  (if fn = 0 then [] else (s.blockQueues (fn - 1)).filter (fun q => s.qPort q == 16)).foldl (fun u q =>
    (u.flush q Obj.DOWN_DROPS (fun _ => true)).modQueue q (fun x =>
      { x with ringHead := 0, ringTail := 0, posted := [], armed := false, raiseAt := [] })) s

/-- The state in which the function's locks are free as well, and its session is at basic level. -/
def State.dropFunction (s : State) (fn : Nat) : State :=
  ((s.stopRings fn).abandonLocks (midHost fn)).dropExpert (if fn = 0 then 256 else fn - 1)

/-- The state in which the function's mailbox is idle, and its vectors are masked with nothing pending. -/
def State.closeFunction (s : State) (fn : Nat) : State := { s with
  pcie.vectors := s.pcie.vectors.filter (fun e => e.1 / 512 != fn)
  pcie.pendingBits := s.pcie.pendingBits.filter (fun n => n / 512 != fn)
  mgmt.mailboxes := tabMod s.mgmt.mailboxes fn (Mailbox.flr · (s.mgmt.held.any (fun h => h.path == .mailbox fn))) }

theorem flr_eq (s : State) (fn : Nat) : s.flr fn = (s.dropFunction fn).closeFunction fn := by
  unfold State.flr State.closeFunction State.dropFunction State.stopRings
  rfl

theorem stopRings_apart (s : State) (fn : Nat) : (s.stopRings fn).apart = s.apart :=
  foldl_keeps (g := State.apart) (fun u q _ => (modQueue_apart _ q _).trans (flush_apart u q _ _)) s

theorem dropExpert_owners (s : State) (v : Nat) : (s.dropExpert v).owners = s.owners := rfl

theorem dropFunction_owners (s : State) (fn : Nat) : (s.dropFunction fn).owners = s.owners := by
  rw [State.dropFunction, dropExpert_owners, abandonLocks_owners, owners_of_apart (stopRings_apart s fn)]

theorem lock_dropExpert (s : State) (v l : Nat) : (s.dropExpert v).lock l = s.lock l := rfl

/-- Of the locks, the function's own are freed and abandoned. -/
theorem lock_dropFunction (hl : l < 64) : (s.dropFunction fn).lock l = (s.lock l).abandon (midHost fn) := by
  rw [State.dropFunction, lock_dropExpert, lock_abandonLocks hl, State.lock, ten_of_apart s (stopRings_apart s fn)]
  rfl

theorem closeFunction_ten (s : State) (fn : Nat) : (s.closeFunction fn).ten = s.ten := rfl

theorem tabGet?_mod_same {α : Type} {t : Tab α} {n : Nat} {x : α} (f : α → α) (hx : tabGet? t n = some x) :
    tabGet? (tabMod t n f) n = some (f x) := by
  rw [tabMod, hx]
  exact tabGet?_set_same t n (f x)

theorem closeFunction_mailbox {x : Mailbox} (hx : tabGet? s.mgmt.mailboxes fn = some x) :
    ∃ y, tabGet? (s.closeFunction fn).mgmt.mailboxes fn = some y ∧ y.st = 0 := ⟨_, tabGet?_mod_same _ hx, rfl⟩

theorem closeFunction_vectors (s : State) (fn : Nat) : ∀ e ∈ (s.closeFunction fn).pcie.vectors, e.1 / 512 ≠ fn :=
  fun e he => by simpa using List.of_mem_filter he

theorem closeFunction_pendingBits (s : State) (fn : Nat) : ∀ n ∈ (s.closeFunction fn).pcie.pendingBits, n / 512 ≠ fn :=
  fun n hn => by simpa using List.of_mem_filter hn

/-- The function's mailbox is idle after its reset. -/
theorem flr_mailbox {x : Mailbox} (hx : tabGet? s.mgmt.mailboxes fn = some x) :
    ∃ y, tabGet? (s.flr fn).mgmt.mailboxes fn = some y ∧ y.st = 0 := by
  have hkept : (s.dropFunction fn).mgmt.mailboxes = s.mgmt.mailboxes := (Prod.mk.inj (dropFunction_owners s fn)).2
  rw [flr_eq]
  exact closeFunction_mailbox (by rw [hkept, hx])

/-- The locks that a function holds are free and abandoned after its reset. -/
theorem flr_frees (hl : l < 64) (hheld : (s.lock l).holder = some (midHost fn)) :
    ((s.flr fn).lock l).holder = none ∧ ((s.flr fn).lock l).abandoned = true := by
  have hlock : (s.flr fn).lock l = (s.lock l).abandon (midHost fn) := by
    rw [flr_eq, State.lock, closeFunction_ten]
    exact lock_dropFunction hl
  rw [hlock, Lock.abandon, if_pos hheld]
  exact ⟨rfl, rfl⟩

theorem flr_tenants (s : State) (fn : Nat) : (s.flr fn).ten.tenants = s.ten.tenants := by
  rw [flr_eq, closeFunction_ten]
  exact (Prod.mk.inj (dropFunction_owners s fn)).1

end

/-! ## The end of a tenant reset (R296, R297) -/

section
variable {s : State} {t : Nat}

/-- The state in which a tenant's queues are empty, its fragments are dropped, and its queues' tags start at the virtual time. -/
def State.emptyTenant (s : State) (t : Nat) : State :=
  (s.blockQueues t).foldl (fun u q => u.modQueue q (fun x => { x with ftag := u.vtimeOf q, txTag := u.txVtime (u.qClass q) }))
    (((s.blockQueues t).foldl (fun u q => u.flush q Obj.DOWN_DROPS (fun _ => true)) s).dropFrags t)

theorem finishReset_eq (s : State) (t : Nat) : s.finishReset t =
    (if ((s.emptyTenant t).tenant t).resetClear then (s.emptyTenant t).clearTenant t else s.emptyTenant t).modTenant t
      (fun x => { x with st := .idle, resetClear := false }) := by
  unfold State.finishReset State.emptyTenant
  rfl

theorem emptyTenant_apart (s : State) (t : Nat) : (s.emptyTenant t).apart = s.apart :=
  (foldl_keeps (g := State.apart) (fun u q _ => modQueue_apart u q _) _).trans
    ((dropFrags_apart _ t).trans (foldl_keeps (g := State.apart) (fun u q _ => flush_apart u q _ _) s))

theorem dropFrags_frags (s : State) (t : Nat) : ∀ e ∈ (s.dropFrags t).parser.frags, e.2.tenant ≠ t := by
  intro e he
  simpa using List.of_mem_filter he

theorem emptyTenant_frags (s : State) (t : Nat) : ∀ e ∈ (s.emptyTenant t).parser.frags, e.2.tenant ≠ t := by
  rw [State.emptyTenant, foldl_keeps (g := fun u => u.parser.frags) (fun u q _ => congrArg Parser.frags (State.modQueue_parser u q _))]
  exact dropFrags_frags _ t

/-- CLEAR takes the tenant's relay set and what is staged of it, its learn entries, tries and rules. -/
theorem clearTenant_clears (s : State) (t : Nat) : tabGet? (s.clearTenant t).relay.sets t = none ∧
    tabGet? (s.clearTenant t).relay.staged t = none ∧ (∀ e ∈ (s.clearTenant t).tables.learn, e.2.tenant ≠ t) ∧
    (∀ e ∈ (s.clearTenant t).tables.tries, e.2.owner ≠ t) ∧ ∀ e ∈ (s.clearTenant t).parser.rules, e.2.tenant ≠ t := by
  refine ⟨tabGet?_del_same _ t, tabGet?_del_same _ t, fun e he => ?learn, fun e he => ?tries, fun e he => ?rules⟩
  case learn => simpa using List.of_mem_filter he
  case tries => simpa using List.of_mem_filter he
  case rules => simpa using List.of_mem_filter he

theorem finishReset_idle (s : State) (t : Nat) : ((s.finishReset t).tenant t).st = .idle := by
  rw [finishReset_eq, State.tenant_modTenant_same]

theorem finishReset_frags (s : State) (t : Nat) : ∀ e ∈ (s.finishReset t).parser.frags, e.2.tenant ≠ t := by
  rw [finishReset_eq, State.modTenant_parser]
  split
  · exact emptyTenant_frags s t
  · exact emptyTenant_frags s t

/-- A reset with CLEAR is one of the cleared tables: the tenant's record is kept as its queues are emptied. -/
theorem finishReset_of_clear (hclear : (s.tenant t).resetClear = true) : s.finishReset t =
    ((s.emptyTenant t).clearTenant t).modTenant t (fun x => { x with st := .idle, resetClear := false }) := by
  have hkept : (s.emptyTenant t).tenant t = s.tenant t := by
    rw [State.tenant, ten_of_apart s (emptyTenant_apart s t)]
    rfl
  rw [finishReset_eq, hkept, if_pos hclear]

end

/-- Settles O46: an FLR stops, frees and idles what is the function's, a reset of port P is one of every function, and a tenant reset ends IDLE and, with
CLEAR, with empty tables. -/
theorem functionResets : Obligations.FunctionResets := by
  intro s fn t fundamental
  refine ⟨fun hfn => ?beyond, fun hfn => ⟨?flr, fun x hx => flr_mailbox hx, ?vectors, ?pendingBits, fun l hl => flr_frees hl⟩,
    exec_pcieReset fundamental s, fun hst => ?other, fun hst => ⟨s.finishReset t, ?ends, finishReset_idle s t, finishReset_frags s t, fun hclear => ?clear⟩⟩
  case beyond => rw [exec_pcieFlr, execPcieFlr, if_neg (by omega)]
  case flr => rw [exec_pcieFlr, execPcieFlr, if_pos hfn]
  case vectors =>
    rw [flr_eq]
    exact closeFunction_vectors _ fn
  case pendingBits =>
    rw [flr_eq]
    exact closeFunction_pendingBits _ fn
  case other => rw [exec_tenantResetComplete, execTenantResetComplete, if_neg (by simpa using hst)]
  case ends => rw [exec_tenantResetComplete, execTenantResetComplete, if_pos (by simpa using hst)]
  case clear =>
    rw [finishReset_of_clear hclear]
    exact clearTenant_clears (s.emptyTenant t) t

end Sys2Proof.Machine
end

section
/-! PROOFS. What moves a tenant from one state to another, and what leaves it where it stands (R296, R311, R316, R320 to R324, R346). -/

namespace Sys2Proof.Machine

/-- Each tenant's state. -/
def State.standing (s : State) (t : Nat) : TenantState := (s.tenant t).st

section
variable (s : State)

theorem standing_of_tenants {u : State} (h : u.ten.tenants = s.ten.tenants) : u.standing = s.standing := by
  funext t
  rw [State.standing, State.tenant, h]
  rfl

theorem standing_of_apart {u : State} (h : u.apart = s.apart) : u.standing = s.standing :=
  standing_of_tenants s (by rw [ten_of_apart s h])

theorem standing_of_owners {u : State} (h : u.owners = s.owners) : u.standing = s.standing := standing_of_tenants s (Prod.mk.inj h).1

/-- A change of a tenant's record that keeps its state. -/
theorem modTenant_standing (t : Nat) {f : Tenant → Tenant} (h : ∀ x, (f x).st = x.st) : (s.modTenant t f).standing = s.standing := by
  funext k
  by_cases hk : k = t
  · subst hk
    rw [State.standing, State.tenant_modTenant_same]
    exact h _
  · rw [State.standing, State.tenant_modTenant_other s f hk]
    rfl

/-! ## Waves and barriers (R313, R316, R319) -/

theorem waveUp_standing (t op wave value : Nat) : (s.waveUp t op wave value).standing = s.standing := by
  unfold State.waveUp
  split
  · exact standing_of_apart s (queueCtl_apart s _ _)
  · exact standing_of_apart s (queueCtl_apart s _ _)
  · rfl

theorem barrierStep_standing (t : Nat) : (s.barrierStep t).standing = s.standing := by
  have hsent : (s.modTenant t (fun x => { x with barSent := true })).standing = s.standing := modTenant_standing s t fun _ => rfl
  unfold State.barrierStep
  dsimp only
  split
  · rfl
  · refine ite_keeps ?_ ((waveUp_standing _ _ _ _ _).trans hsent)
    exact (modTenant_standing _ t fun _ => by rfl).trans ((standing_of_apart _ (waveFabric_apart _ _ _ _ _)).trans hsent)

/-! ## Captures (R320 to R324, R348) -/

theorem photoShort_standing (t : Nat) : (s.photoShort t).standing = s.standing := modTenant_standing s t fun _ => rfl

theorem slotPut_standing (t k : Nat) (r : Blob) : (s.slotPut t k r).standing = s.standing := by
  unfold State.slotPut
  dsimp only
  refine ite_keeps (photoShort_standing s t) (standing_of_apart s ?_)
  rw [setSlot_apart, recordPut_apart]
  exact ite_keeps rfl (recordPut_apart s _ _ _)

theorem capture_standing (t typ age : Nat) (head body : Blob) : (s.capture t typ age head body).standing = s.standing := by
  unfold State.capture
  split
  · rfl
  · exact foldl_keeps (g := State.standing) (fun u _ _ => slotPut_standing u _ _ _) s

theorem captureSlab_standing (t fid slab port kind age : Nat) : (s.captureSlab t fid slab port kind age).standing = s.standing := by
  unfold State.captureSlab
  split
  · rfl
  · exact capture_standing s _ _ _ _ _

theorem captureInputs_standing (t n kind : Nat) (slabs : List Nat) : (s.captureInputs t n kind slabs).standing = s.standing :=
  foldl_keeps (g := State.standing) (fun u _ _ => ite_keeps (captureSlab_standing u _ _ _ _ _ _) rfl) s

theorem photoRef_standing (t q fid baton : Nat) : (s.photoRef t q fid baton).standing = s.standing := by
  have href := incRef_apart s baton 1
  unfold State.photoRef
  split
  · rfl
  · refine ite_keeps (photoShort_standing s t) ?_
    split
    case h_1 u hu =>
      rw [hu] at href
      exact (modTenant_standing u t fun _ => by rfl).trans (standing_of_apart s href)
    case h_2 u hu =>
      rw [hu] at href
      exact (photoShort_standing u t).trans (standing_of_apart s href)

theorem photoRefs_standing (t : Nat) : (s.photoRefs t).standing = s.standing :=
  foldl_keeps (g := State.standing) (fun u _ _ => photoRef_standing u t _ _ _) s

theorem photoRelease_apart (ph : Photo) : (s.photoRelease ph).apart = s.apart := by
  refine foldl_keeps (g := State.apart) (fun u e _ => ?_) s
  split
  · rw [forget_apart, release_apart]
  · rfl

theorem photoEnd_standing (t : Nat) (ph : Photo) (short : Bool) : (s.photoEnd t ph short).standing = s.standing := by
  have hlast : ∀ u : State, (if short then u else u.setCfg Obj.LAST_PHOTO t ph.lap).apart = u.apart := fun u => ite_keeps rfl rfl
  refine (modTenant_standing _ t fun _ => by rfl).trans (standing_of_apart s ?_)
  rw [hlast]
  exact photoRelease_apart s ph

theorem photoStep_standing (t : Nat) : (s.photoStep t).standing = s.standing := by
  unfold State.photoStep
  split
  · rfl
  · refine ite_keeps rfl (ite_keeps ?_ ?_)
    · exact (photoEnd_standing _ t _ _).trans (standing_of_apart s (waveDown_apart s _ _ _ _))
    · exact (waveUp_standing _ _ _ _ _).trans (modTenant_standing s t fun _ => rfl)

theorem photoAbort_standing (t : Nat) : (s.photoAbort t).standing = s.standing := by
  unfold State.photoAbort
  split
  · rfl
  · exact (photoStep_standing _ t).trans ((modTenant_standing _ t fun _ => by rfl).trans (standing_of_apart s (photoRelease_apart s _)))

theorem photoCut_standing (t n : Nat) : (s.photoCut t n).standing = s.standing := by
  have hformer : (match (s.tenant t).photo with | some ph => s.photoRelease ph | none => s).apart = s.apart := by
    split
    · exact photoRelease_apart s _
    · rfl
  have hmarks : ∀ (again : Bool) (u : State), (if again then u else (List.range 14).foldl (fun s p =>
      if (s.port p).st == .up then (s.queueCtl p (.lapMarker 4 n)).queueCtl p (.lapMarker 5 n) else s) u).apart = u.apart := fun again u =>
    ite_keeps rfl (foldl_keeps (g := State.apart) (fun y p _ => ite_keeps ((queueCtl_apart _ p _).trans (queueCtl_apart y p _)) rfl) u)
  have hheld : ∀ (c : Bool) (u : State) (ks : List Nat), (if c then u.captureInputs t n 0 ks else u).standing = u.standing := fun c u ks =>
    ite_keeps (captureInputs_standing u t n 0 ks) rfl
  unfold State.photoCut
  dsimp only
  rw [photoRefs_standing, captureInputs_standing, hheld, standing_of_apart _ (hmarks _ _)]
  exact (modTenant_standing _ t fun _ => by rfl).trans (standing_of_apart s hformer)

/-! ## Resets (R296, R298, R304) -/

theorem finishStop_standing (x : Nat) (card : FaultCard) : (s.finishStop x card).standing = s.standing := by
  have hdrop : ∀ (r : Bool) (fid : Option Nat), (if r then s else match fid with
      | some f => s.postRelease f .drop
      | none => s).apart = s.apart := by
    intro r fid
    refine ite_keeps rfl ?_
    split
    · exact postRelease_apart s _ _
    · rfl
  unfold State.finishStop
  dsimp only
  rw [standing_of_apart _ (modThread_apart _ _ _), standing_of_apart _ (countFault_apart _ _ _), standing_of_apart _ (postFaultCard_apart _ _),
    standing_of_owners _ (abandonLocks_owners _ _)]
  exact standing_of_apart s ((foldl_keeps (g := State.apart) (fun u b _ => release_apart u b) _).trans (hdrop _ _))

theorem stopThread_standing (x cause operand : Nat) : (s.stopThread x cause operand).standing = s.standing := by
  have hwake : ∀ (c : Bool) (u : State), (if c then u.wakeHelpers x 3 else u).standing = u.standing := fun c u =>
    standing_of_apart u (ite_keeps (wakeHelpers_apart u x 3) rfl)
  unfold State.stopThread
  dsimp only
  exact ite_keeps ((finishStop_standing _ _ _).trans (hwake _ _)) (hwake _ _)

theorem stopTenant_standing (t : Nat) : (s.stopTenant t).standing = s.standing := by
  refine foldl_keeps (g := State.standing) (fun u x _ => ?_) s
  split
  · exact ite_keeps (stopThread_standing u x _ _) rfl
  · rfl

theorem stompTenant_apart (t : Nat) : (s.stompTenant t).apart = s.apart :=
  foldl_keeps (g := State.apart) (fun u p _ => foldl_keeps (g := State.apart) (fun y sub _ => by
    split
    · exact ite_keeps (stomp_apart y p sub 3 false) rfl
    · rfl) u) s

theorem dropCards_apart (t : Nat) : (s.dropCards t).apart = s.apart :=
  foldl_keeps (g := State.apart) (fun u f _ => ite_keeps (modFrame_apart u f _) rfl) s

theorem refillTenant_apart (t : Nat) : (s.refillTenant t).apart = s.apart := rfl

/-! ## The operations of Table 10.4 at their lap (R311) -/

theorem enterState_state (t : Nat) (st : TenantState) : (s.enterState t st).standing t = st := by
  unfold State.enterState
  dsimp only
  rw [standing_of_apart (s.modTenant t fun x => { x with st := st }) (ite_keeps (ringLeave_apart _ t) rfl)]
  exact congrArg Tenant.st (State.tenant_modTenant_same s t _)

theorem beginReset_state (t : Nat) (clear : Bool) : (s.beginReset t clear).standing t = .resetting := by
  unfold State.beginReset
  rw [photoAbort_standing, standing_of_tenants _ (flr_tenants _ _), standing_of_owners _ (abandonLocks_owners _ _),
    standing_of_apart _ (refillTenant_apart _ t), standing_of_apart _ (relayReset_apart _ t), standing_of_apart _ (dropCards_apart _ t),
    stopTenant_standing, standing_of_apart _ (stompTenant_apart _ t), standing_of_apart _ (count_apart _ _ _),
    modTenant_standing]
  · exact enterState_state s t .resetting
  · exact fun _ => rfl

/-- An operation leads its tenant to the state that Table 10.4 gives. -/
theorem act_state (x : Sched) (n : Nat) :
    (s.act x n).standing x.t = if x.op = .snapshot then s.standing x.t else opResult x.op (s.standing x.t) := by
  unfold State.act
  split
  case h_1 hop =>
    rw [barrierStep_standing, hop]
    exact congrArg Tenant.st (State.tenant_modTenant_same s x.t _)
  case h_2 hop =>
    rw [enterState_state, hop]
    rfl
  case h_3 hop =>
    rw [modTenant_standing, enterState_state, hop]
    · rfl
    · exact fun _ => rfl
  case h_4 hop =>
    rw [enterState_state, hop]
    rfl
  case h_5 hop => rw [photoCut_standing, if_pos hop]
  case h_6 hop =>
    rw [beginReset_state, hop]
    rfl

end
end Sys2Proof.Machine
end

section
/-! PROOFS. Global operations (R292, R307 to R311, R324, R325, R431, R443, Tables 10.4 and 10.7). -/

namespace Sys2Proof.Machine

/-! ## The fields of a request (Table 10.7, R308) -/

section
variable {op : Op} {t flags lap : Nat}

theorem request_code : beAt (opRequest op t flags lap) 0 1 = op.code := by
  rw [show beAt (opRequest op t flags lap) 0 1 = beNat (beBytes 1 op.code) from rfl, beNat_beBytes]
  cases op <;> rfl

theorem request_tenant (ht : t ≤ 255) : beAt (opRequest op t flags lap) 1 1 = t := by
  rw [show beAt (opRequest op t flags lap) 1 1 = beNat (beBytes 1 t) from rfl, beNat_beBytes]
  exact Nat.mod_eq_of_lt (by omega)

theorem request_flags (hf : flags ≤ 255) : beAt (opRequest op t flags lap) 2 1 = flags := by
  rw [show beAt (opRequest op t flags lap) 2 1 = beNat (beBytes 1 flags) from rfl, beNat_beBytes]
  exact Nat.mod_eq_of_lt (by omega)

theorem request_lap (hl : lap < 2 ^ 48) : beAt (opRequest op t flags lap) 4 6 = lap := by
  rw [show beAt (opRequest op t flags lap) 4 6 = beNat (beBytes 6 lap) from rfl, beNat_beBytes]
  exact Nat.mod_eq_of_lt (by omega)

theorem opOf?_code (op : Op) : opOf? op.code = some op := by cases op <;> rfl

/-- A request is in form: a tenant, the flags that its operation has, and a lap (R308). -/
def OpFormed (op : Op) (t flags lap : Nat) : Prop :=
  1 ≤ t ∧ t ≤ 255 ∧ flags ≤ (if op = .start ∨ op = .reset then 1 else 0) ∧ lap < 2 ^ 48 - 1

theorem opFormed_iff (ht : t ≤ 255) (hf : flags ≤ 255) (hl : lap < 2 ^ 48) :
    OpFormed op t flags lap ↔ opRange (opRequest op t flags lap) = false := by
  have hlen : (opRequest op t flags lap).length = 16 := rfl
  have hzero : beAt (opRequest op t flags lap) 3 1 = 0 ∧ beAt (opRequest op t flags lap) 10 6 = 0 := ⟨rfl, rfl⟩
  have hlap : lap < 2 ^ 48 - 1 ↔ lap ≠ noLap := by unfold noLap; omega
  rw [OpFormed, opRange, hlen, hzero.1, hzero.2, request_code, request_tenant ht, request_flags hf, request_lap hl, opOf?_code, hlap]
  cases op <;> simp [ht, Nat.one_le_iff_ne_zero, and_assoc]

end

/-! ## What the Anchor takes (R307 to R309, R324, R431, R443) -/

section
variable {s u : State} {p : Principal} {op : Op} {t flags lap : Nat} {r : Result}

/-- The lap of a request: the one it names, or with 0 the first that the lead of 6102h reaches. -/
def State.opLap (s : State) (lap : Nat) : Nat :=
  if lap = 0 then lapAdd s.time.lap (s.lapsUntil (s.time.gun + s.cfg Obj.OP_LEAD * 65536)) else lap

/-- The operations that wait of a tenant. -/
def State.waitingOps (s : State) (t : Nat) : List Sched := s.ten.sched.filter (fun y => y.t == t)

/-- The device is the Anchor, may take the operation, and the lap lies in the future by the lead at least. -/
def State.takesOp (s : State) (op : Op) (t l : Nat) : Prop :=
  s.time.role = .anchor ∧ ¬ (op = .start ∧ (s.noDram = true ∨ s.rel.boot.halted = true)) ∧
    ¬ (op = .snapshot ∧ ((s.tenant t).photo.isSome = true ∨ ∃ y ∈ s.waitingOps t, y.op = .snapshot)) ∧
    1 ≤ lapsAhead s l ∧ lapsAhead s l ≤ 2 ^ 47 - 1 ∧ s.time.gun + s.cfg Obj.OP_LEAD * 65536 ≤ s.lapStartIn (lapsAhead s l)

theorem takesOp_iff (s : State) (op : Op) (t l : Nat) : s.takesOp op t l ↔
    ¬ (s.time.role != .anchor || (op == .start && (s.noDram || s.rel.boot.halted)) ||
      (op == .snapshot && ((s.tenant t).photo.isSome || (s.waitingOps t).any (fun x => x.op == .snapshot))) || !lapFuture s l ||
      s.lapStartIn (lapsAhead s l) < s.time.gun + s.cfg Obj.OP_LEAD * ns) = true := by
  simp [State.takesOp, lapFuture, Nat.one_le_iff_ne_zero, and_assoc]

theorem applyGlobalOp_misformed (ht : t ≤ 255) (hf : flags ≤ 255) (hl : lap < 2 ^ 48) (hform : ¬ OpFormed op t flags lap) :
    applyGlobalOp (opRequest op t flags lap) s = (s, .range) := by
  rw [opFormed_iff ht hf hl, Bool.not_eq_false] at hform
  simp only [applyGlobalOp, hform]

/-- A request in form is taken, refused or too many, by what the device is and what waits. -/
theorem applyGlobalOp_formed (hf : flags ≤ 255) (hform : OpFormed op t flags lap) :
    applyGlobalOp (opRequest op t flags lap) s =
      if (s.time.role != .anchor || (op == .start && (s.noDram || s.rel.boot.halted)) ||
        (op == .snapshot && ((s.tenant t).photo.isSome || (s.waitingOps t).any (fun x => x.op == .snapshot))) || !lapFuture s (s.opLap lap) ||
        s.lapStartIn (lapsAhead s (s.opLap lap)) < s.time.gun + s.cfg Obj.OP_LEAD * ns) = true then (s, .state)
      else if (s.waitingOps t).length ≥ 4 then (s, .overcommit)
      else ((s.schedule ⟨op, t, flags, s.opLap lap, none⟩).waveFabric t 2 0 (s.opLap lap * 65536 + op.code * 256 + flags), .ok) := by
  obtain ⟨-, ht, -, hl⟩ := id hform
  have hl' : lap < 2 ^ 48 := by omega
  have hrange := (opFormed_iff ht hf hl').mp hform
  simp only [applyGlobalOp, hrange, request_code, opOf?_code, request_tenant ht, request_flags hf, request_lap hl']
  rfl

/-- A refused request. -/
theorem globalOp_refused (ha : AcceptsBlob s p Obj.GLOBAL_OP 0 (opRequest op t flags lap))
    (happly : applyGlobalOp (opRequest op t flags lap) s = (s, r)) (hr : r = .range ∨ r = .state ∨ r = .overcommit) :
    s.globalOp p op t flags lap = State.starterFlush { s with reply := ⟨r, [], 0⟩ } := by
  have hne : r ≠ .ok ∧ r ≠ .partialRes ∧ r ≠ .busy := by rcases hr with rfl | rfl | rfl <;> decide
  rw [State.globalOp, writeBlob_refused ha applyGlobalOp (by rw [happly]; exact hne.1) (by rw [happly]; exact hne.2.1)
    (by rw [happly]; exact hne.2.2), happly]

/-- A request that is taken begins a new generation of 6100h. -/
theorem globalOp_taken (ha : AcceptsBlob s p Obj.GLOBAL_OP 0 (opRequest op t flags lap))
    (happly : applyGlobalOp (opRequest op t flags lap) s = (u, .ok)) :
    s.globalOp p op t flags lap = State.starterFlush { u.bumpGen Obj.GLOBAL_OP 0 with reply := ⟨.ok, [], 0⟩ } := by
  rw [State.globalOp, writeBlob_accepts ha rfl applyGlobalOp (by rw [happly]), happly]

/-- An operation that is scheduled stands in the schedule. -/
theorem mem_schedule (s : State) (x : Sched) : x ∈ (s.schedule x).ten.sched := by
  have hsent : (s.schedule x).apart = _ := foldl_keeps (g := State.apart) (fun u q _ => sendCommand_apart u x q) _
  rw [ten_of_apart _ hsent]
  exact (insertBy_perm _ x s.ten.sched).mem_iff.mpr (List.mem_cons_self ..)

end

/-! ## Operations at their lap (R311, R317) -/

/-- Table 10.4 row by row. -/
theorem opAllowed_rows (st : TenantState) : (opAllowed .start st = true ↔ st = .idle ∨ st = .held) ∧ (opAllowed .hold st = true ↔ st = .running) ∧
    (opAllowed .freeze st = true ↔ st = .running ∨ st = .held) ∧ (opAllowed .snapshot st = true ↔ st = .running ∨ st = .held) ∧
    (opAllowed .fault st = true ↔ st = .running ∨ st = .held) ∧ (opAllowed .reset st = true ↔ st ≠ .resetting) := by
  cases st <;> decide

section
variable {s : State} {x : Sched}

theorem runOp_skipped (n : Nat) (hhalt : x.halt = none) (hmay : s.mayAct x = false) :
    s.runOp n x = ((s.count Obj.SKIPPED_OPS).faultEntry x.t 5 0 0 n).raise 1 (some x.t) Obj.SKIPPED_OPS := by
  simp [State.runOp, hhalt, hmay]

theorem runOp_acts (n : Nat) (hhalt : x.halt = none) (hmay : s.mayAct x = true) : s.runOp n x = s.act x n := by
  simp [State.runOp, hhalt, hmay]

/-- A halt is its operation, with the halt number advanced and its cause entered whether the operation acts or not. -/
theorem runOp_halt {n h m : Nat} (hhalt : x.halt = some (h, m)) : s.runOp n x =
    ((s.runOp n { x with halt := none }).modTenant x.t (fun y =>
      { y with haltNo := (y.haltNo + 1) % 65536, haltSent := false, haltSeen := none })).faultEntry x.t 4 0 h m := by
  simp only [State.runOp, hhalt]
  rfl

/-- A START without FROM_PHOTO asks for no staged restore. -/
theorem mayAct_start (hop : x.op = .start) (hflags : x.flags % 2 = 0) :
    s.mayAct x = true ↔ (s.tenant x.t).st = .idle ∨ (s.tenant x.t).st = .held := by
  have hbit : bit x.flags 0 = false := by simp [bit, hflags]
  simp [State.mayAct, hop, hbit, opAllowed]

end

/-- Settles O43: what the Anchor takes of a request, where Table 10.4 allows an operation, and what an operation does at its lap. -/
theorem globalOpResults : Obligations.GlobalOpResults := by
  intro s p t flags lap v op x n port h m cmd lead l ahead mine photo barred formed timely able st answers
  have hcmd : exec cmd s = .next (s.globalOp p op t flags lap) := by cases op <;> rfl
  have hable : able ↔ s.takesOp op t (s.opLap lap) := Iff.rfl
  obtain ⟨hstart, hhold, hfreeze, hsnapshot, hfault, hreset⟩ := opAllowed_rows st
  refine ⟨fun ha ht hf hl => ⟨fun hform => ?misformed, fun hform hnot => ?unable, fun hform hcan hmany => ?many,
      fun hform hcan hfew => ⟨?taken, mem_schedule s _⟩⟩,
    hstart, hhold, hfreeze, hsnapshot, hfault, hreset, runOp_skipped n, fun hhalt hmay => ?acts, runOp_halt, mayAct_start, rfl,
    fun ha => writes_num ha (exec_faultLogClear p port v s) rfl rfl (by decide)⟩
  case misformed => exact hcmd.trans (congrArg _ (globalOp_refused ha (applyGlobalOp_misformed ht hf hl hform) (by simp)))
  case unable =>
    rw [hable, takesOp_iff, not_not] at hnot
    exact hcmd.trans (congrArg _ (globalOp_refused ha ((applyGlobalOp_formed hf hform).trans (if_pos hnot)) (by simp)))
  case many =>
    rw [hable, takesOp_iff] at hcan
    exact hcmd.trans (congrArg _ (globalOp_refused ha
      ((applyGlobalOp_formed hf hform).trans ((if_neg hcan).trans (if_pos hmany))) (by simp)))
  case taken =>
    rw [hable, takesOp_iff] at hcan
    exact hcmd.trans (congrArg _ (globalOp_taken ha
      ((applyGlobalOp_formed hf hform).trans ((if_neg hcan).trans (if_neg (Nat.not_le.mpr hfew))))))
  case acts =>
    rw [runOp_acts n hhalt hmay]
    exact act_state s x n

end Sys2Proof.Machine
end

section
/-! PROOFS. The combining wave (R312 to R319). -/

namespace Sys2Proof.Machine

/-! ## WAVE flits that come in (R110, R314) -/

section
variable {s v : State} {port k : Nat} {flit : Blob} {good : Wave → Bool} {g : Wave → State → State}

/-- The commands of a WAVE flit, each at its operation's code (Table 4.7). -/
noncomputable def waves (port : Nat) (flit : Blob) : List Instr :=
  [.waveJoin port flit, .waveLeave port flit, .waveSchedule port flit, .waveBarrier port flit, .waveHalt port flit,
    .waveBroadcast port flit, .wavePhotoDone port flit]

/-- A wave that its receiver leaves: down and not from its parent, or up and not from below; a SCHEDULE goes down only. -/
def State.strays (u : State) (port k : Nat) (w : Wave) : Prop :=
  w.dir = 1 ∧ u.isParent port = false ∨ w.dir = 0 ∧ (u.isBelow w.t port = false ∨ k = 2)

/-- A wave whose tenant or operation the operation of code k does not allow. -/
def waveBad (k : Nat) (w : Wave) : Prop :=
  (k ≤ 1 ∧ w.t ≠ 0 ∨ 2 ≤ k ∧ w.t = 0) ∨ k = 2 ∧ opOf? (w.value / 2 ^ 8 % 2 ^ 8) = none

theorem waveTenant_iff {w : Wave} (hw : w.t < 256) : waveTenant w = true ↔ w.t ≠ 0 := by
  rw [waveTenant, Bool.and_eq_true, decide_eq_true_eq, decide_eq_true_eq]
  omega

theorem strays_elsewhere {u : State} {w : Wave} (h : u.strays port k w) (hk : k ≠ 2) :
    w.dir = 1 ∧ u.isParent port = false ∨ w.dir = 0 ∧ u.isBelow w.t port = false :=
  h.imp_right fun ⟨hdir, hbelow⟩ => ⟨hdir, hbelow.resolve_right hk⟩

/-- Each command of a WAVE flit takes the waves of its own code, refuses the bad ones, and leaves the strays. -/
theorem exec_of_waves {c : Instr} (hk : (waves port flit)[k]? = some c) : ∃ (good : Wave → Bool) (g : Wave → State → State),
    (∀ u, exec c u = u.waveIn port k flit good g) ∧ (∀ w, w.t < 256 → (good w = true ↔ ¬ waveBad k w)) ∧
    ∀ w u, 2 ≤ k → u.strays port k w → g w u = u := by
  have hsystem : ∀ (j : Nat) (w : Wave), j ≤ 1 → ((w.t == 0) = true ↔ ¬ waveBad j w) := by
    intro j w hj
    rw [waveBad, beq_iff_eq]
    omega
  have htenant : ∀ (j : Nat) (w : Wave), 3 ≤ j → w.t < 256 → (waveTenant w = true ↔ ¬ waveBad j w) := by
    intro j w hj hw
    rw [waveTenant_iff hw, waveBad]
    omega
  match k, hk with
  | 0, hk =>
    obtain rfl := Option.some.inj hk
    exact ⟨_, _, fun u => exec_waveJoin port flit u, fun w _ => hsystem 0 w (by decide), fun w u h => absurd h (by decide)⟩
  | 1, hk =>
    obtain rfl := Option.some.inj hk
    exact ⟨_, _, fun u => exec_waveLeave port flit u, fun w _ => hsystem 1 w (by decide), fun w u h => absurd h (by decide)⟩
  | 2, hk =>
    obtain rfl := Option.some.inj hk
    refine ⟨_, _, fun u => exec_waveSchedule port flit u, fun w hw => ?_, fun w u _ h => ?_⟩
    · rw [Bool.and_eq_true, waveTenant_iff hw, Option.isSome_iff_ne_none, waveBad]
      simp [bits]
    · have hnot : (w.dir != 1 || !u.isParent port) = true := by
        rcases h with ⟨hdir, hparent⟩ | ⟨hdir, -⟩
        · simp [hparent]
        · simp [hdir]
      dsimp only
      split
      · rfl
      · exact if_pos hnot
  | 3, hk =>
    obtain rfl := Option.some.inj hk
    refine ⟨_, _, fun u => exec_waveBarrier port flit u, fun w hw => htenant 3 w (by decide) hw, fun w u _ h => ?_⟩
    rcases strays_elsewhere h (by decide) with ⟨hdir, hfar⟩ | ⟨hdir, hfar⟩ <;> simp [hdir, hfar]
  | 4, hk =>
    obtain rfl := Option.some.inj hk
    refine ⟨_, _, fun u => exec_waveHalt port flit u, fun w hw => htenant 4 w (by decide) hw, fun w u _ h => ?_⟩
    rcases strays_elsewhere h (by decide) with ⟨hdir, hfar⟩ | ⟨hdir, hfar⟩ <;> simp [hdir, hfar]
  | 5, hk =>
    obtain rfl := Option.some.inj hk
    refine ⟨_, _, fun u => exec_waveBroadcast port flit u, fun w hw => htenant 5 w (by decide) hw, fun w u _ h => ?_⟩
    rcases strays_elsewhere h (by decide) with ⟨hdir, hfar⟩ | ⟨hdir, hfar⟩ <;> simp [hdir, hfar]
  | 6, hk =>
    obtain rfl := Option.some.inj hk
    refine ⟨_, _, fun u => exec_wavePhotoDone port flit u, fun w hw => htenant 6 w (by decide) hw, fun w u _ h => ?_⟩
    dsimp only
    rcases strays_elsewhere h (by decide) with ⟨hdir, hparent⟩ | ⟨hdir, hbelow⟩
    · split <;> simp [hdir, hparent]
    · split <;> simp [hdir, hbelow]
  | n + 7, hk => exact absurd hk (by simp [waves])

theorem beAt_byte_lt (b : Blob) (i : Nat) : beAt b i 1 < 256 := by
  refine (beNat_lt _).trans_le ((Nat.pow_le_pow_right (by decide) (List.length_take_le 1 (b.drop i))).trans (by decide))

/-- A WAVE flit that passes its check comes in, in the state v in which it acts, and carries a wave. -/
def WaveIn (s : State) (port : Nat) (flit : Blob) (v : State) (w : Wave) : Prop := FlitIn s port 7 flit v ∧ waveOf flit = w

theorem WaveIn.tenant_lt {w : Wave} (h : WaveIn s port flit v w) : w.t < 256 := by
  obtain ⟨-, rfl⟩ := h
  exact beAt_byte_lt flit 2

theorem waveIn_reserved {w : Wave} (h : WaveIn s port flit v w) (hop : 6 < w.op) :
    s.waveIn port k flit good g = .next (v.count Obj.WAVE_ERRORS) := by
  obtain ⟨h, rfl⟩ := h
  exact (ctlIn_acts h _).trans (congrArg _ (if_pos hop))

theorem waveIn_other {w : Wave} (h : WaveIn s port flit v w) (hop : w.op ≤ 6) (hk : k ≠ w.op) :
    s.waveIn port k flit good g = .next v := by
  obtain ⟨h, rfl⟩ := h
  exact (ctlIn_acts h _).trans (congrArg _ ((if_neg (Nat.not_lt.mpr hop)).trans (if_pos (bne_iff_ne.mpr hk.symm))))

theorem waveIn_bad {w : Wave} (h : WaveIn s port flit v w) (hop : w.op ≤ 6) (hk : k = w.op) (hgood : good w = false) :
    s.waveIn port k flit good g = .next (v.count Obj.WAVE_ERRORS) := by
  obtain ⟨h, rfl⟩ := h
  exact (ctlIn_acts h _).trans (congrArg _ ((if_neg (Nat.not_lt.mpr hop)).trans ((if_neg (by simp [hk])).trans (if_pos (by simp [hgood])))))

theorem waveIn_acts {w : Wave} {u : State} (h : WaveIn s port flit v w) (hop : w.op ≤ 6) (hk : k = w.op) (hgood : good w = true)
    (hg : g w v = u) : s.waveIn port k flit good g = .next u.starterFlush := by
  obtain ⟨h, rfl⟩ := h
  rw [← hg]
  exact (ctlIn_acts h _).trans (congrArg _ ((if_neg (Nat.not_lt.mpr hop)).trans ((if_neg (by simp [hk])).trans (if_neg (by simp [hgood])))))

theorem ctlIn_closed (hp : isPsiot port = false ∨ (s.port port).passes = false) (ty : Nat) (g : State → State) :
    s.ctlIn port ty flit g = .next s :=
  if_pos (by rcases hp with hp | hp <;> simp [hp])

end

/-! ## Waves that do nothing, and waves that are refused (R110, R314) -/

section
variable {s v : State} {port k t o wave dir value : Nat} {flit : Blob} {c : Instr}

theorem exec_waves_cut (hp : isPsiot port = true) (hpass : (s.port port).passes = true) (hbad : flitOk flit = false)
    (hc : c ∈ waves port flit) : exec c s = .next ((s.endFrame port 0 .cut).count Obj.CONTROL_ERRORS port) := by
  obtain ⟨k, hk⟩ := List.getElem?_of_mem hc
  obtain ⟨good, g, hexec, -⟩ := exec_of_waves hk
  exact (hexec s).trans (ctlIn_discards hp hpass hbad 7 _)

theorem exec_waves_closed (hp : isPsiot port = false ∨ (s.port port).passes = false) (hc : c ∈ waves port flit) : exec c s = .next s := by
  obtain ⟨k, hk⟩ := List.getElem?_of_mem hc
  obtain ⟨good, g, hexec, -⟩ := exec_of_waves hk
  exact (hexec s).trans (ctlIn_closed hp 7 _)

theorem exec_waves_reserved {w : Wave} (h : WaveIn s port flit v w) (ho : 6 < w.op) (hc : c ∈ waves port flit) :
    exec c s = .next (v.count Obj.WAVE_ERRORS) := by
  obtain ⟨k, hk⟩ := List.getElem?_of_mem hc
  obtain ⟨good, g, hexec, -⟩ := exec_of_waves hk
  exact (hexec s).trans (waveIn_reserved h ho)

theorem exec_waves_other {w : Wave} (h : WaveIn s port flit v w) (ho : w.op ≤ 6) (hk : (waves port flit)[k]? = some c) (hne : k ≠ w.op) :
    exec c s = .next v := by
  obtain ⟨good, g, hexec, -⟩ := exec_of_waves hk
  exact (hexec s).trans (waveIn_other h ho hne)

theorem code_le_of_waves (hk : (waves port flit)[k]? = some c) : k ≤ 6 :=
  Nat.le_of_lt_succ (List.getElem?_eq_some_iff.mp hk).1

theorem exec_waves_bad {w : Wave} (h : WaveIn s port flit v w) (hbad : waveBad w.op w) (hk : (waves port flit)[w.op]? = some c) :
    exec c s = .next (v.count Obj.WAVE_ERRORS) := by
  obtain ⟨good, g, hexec, hgood, -⟩ := exec_of_waves hk
  refine (hexec s).trans (waveIn_bad h (code_le_of_waves hk) rfl ?_)
  rw [← Bool.not_eq_true, hgood w h.tenant_lt, not_not]
  exact hbad

theorem exec_waves_stray {w : Wave} (h : WaveIn s port flit v w) (hgood : ¬ waveBad w.op w) (ho : 2 ≤ w.op) (hstray : v.strays port w.op w)
    (hk : (waves port flit)[w.op]? = some c) : exec c s = .next v.starterFlush := by
  obtain ⟨good, g, hexec, hallows, hleaves⟩ := exec_of_waves hk
  exact (hexec s).trans (waveIn_acts h (code_le_of_waves hk) rfl ((hallows w h.tenant_lt).mpr hgood) (hleaves w v ho hstray))

end

/-! ## Who sends a wave (R313, R316) -/

section
variable {s v : State} {port t : Nat}

theorem isParent_iff : v.isParent port = true ↔ v.time.parent = some port ∧ v.time.role ≠ .anchor := by simp [State.isParent]

theorem isBelow_iff : v.isBelow t port = true ↔ port ∈ v.fabricChildren ∨ port ∈ v.endpoints t := by simp [State.isBelow]

end

/-! ## What each wave does (R309, R312 to R319, R322) -/

section
variable {s v : State} {port t wave value : Nat} {flit : Blob} {op : Op} {ph : Photo}

/-- A JOIN makes a fabric port a child, once (R313). -/
theorem exec_waveJoin_child (h : WaveIn s port flit v ⟨0, 0, wave, 0, value⟩) (hp : isFabric port = true) : ∃ u : State,
    exec (.waveJoin port flit) s = .next u.starterFlush ∧
      u.ten.children = if port ∈ v.ten.children then v.ten.children else v.ten.children ++ [port] := by
  rw [exec_waveJoin, execWaveJoin, waveIn_acts h (by decide : 0 ≤ 6) rfl rfl rfl]
  refine ⟨_, rfl, ?_⟩
  by_cases hm : port ∈ v.ten.children
  · simp [hp, hm]
  · simp [hp, hm]

theorem exec_waveLeave_drops (h : WaveIn s port flit v ⟨0, 1, wave, 0, value⟩) (hp : isFabric port = true) :
    exec (.waveLeave port flit) s = .next (v.dropChild port).starterFlush := by
  rw [exec_waveLeave, execWaveLeave]
  exact waveIn_acts h (by decide : 1 ≤ 6) rfl rfl (if_pos (by simp [hp]))

/-- A wave of a tenant, of an operation from BARRIER on, acts by what its command does. -/
theorem waveIn_tenant {o dir : Nat} {g : Wave → State → State} {u : State} (h : WaveIn s port flit v ⟨t, o, wave, dir, value⟩) (ho : o ≤ 6)
    (ht : t ≠ 0) (hg : g ⟨t, o, wave, dir, value⟩ v = u) : s.waveIn port o flit waveTenant g = .next u.starterFlush := by
  exact waveIn_acts h ho rfl ((waveTenant_iff h.tenant_lt).mpr ht) hg

/-- The lap that a SCHEDULE names (Table 4.7). -/
theorem bits_at (n : Nat) : bits n 63 16 = n / 2 ^ 16 % 2 ^ 48 := rfl

/-- The lap that a BARRIER or HALT names. -/
theorem bits_lap (n : Nat) : bits n 47 0 = n % 2 ^ 48 := bits_low n 47

theorem bits_cause (n : Nat) : bits n 63 56 = n / 2 ^ 56 % 2 ^ 8 := rfl

theorem bits_flags (n : Nat) : bits n 7 0 = n % 2 ^ 8 := bits_low n 7

/-- Whether a lap is in the future and starts 200 ns from now or later (R312). -/
def State.inTime (v : State) (n : Nat) : Prop :=
  1 ≤ lapsAhead v n ∧ lapsAhead v n ≤ 2 ^ 47 - 1 ∧ v.time.gun + 200 * 65536 ≤ v.lapStartIn (lapsAhead v n)

theorem inTime_iff (v : State) (n : Nat) :
    v.inTime n ↔ ¬ (!lapFuture v n || v.lapStartIn (lapsAhead v n) < v.time.gun + 200 * ns) = true := by
  simp [State.inTime, lapFuture, ns, Nat.one_le_iff_ne_zero, and_assoc]

/-- A SCHEDULE from the parent is entered and forwarded in time, and raises a late halt otherwise (R309, R312). -/
theorem exec_waveSchedule_down (h : WaveIn s port flit v ⟨t, 2, wave, 1, value⟩) (ht : t ≠ 0)
    (hop : opOf? (value / 2 ^ 8 % 2 ^ 8) = some op) (hparent : v.isParent port = true) :
    (v.inTime (value / 2 ^ 16 % 2 ^ 48) → exec (.waveSchedule port flit) s = .next (State.starterFlush
      ((v.schedule ⟨op, t, value % 2 ^ 8, value / 2 ^ 16 % 2 ^ 48, none⟩).waveFabric t 2 0 value))) ∧
    (¬ v.inTime (value / 2 ^ 16 % 2 ^ 48) → exec (.waveSchedule port flit) s = .next (State.starterFlush
      (((v.count Obj.LATE_OPS).faultEntry t 3 0 0 (value / 2 ^ 16 % 2 ^ 48)).halt t 3 (value / 2 ^ 16 % 2 ^ 48)))) := by
  have hop' : opOf? (bits value 15 8) = some op := hop
  have hgood : (waveTenant ⟨t, 2, wave, 1, value⟩ && (opOf? (bits value 15 8)).isSome) = true := by
    rw [Bool.and_eq_true, waveTenant_iff h.tenant_lt, hop']
    exact ⟨ht, rfl⟩
  have hacts : ∀ u, (if (!lapFuture v (bits value 63 16) || v.lapStartIn (lapsAhead v (bits value 63 16)) < v.time.gun + 200 * ns) = true then
        ((v.count Obj.LATE_OPS).faultEntry t 3 0 0 (bits value 63 16)).halt t 3 (bits value 63 16)
      else (v.schedule ⟨op, t, bits value 7 0, bits value 63 16, none⟩).waveFabric t 2 0 value) = u →
      exec (.waveSchedule port flit) s = .next u.starterFlush := by
    intro u hu
    rw [exec_waveSchedule, execWaveSchedule]
    refine waveIn_acts h (by decide : 2 ≤ 6) rfl hgood ?_
    simp only [hop', hparent, bne_self_eq_false, Bool.not_true, Bool.or_self, Bool.false_eq_true, if_false]
    exact hu
  rw [inTime_iff, not_not, ← bits_at, ← bits_flags]
  exact ⟨fun hin => hacts _ (if_neg hin), fun hlate => hacts _ (if_pos hlate)⟩

theorem exec_waveBarrier_up (h : WaveIn s port flit v ⟨t, 3, wave, 0, value⟩) (ht : t ≠ 0) (hbelow : v.isBelow t port = true) :
    exec (.waveBarrier port flit) s = .next (v.arrive t wave port (value.testBit 63)).starterFlush := by
  rw [exec_waveBarrier, execWaveBarrier]
  exact waveIn_tenant h (by decide) ht ((if_pos rfl).trans (if_pos hbelow))

theorem exec_waveBarrier_down (h : WaveIn s port flit v ⟨t, 3, wave, 1, value⟩) (ht : t ≠ 0) (hparent : v.isParent port = true) :
    exec (.waveBarrier port flit) s = .next (State.starterFlush ((v.waveFabric t 3 wave value).modTenant t (fun y => { y with
      release := some (wave, value % 2 ^ 48), barrierInc := if value.testBit 63 then wave :: y.barrierInc else y.barrierInc }))) := by
  rw [exec_waveBarrier, execWaveBarrier]
  simp only [bits_lap]
  exact waveIn_tenant h (by decide) ht ((if_neg Nat.one_ne_zero).trans (if_pos hparent))

/-- A halt from an endpoint is entered in the fault log here (R317). -/
def State.haltEntered (v : State) (t port lap : Nat) : State := if isFabric port then v else v.faultEntry t 4 port 0 lap

theorem exec_waveHalt_up (h : WaveIn s port flit v ⟨t, 4, wave, 0, value⟩) (ht : t ≠ 0) (hbelow : v.isBelow t port = true) :
    exec (.waveHalt port flit) s = .next (State.starterFlush (if wave = ((v.haltEntered t port (value % 2 ^ 48)).tenant t).haltNo then
      (v.haltEntered t port (value % 2 ^ 48)).halt t (if isFabric port then value / 2 ^ 56 % 2 ^ 8 else 4) (value % 2 ^ 48)
    else (v.haltEntered t port (value % 2 ^ 48)).count Obj.HALTS_MERGED)) := by
  rw [exec_waveHalt, execWaveHalt]
  simp only [bits_lap, bits_cause]
  exact waveIn_tenant h (by decide) ht ((if_pos rfl).trans (if_neg (by simp [hbelow])))

/-- The lap of the condition that stands for a halt of a cause: the one seen here, or the one that the wave names (log 134). -/
def State.haltLap (v : State) (t cause lap : Nat) : Nat :=
  match (v.tenant t).haltSeen with
  | some (c, l) => if c = cause then l else lap
  | none => lap

theorem exec_waveHalt_down (h : WaveIn s port flit v ⟨t, 4, wave, 1, value⟩) (ht : t ≠ 0) (hparent : v.isParent port = true) :
    exec (.waveHalt port flit) s = .next (State.starterFlush (State.schedule
      (((v.waveDown t 4 wave value).ringHalt t (value % 2 ^ 48)).modTenant t (fun y => { y with haltSent := true }))
      ⟨if value / 2 ^ 56 % 2 ^ 8 ≤ 3 then .fault else .hold, t, 0, value % 2 ^ 48,
        some (value / 2 ^ 56 % 2 ^ 8, v.haltLap t (value / 2 ^ 56 % 2 ^ 8) (value % 2 ^ 48))⟩)) := by
  rw [exec_waveHalt, execWaveHalt]
  simp only [bits_lap, bits_cause]
  exact waveIn_tenant h (by decide) ht ((if_neg Nat.one_ne_zero).trans (if_pos hparent))

theorem exec_waveBroadcast_up (h : WaveIn s port flit v ⟨t, 5, wave, 0, value⟩) (ht : t ≠ 0) (hbelow : v.isBelow t port = true) :
    exec (.waveBroadcast port flit) s = .next (State.starterFlush
      (if v.time.role = .anchor then v.broadcastDown t (v.tenant t).bcastNo value else v.waveUp t 5 wave value)) := by
  rw [exec_waveBroadcast, execWaveBroadcast]
  exact waveIn_tenant h (by decide) ht (by simp [hbelow])

theorem exec_waveBroadcast_down (h : WaveIn s port flit v ⟨t, 5, wave, 1, value⟩) (ht : t ≠ 0) (hparent : v.isParent port = true) :
    exec (.waveBroadcast port flit) s = .next (v.broadcastDown t wave value).starterFlush := by
  rw [exec_waveBroadcast, execWaveBroadcast]
  exact waveIn_tenant h (by decide) ht (by simp [hparent])

/-- A value that comes down is stored, and the next number begins (R318). -/
theorem broadcastDown_stores (v : State) (t wave value : Nat) : (v.broadcastDown t wave value).cfg Obj.BROADCAST_VALUE t = value ∧
    ((v.broadcastDown t wave value).tenant t).bcastNo = (wave + 1) % 65536 := by
  refine ⟨cfg_setCfg_same (v.waveDown t 5 wave value) _ t value, ?_⟩
  rw [State.broadcastDown, State.tenant_modTenant_same]

/-- The result of a Photo finish that this device takes no part in is passed on (R322). -/
theorem exec_wavePhotoDone_passes (h : WaveIn s port flit v ⟨t, 6, wave, 1, value⟩) (ht : t ≠ 0) (hph : (v.tenant t).photo = none)
    (hparent : v.isParent port = true) : exec (.wavePhotoDone port flit) s = .next (v.waveDown t 6 wave value).starterFlush := by
  rw [exec_wavePhotoDone, execWavePhotoDone]
  refine waveIn_tenant h (by decide) ht ?_
  simp only [hph]
  exact if_pos (by simp [hparent])

theorem exec_wavePhotoDone_ends (h : WaveIn s port flit v ⟨t, 6, wave, 1, value⟩) (ht : t ≠ 0) (hph : (v.tenant t).photo = some ph)
    (hparent : v.isParent port = true) (hlap : ph.lap % 65536 = wave) :
    exec (.wavePhotoDone port flit) s = .next (State.starterFlush ((v.waveDown t 6 wave value).photoEnd t ph (value.testBit 63))) := by
  rw [exec_wavePhotoDone, execWavePhotoDone]
  refine waveIn_tenant h (by decide) ht ?_
  simp only [hph]
  have hnot : ¬ (!v.isParent port) = true := by rw [hparent]; decide
  exact (if_pos trivial).trans ((if_neg hnot).trans (if_pos hlap))

/-- A Photo finish with the report of a port in it, of a child or of an endpoint (R322). -/
def Photo.report (ph : Photo) (port : Nat) (short : Bool) : Photo :=
  if isFabric port then
    { ph with incomplete := ph.incomplete || short, children := if ph.children.contains port then ph.children else ph.children ++ [port] }
  else
    { ph with incomplete := ph.incomplete || short, endpoints := if ph.endpoints.contains port then ph.endpoints else ph.endpoints ++ [port] }

theorem mem_insertOnce (l : List Nat) (n : Nat) : n ∈ (if l.contains n then l else l ++ [n]) := by
  by_cases hn : n ∈ l
  · simp [hn]
  · simp [hn]

theorem report_notes (ph : Photo) (port : Nat) (short : Bool) : (ph.report port short).incomplete = (ph.incomplete || short) ∧
    (isFabric port = true → port ∈ (ph.report port short).children) ∧ (isFabric port = false → port ∈ (ph.report port short).endpoints) := by
  cases hp : isFabric port with
  | true =>
    rw [Photo.report, if_pos hp]
    exact ⟨rfl, fun _ => mem_insertOnce ph.children port, fun h => absurd h (by decide)⟩
  | false =>
    rw [Photo.report, if_neg (by rw [hp]; decide)]
    exact ⟨rfl, fun h => absurd h (by decide), fun _ => mem_insertOnce ph.endpoints port⟩

theorem exec_wavePhotoDone_up (h : WaveIn s port flit v ⟨t, 6, wave, 0, value⟩) (ht : t ≠ 0) (hph : (v.tenant t).photo = some ph)
    (hbelow : v.isBelow t port = true) (hlap : ph.lap % 65536 = wave) : exec (.wavePhotoDone port flit) s =
      .next (State.starterFlush ((v.modTenant t (fun y => { y with photo := some (ph.report port (value.testBit 63)) })).photoStep t)) := by
  rw [exec_wavePhotoDone, execWavePhotoDone]
  refine waveIn_tenant h (by decide) ht ?_
  simp only [hph]
  have hnot : ¬ (ph.lap % 65536 != wave || !v.isBelow t port) = true := by simp [hlap, hbelow]
  exact (if_neg Nat.zero_ne_one).trans (if_neg hnot)

end
end Sys2Proof.Machine
end

section
/-! PROOFS. The Photo finish, its restore, and the objects that feed the wave (R316 to R318, R322, R323): the statement. -/

namespace Sys2Proof.Machine

/-! ## The end of a Photo finish (R322) -/

section
variable {s : State} {t : Nat} {ph : Photo}

theorem photoEnd_photo (s : State) (t : Nat) (ph : Photo) (short : Bool) : ((s.photoEnd t ph short).tenant t).photo = none := by
  rw [State.photoEnd, State.tenant_modTenant_same]

theorem cfg_modTenant (s : State) (t : Nat) (f : Tenant → Tenant) (o i : Nat) : (s.modTenant t f).cfg o i = s.cfg o i := rfl

/-- A complete capture stands in 6004h (R322). -/
theorem photoEnd_complete (s : State) (t : Nat) (ph : Photo) : (s.photoEnd t ph false).cfg Obj.PHOTO_STATUS t = 2 ∧
    (s.photoEnd t ph false).cfg Obj.LAST_PHOTO t = ph.lap := by
  have hkey : objKey Obj.PHOTO_STATUS t ≠ objKey Obj.LAST_PHOTO t := fun h => absurd (Nat.add_right_cancel h) (by decide)
  rw [State.photoEnd, cfg_modTenant, cfg_modTenant]
  exact ⟨(cfg_setCfg_other _ _ hkey).trans (cfg_setCfg_same _ _ _ _), cfg_setCfg_same _ _ _ _⟩

theorem photoEnd_incomplete (s : State) (t : Nat) (ph : Photo) : (s.photoEnd t ph true).cfg Obj.PHOTO_STATUS t = 3 := by
  rw [State.photoEnd, cfg_modTenant]
  exact cfg_setCfg_same _ _ _ _

theorem exec_photoCaptureComplete_idle (hph : (s.tenant t).photo = none) : exec (.photoCaptureComplete t) s = .next s := by
  rw [exec_photoCaptureComplete, execPhotoCaptureComplete]
  simp only [hph]

theorem exec_photoCaptureComplete_waits (hph : (s.tenant t).photo = some ph) (hwait : ph.joined = true ∨ s.photoReady t ph = false) :
    exec (.photoCaptureComplete t) s = .next s := by
  have hnot : (ph.joined || !s.photoReady t ph) = true := by rcases hwait with h | h <;> simp [h]
  rw [exec_photoCaptureComplete, execPhotoCaptureComplete]
  simp only [hph]
  exact if_pos hnot

/-- The state in which a capture's frames are written and let go, and its slot is closed. -/
def State.photoWritten (s : State) (t : Nat) (ph : Photo) : State :=
  (State.photoRelease (ph.frames.foldl (fun y e => y.captureFrame t e.2 e.1) (s.photoNote t)) ph).photoClose t ph

theorem exec_photoCaptureComplete_joins (hph : (s.tenant t).photo = some ph) (hjoined : ph.joined = false) (hready : s.photoReady t ph = true) :
    exec (.photoCaptureComplete t) s = .next (((s.photoWritten t ph).modTenant t (fun y =>
      { y with photo := y.photo.map (fun q => { q with joined := true, frames := [] }) })).photoStep t) := by
  have hnot : ¬ (ph.joined || !s.photoReady t ph) = true := by simp [hjoined, hready]
  rw [exec_photoCaptureComplete, execPhotoCaptureComplete]
  simp only [hph]
  exact if_neg hnot

end

/-! ## Writes of the objects (R316 to R318) -/

section
variable {s : State} {p : Principal} {i x : Nat}

theorem writes_barrierArrive (ha : AcceptsNum s p Obj.BARRIER_ARRIVE i x) : Writes (.barrierArrive p i x) s .ok
    (if (s.cfg Obj.TENANT_MEMBERS i).testBit 8 then s.arrive i (x % 65536) 99 false else s) :=
  writes_num ha (exec_barrierArrive p i x s) rfl rfl (by decide)

/-- A number that its applier puts off answers BUSY with a free hint. -/
theorem writesBusy_num {c : Instr} {o : Nat} {f : Nat → State → State × Result} (ha : AcceptsNum s p o i x)
    (hc : exec c s = .next (s.writeNumCmd p o i x f)) (hf : f x s = (s, .busy)) : WritesBusy c s s := by
  refine ⟨Config.freeNat s.free % 65536, Nat.mod_lt _ (by decide), ?_⟩
  rw [hc, State.writeNumCmd, write_accepts ha, hf]
  rfl

theorem writesBusy_broadcastSend (ha : AcceptsNum s p Obj.BROADCAST_SEND i x) (hout : (s.tenant i).bcastOut = true) :
    WritesBusy (.broadcastSend p i x) s s :=
  writesBusy_num ha (exec_broadcastSend p i x s) (if_pos hout)

theorem writes_broadcastSend_anchor (ha : AcceptsNum s p Obj.BROADCAST_SEND i x) (hout : (s.tenant i).bcastOut = false)
    (hrole : s.time.role = .anchor) : Writes (.broadcastSend p i x) s .ok (s.broadcastDown i (s.tenant i).bcastNo x) :=
  writes_num ha (exec_broadcastSend p i x s) rfl
    ((if_neg (by rw [hout]; decide)).trans (if_pos (by rw [hrole]; decide))) (by decide)

theorem writes_broadcastSend_up (ha : AcceptsNum s p Obj.BROADCAST_SEND i x) (hout : (s.tenant i).bcastOut = false)
    (hrole : s.time.role ≠ .anchor) : Writes (.broadcastSend p i x) s .ok
      ((s.modTenant i (fun y => { y with bcastOut := true, bcastQ := [x] })).waveUp i 5 (s.tenant i).bcastNo x) := by
  refine writes_num ha (exec_broadcastSend p i x s) rfl
    ((if_neg (by rw [hout]; decide)).trans ((if_neg (by simpa using hrole)).trans ?_)) (by decide)
  dsimp only
  rw [State.tenant_modTenant_same]

theorem exec_haltRequest_acts (ha : AcceptsNum s p Obj.HALT_REQUEST i x) : exec (.haltRequest p i x) s = .next (State.starterFlush
    { (if x = 1 then (s.faultEntry i 5 0 0 s.time.lap).halt i 5 s.time.lap else s) with reply := ⟨.ok, [], 0⟩ }) := by
  rw [exec_haltRequest, execHaltRequest, writeNum_accepts ha (by decide) (by decide) (by decide) (applyHaltRequest i) (by simp [applyHaltRequest])]
  rfl

end

/-! ## Restores (R323) -/

section
variable {s u : State} {p : Principal} {i x k : Nat}

/-- The slot that holds the complete capture of a lap. -/
def State.slotOfLap (s : State) (t lap : Nat) : Option Nat := [0, 1].find? (fun k => (s.slot t k).lap == lap && (s.slot t k).status == 2)

/-- The state in which the slot's bytes have been paid for. -/
def State.restorePaid (s : State) (t k : Nat) : State := s.takeTokens (.snapshot t) (s.slot t k).used

/-- The records that a slot gives. -/
def State.restoreRecords (s : State) (t k : Nat) : Option (List Captured) :=
  (s.restorePaid t k).readSlot ((s.restorePaid t k).slotBase t k) (s.slot t k).used ((s.slot t k).used / 32 + 1) 0 [] []

theorem writes_photoRestore_range (ha : AcceptsNum s p Obj.PHOTO_RESTORE i x) (hx : 2 ^ 48 ≤ x) : Writes (.photoRestore p i x) s .range s :=
  writes_num ha (exec_photoRestore p i x s) rfl (if_pos (by simpa [lapOk] using hx)) (by decide)

/-- A lap that no slot holds, or a tenant that is neither IDLE nor HELD. -/
theorem writes_photoRestore_state (ha : AcceptsNum s p Obj.PHOTO_RESTORE i x) (hx : x < 2 ^ 48)
    (hnot : ¬ ((s.tenant i).st = .idle ∨ (s.tenant i).st = .held) ∨ s.slotOfLap i x = none) : Writes (.photoRestore p i x) s .state s := by
  refine writes_num ha (exec_photoRestore p i x s) rfl ((if_neg (by simpa [lapOk] using hx)).trans ?_) (by decide)
  rcases hnot with hst | hslot
  · exact if_pos (by simpa [not_or] using hst)
  · unfold State.slotOfLap at hslot
    simp only [hslot, ite_self]

/-- The slot that holds the lap is read: its records are poisoned, do not fit the pool, or are staged. -/
theorem writes_photoRestore_slot (ha : AcceptsNum s p Obj.PHOTO_RESTORE i x) (hx : x < 2 ^ 48)
    (hst : (s.tenant i).st = .idle ∨ (s.tenant i).st = .held) (hslot : s.slotOfLap i x = some k) :
    (s.restoreRecords i k = none → Writes (.photoRestore p i x) s .state ((s.restorePaid i k).count Obj.RESTORE_FAILS i)) ∧
    (∀ c, s.restoreRecords i k = some c → ((s.restorePaid i k).dropRestore i).loadItems i c [] = none →
      Writes (.photoRestore p i x) s .overcommit (s.restorePaid i k)) ∧
    ∀ c y u, s.restoreRecords i k = some c → ((s.restorePaid i k).dropRestore i).loadItems i c [] = some (y, u) →
      Writes (.photoRestore p i x) s .ok (u.modTenant i (fun z => { z with restore := some ⟨x, y, false⟩ })) := by
  have hlap : ¬ (!lapOk x) = true := by simpa [lapOk] using hx
  have hready : ¬ ((s.tenant i).st != .idle && (s.tenant i).st != .held) = true := by rcases hst with h | h <;> simp [h]
  unfold State.slotOfLap at hslot
  unfold State.restoreRecords State.restorePaid
  have hbody : applyPhotoRestore i x s = _ := (if_neg hlap).trans (if_neg hready)
  have hexec := exec_photoRestore p i x s
  exact ⟨fun hrec => writes_num ha hexec rfl (hbody.trans (by simp only [hslot, hrec])) (by decide),
    fun c hrec hload => writes_num ha hexec rfl (hbody.trans (by simp only [hslot, hrec, hload])) (by decide),
    fun c y u hrec hload => writes_num ha hexec rfl (hbody.trans (by simp only [hslot, hrec, hload])) (by decide)⟩

end

/-- Settles O44: what a WAVE flit of each operation does and when it is refused or left, how a Photo finish ends, and what the objects that feed the wave
answer. -/
theorem waveResults : Obligations.WaveResults := by
  intro s v p port t o wave dir value i x flit op ph any comes acts parent below lap cause at_ ahead timely down short raised seen
  have hparent : parent → v.isParent port = true := isParent_iff.mpr
  have hbelow : below → v.isBelow t port = true := isBelow_iff.mpr
  refine ⟨fun hp hpass hbad c => exec_waves_cut hp hpass hbad, fun hp c => exec_waves_closed hp, fun h ho c => exec_waves_reserved h ho,
    fun h ho k c hk => exec_waves_other h ho hk, fun h hbad c => exec_waves_bad h hbad, fun h ht ho hop hdir c hk => ?stray,
    ?join, ?leave, ?schedule, ?barrierUp, ?barrierDown, ?haltUp, ?haltDown, ?broadcastUp, ?broadcastDown, broadcastDown_stores v t wave value,
    ?passes, ?ends, ?report, ⟨(photoEnd_complete s t ph).1, (photoEnd_complete s t ph).2, photoEnd_incomplete s t ph, photoEnd_photo s t ph true⟩,
    exec_photoCaptureComplete_idle, exec_photoCaptureComplete_waits, exec_photoCaptureComplete_joins, writes_barrierArrive,
    fun ha => ⟨writesBusy_broadcastSend ha, writes_broadcastSend_anchor ha, writes_broadcastSend_up ha⟩, exec_haltRequest_acts,
    fun ha => ⟨writes_photoRestore_range ha, writes_photoRestore_state ha, fun k hx hst hslot => writes_photoRestore_slot ha hx hst hslot⟩⟩
  case stray =>
    have hgood : ¬ waveBad o ⟨t, o, wave, dir, value⟩ := by
      rintro ((⟨hle, -⟩ | ⟨-, hzero⟩) | ⟨htwo, hnone⟩)
      · omega
      · exact ht hzero
      · exact hop htwo hnone
    refine exec_waves_stray h hgood ho (hdir.imp ?_ ?_) hk
    · exact fun ⟨hd, hnot⟩ => ⟨hd, Bool.eq_false_of_not_eq_true (mt isParent_iff.mp hnot)⟩
    · exact fun ⟨hd, hnot⟩ => ⟨hd, hnot.imp_left fun hb => Bool.eq_false_of_not_eq_true (mt isBelow_iff.mp hb)⟩
  case join =>
    rintro h rfl rfl
    exact exec_waveJoin_child h
  case leave =>
    rintro h rfl rfl
    exact exec_waveLeave_drops h
  case schedule =>
    rintro h ht hop rfl hup
    exact exec_waveSchedule_down h ht hop (hparent hup)
  case barrierUp =>
    rintro h ht rfl hb
    exact exec_waveBarrier_up h ht (hbelow hb)
  case barrierDown =>
    rintro h ht rfl hup
    exact exec_waveBarrier_down h ht (hparent hup)
  case haltUp =>
    rintro h ht rfl hb
    exact exec_waveHalt_up h ht (hbelow hb)
  case haltDown =>
    rintro h ht rfl hup
    exact exec_waveHalt_down h ht (hparent hup)
  case broadcastUp =>
    rintro h ht rfl hb
    exact exec_waveBroadcast_up h ht (hbelow hb)
  case broadcastDown =>
    rintro h ht rfl hup
    exact exec_waveBroadcast_down h ht (hparent hup)
  case passes =>
    rintro h ht hph rfl hup
    exact exec_wavePhotoDone_passes h ht hph (hparent hup)
  case ends =>
    rintro h ht hph rfl hup hlap
    exact exec_wavePhotoDone_ends h ht hph (hparent hup) hlap
  case report =>
    rintro h ht hph rfl hb hlap
    exact ⟨ph.report port short, exec_wavePhotoDone_up h ht hph (hbelow hb) hlap, report_notes ph port short⟩

end Sys2Proof.Machine
end

section
/-! PROOFS. DRAM (R326 to R341). -/

namespace Sys2Proof.Machine

/-! ## What the updates of DRAM leave alone (R328, R331, R340) -/

section
variable (s : State)

/-- DRAM apart from its channels and the bandwidth taken of them. -/
def State.stored (s : State) : Dram := { s.dram with channels := [], buckets := [], spent := 0 }

/-- The channels with their queues and rows. -/
def State.channels (s : State) : Tab Channel := s.dram.channels

theorem channel_of_channels {u : State} (h : u.channels = s.channels) (k : Nat) : u.channel k = s.channel k :=
  congrArg (fun t => tabGet t k Channel.reset) h

theorem poisoned_of_stored {u : State} (h : u.stored = s.stored) (a : Nat) : u.poisoned a = s.poisoned a := by
  have hpoison : u.dram.poison = s.dram.poison := (congrArg Dram.poison h :)
  have hbad : u.dram.bad = s.dram.bad := (congrArg Dram.bad h :)
  rw [State.poisoned, State.poisoned, hpoison, hbad]

theorem dramGet_of_stored {u : State} (h : u.stored = s.stored) (a n : Nat) : u.dramGet a n = s.dramGet a n :=
  (congrArg (fun d : Dram => memReadN d.data a n) h :)

theorem dramCfg_of_stored {u : State} (h : u.stored = s.stored) (off n : Nat) : u.dramCfg off n = s.dramCfg off n :=
  (congrArg (fun d : Dram => beAt d.config off n) h :)

/-- An address lies where the ways, the configuration in force and the capacities say (R327, R328). -/
theorem dramMap_of_stored {u : State} (h : u.stored = s.stored) (hcap : ∀ k, (u.channel k).capacity = (s.channel k).capacity) (a : Nat) :
    u.dramMap a = s.dramMap a := by
  have hways : u.dram.ways = s.dram.ways := (congrArg Dram.ways h :)
  have hsize : u.dramC = s.dramC := by simp only [State.dramC, hways, hcap]
  simp only [State.dramMap, hways, hsize, dramCfg_of_stored s h]

/-- What a change of a channel keeps of the channel, it keeps of all of them. -/
theorem channel_modChannel_keeps {γ : Type} {g : Channel → γ} {f : Channel → Channel} (h : ∀ x, g (f x) = g x) (c k : Nat) :
    g ((s.modChannel c f).channel k) = g (s.channel k) := by
  by_cases hk : k = c
  · subst hk
    rw [State.channel_modChannel_same, h]
  · rw [State.channel_modChannel_other s f hk]

theorem takeTokens_stored (r : DramLevel) (n : Nat) : (s.takeTokens r n).stored = s.stored := by
  unfold State.takeTokens
  cases s.reservation r
  rfl

theorem takeTokens_channels (r : DramLevel) (n : Nat) : (s.takeTokens r n).channels = s.channels := by
  unfold State.takeTokens
  cases s.reservation r
  rfl

theorem takeTokens_channel (r : DramLevel) (n k : Nat) : (s.takeTokens r n).channel k = s.channel k :=
  channel_of_channels s (takeTokens_channels s r n) k

theorem openRows_stored (a len : Nat) : (s.openRows a len).stored = s.stored :=
  foldl_keeps (g := State.stored) (fun u e _ => by cases u.dramMap e.1; rfl) s

/-- What open rows are no part of, an access keeps of every channel (R331). -/
theorem openRows_channel_keeps {γ : Type} {g : Channel → γ} (h : ∀ x rows, g { x with rows := rows } = g x) (a len k : Nat) :
    g ((s.openRows a len).channel k) = g (s.channel k) :=
  foldl_keeps (g := fun u => g (u.channel k)) (fun u e _ => by
    cases u.dramMap e.1
    exact channel_modChannel_keeps u (fun x => h x _) _ k) s

theorem queueWrite_stored (a len : Nat) : (s.queueWrite a len).stored = s.stored :=
  foldl_keeps (g := State.stored) (fun _ _ _ => by rfl) s

/-- Open rows move no address to another channel. -/
theorem openRows_dramMap (a len x : Nat) : (s.openRows a len).dramMap x = s.dramMap x :=
  dramMap_of_stored s (openRows_stored s a len) (openRows_channel_keeps s (g := Channel.capacity) (fun _ _ => rfl) a len) x

theorem takeTokens_dramMap (r : DramLevel) (n x : Nat) : (s.takeTokens r n).dramMap x = s.dramMap x :=
  dramMap_of_stored s (takeTokens_stored s r n) (fun k => congrArg Channel.capacity (takeTokens_channel s r n k)) x

theorem reaches_iff (r : DramLevel) (a len : Nat) :
    s.reaches r a len = true ↔ 0 < len ∧ a + len ≤ s.dramSize ∧ (2 ^ 30 ≤ a ∨ r = .starter ∨ r = .scrub) := by
  simp [State.reaches, giB, Nat.pos_iff_ne_zero, and_assoc, or_assoc]

end

/-! ## The write queues (R331) -/

section
variable (s : State) {a len : Nat}

/-- A span within one grain lies in one channel. -/
theorem channelSpans_oneGrain (hlen : 0 < len) (hgrain : a / 2 ^ s.dramCfg 2 1 = (a + len - 1) / 2 ^ s.dramCfg 2 1) :
    s.channelSpans a len = [(a, len)] := by
  have hstart : a / 2 ^ s.dramCfg 2 1 * 2 ^ s.dramCfg 2 1 ≤ a := Nat.div_mul_le_self ..
  have hend : a + len ≤ (a / 2 ^ s.dramCfg 2 1 + 1) * 2 ^ s.dramCfg 2 1 := by
    have hlast := Nat.lt_mul_div_succ (a + len - 1) (Nat.two_pow_pos (s.dramCfg 2 1))
    rw [hgrain, Nat.mul_comm]
    omega
  simp [State.channelSpans, Nat.pos_iff_ne_zero.mp hlen, ← hgrain, Nat.max_eq_left hstart, Nat.min_eq_left hend]

/-- A write within one grain is the last of its channel's queue, which has given up the oldest ones where it was full. -/
theorem queueWrite_oneGrain (hlen : 0 < len) (hgrain : a / 2 ^ s.dramCfg 2 1 = (a + len - 1) / 2 ^ s.dramCfg 2 1) :
    ∃ q, ((s.queueWrite a len).channel (s.dramMap a).1).writeQ = q ++ [(a, len)] ∧
      q.length ≤ (s.channel (s.dramMap a).1).writeQ.length := by
  rw [State.queueWrite, channelSpans_oneGrain s hlen hgrain, List.foldl_cons, List.foldl_nil, State.channel_modChannel_same]
  generalize s.channel (s.dramMap a).1 = c
  dsimp only
  split
  case isTrue hfull =>
    rw [List.length_append, List.length_singleton] at hfull ⊢
    exact ⟨c.writeQ.drop (c.writeQ.length + 1 - 32), List.drop_append_of_le_length (by omega), by simp⟩
  case isFalse => exact ⟨c.writeQ, rfl, le_rfl⟩

end

/-! ## Sectors and poison (R334, R336, R337) -/

section
variable (s : State)

/-- The addresses of a sector are poisoned together. -/
theorem poisoned_of_sector {x y : Nat} (h : x / 64 = y / 64) : s.poisoned x = s.poisoned y := by
  have hblock : x / 256 = y / 256 := by omega
  rw [State.poisoned, State.poisoned, blockOf, blockOf, sectorOf, sectorOf, h, hblock]

theorem poisoned_iff (x : Nat) : s.poisoned x = true ↔ blockOf x ∈ s.dram.poison ∨ sectorOf x ∈ s.dram.bad := by simp [State.poisoned]

/-- What a write does to a poisoned sector: all of it written, marks may fall and no byte changes; part of it written, the
other bytes turn to zero and the marks stay. -/
theorem sectorWrite_cases (y a len : Nat) :
    ((s.sectorWrite y a len).dram.data = s.dram.data ∧ (s.sectorWrite y a len).dram.poison ⊆ s.dram.poison ∧
      (s.sectorWrite y a len).dram.bad ⊆ s.dram.bad) ∨
    (s.poisoned y = true ∧ s.sectorWrite y a len = { s with dram.data := (List.range 64).foldl (fun m k =>
      if a ≤ y + k && y + k < a + len then m else memWrite m (y + k) 0) s.dram.data }) := by
  unfold State.sectorWrite
  split
  case isTrue => exact .inl ⟨rfl, .refl _, .refl _⟩
  case isFalse hpoisoned =>
    dsimp only
    split
    · refine .inl ?_
      split
      · exact ⟨rfl, .refl _, List.filter_subset_self _⟩
      · split
        · exact ⟨rfl, List.filter_subset_self _, List.filter_subset_self _⟩
        · exact ⟨rfl, .refl _, List.filter_subset_self _⟩
    · exact .inr ⟨by simpa using hpoisoned, rfl⟩

/-- A write poisons nothing. -/
theorem sectorWrite_poisoned {x y a len : Nat} (h : s.poisoned x = false) : (s.sectorWrite y a len).poisoned x = false := by
  rcases sectorWrite_cases s y a len with ⟨-, hpoison, hbad⟩ | ⟨-, heq⟩
  · rw [Bool.eq_false_iff, ne_eq, poisoned_iff] at h ⊢
    exact mt (Or.imp (hpoison ·) (hbad ·)) h
  · rw [heq]
    exact h

/-- A byte that is not poisoned stays while a poisoned sector is cleared. -/
theorem sectorWrite_memRead {x y a len : Nat} (h : s.poisoned x = false) (hy : y % 64 = 0) :
    memRead (s.sectorWrite y a len).dram.data x = memRead s.dram.data x := by
  rcases sectorWrite_cases s y a len with ⟨hdata, -⟩ | ⟨hpoisoned, heq⟩
  · rw [hdata]
  · have hapart : x / 64 ≠ y / 64 := fun hsame => by
      rw [poisoned_of_sector s hsame, hpoisoned] at h
      cases h
    rw [heq]
    refine foldl_keeps (g := fun m => memRead m x) (fun m k hk => ?_) _
    rw [List.mem_range] at hk
    exact ite_keeps (g := fun m => memRead m x) rfl (memRead_write_other _ _ (by omega))

/-- So it stays while all the sectors of a write are. -/
theorem foldl_sectorWrite_memRead {x a len : Nat} {l : List Nat} (hl : ∀ y ∈ l, y % 64 = 0) (h : s.poisoned x = false) :
    memRead (l.foldl (fun u y => u.sectorWrite y a len) s).dram.data x = memRead s.dram.data x := by
  induction l generalizing s with
  | nil => rfl
  | cons y l ih =>
    rw [List.foldl_cons, ih _ (fun z hz => hl z (List.mem_cons_of_mem y hz)) (sectorWrite_poisoned s h),
      sectorWrite_memRead s h (hl y (List.mem_cons_self ..))]

theorem sectorsOf_aligned {a len y : Nat} (h : y ∈ sectorsOf a len) : y % 64 = 0 := by
  unfold sectorsOf at h
  split at h
  · cases h
  · obtain ⟨k, -, rfl⟩ := List.mem_map.mp h
    exact Nat.mul_mod_left ..

/-- What is written is read back. -/
theorem dramGet_dramPut (a : Nat) (b : Blob) : (s.dramPut a b).dramGet a b.length = b := memReadN_writeN _ a b

/-- A byte outside a write stays, but for the rest of a poisoned sector (R337). -/
theorem dramGet_dramPut_outside {x a : Nat} {b : Blob} (h : s.poisoned x = false) (hout : x < a ∨ a + b.length ≤ x) :
    (s.dramPut a b).dramGet x 1 = s.dramGet x 1 := by
  have hsectors := foldl_sectorWrite_memRead s (l := sectorsOf a b.length) (a := a) (len := b.length) (fun y => sectorsOf_aligned) h
  have hbyte : memRead (s.dramPut a b).dram.data x = memRead s.dram.data x := by
    refine Eq.trans ?_ hsectors
    rcases hout with hlo | hhi
    · exact memRead_writeN_below _ b hlo
    · exact memRead_writeN_above _ b hhi
  exact congrArg (fun y => [y]) hbyte

theorem sectorWrite_channels (y a len : Nat) : (s.sectorWrite y a len).channels = s.channels := by
  unfold State.sectorWrite
  split
  · rfl
  · dsimp only
    split
    · exact ite_keeps (g := State.channels) rfl (ite_keeps (g := State.channels) rfl rfl)
    · rfl

theorem dramPut_channel (a : Nat) (b : Blob) (k : Nat) : (s.dramPut a b).channel k = s.channel k :=
  channel_of_channels s (foldl_keeps (g := State.channels) (fun u y _ => sectorWrite_channels u y a b.length) s) k

/-! ## A write of a requestor -/

/-- The state in which a write's bytes are put. -/
theorem dramWrite_eq (r : DramLevel) (a : Nat) (b : Blob) :
    s.dramWrite r a b = ((((s.takeTokens r b.length).openRows a b.length).queueWrite a b.length)).dramPut a b := rfl

theorem dramGet_dramWrite (r : DramLevel) (a : Nat) (b : Blob) : (s.dramWrite r a b).dramGet a b.length = b := dramGet_dramPut _ a b

theorem dramGet_dramWrite_outside {x a : Nat} {b : Blob} (r : DramLevel) (h : s.poisoned x = false) (hout : x < a ∨ a + b.length ≤ x) :
    (s.dramWrite r a b).dramGet x 1 = s.dramGet x 1 := by
  have hstored : (((s.takeTokens r b.length).openRows a b.length).queueWrite a b.length).stored = s.stored :=
    (queueWrite_stored _ a b.length).trans ((openRows_stored _ a b.length).trans (takeTokens_stored s r b.length))
  rw [dramWrite_eq, dramGet_dramPut_outside _ ((poisoned_of_stored s hstored x).trans h) hout, dramGet_of_stored s hstored]

theorem dramWrite_oneGrain {a : Nat} {b : Blob} (r : DramLevel) (hb : 0 < b.length)
    (hgrain : a / 2 ^ s.dramCfg 2 1 = (a + b.length - 1) / 2 ^ s.dramCfg 2 1) :
    ∃ q, ((s.dramWrite r a b).channel (s.dramMap a).1).writeQ = q ++ [(a, b.length)] ∧
      q.length ≤ (s.channel (s.dramMap a).1).writeQ.length := by
  have hqueue := queueWrite_oneGrain ((s.takeTokens r b.length).openRows a b.length) (a := a) hb
  rw [dramCfg_of_stored s ((openRows_stored _ a b.length).trans (takeTokens_stored s r b.length)), openRows_dramMap, takeTokens_dramMap,
    openRows_channel_keeps _ (g := Channel.writeQ) (fun _ _ => rfl), takeTokens_channel] at hqueue
  rw [dramWrite_eq, dramPut_channel]
  exact hqueue hgrain

end

/-! ## What ECC finds (R334 to R336) -/

section
variable (s : State)

theorem post_dram (q tenant what : Nat) : (s.post q tenant what).dram = s.dram := by
  unfold State.post
  exact ite_keeps (g := State.dram) (ite_keeps (g := fun u : State => (u.count Obj.WORKQ_OVERFLOWS q).dram) rfl rfl) rfl

theorem logError_dram (source severity att : Nat) (tenant : Option Nat) (o i detail : Nat) :
    (s.logError source severity att tenant o i detail).dram = s.dram := by
  have hraise : ∀ u : State, (if att = 0 then u else u.raise att tenant o i).dram = u.dram := fun u => ite_keeps (g := State.dram) rfl rfl
  unfold State.logError
  dsimp only
  rw [hraise]
  split
  · rfl
  · rw [post_dram]
    exact ite_keeps (g := State.dram) rfl rfl

/-- A corrected error is counted in its channel, and changes nothing of DRAM. -/
theorem sectorRead_corrected {a : Nat} (hc : (s.dramMap a).1 < 4) :
    (s.sectorRead a .corrected).cfg Obj.ECC_CORRECTED (s.dramMap a).1 = min (s.cfg Obj.ECC_CORRECTED (s.dramMap a).1 + 1) (2 ^ 64 - 1) ∧
      (s.sectorRead a .corrected).dram = s.dram := by
  refine ⟨?_, logError_dram ..⟩
  have hother : ∀ o i, Obj.ECC_CORRECTED ≠ o → i < 2 ^ 20 → objKey Obj.ECC_CORRECTED (s.dramMap a).1 ≠ objKey o i :=
    fun o i ho hi => objKey_ne ho (by omega) hi
  exact (cfg_logError _ _ _ _ _ _ _ (hother _ _ (by decide) (by decide)) (hother _ _ (by decide) (by decide))
    (hother _ _ (by decide) (by decide))).trans (cfg_count_same _ _)

theorem poisonEnter_known {a : Nat} (h : blockOf a ∈ s.dram.poison) : (s.poisonEnter a).dram = s.dram := by
  rw [State.poisonEnter, if_pos (List.contains_iff_mem.mpr h)]
  exact logError_dram ..

theorem poisonEnter_full {a : Nat} (h : blockOf a ∉ s.dram.poison) (hfull : 4096 ≤ s.dram.poison.length) : (s.poisonEnter a).dram =
    { s.dram with bad := if s.dram.bad.contains (sectorOf a) then s.dram.bad else s.dram.bad ++ [sectorOf a] } := by
  rw [State.poisonEnter, if_neg (mt List.contains_iff_mem.mp h), if_pos hfull]
  exact logError_dram ..

theorem poisonEnter_room {a : Nat} (h : blockOf a ∉ s.dram.poison) (hroom : s.dram.poison.length < 4096) : (s.poisonEnter a).dram =
    { s.dram with poison := s.dram.poison ++ [blockOf a] } := by
  rw [State.poisonEnter, if_neg (mt List.contains_iff_mem.mp h), if_neg (Nat.not_le.mpr hroom)]
  exact logError_dram ..

/-- An uncorrectable sector reads poisoned from then on, whether its block is in the map, enters it or finds it full. -/
theorem poisonEnter_poisoned (a : Nat) : (s.poisonEnter a).poisoned a = true := by
  rw [poisoned_iff]
  by_cases hknown : blockOf a ∈ s.dram.poison
  · rw [poisonEnter_known s hknown]
    exact .inl hknown
  · by_cases hfull : 4096 ≤ s.dram.poison.length
    · refine .inr ?_
      rw [poisonEnter_full s hknown hfull]
      dsimp only
      split
      case isTrue hbad => exact List.contains_iff_mem.mp hbad
      case isFalse => exact List.mem_append_right _ (List.mem_singleton_self _)
    · rw [poisonEnter_room s hknown (Nat.not_le.mp hfull)]
      exact .inl (List.mem_append_right _ (List.mem_singleton_self _))

/-- A map with room takes the block. -/
theorem sectorRead_enters {a : Nat} (h : blockOf a ∉ s.dram.poison) (hroom : s.dram.poison.length < 4096) :
    (s.sectorRead a .uncorrectable).dram.poison = s.dram.poison ++ [blockOf a] := by
  have henter := poisonEnter_room (s.count Obj.ECC_UNCORRECTABLE (s.dramMap a).1) h hroom
  rw [State.sectorRead, henter, State.count_dram]

/-- A full map stays as it is. -/
theorem sectorRead_full (a : Nat) (hfull : 4096 ≤ s.dram.poison.length) : (s.sectorRead a .uncorrectable).dram.poison = s.dram.poison := by
  rw [State.sectorRead]
  by_cases hknown : blockOf a ∈ (s.count Obj.ECC_UNCORRECTABLE (s.dramMap a).1).dram.poison
  · rw [poisonEnter_known _ hknown, State.count_dram]
  · rw [poisonEnter_full _ hknown hfull, State.count_dram]

end

/-! ## Accesses, temperature, scrub and sweep (R329, R332, R333, R335) -/

section
variable {s : State} {r : DramLevel} {a len ch secs i v : Nat} {b d : Blob} {e : Ecc} {mC : Int} {p : Principal}

theorem exec_dramRead_outside (h : s.reaches r a len = false) : exec (.dramRead r a len e) s = .next s := by
  rw [exec_dramRead]
  exact if_pos (by rw [h]; rfl)

theorem exec_dramRead_reached (h : s.reaches r a len = true) : exec (.dramRead r a len e) s =
    .next ((((s.takeTokens r len).openRows a len).sectorRead a e).emit
      (.dramData ((((s.takeTokens r len).openRows a len).sectorRead a e).dramGet a len)
        (e == .uncorrectable || (((s.takeTokens r len).openRows a len).sectorRead a e).spanPoisoned a len))) := by
  rw [exec_dramRead]
  exact if_neg (by rw [h]; decide)

theorem exec_dramWrite_outside (h : s.reaches r a b.length = false) : exec (.dramWrite r a b) s = .next s := by
  rw [exec_dramWrite]
  exact if_neg (by rw [h]; decide)

theorem exec_dramWrite_reached (h : s.reaches r a b.length = true) : exec (.dramWrite r a b) s = .next (s.dramWrite r a b) := by
  rw [exec_dramWrite]
  exact if_pos h

/-- The refresh mode under a temperature: doubled above 85.0 °C, normal below 83.0 °C, else as it was (R332). -/
def Channel.doubledAt (c : Channel) (mC : Int) : Bool := if 85000 < mC then true else if mC < 83000 then false else c.doubled

theorem exec_dimmTempRead_mode : exec (.dimmTempRead ch mC) s = .next
    (if (s.channel ch).doubled = (s.channel ch).doubledAt mC then
      s.modChannel ch (fun y => { y with temp := mC, doubled := (s.channel ch).doubledAt mC })
    else (s.modChannel ch (fun y => { y with temp := mC, doubled := (s.channel ch).doubledAt mC })).bwShortfall) := by
  simp only [exec_dimmTempRead, execDimmTempRead, beq_iff_eq]
  rfl

theorem exec_scrubRead_sector : exec (.scrubRead a e) s = .next (if a < s.dramSize then s.sectorRead (a / 64 * 64) e else s) := by
  rw [exec_scrubRead, execScrubRead]
  split <;> rfl

/-- A pass is reported, and counted where it took longer than its period. -/
theorem exec_scrubPassEnd_reports : ∃ t, exec (.scrubPassEnd ch secs) s = .next t ∧ t.cfg Obj.SCRUB_PASS_TIME = secs ∧
    t.cfg Obj.SCRUB_LATE = if s.cfg Obj.SCRUB_PERIOD * 3600 < secs then min (s.cfg Obj.SCRUB_LATE + 1) (2 ^ 64 - 1)
      else s.cfg Obj.SCRUB_LATE := by
  have hperiod : (s.setCfg Obj.SCRUB_PASS_TIME 0 secs).cfg Obj.SCRUB_PERIOD = s.cfg Obj.SCRUB_PERIOD := cfg_setCfg_other s secs (by decide)
  have hlate : (s.setCfg Obj.SCRUB_PASS_TIME 0 secs).cfg Obj.SCRUB_LATE = s.cfg Obj.SCRUB_LATE := cfg_setCfg_other s secs (by decide)
  refine ⟨_, exec_scrubPassEnd ch secs s, ?_⟩
  rw [hperiod]
  split
  · refine ⟨?_, ?_⟩
    · rw [cfg_count_other (by decide), cfg_setCfg_same]
    · rw [cfg_count_same, hlate]
  · exact ⟨cfg_setCfg_same s _ 0 secs, hlate⟩

theorem writes_dramSweep {t : State} {q : Result} (ha : AcceptsNum s p Obj.DRAM_SWEEP i v) (hf : applyDramSweep i v s = (t, q))
    (hq : q ≠ .busy) : Writes (.dramSweep p i v) s q t :=
  writes_num ha (exec_dramSweep p i v s) rfl hf hq

theorem applyDramSweep_range (hv : 1 < v) : applyDramSweep i v s = (s, .range) := if_pos hv

theorem applyDramSweep_zero : applyDramSweep i 0 s = (s, .ok) := rfl

theorem applyDramSweep_one : applyDramSweep i 1 s =
    if (s.channel i).state = 2 then (s.modChannel i (fun y => { y with sweeping := true }), .ok) else (s, .state) := by
  by_cases hst : (s.channel i).state = 2 <;> simp [applyDramSweep, hst]

theorem exec_sweepComplete_under (h : (s.channel ch).sweeping = true) : ∃ t, exec (.sweepComplete ch d) s = .next t ∧
    (t.channel ch).sweeping = false ∧ tabGet? t.dram.sweep ch = some d := by
  rw [exec_sweepComplete, execSweepComplete, if_pos h]
  refine ⟨_, rfl, ?_, tabGet?_set_same _ ch d⟩
  have hchannel := State.channel_modChannel_same s ch (fun y => { y with sweeping := false })
  exact congrArg Channel.sweeping hchannel

theorem exec_sweepComplete_idle (h : (s.channel ch).sweeping = false) : exec (.sweepComplete ch d) s = .next s := by
  rw [exec_sweepComplete]
  exact if_neg (by rw [h]; decide)

end

/-! ## The reservations (R340) -/

/-- A change of every entry of a table that looks at its key. -/
theorem tabGet?_mapKeyed {α β : Type} (t : Tab α) (f : Nat → α → β) (n : Nat) :
    tabGet? (t.map (fun e => (e.1, f e.1 e.2))) n = (tabGet? t n).map (f n) := by
  induction t with
  | nil => rfl
  | cons e t ih =>
    rw [List.map_cons, tabGet?, tabGet?, ih]
    split
    case isTrue h => rw [h]; rfl
    case isFalse => rfl

/-- Each bucket gains 1 µs of its rate, up to 4 µs. -/
theorem refill_bucket {s : State} {k n : Nat} (h : tabGet? s.dram.buckets k = some n) : tabGet? s.refill.dram.buckets k =
    some (min (4 * (s.reservation (requestorOf k)).1) (n + (s.reservation (requestorOf k)).1)) := by
  refine (tabGet?_mapKeyed s.dram.buckets
    (fun k n => min (4 * (s.reservation (requestorOf k)).1) (n + (s.reservation (requestorOf k)).1)) k).trans ?_
  rw [h]
  rfl

/-! ## The host's window (R330) -/

section
variable {s : State} {off len : Nat} {b : Blob}

theorem exec_bar2Access_none (h : len = 0 ∨ 2 ^ s.rel.boot.bar2 < off + len) : exec (.bar2Access off len none) s = .next s := by
  rw [exec_bar2Access]
  exact if_pos (by simpa using h)

theorem exec_bar2Access_noBytes (h : b = [] ∨ 2 ^ s.rel.boot.bar2 < off + b.length) : exec (.bar2Access off len (some b)) s = .next s := by
  rw [exec_bar2Access]
  exact if_pos (by simpa using h)

/-- A read through the window: of DRAM above the first GiB, or zeros and one more error. -/
theorem exec_bar2Access_read (hlen : 0 < len) (hin : off + len ≤ 2 ^ s.rel.boot.bar2) : exec (.bar2Access off len none) s =
    .next (if off < 2 ^ 30 ∨ s.dramSize < off + len then (s.count Obj.BAR2_ERRORS).emit (.bar2 (List.replicate len 0) false)
      else ((s.takeTokens .host len).openRows off len).emit (.bar2 (s.dramGet off len) (s.spanPoisoned off len))) := by
  have hgo : ¬ (decide (len = 0) || decide (2 ^ s.rel.boot.bar2 < off + len)) = true := by
    simpa using ⟨Nat.pos_iff_ne_zero.mp hlen, hin⟩
  rw [exec_bar2Access, execBar2Access]
  dsimp only
  rw [if_neg hgo]
  simp only [Bool.or_eq_true, decide_eq_true_eq]
  split <;> rfl

/-- A write through the window: to DRAM above the first GiB, or one more error. -/
theorem exec_bar2Access_write (hb : b ≠ []) (hin : off + b.length ≤ 2 ^ s.rel.boot.bar2) : exec (.bar2Access off len (some b)) s =
    .next (if off < 2 ^ 30 ∨ s.dramSize < off + b.length then s.count Obj.BAR2_ERRORS else s.dramWrite .host off b) := by
  have hgo : ¬ (decide (b.length = 0) || decide (2 ^ s.rel.boot.bar2 < off + b.length)) = true := by
    simpa using ⟨hb, hin⟩
  rw [exec_bar2Access, execBar2Access]
  dsimp only
  rw [if_neg hgo]
  simp only [Bool.or_eq_true, decide_eq_true_eq]
  split <;> rfl

end

/-- Settles O48: who reaches DRAM, what a read and a write of it do, what ECC finds, and the rules of refresh, scrub, sweep,
reservations and BAR2. -/
theorem dramResults : Obligations.DramResults := by
  intro s r a len ch secs i v off x b d e mC p c hot grain serve m
  refine ⟨reaches_iff s r a len, exec_dramRead_outside, exec_dramRead_reached, exec_dramWrite_outside, fun hreach => ?write,
    fun he => he ▸ rfl, fun he hc => he ▸ sectorRead_corrected s hc, poisonEnter_poisoned _ a,
    fun hroom hnew => sectorRead_enters s hnew hroom, sectorRead_full s a, rfl, exec_dimmTempRead_mode,
    exec_scrubRead_sector, exec_scrubPassEnd_reports,
    fun ha => ⟨fun hv => ?wide, fun hv => ?zero, fun hv hst => ?refused, fun hv hst => ?sweeps⟩,
    exec_sweepComplete_under, exec_sweepComplete_idle, ⟨rfl, rfl, fun k n => refill_bucket⟩,
    ⟨exec_bar2Access_none (.inl rfl), exec_bar2Access_noBytes (.inl rfl)⟩, fun _ hout => exec_bar2Access_noBytes (.inr hout),
    fun _ hout => exec_bar2Access_none (.inr hout), fun hlen hin hfar => ?unread, fun hlen hin hlo hhi => ?read,
    fun hb hin hfar => ?unwritten, fun hb hin hlo hhi => ?written⟩
  case write =>
    have hlen : 0 < b.length := ((reaches_iff s r a b.length).mp hreach).1
    exact ⟨_, exec_dramWrite_reached hreach, dramGet_dramWrite s r a b, dramGet_dramWrite_outside s r, dramWrite_oneGrain s r hlen⟩
  case wide => exact writes_dramSweep ha (applyDramSweep_range hv) (by decide)
  case zero =>
    subst hv
    exact writes_dramSweep ha applyDramSweep_zero (by decide)
  case refused =>
    subst hv
    exact writes_dramSweep ha (applyDramSweep_one.trans (if_neg hst)) (by decide)
  case sweeps =>
    subst hv
    exact writes_dramSweep ha (applyDramSweep_one.trans (if_pos hst)) (by decide)
  case unread => rw [exec_bar2Access_read hlen hin, if_pos hfar]
  case read => rw [exec_bar2Access_read hlen hin, if_neg (by omega)]
  case unwritten => rw [exec_bar2Access_write hb hin, if_pos hfar]
  case written => rw [exec_bar2Access_write hb hin, if_neg (by omega)]

end Sys2Proof.Machine
end

section
/-! PROOFS. Trace rings, snapshot areas and uploads (R329, R339, R342 to R349). -/

namespace Sys2Proof.Machine

/-! ## Writes of rings, areas and uploads (R329, R339, R345, R346, R348, R349) -/

section
variable {s : State} {p : Principal} {i v : Nat} {b : Blob}

/-- A ring's configuration has the form of Table 11.6: off without an area, or with one that R329 allows. -/
def State.ringFormed (s : State) (t : Nat) (b : Blob) : Prop :=
  b.length = 48 ∧ beAt b 24 1 ≤ 3 ∧ beAt b 16 8 % 64 = 0 ∧ (beAt b 24 1 = 0 ∨ beAt b 26 2 ≠ 0) ∧
    ((beAt b 24 1 = 0 ∧ beAt b 8 8 = 0) ∨ (beAt b 0 8 % 16384 = 0 ∧ beAt b 8 8 % 16384 = 0 ∧ 32768 ≤ beAt b 8 8 ∧ beAt b 8 8 ≤ 2 ^ 36 ∧
      s.areaOk Obj.TRACE_RING t (beAt b 0 8) (beAt b 8 8) = true))

theorem ringFormed_iff (s : State) (t : Nat) (b : Blob) : s.ringFormed t b ↔
    ¬ (b.length != 48 || decide (3 < beAt b 24 1) || beAt b 16 8 % 64 != 0 || (beAt b 24 1 != 0 && decide (beAt b 26 2 = 0)) ||
      ((beAt b 24 1 != 0 || beAt b 8 8 != 0) && (beAt b 0 8 % page != 0 || beAt b 8 8 % page != 0 || decide (beAt b 8 8 < 32768) ||
        decide (2 ^ 36 < beAt b 8 8) || !s.areaOk Obj.TRACE_RING t (beAt b 0 8) (beAt b 8 8)))) = true := by
  simp [State.ringFormed, and_assoc, imp_iff_not_or, not_or]

theorem writes_traceRing_range (ha : AcceptsBlob s p Obj.TRACE_RING i b) (hform : ¬ s.ringFormed i b) : Writes (.traceRing p i b) s .range s := by
  rw [ringFormed_iff, not_not] at hform
  exact writesBlob_refused ha (exec_traceRing p i b s) (if_pos hform) (.inl rfl)

theorem writes_traceRing_overcommit (ha : AcceptsBlob s p Obj.TRACE_RING i b) (hform : s.ringFormed i b)
    (hbw : ¬ s.bwFits (beAt (s.blb Obj.TRACE_RING i) 36 4) (beAt b 36 4) = true) : Writes (.traceRing p i b) s .overcommit s := by
  rw [ringFormed_iff] at hform
  exact writesBlob_refused ha (exec_traceRing p i b s) ((if_neg hform).trans (if_pos (by simpa using hbw))) (.inr (.inr rfl))

/-- A ring that is set up is empty, and runs unless it is off. -/
theorem writesBlob_traceRing (ha : AcceptsBlob s p Obj.TRACE_RING i b) (hform : s.ringFormed i b)
    (hbw : s.bwFits (beAt (s.blb Obj.TRACE_RING i) 36 4) (beAt b 36 4) = true) :
    WritesBlob (.traceRing p i b) s .ok Obj.TRACE_RING i
      ((s.writeBlob Obj.TRACE_RING i (overwrite (overwrite b 25 [0]) 40 (List.replicate 8 0))).modRing i
        (fun _ => { Ring.reset with st := if beAt b 24 1 = 0 then .off else .running })) := by
  rw [ringFormed_iff] at hform
  exact writesBlob_ok ha (exec_traceRing p i b s) rfl ((if_neg hform).trans (if_neg (by simp [hbw])))

/-- The ring holds the laps before and after a trigger, and no slab's records exceed four parts (R344, R346). -/
def State.armRoom (s : State) (t : Nat) : Prop :=
  s.ringPre t + s.ringPost t + 2 ≤ s.lapsHeld t ∧ ∀ k, k < (tabGet s.relay.sets t RelaySet.empty).slabs.length →
    (partsOf ((tabGet s.relay.sets t RelaySet.empty).traced k) [] 0).length ≤ 4

theorem armRoom_iff (s : State) (t : Nat) : s.armRoom t ↔
    ¬ (decide (s.lapsHeld t < s.ringPre t + s.ringPost t + 2) || (List.range (tabGet s.relay.sets t RelaySet.empty).slabs.length).any
      (fun k => decide ((partsOf ((tabGet s.relay.sets t RelaySet.empty).traced k) [] 0).length > 4))) = true := by
  simp [State.armRoom]

theorem writes_traceArm {t : State} {r : Result} (ha : AcceptsNum s p Obj.TRACE_ARM i v) (hf : applyTraceArm i v s = (t, r))
    (hr : r ≠ .busy) : Writes (.traceArm p i v) s r t :=
  writes_num ha (exec_traceArm p i v s) rfl hf hr

theorem applyTraceArm_range (hv : 1 < v) : applyTraceArm i v s = (s, .range) := if_pos hv

theorem applyTraceArm_zero : applyTraceArm i 0 s = (s, .ok) := rfl

theorem applyTraceArm_short (hroom : ¬ s.armRoom i) : applyTraceArm i 1 s = (s, .range) := by
  rw [armRoom_iff, not_not] at hroom
  exact if_pos hroom

theorem applyTraceArm_room (hroom : s.armRoom i) : applyTraceArm i 1 s =
    if s.ringMode i = 2 then (s.modRing i (fun _ => { Ring.reset with st := .armed }), .ok) else (s, .state) := by
  rw [armRoom_iff] at hroom
  refine (if_neg hroom).trans ?_
  by_cases hmode : s.ringMode i = 2 <;> simp [hmode]

theorem writes_traceTrigger {t : State} {r : Result} (ha : AcceptsNum s p Obj.TRACE_TRIGGER i v) (hf : applyTraceTrigger i v s = (t, r))
    (hr : r ≠ .busy) : Writes (.traceTrigger p i v) s r t :=
  writes_num ha (exec_traceTrigger p i v s) rfl hf hr

/-- A snapshot area is given up, or whole slots that R329 allows (R348). -/
def State.snapFormed (s : State) (t : Nat) (b : Blob) : Prop :=
  b.length = 24 ∧ (beAt b 8 8 = 0 ∨ (beAt b 0 8 % 16384 = 0 ∧ beAt b 8 8 % 32768 = 0 ∧
    s.areaOk Obj.SNAP_AREA t (beAt b 0 8) (beAt b 8 8) = true))

theorem snapFormed_iff (s : State) (t : Nat) (b : Blob) : s.snapFormed t b ↔
    ¬ (b.length != 24 || (beAt b 8 8 != 0 && (beAt b 0 8 % page != 0 || beAt b 8 8 % 32768 != 0 ||
      !s.areaOk Obj.SNAP_AREA t (beAt b 0 8) (beAt b 8 8)))) = true := by
  simp [State.snapFormed, and_assoc, imp_iff_not_or]

theorem writes_snapArea_range (ha : AcceptsBlob s p Obj.SNAP_AREA i b) (hform : ¬ s.snapFormed i b) : Writes (.snapArea p i b) s .range s := by
  rw [snapFormed_iff, not_not] at hform
  exact writesBlob_refused ha (exec_snapArea p i b s) (if_pos hform) (.inl rfl)

theorem writes_snapArea_state (ha : AcceptsBlob s p Obj.SNAP_AREA i b) (hform : s.snapFormed i b) (hphoto : (s.tenant i).photo.isSome = true) :
    Writes (.snapArea p i b) s .state s := by
  rw [snapFormed_iff] at hform
  exact writesBlob_refused ha (exec_snapArea p i b s) ((if_neg hform).trans (if_pos hphoto)) (.inr (.inl rfl))

theorem writes_snapArea_overcommit (ha : AcceptsBlob s p Obj.SNAP_AREA i b) (hform : s.snapFormed i b) (hphoto : (s.tenant i).photo = none)
    (hbw : ¬ s.bwFits (beAt (s.blb Obj.SNAP_AREA i) 16 4) (beAt b 16 4) = true) : Writes (.snapArea p i b) s .overcommit s := by
  rw [snapFormed_iff] at hform
  exact writesBlob_refused ha (exec_snapArea p i b s)
    ((if_neg hform).trans ((if_neg (by simp [hphoto])).trans (if_pos (by simpa using hbw)))) (.inr (.inr rfl))

/-- An area that is set up holds no slot. -/
theorem writesBlob_snapArea (ha : AcceptsBlob s p Obj.SNAP_AREA i b) (hform : s.snapFormed i b) (hphoto : (s.tenant i).photo = none)
    (hbw : s.bwFits (beAt (s.blb Obj.SNAP_AREA i) 16 4) (beAt b 16 4) = true) : WritesBlob (.snapArea p i b) s .ok Obj.SNAP_AREA i
      (({ s with trc.slots := tabDel s.trc.slots i } : State).writeBlob Obj.SNAP_AREA i b) := by
  rw [snapFormed_iff] at hform
  exact writesBlob_ok ha (exec_snapArea p i b s) rfl
    ((if_neg hform).trans ((if_neg (by simp [hphoto])).trans (if_neg (by simp [hbw]))))

/-- The slot that holds a capture of a lap, complete or not. -/
def State.capturedSlot (s : State) (t v : Nat) : Option Nat :=
  (List.range 2).find? (fun k => (s.slot t k).lap == v && (s.slot t k).status ≥ 2)

theorem writes_snapUpload_range (ha : AcceptsNum s p Obj.SNAP_UPLOAD i v) (hv : 2 ^ 48 ≤ v) : Writes (.snapUpload p i v) s .range s :=
  writes_num ha (exec_snapUpload p i v s) rfl (if_pos (by simpa [lapOk] using hv)) (by decide)

theorem writes_snapUpload_state (ha : AcceptsNum s p Obj.SNAP_UPLOAD i v) (hv : v < 2 ^ 48) (hslot : s.capturedSlot i v = none) :
    Writes (.snapUpload p i v) s .state s := by
  refine writes_num ha (exec_snapUpload p i v s) rfl ((if_neg (by simpa [lapOk] using hv)).trans ?_) (by decide)
  rw [State.capturedSlot] at hslot
  rw [hslot]

theorem writes_snapUpload_slot {k : Nat} (ha : AcceptsNum s p Obj.SNAP_UPLOAD i v) (hv : v < 2 ^ 48) (hslot : s.capturedSlot i v = some k) :
    Writes (.snapUpload p i v) s .ok { s with trc.uploads := tabSet s.trc.uploads i (k, 0) } := by
  refine writes_num ha (exec_snapUpload p i v s) rfl ((if_neg (by simpa [lapOk] using hv)).trans ?_) (by decide)
  rw [State.capturedSlot] at hslot
  rw [hslot]

end

/-! ## Triggers, extraction and losses (R342, R344, R346, R347) -/

section
variable {s : State} {t lap slab n src : Nat} {r : Blob} {since : Time} {ws : List (Nat × Blob × Time)}

theorem fire_armed (hmode : s.ringMode t = 2) (hst : (s.ring t).st = .armed) : s.fire t n src = s.modRing t (fun y =>
    { y with st := .triggered, trigLap := n, cause := 2 ^ src, stopAt := s.tracedCount t (s.activeCount t n) + s.ringPost t, trigDue := true }) :=
  (if_neg (by simp [hmode])).trans (if_pos (by simp [hst]))

theorem fire_otherMode (hmode : s.ringMode t ≠ 2) : s.fire t n src = s := if_pos (by simpa using hmode)

/-- An input is there or missing, and its records are still to be taken by a ring that takes its lap's (R342, R346). -/
def State.awaitsExtract (s : State) (t lap slab : Nat) : Prop :=
  (s.relaySetFor t lap).traced slab ≠ [] ∧ s.tracedLap t lap = true ∧ (s.input t slab lap).traced = false ∧
    ((s.input t slab lap).st = .complete ∨ (s.input t slab lap).st = .missing) ∧ s.ringTakesLap t lap = true

theorem awaitsExtract_iff (s : State) (t lap slab : Nat) : s.awaitsExtract t lap slab ↔
    ¬ (((s.relaySetFor t lap).traced slab).isEmpty || !s.tracedLap t lap || (s.input t slab lap).traced ||
      !((s.input t slab lap).st == .complete || (s.input t slab lap).st == .missing) || !s.ringTakesLap t lap) = true := by
  simp [State.awaitsExtract, and_assoc, imp_iff_not_or]

/-- The tens of an input: what came, or its substitutes where it is missing. -/
def State.extractTens (s : State) (t lap slab : Nat) (e : SlabEntry) : List Nat :=
  if (s.input t slab lap).st = .complete then s.inputTens t slab lap else List.replicate e.tens (substitute e.four)

/-- An extraction: the input is marked, its records are written, and the four comparators look at it. -/
def State.extract (s : State) (t lap slab : Nat) (e : SlabEntry) : State :=
  let x := s.input t slab lap
  let ts := s.extractTens t lap slab e
  let xs := (s.relaySetFor t lap).traced slab
  let w := (signalRecords t lap x.age slab (decide (¬ x.st = .complete) || x.miss) ts xs).foldl (fun (y : State) q => y.ringWrite t lap q)
    (s.setInput t slab lap { x with traced := true })
  (List.range 4).foldl (fun (y : State) q => y.compare t lap q ts xs) w

/-- TRACE_EXTRACT, by what stands at the slab in the set of the lap. The definition is opened as a function, and that set made a
variable, so that no check works out which set is in force. -/
theorem exec_traceExtract_slab : ((s.relaySetFor t lap).slab? slab = none → exec (.traceExtract t lap slab) s = .next s) ∧
    ∀ e, (s.relaySetFor t lap).slab? slab = some e → exec (.traceExtract t lap slab) s =
      if ((s.relaySetFor t lap).traced slab).isEmpty || !s.tracedLap t lap || (s.input t slab lap).traced ||
        !((s.input t slab lap).st == .complete || (s.input t slab lap).st == .missing) || !s.ringTakesLap t lap then .next s
      else .next (s.extract t lap slab e) := by
  have hmissing : ∀ x : InputState, (!(x == .complete)) = decide (¬ x = .complete) := by
    intro x
    cases x <;> rfl
  rw [exec_traceExtract]
  generalize hf : execTraceExtract = f
  delta execTraceExtract at hf
  subst hf
  beta_reduce
  unfold State.extract State.extractTens
  obtain ⟨set, hset⟩ : ∃ set, s.relaySetFor t lap = set := ⟨_, rfl⟩
  rw [hset]
  dsimp only
  refine ⟨fun hnone => ?_, fun e he => ?_⟩
  · rw [hnone]
  · rw [he]
    simp only [hmissing, beq_iff_eq]

theorem exec_traceExtract_passes (h : (s.relaySetFor t lap).slab? slab = none ∨ ¬ s.awaitsExtract t lap slab) :
    exec (.traceExtract t lap slab) s = .next s := by
  by_cases hnone : (s.relaySetFor t lap).slab? slab = none
  · exact exec_traceExtract_slab.1 hnone
  · obtain ⟨e, he⟩ := Option.ne_none_iff_exists'.mp hnone
    have hnot := h.resolve_left hnone
    rw [awaitsExtract_iff, not_not] at hnot
    exact (exec_traceExtract_slab.2 e he).trans (if_pos hnot)

theorem exec_traceExtract_takes {e : SlabEntry} (he : (s.relaySetFor t lap).slab? slab = some e) (h : s.awaitsExtract t lap slab) :
    exec (.traceExtract t lap slab) s = .next (s.extract t lap slab e) := by
  rw [awaitsExtract_iff] at h
  exact (exec_traceExtract_slab.2 e he).trans (if_neg h)

theorem exec_traceWriteTimeout_none (h : (s.ring t).waiting = []) : exec (.traceWriteTimeout t) s = .next s := by
  rw [exec_traceWriteTimeout, execTraceWriteTimeout, h]

/-- The oldest record that waits is lost once it has waited 10 µs. -/
theorem exec_traceWriteTimeout_oldest (h : (s.ring t).waiting = (lap, r, since) :: ws) : exec (.traceWriteTimeout t) s =
    .next (if since + 10000 * 65536 ≤ s.time.gun then (s.modRing t (fun y => { y with waiting := ws })).recordLost t lap 2 else s) := by
  rw [exec_traceWriteTimeout, execTraceWriteTimeout, h]
  dsimp only
  split <;> rfl

/-- A loss is counted in 7006h and among those that the next GAP record tells of. -/
theorem recordLost_counts (s : State) (t lap cause : Nat) :
    (s.recordLost t lap cause).cfg Obj.TRACE_LOST t = min (s.cfg Obj.TRACE_LOST t + 1) (2 ^ 64 - 1) ∧
      ((s.recordLost t lap cause).ring t).lost = (s.ring t).lost + 1 := by
  refine ⟨cfg_count_same _ t, ?_⟩
  rw [State.recordLost, State.ring_modRing_same]
  change (if (s.ring t).lost = 0 then _ else _ : Ring).lost = _
  split
  case isTrue h => rw [h]
  case isFalse => rfl

end

/-! ## The mirror (R329, R340, R345) -/

section
variable {s : State} {t : Nat}

theorem exec_mirrorWrite_due : exec (.mirrorWrite t) s =
    .next (if ((s.serveWaiting t 5).ring t).mirrored = 0 ∨
        ((s.serveWaiting t 5).ring t).mirrored + 1000 * 65536 ≤ (s.serveWaiting t 5).time.gun then (s.serveWaiting t 5).putMirror t
      else s.serveWaiting t 5) := by
  rw [exec_mirrorWrite, execMirrorWrite]
  simp only [Bool.or_eq_true, decide_eq_true_eq]
  split <;> rfl

/-- The mirror holds what has been written of its ring. -/
theorem dramGet_putMirror (haddr : s.ringMirror t ≠ 0) (hreach : s.reaches (.trace t) (s.ringMirror t) 16 = true) :
    (s.putMirror t).dramGet (s.ringMirror t) 16 =
      beBytes 8 (s.ring t).write ++ beBytes 4 (s.ring t).wraps ++ beBytes 4 (s.ring t).seq := by
  have hread := dramGet_dramWrite s (.trace t) (s.ringMirror t)
    (beBytes 8 (s.ring t).write ++ beBytes 4 (s.ring t).wraps ++ beBytes 4 (s.ring t).seq)
  rw [show (beBytes 8 (s.ring t).write ++ beBytes 4 (s.ring t).wraps ++ beBytes 4 (s.ring t).seq).length = 16 from rfl] at hread
  rw [State.putMirror, if_neg (by simp [haddr, hreach])]
  exact hread

end

/-! ## Uploads (R349) -/

section
variable {s : State} {t : Nat}

/-- One turn of the upload engine, from the record at `start` on, with what its scan `u` gave: the offset reached, the records found bad, and
the bytes to send. No record leaves, or a frame of records, or the frame waits for cells; `after` notes the offset reached. -/
def State.uploadTurn (s : State) (t kind start : Nat) (u : Nat × Nat × Blob) (after : Nat → State → State) : State :=
  let w := s.takeTokens .upload u.2.2.length
  if u.2.2.isEmpty then after u.1 w
  else (w.submitStarter (w.uploadFrame t kind start (firstSeq u.2.2) u.2.2) 6 16 0).elim w
    (fun f => after u.1 ((f.2.count Obj.UPLOAD_FRAMES).countN Obj.BAD_RECORDS 0 u.2.1))

/-- The three ends of a turn. -/
theorem uploadTurn_ends (s : State) (t kind start : Nat) (u : Nat × Nat × Blob) (after : Nat → State → State) :
    let w := s.takeTokens .upload u.2.2.length
    let frame := w.uploadFrame t kind start (firstSeq u.2.2) u.2.2
    (u.2.2 = [] → s.uploadTurn t kind start u after = after u.1 w) ∧
    (u.2.2 ≠ [] → w.submitStarter frame 6 16 0 = none → s.uploadTurn t kind start u after = w) ∧
    (∀ f y, u.2.2 ≠ [] → w.submitStarter frame 6 16 0 = some (f, y) →
      s.uploadTurn t kind start u after = after u.1 ((y.count Obj.UPLOAD_FRAMES).countN Obj.BAD_RECORDS 0 u.2.1)) := by
  intro w frame
  have hfull : u.2.2 ≠ [] → ¬ u.2.2.isEmpty = true := mt List.isEmpty_iff.mp
  rw [State.uploadTurn]
  refine ⟨fun h => ?_, fun h hsub => ?_, fun f y h hsub => ?_⟩
  · rw [if_pos (List.isEmpty_iff.mpr h)]
  · rw [if_neg (hfull h), hsub, Option.elim_none]
  · rw [if_neg (hfull h), hsub, Option.elim_some]

/-- A turn over a span, from the first record at or after an offset that is sent. -/
def State.uploadSpan (s : State) (t kind lo span from_ last : Nat) (after : Nat → State → State) : State :=
  let start := s.uploadStart lo span last from_
  s.uploadTurn t kind start (s.uploadScan lo span last t 1024 start 0 15984 []) after

/-- UPLOAD_SUBMIT ends as its turn does. -/
theorem exec_uploadSubmit_ends {kind lo span from_ last : Nat} {after : Nat → State → State}
    (hturn : exec (.uploadSubmit t) s = .next (s.uploadSpan t kind lo span from_ last after)) :
    let start := s.uploadStart lo span last from_
    let u := s.uploadScan lo span last t 1024 start 0 15984 []
    let w := s.takeTokens .upload u.2.2.length
    let frame := w.uploadFrame t kind start (firstSeq u.2.2) u.2.2
    (u.2.2 = [] → exec (.uploadSubmit t) s = .next (after u.1 w)) ∧
    (u.2.2 ≠ [] → w.submitStarter frame 6 16 0 = none → exec (.uploadSubmit t) s = .next w) ∧
    (∀ f y, u.2.2 ≠ [] → w.submitStarter frame 6 16 0 = some (f, y) →
      exec (.uploadSubmit t) s = .next (after u.1 ((y.count Obj.UPLOAD_FRAMES).countN Obj.BAD_RECORDS 0 u.2.1))) := by
  rw [hturn]
  intro start u w frame
  obtain ⟨hempty, hwaits, hleaves⟩ := uploadTurn_ends s t kind start u after
  exact ⟨fun h => congrArg _ (hempty h), fun h hsub => congrArg _ (hwaits h hsub), fun f y h hsub => congrArg _ (hleaves f y h hsub)⟩

/-- A stream ring drains where 7010h turns it on and the ring has an area. -/
def State.drains (s : State) (t : Nat) : Prop := (beAt (s.blb Obj.UPLOAD t) 8 1).testBit 0 = true ∧ s.ringMode t = 3 ∧ s.ringSize t ≠ 0

theorem drains_iff (s : State) (t : Nat) :
    s.drains t ↔ (bit (beAt (s.blb Obj.UPLOAD t) 8 1) 0 && s.ringMode t == 3 && s.ringSize t != 0) = true := by
  simp [State.drains, bit, and_assoc]

/-- How far an upload of slot `k` has come: it is over at the slot's last record. -/
def noteUpload (t k used n : Nat) (y : State) : State :=
  { y with trc.uploads := if n = used then tabDel y.trc.uploads t else tabSet y.trc.uploads t (k, n) }

/-- The model notes the end of an upload and its progress apart. -/
theorem noteUpload_eq (t k used : Nat) : noteUpload t k used = fun n y =>
    if n == used then { y with trc.uploads := tabDel y.trc.uploads t } else { y with trc.uploads := tabSet y.trc.uploads t (k, n) } := by
  funext n y
  by_cases hn : n = used <;> simp [noteUpload, hn]

/-- UPLOAD_SUBMIT serves a snapshot upload under way before a ring that drains. The definition is opened as a function, so that no check runs its
scan. -/
theorem exec_uploadSubmit_turns : exec (.uploadSubmit t) s = (tabGet? s.trc.uploads t).elim
    (if bit (beAt (s.blb Obj.UPLOAD t) 8 1) 0 && s.ringMode t == 3 && s.ringSize t != 0 then
      .next (s.uploadSpan t 0 (s.ringBase t) (s.ringSize t) (s.cfg Obj.TRACE_READ t) (s.ring t).write (fun n y => y.setCfg Obj.TRACE_READ t n))
    else .next s)
    (fun e => .next (s.uploadSpan t 1 (s.slotBase t e.1) (s.slotSize t + 1) e.2 (s.slot t e.1).used
      (noteUpload t e.1 (s.slot t e.1).used))) := by
  rw [exec_uploadSubmit]
  generalize hf : execUploadSubmit = f
  delta execUploadSubmit at hf
  subst hf
  beta_reduce
  extract_lets send
  have hsend : send = s.uploadSpan t := by
    funext kind lo span from_ last after
    unfold State.uploadSpan send
    extract_lets start
    generalize s.uploadScan lo span last t 1024 start 0 15984 [] = u
    obtain ⟨n, bad, recs⟩ := u
    unfold State.uploadTurn
    dsimp only
    split
    · rfl
    · cases (s.takeTokens .upload recs.length).submitStarter _ 6 16 0 <;> rfl
  rw [hsend]
  cases tabGet? s.trc.uploads t with
  | none => rfl
  | some e =>
    obtain ⟨k, off⟩ := e
    exact congrArg (fun after => Host.Outcome.next (s.uploadSpan t 1 (s.slotBase t k) (s.slotSize t + 1) off (s.slot t k).used after))
      (noteUpload_eq t k (s.slot t k).used).symm

theorem exec_uploadSubmit_snapshot {k off : Nat} (h : tabGet? s.trc.uploads t = some (k, off)) : exec (.uploadSubmit t) s =
    .next (s.uploadSpan t 1 (s.slotBase t k) (s.slotSize t + 1) off (s.slot t k).used (noteUpload t k (s.slot t k).used)) := by
  rw [exec_uploadSubmit_turns, h, Option.elim_some]

theorem exec_uploadSubmit_idle (hnone : tabGet? s.trc.uploads t = none) (h : ¬ s.drains t) : exec (.uploadSubmit t) s = .next s := by
  rw [drains_iff] at h
  rw [exec_uploadSubmit_turns, hnone, Option.elim_none, if_neg h]

theorem exec_uploadSubmit_drains (hnone : tabGet? s.trc.uploads t = none) (h : s.drains t) : exec (.uploadSubmit t) s =
    .next (s.uploadSpan t 0 (s.ringBase t) (s.ringSize t) (s.cfg Obj.TRACE_READ t) (s.ring t).write
      (fun n y => y.setCfg Obj.TRACE_READ t n)) := by
  rw [drains_iff] at h
  rw [exec_uploadSubmit_turns, hnone, Option.elim_none, if_pos h]

end

/-- Settles O47: how rings, areas and uploads are set up, when an input is extracted and a record lost, what the mirror shows and
how an upload's turn ends. -/
theorem traceResults : Obligations.TraceResults := by
  intro s p t i v lap slab n src k off b r since ws ring size base mode spanOk ringOk areaOk bw snapBw set room rs inp traced find sends
  refine ⟨fun ha => ⟨writes_traceRing_range ha, writes_traceRing_overcommit ha, writesBlob_traceRing ha⟩,
    fun ha => ⟨fun hv => writes_traceArm ha (applyTraceArm_range hv) (by decide), fun hv => ?armOff,
      fun hv hroom => ?armShort, fun hv hroom hmode => ?armMode, fun hv hroom hmode => ?arms⟩,
    fun ha => ⟨fun hv => writes_traceTrigger ha (if_pos hv) (by decide), fun hv => ?triggerOff, fun hv => ?triggers⟩,
    fire_armed, fire_otherMode,
    fun ha => ⟨writes_snapArea_range ha, writes_snapArea_state ha, writes_snapArea_overcommit ha, writesBlob_snapArea ha⟩,
    fun ha => ⟨writes_snapUpload_range ha, writes_snapUpload_state ha, fun q => writes_snapUpload_slot ha⟩,
    exec_traceExtract_passes, fun e => exec_traceExtract_takes, exec_traceWriteTimeout_none, exec_traceWriteTimeout_oldest,
    recordLost_counts s t lap 2, exec_mirrorWrite_due, dramGet_putMirror, fun hnone hoff => ?idle, fun hslot => ?snapshot,
    fun hnone hon hmode hsize => ?drain⟩
  case armOff =>
    subst hv
    exact writes_traceArm ha applyTraceArm_zero (by decide)
  case armShort =>
    subst hv
    exact writes_traceArm ha (applyTraceArm_short hroom) (by decide)
  case armMode =>
    subst hv
    exact writes_traceArm ha ((applyTraceArm_room hroom).trans (if_neg hmode)) (by decide)
  case arms =>
    subst hv
    exact writes_traceArm ha ((applyTraceArm_room hroom).trans (if_pos hmode)) (by decide)
  case triggerOff =>
    subst hv
    exact writes_traceTrigger ha rfl (by decide)
  case triggers =>
    subst hv
    exact writes_traceTrigger ha rfl (by decide)
  case idle =>
    refine exec_uploadSubmit_idle hnone ?_
    rintro ⟨hon, hmode, hsize⟩
    rcases hoff with hoff | hother | hempty
    · rw [hon] at hoff
      cases hoff
    · exact hother hmode
    · exact hsize hempty
  case snapshot => exact exec_uploadSubmit_ends (exec_uploadSubmit_snapshot hslot)
  case drain => exact exec_uploadSubmit_ends (exec_uploadSubmit_drains hnone ⟨hon, hmode, hsize⟩)

end Sys2Proof.Machine
end
